-- ==== Sys2Proof/Word.lean ====
section
/-! DEFINITION. Bytes, octet strings and the order key of Table 2.1: the words every other file speaks of. -/

namespace Sys2Proof

/-- One octet. -/
abbrev Byte := BitVec 8

/-- Octets in order, first octet first. -/
abbrev Bytes := List Byte

/-- An order key (R34, Table 2.1): key epoch (64 bits), source number (16 bits) and source
sequence (16 bits). Order is decided only by R33, never by comparing the 96-bit value. -/
structure OKey where
  epoch : Nat
  src   : Nat
  seq   : Nat
  deriving DecidableEq, Repr

/-- The key of no input: all fields zero, as a cleared key entry reads. -/
def OKey.zero : OKey := ⟨0, 0, 0⟩

end Sys2Proof
end

