-- ==== Sys2Proof/Operand.lean ====
section
/-! DEFINITION. What the commands carry beside numbers: callers, frames, records, requests. -/

namespace Sys2Proof

/-- The dictionary interfaces (R55, Table 3.6): host over PCIe, management Ethernet, CAN, partner, and firmware itself. -/
inductive Iface
  | host | mgmt | can | partner | firmware
  deriving DecidableEq, Repr

/-- Who makes a dictionary request: an interface, and a session identifier or 0 (R58, R69). -/
structure Caller where
  iface   : Iface
  session : Nat
  deriving DecidableEq, Repr

/-- A received DAP datagram (R71, R73): header fields, payload length, sender, whether the tag verifies, and the
decrypted payload. -/
structure DapDatagram where
  magic   : Nat
  version : Nat
  kind    : Nat
  sid     : Nat
  seq     : Nat
  len     : Nat
  ip      : Nat
  port    : Nat
  tagOk   : Bool
  plain   : Bytes
  deriving DecidableEq, Repr

/-- A dictionary operation record (Table 3.11), as DAP and the partner send it. -/
structure OpRecord where
  op    : Nat
  tag   : Nat
  sub   : Nat
  flags : Nat
  idx   : Nat
  off   : Nat
  data  : Bytes
  len   : Nat
  deriving DecidableEq, Repr

/-- What the MAC found of MACsec on a received frame (R132): no SecTAG, or the SCI, association number and PN. -/
inductive SecTag
  | none
  | tag (sci an pn : Nat)
  deriving DecidableEq, Repr

/-- What a frame from HP or CP carries beside its bytes (R96 to R99, Table 18.3): stamp request with tag and domain, launch
time in ns, and the egress port, class and queue when given. `core` is the cluster core for CP. -/
structure Origin where
  stamp  : Bool
  tag    : Nat
  domain : Nat
  launch : Nat
  given  : Bool
  egress : Nat
  cls    : Nat
  queue  : Nat
  core   : Nat
  deriving DecidableEq, Repr

/-- A frame whose header window has arrived (R9, R10): its bytes from the destination address, as MACsec delivers them, at
least as far as the parser reads (R136); its length from the destination address to the FCS; the raw tick of its start
delimiter; its SecTAG; whether it arrives in preemption fragments; and its origin. -/
structure FrameRx where
  bytes  : Bytes
  length : Nat
  sof    : Nat
  sec    : SecTag
  frag   : Bool
  origin : Option Origin
  deriving DecidableEq, Repr

/-- The end of a frame: all its bytes, whether the FCS and the ICV are right, a receive error (R109, R132), the fragments
it came in, 0 when it was not preempted, and the MAC merge result: 0 good, 1 reassembly error, 2 undefined SMD (R129). -/
structure FrameEnd where
  bytes   : Bytes
  fcsOk   : Bool
  icvOk   : Bool
  rxError : Bool
  frags   : Nat
  merge   : Nat
  deriving DecidableEq, Repr

/-- The ordering units of Table 2.3: the session table, Ford, shared meters and policers, the commit of staged
configuration, FDB and run-time VLAN learning, and Saddle (R306). -/
inductive OrderUnit
  | narrows | ford | policers | commit | fdb | saddle
  deriving DecidableEq, Repr

/-- An event that a unit raises (R410, R468): its key, order time, code and argument bytes as a number. -/
structure RaisedEvent where
  key  : OKey
  ns   : Nat
  code : Nat
  args : Nat
  deriving DecidableEq, Repr

/-- A ring that a write enables or disables (R424): the dictionary rings, or a transmit or receive ring. -/
inductive RingId
  | dict
  | tx (t : Nat)
  | rx (r : Nat)
  deriving DecidableEq, Repr

/-- An entry of the request ring (Table 3.9) as read by DMA, with the data at its host address in pointer mode; none where
the read of that data fails (R425). -/
structure RingEntry where
  bytes : Bytes
  data  : Option Bytes
  deriving DecidableEq, Repr

/-- A transmit descriptor as fetched (Table 18.3), the frame its buffer holds, and whether the buffer read failed. -/
structure TxDescriptor where
  length : Nat
  flags  : Nat
  domain : Nat
  tag    : Nat
  egress : Nat
  clsQ   : Nat
  sec    : Nat
  nsec   : Nat
  resv   : Nat
  frame  : Bytes
  readOk : Bool
  deriving DecidableEq, Repr

/-- What the boot ROM finds at a flash location (R376, R377): whether the flash answers, the header fields are right, the
root key hash matches, the signatures verify, the body hash matches; the root key index, security version and the header's
first 128 bytes. -/
structure BootHeader where
  flash   : Bool
  fields  : Bool
  root    : Bool
  index   : Nat
  mlDsa   : Bool
  ecdsa   : Bool
  body    : Bool
  version : Nat
  header  : Bytes
  deriving DecidableEq, Repr

/-- A frame of a legacy bus or of an ACF message (R244, R264, R292): `kind` 1 CAN, 2 LIN, 3 FlexRay, 5 ACF; bus or channel;
identifier with bit 29 the extended flag, LIN frame identifier or FlexRay PDU; format 0 classical, 1 FD, 2 FD with bit-rate
switch, 3 XL; remote and error-state bits; CAN XL's SDT, SEC, VCID and AF as one number, or a FlexRay frame's
slot × 64 + cycle; SOF stamp in raw ticks; payload. -/
structure BusFrame where
  kind   : Nat
  bus    : Nat
  ident  : Nat
  fmt    : Nat
  remote : Bool
  esi    : Bool
  xl     : Nat
  stamp  : Nat
  data   : Bytes
  deriving DecidableEq, Repr

/-- A record of the input journal (Tables 12.5 and 12.6), its epoch in full: source, sequence, kind, relayed and FRER flags,
argument, match tag, and its payload when one follows. -/
structure JRec where
  epoch    : Nat
  src      : Nat
  seq      : Nat
  kind     : Nat
  relayed  : Bool
  frerDrop : Bool
  frerSeq  : Option Nat
  arg      : Nat
  tag      : Nat
  payload  : Option Bytes
  deriving DecidableEq, Repr

/-- A bridge request (Table 13.5): tag, initiator, offset or semaphore, issue time and data. -/
structure BridgeReq where
  kind   : Nat
  tag    : Nat
  init   : Nat
  offset : Nat
  len    : Nat
  issue  : Nat
  data   : Bytes
  deriving DecidableEq, Repr

/-- Who a bridge command is for: a local core that issues the request to the partner, the partner's request served here, or
a local core on this member's own window or semaphores. -/
inductive BridgeSide
  | issue | serve | own
  deriving DecidableEq, Repr

/-- A completion (Table 13.5). -/
structure BridgeDone where
  kind   : Nat
  tag    : Nat
  status : Nat
  data   : Bytes
  deriving DecidableEq, Repr

/-- The levels of the pair's pins that a command finds (R299, R316, R320): HB_RX has toggled within 2 µs, and ROLE_IN. -/
structure Pins where
  roleIn : Bool
  pin    : Bool
  deriving DecidableEq, Repr

end Sys2Proof
end

