-- ==== Sys2Proof/Machine/Records.lean ====
section
/-! DEFINITION. The records that the state of the block is made of, unit by unit. -/

namespace Sys2Proof.Machine

/-! ### Time base (Time Base, Time Stamps and Timed I/O) -/

/-- A time set (R83 to R92): offset in 2^-32 ns, rate and fall-back increment in 2^-40, the slew term's magnitude in
2^-40 ns per tick and the slew remaining in 2^-40 ns, what the ticks after the last one of a slew did not take (2^-40 ns,
R88), the state of `2004h`, and the holdover count in ns. -/
structure TimeSet where
  offset   : Int
  rate     : Int
  fallback : Nat
  fallMode : Bool
  slewTerm : Nat
  slewRem  : Nat
  given    : Nat
  status   : Nat
  holdRaw  : Nat
  holdNs   : Nat
  deriving DecidableEq, Repr

/-- What an accepted correction changes (R84, R87, R88, `2000h.03`, `2000h.04`). -/
inductive CorrKind
  | rate | step | load | fallback | mode | slewLimit
  deriving DecidableEq, Repr

/-- An accepted correction that waits for its raw tick r0 (R85). -/
structure Correction where
  set  : Nat
  kind : CorrKind
  val  : Int
  key  : OKey
  deriving DecidableEq, Repr

/-- A Follow_Up that LP1 has queued for a port, its correctionField in 2^-16 ns (R94). -/
structure FollowUp where
  set        : Nat
  port       : Nat
  correction : Int
  released   : Bool
  deriving DecidableEq, Repr

/-- An entry of a transmit time-stamp queue (Table 4.2). -/
structure TxStamp where
  tag    : Nat
  time   : Nat
  domain : Nat
  status : Nat
  deriving DecidableEq, Repr

/-- A trigger output (R104, R105): next pulse number, pin level, whether the single pulse or level has been given. -/
structure Trigger where
  nextPulse : Nat
  active    : Bool
  done      : Bool
  running   : Bool
  late      : Bool
  edgeNs    : Nat
  deriving DecidableEq, Repr

/-- A capture (Table 4.6): time in ns, falling edge, holdover, not synchronised. -/
structure Capture where
  ns       : Nat
  falling  : Bool
  holdover : Bool
  unsync   : Bool
  deriving DecidableEq, Repr

/-- A capture input: its queue, and the raw tick of the latest edge (R107). -/
structure CaptureIn where
  queue    : List Capture
  lastEdge : Option Nat
  deriving DecidableEq, Repr

/-- The time base. `working` is the set that order time follows now (R90); `held` is bit 4's hold (R30) and
`holdBoundary` the boundary at which the bit clears; `forwardStep` is bit 5 (Table 2.7). `stepNs` is the working clock
just after its latest forward step. -/
structure TimeBase where
  raw          : Nat
  orderNs      : Nat
  working      : Nat
  sets         : List TimeSet
  corrections  : List Correction
  held         : Bool
  holdBoundary : Nat
  forwardStep  : Bool
  stepNs       : Nat
  onRefclk     : Bool
  holdSignalled : Bool
  followUps    : List FollowUp
  txStamps     : List (List TxStamp)
  triggers     : List Trigger
  captures     : List CaptureIn
  deriving DecidableEq, Repr

/-! ### Order keys and ordering units -/

/-- A source's key counters (R32): next sequence, key epoch of its latest key and the keys issued with that epoch. -/
structure SourceKeys where
  seq   : Nat
  epoch : Nat
  count : Nat
  deriving DecidableEq, Repr

/-- What a buffered input does when its unit releases it. -/
inductive Work
  /-- a frame that waits for its first shared-state stage -/
  | frame (id : Nat)
  /-- an address to learn: MAC, VID and the port mask of the ingress port -/
  | learn (mac vid dest : Nat)
  /-- a legacy-bus frame offered to Ford -/
  | bus (f : BusFrame)
  deriving DecidableEq, Repr

/-- An input on its way to, or in, an ordering unit's sort buffer (R36, R38): `at` is its arrival in raw ticks. -/
structure Buffered where
  key  : OKey
  at_  : Nat
  work : Work
  deriving DecidableEq, Repr

/-- A sort buffer: inputs in order-key order, boundaries released so far, and the end of a step suspension. -/
structure SortBuffer where
  unit     : OrderUnit
  buf      : List Buffered
  released : Nat
  suspend  : Option Nat
  deriving DecidableEq, Repr

/-- An input between its keying and its ordering unit. -/
structure InTransit where
  unit : OrderUnit
  inp  : Buffered
  deriving DecidableEq, Repr

/-- A sender held back by a full queue (R18, R38): the queue, since when, and whether the fault unit was told. -/
structure HeldSender where
  queue : Nat
  key   : OKey
  since : Nat
  told  : Bool
  deriving DecidableEq, Repr

/-- Order keys, ordering units and what waits for them. `waits` are inputs held back as a source's 33rd key (R32). -/
structure Ordering where
  sources   : List (Nat × SourceKeys)
  units     : List SortBuffer
  transit   : List InTransit
  heldBack  : List HeldSender
  waits     : List OKey
  lastCheck : Nat
  deriving DecidableEq, Repr

/-! ### The object dictionary -/

/-- One applied or armed value of a configuration entry: it governs inputs of key epoch `epoch` and later (R40, R55).
`kep` and `src` are the key epoch and source of the request, which settle the order of equal epochs. -/
structure Setting where
  epoch : Nat
  kep   : Nat
  src   : Nat
  key   : Nat
  val   : Nat
  deriving DecidableEq, Repr

/-- One applied or armed change of a table row: the values of sub-indices 06 and up, or none for a removal. -/
structure RowOp where
  epoch : Nat
  kep   : Nat
  src   : Nat
  tbl   : Nat
  pos   : Nat
  vals  : Option (List Nat)
  deriving DecidableEq, Repr

/-- A row of the active dictionary image. -/
structure ImageRow where
  tbl  : Nat
  pos  : Nat
  vals : List Nat
  deriving DecidableEq, Repr

/-- What a staging record holds (R61): a value, or a table operation with the caller's view. -/
inductive StagedWork
  | value (key val : Nat)
  | rowOp (tbl code : Nat) (vals : List Nat)
  deriving DecidableEq, Repr

/-- Staging states (Table 3.5). -/
inductive StagingState
  | empty | open_ | armed
  deriving DecidableEq, Repr

/-- The staging area and the armed commit. `gateB` is the boundary B of a mode 1 commit, in ns (R63); `armed` the key of the
request that armed the commit. -/
structure Staging where
  state    : StagingState
  owner    : Option Caller
  recs     : List StagedWork
  epoch    : Nat
  gateB    : Option Nat
  result   : Nat
  refused  : Nat
  applied  : Nat
  armed    : OKey
  deriving DecidableEq, Repr

/-- A change-journal record (Table 3.6); the hashes are computed when it is read. -/
structure ChangeRec where
  number : Nat
  wrap   : Bool
  orderNs : Nat
  caller : Caller
  kind   : Nat
  idx    : Nat
  sub    : Nat
  oldVal : Bytes
  newVal : Bytes
  epoch  : Nat
  deriving DecidableEq, Repr

/-- A datagram the device sends to a DAP client (Table 3.10): kind, session, sequence and payload. -/
structure DapOut where
  kind : Nat
  sid  : Nat
  seq  : Nat
  payload : Bytes
  deriving DecidableEq, Repr

/-- What carries a response (R56, R69, R74, R75, R77): the reply to one request, a DAP datagram, a ring entry with the data
for a host address, an SDO frame, or a completion of the bridge. -/
inductive Carry
  | reply
  | dap (d : DapOut)
  | ring (entry : Bytes) (data : Option (Nat × Bytes))
  | sdo (frame : Bytes)
  | bridge (d : BridgeDone)
  deriving DecidableEq, Repr

/-- A response that waits for the change-journal records of its writes and the partner's acknowledgement of key epoch
`epoch` (R56), or for responses before it; `value` is what a single request returns. -/
structure Awaiting where
  caller : Caller
  value  : Nat
  epoch  : Nat
  carry  : Carry
  deriving DecidableEq, Repr

/-- The latest response of an interface: status of Table 3.8, and a value least significant byte first with its length. -/
structure Reply where
  caller : Caller
  status : Nat
  value  : Nat
  len    : Nat
  deriving DecidableEq, Repr

/-- An open domain write (R60). -/
structure DomWrite where
  caller : Caller
  key    : Nat
  data   : Bytes
  lastNs : Nat
  deriving DecidableEq, Repr

/-- A long entry read by segments: the value taken at the first segment (R448). -/
structure DomRead where
  caller : Caller
  key    : Nat
  value  : Nat
  deriving DecidableEq, Repr

/-- A management session slot (Table 19.7, R72, R73, R441). `seen` marks the 64 sequences below `seqHigh`. -/
structure Session where
  state    : Nat
  host     : Bool
  slot     : Nat
  ip       : Nat
  port     : Nat
  idleNs   : Nat
  requests : Nat
  nc       : Nat
  nd       : Nat
  dueNs    : Nat
  seqHigh  : Nat
  seen     : Nat
  txSeq    : Nat
  deriving DecidableEq, Repr

/-- An open CAN SDO transfer (R75, R76). -/
structure SdoTransfer where
  download : Bool
  idx      : Nat
  sub      : Nat
  data     : Bytes
  off      : Nat
  toggle   : Bool
  lastNs   : Nat
  deriving DecidableEq, Repr

/-- A dictionary image's content (R78): entries, table rows and header fields. -/
structure DictImage where
  entries : List (Nat × Nat)
  rows    : List ImageRow
  domains : List (Nat × Bytes)
  seq     : Nat
  hash    : Nat
  deriving DecidableEq, Repr

/-- The candidate image (R80): its content and whether it is marked for activation. -/
structure Candidate where
  image  : DictImage
  marked : Bool
  deriving DecidableEq, Repr

/-- One record of the run-time overlay (R65): the entry key or row it keeps, and its bytes. -/
structure OverlayRec where
  slot  : Nat
  bytes : Nat
  done  : Bool
  deriving DecidableEq, Repr

/-- The object dictionary. `settings` and `rowOps` are the applied and armed changes, latest first; `stat` holds status
and counter entries; `rowStat` row counters; `perIface` per-interface values; all four stores are in canonical form. -/
structure Dict where
  image     : DictImage
  settings  : List Setting
  rowOps    : List RowOp
  stat      : List (Nat × Nat)
  rowStat   : List (Nat × Nat)
  perIface  : List (Nat × Nat)
  w1Done    : List Nat
  staging   : Staging
  changes   : List ChangeRec
  changeNo  : Nat
  changeWrap : Bool
  overlay   : List OverlayRec
  awaiting  : List Awaiting
  replies   : List Reply
  domWrites : List DomWrite
  domReads  : List DomRead
  domains   : List (Nat × Bytes)
  candidate : Option Candidate
  deriving DecidableEq, Repr

/-- Management sessions, the Dictionary Access Protocol and the CAN SDO server. -/
structure Access where
  sessions  : List Session
  failTimes : List Nat
  lockout   : Option Nat
  dapOut    : List DapOut
  sdo       : Option SdoTransfer
  sdoOut    : List Bytes
  deriving DecidableEq, Repr

/-! ### Event journal and measurement -/

/-- An event (Table 17.1); `args` is the 16 argument bytes, least significant first. -/
structure Event where
  key  : OKey
  ns   : Nat
  code : Nat
  sev  : Nat
  args : Nat
  deriving DecidableEq, Repr

/-- A committed journal entry (R411, R412). -/
structure JEntry where
  number : Nat
  ev     : Event
  count  : Nat
  ooo    : Bool
  acked  : Bool
  deriving DecidableEq, Repr

/-- A counter snapshot of one interface and group (R417): the values not yet consumed. -/
structure Snapshot where
  caller : Caller
  group  : Nat
  vals   : List (Nat × Nat)
  deriving DecidableEq, Repr

/-- The event journal (R409 to R418). `reorder` is in order-key order; `held` is in commit order, oldest first. -/
structure Journal where
  reorder   : List Event
  lastKey   : Option OKey
  held      : List JEntry
  nextNo    : Nat
  persistent : List JEntry
  persistNo : Nat
  toPersist : List JEntry
  snapshots : List Snapshot
  request   : Option Nat
  imageAt   : Nat
  image     : List (Nat × Nat)
  imageRows : List (Nat × Nat)
  trigger   : Option (Nat × OKey)
  aged      : List Nat
  deriving DecidableEq, Repr

/-! ### Safety cluster and fault collection -/

/-- A lockstep pair (R355 to R364): instruction count and log fills since the checkpoint, rollbacks of the present
second, and the commands that wait for a checkpoint. `reexec` is set while logged accesses are replayed. -/
structure LockPair where
  instrs    : Nat
  checkRaw  : Nat
  undo      : Nat
  io        : Nat
  second    : Nat
  rollbacks : Nat
  reexec    : Bool
  reexecRaw : Nat
  splitReq  : Bool
  rejoinReq : Bool
  debug     : Bool
  group     : Nat
  deriving DecidableEq, Repr

/-- The fault unit's record of an input (R368). -/
structure FaultRec where
  count  : Nat
  first  : OKey
  latest : OKey
  deriving DecidableEq, Repr

/-- A watchdog (R371): running, time of the previous service, and whether 0xAA55 is expected. -/
structure Watchdog where
  running : Bool
  lastRaw : Nat
  nextAA  : Bool
  deriving DecidableEq, Repr

/-- Fault collection, watchdogs, monitors, safe-state outputs and the safety SPI. -/
structure Safety where
  pairs     : List LockPair
  active    : Nat
  latched   : Nat
  recs      : List (Nat × FaultRec)
  reactions : List (Nat × Nat)
  handlers  : List Nat
  fatalRaw  : Option Nat
  testFailed : Bool
  watchdogs : List Watchdog
  toggling  : Bool
  safeA     : Bool
  safeB     : Bool
  spiCount  : Nat
  question  : Nat
  spiStatus : Bytes
  deriving DecidableEq, Repr

/-! ### Host interface -/

/-- A ring register block of BAR2 (Table 18.2). -/
structure Ring where
  base    : Nat
  size    : Nat
  tail    : Nat
  head    : Nat
  ctrl    : Nat
  mod     : Nat
  status  : Nat
  headWb  : Nat
  done    : Nat
  refused : Nat
  deriving DecidableEq, Repr

/-- Completions of an MSI-X vector not yet signalled, and the raw tick of the first (R430). -/
structure VectorMod where
  count : Nat
  since : Nat
  deriving DecidableEq, Repr

/-- A descriptor fetched from a transmit ring and not yet complete (R427, R428). -/
structure TxDesc where
  ring   : Nat
  index  : Nat
  status : Nat
  flags  : Nat
  deriving DecidableEq, Repr

/-- A write of the device to host memory: the address, and the octets. -/
structure HostWrite where
  addr : Nat
  data : Bytes
  deriving DecidableEq, Repr

/-- A buffer the host has posted to a receive ring (R429). -/
structure RxBuffer where
  ring  : Nat
  index : Nat
  addr  : Nat
  len   : Nat
  deriving DecidableEq, Repr

/-- The PCIe host interface (R423 to R434). `requests` are entries
between DRQ_HEAD and DRQ_TAIL not yet accepted; `half` holds the low half of a split 64-bit write, as (BAR, offset, value);
`vectors` counts the messages sent per vector, `pba` and `masked` are the pending and masked vectors; `drrTurn` and `deficits` are the
round robin of the transmit rings (R428), `starved` the copies that found their ring without buffers (R429), `msix` the words of the
vector table other than its mask bits (BAR4). -/
structure HostIf where
  linkUp   : Bool
  drqBase  : Nat
  drqSize  : Nat
  drqTail  : Nat
  drqHead  : Nat
  drsBase  : Nat
  drsSize  : Nat
  drsHead  : Nat
  drsTail  : Nat
  drCtrl   : Nat
  drStatus : Nat
  drMod    : Nat
  requests : List RingEntry
  invalidWr : Nat
  link     : Nat
  half     : Option (Nat × Nat × Nat)
  tx       : List Ring
  rx       : List Ring
  rxmap    : List Nat
  fetched  : List TxDesc
  posted   : List RxBuffer
  writes   : List HostWrite
  vectors  : List (Nat × Nat)
  pba      : Nat
  masked   : Nat
  mods     : List (Nat × VectorMod)
  drrTurn  : Nat
  deficits : List Nat
  starved  : List Nat
  msix     : List (Nat × Nat)
  deriving DecidableEq, Repr

/-! ### Ports -/

/-- Association of a MACsec channel (R130 to R133): direction, SCI, association number, next or lowest PN. -/
structure SecAssoc where
  tx    : Bool
  sci   : Nat
  an    : Nat
  pn    : Nat
  inUse : Bool
  slot  : Nat
  deriving DecidableEq, Repr

/-- A frame the MAC sends of itself (R127, R128): kind 0 PAUSE, 1 PFC, 2 verify, 3 respond, 4 wake-up pulse, 5 sleep
request, with its time or priorities. -/
structure MacFrame where
  kind : Nat
  time : Nat
  mask : Nat
  deriving DecidableEq, Repr

/-- Port state that no entry shows. Pause deadlines are raw ticks, one per priority (R126); `receiving` and `assembling` are
the frame being received and the one being put together from preemption fragments. -/
structure Port where
  prior      : Nat
  pollMet    : Bool
  polled     : Bool
  lastPoll   : Nat
  holdEnd    : Option Nat
  flushing   : Bool
  pauseUntil : List (Option Nat)
  xoff       : Bool
  resendAt   : Nat
  verifyTries : Nat
  indirect   : Option (Bool × Nat × Nat)
  sqiLow     : Bool
  sqiSeen    : Bool
  sqiOkSince : Option Nat
  sas        : List SecAssoc
  macOut     : List MacFrame
  attempts   : Nat
  burst      : Nat
  receiving  : Option Nat
  assembling : Option Nat
  deriving DecidableEq, Repr

/-! ### Pair redundancy -/

/-- Role states (Table 12.2). -/
inductive Role
  | start | solo | pairing | syncing | standby | active | takeover | fenced | halted | disabled
  deriving DecidableEq, Repr


/-- What an own input of the standby is (R309). -/
inductive OwnInput
  | frame (id : Nat)
  | bus (f : BusFrame)
  | trigger (n pulse : Nat)
  deriving DecidableEq, Repr

/-- An own input that the standby keyed itself and that waits for its record (R309): own key, match tag, own raw tick. -/
structure Unclaimed where
  key : OKey
  tag : Nat
  at_ : Nat
  inp : OwnInput
  deriving DecidableEq, Repr

/-- A journal record held by the standby, the raw tick of its arrival, the own input that it claims, whether its payload is
being fetched, and whether the fetch failed. -/
structure HeldRec where
  rec_  : JRec
  at_   : Nat
  own   : Option OwnInput
  fetch : Bool
  lost  : Bool
  deriving DecidableEq, Repr

/-- A pairing handshake (R303): its start in raw ticks, the HELLO sent, the partner's HELLO, and whether the partner's proof
has verified. -/
structure Handshake where
  since  : Nat
  mine   : Bytes
  theirs : Option Bytes
  proved : Bool
  deriving DecidableEq, Repr

/-- A resynchronisation (R318): its boundary s, the pass, the boundary f once chosen, and the raw tick at which an abandoned
one starts again. -/
structure Resync where
  boundary : Nat
  pass     : Nat
  final    : Option Nat
  again    : Option Nat
  deriving DecidableEq, Repr

/-- A planned swap (R327): B in ns and its apply epoch b. -/
structure Swap where
  pointNs : Nat
  epoch   : Nat
  deriving DecidableEq, Repr

/-- A token that waits to be handed over (R329), and the raw tick from which its timeout counts. -/
structure Handover where
  output : Nat
  since  : Nat
  deriving DecidableEq, Repr

/-- Saddle (R298 to R332). `enabled` is pair enable as at reset; `lapsed` the raw tick since which the safety
manager has not refreshed the liveness input; `roleOut` the level that Lowland gives ROLE_OUT; `heardElnar` the raw tick of the
latest heartbeat on the Elnar path; `pinHeard` and `roleIn` the pair's pins as last seen: HB_RX has toggled within 2 µs, and
the level of ROLE_IN; `detached` follows command 0x02; `noticeTo` the end of the fail notice; `journaling`, `outbox` and `acked` are the active member's journal and
the standby's acknowledgement; `inbox`, `own`, `mark`, `released` and `retained` the standby's records,
unclaimed inputs, highest mark, next epoch to release and relayed frames with their raw tick; `lagSince` the raw tick since
which the lag is above its limit; `declared` the raw tick of a declaration; `forceDigest` brings a comparison forward;
`swapped` is the order time of the latest swap or pairing. -/
structure Saddle where
  enabled   : Bool
  role      : Role
  authority : Bool
  lapsed    : Option Nat
  roleOut   : Bool
  detached  : Bool
  handshake : Option Handshake
  retryAt   : Option Nat
  claimFrom : Nat
  heardElnar : Option Nat
  pinHeard  : Bool
  roleIn    : Bool
  noticeTo  : Nat
  journaling : Bool
  outbox    : List JRec
  acked     : Nat
  inbox     : List HeldRec
  own       : List Unclaimed
  mark      : Nat
  released  : Nat
  retained  : List (OKey × Nat × Nat)
  lagSince  : Option Nat
  declared  : Option Nat
  confirmed : Bool
  caughtUp  : Bool
  resync    : Option Resync
  digests   : List (Nat × List Nat)
  forceDigest : Bool
  swap      : Option Swap
  swapped   : Nat
  handovers : List Handover
  deriving DecidableEq, Repr

/-! ### The Elnar link (chapter 13) -/

/-- A receive lane: candidate positions with their consecutive matches, the aligned position, bad alignment words in a row,
the justification of the next frame, own parity of the frame before, the counted cell boundary and whether it just differed,
the cell in progress and whether a byte of it failed its parity, the cells that wait for their parity, the trace being gathered and whether a frame of its cycle had an
error, runs towards declaring or clearing TIM, AIS and RDI, the degrade and fail windows as frames and errors, frames for
which the use conditions have held, the latest heartbeat, fail notices in a row, and the receive stamp of the latest
multiframe. -/
structure RxLane where
  cands   : List (Nat × Nat)
  pos     : Nat
  bad     : Nat
  jc      : Nat
  parity  : Option Nat
  edge    : Option Nat
  differs : Bool
  part    : Bytes
  spoiled : Bool
  held    : List Bytes
  trace   : Bytes
  traceBad : Bool
  timRun  : Nat
  aisRun  : Nat
  rdiRun  : Nat
  sdFrames : Nat
  sdErrs  : Nat
  sfFrames : Nat
  sfErrs  : Nat
  good    : Nat
  heart   : Option Nat
  notices : Nat
  stamp   : Nat
  deriving DecidableEq, Repr

/-- A transmit lane: multiframe counter, heartbeat counter, the justification of the coming frame, the codes of the nine frames
before, data bytes taken but not sent, the parity of the frame before, the latest frame on the line and the transmit stamp. -/
structure TxLane where
  mfc    : Nat
  heart  : Nat
  code   : Nat
  recent : List Nat
  rest   : Bytes
  parity : Nat
  line   : Bytes
  stamp  : Nat
  deriving DecidableEq, Repr

/-- A cell: class, end of message, sequence and its 30 bytes. -/
structure Cell where
  cls  : Nat
  last : Bool
  seq  : Nat
  data : Bytes
  deriving DecidableEq, Repr

/-- What each class 1…5 holds: cells to send, next sequences, cells sent and those the partner has consumed since the restart,
cells consumed here, cells received out of order with their raw tick, the message being put together and whether it lost a
cell. -/
structure CellClass where
  out      : List (Bool × Bytes)
  txSeq    : Nat
  sent     : Nat
  credited : Nat
  rxSeq    : Nat
  consumed : Nat
  early    : List (Cell × Nat)
  part     : Bytes
  broken   : Bool
  deriving DecidableEq, Repr

/-- A message received: class, type, flags and body (R345). -/
structure LinkMsg where
  cls   : Nat
  kind  : Nat
  flags : Nat
  body  : Bytes
  deriving DecidableEq, Repr

/-- An outstanding bridge request: the request, its issue in raw ticks, the class T cells sent when it was queued, whether it
has ended by timeout. -/
structure Outstanding where
  req   : BridgeReq
  raw   : Nat
  cells : Nat
  ended : Bool
  deriving DecidableEq, Repr

/-- A semaphore's holder: 1 a local core, 2 the partner; the initiator and the raw tick of the grant. -/
structure Semaphore where
  holder : Nat
  init   : Nat
  since  : Nat
  deriving DecidableEq, Repr

/-- A pending acquire: the semaphore, whether from the partner, the initiator and the tag. -/
structure Acquire where
  sem     : Nat
  partner : Bool
  init    : Nat
  tag     : Nat
  deriving DecidableEq, Repr

/-- The bridge window, 65,536 bytes, as address and byte pairs in canonical form: an unlisted byte is zero. -/
abbrev Window := List Host.Cell

/-- The Elnar link: lanes, classes 1…5, a credit cell due, cell slots since class F last had one, messages delivered and not
acted upon, outstanding requests, the window, semaphores held, pending acquires, results given to local cores as
initiator and completion, and the mean path delay in ns. -/
structure Elnar where
  rx       : List RxLane
  tx       : List TxLane
  classes  : List CellClass
  credit   : Bool
  slot     : Nat
  received : List LinkMsg
  out      : List Outstanding
  window   : Window
  sems     : List (Nat × Semaphore)
  acquires : List Acquire
  results  : List (Nat × BridgeDone)
  delay    : Int
  deriving DecidableEq, Repr

/-! ### Key store -/

/-- A key slot (R383 to R385): metadata, the two shares of the working copy, and the stored value of a persistent slot.
Flags as byte 472 of Table 15.4: bit 0 persistent, 1 generated inside, 2 derived. -/
structure KeySlot where
  kind    : Nat
  usage   : Nat
  pairs   : Nat
  flags   : Nat
  counter : Nat
  shareA  : Nat
  shareB  : Nat
  stored  : Nat
  deriving DecidableEq, Repr

/-- A commit record of the key store (R389). -/
structure KeyCommit where
  counter  : Nat
  slot     : Nat
  location : Nat
  hash     : Nat
  deriving DecidableEq, Repr

/-- New slot content that waits for its commit record (R389); no content for an erasure. -/
structure KeyShadow where
  slot    : Nat
  counter : Nat
  content : Option KeySlot
  deriving DecidableEq, Repr

/-- The key store, attestation, boot and fuses (R376 to R393). -/
structure KeyStore where
  slots     : List (Nat × KeySlot)
  polarity  : Bool
  ready     : Bool
  sealed_   : Bool
  shadow    : Option KeyShadow
  commits   : List KeyCommit
  counter   : Nat
  mrs       : List Nat
  rollback  : Nat
  revoked   : Nat
  rootIndex : Nat
  lifecycle : Nat
  unlocks   : Nat
  unlocked  : Bool
  challenge : Nat
  statement : Bytes
  bootDone  : Bool
  bootBlocked : Bool
  deriving DecidableEq, Repr

/-! ### Frames, queues and gates (Basin, the switch core, queues and stream functions) -/

/-- A frame in the device: order key, receive stamp, ingress port, bytes from the destination address, length with FCS,
what is known of its end, its resolved action and stream data, its cells in written order, cells still to be written, and
its copy count (R188 to R190). `dest` is the mask of R192, `bypass` marks delivery outside rules and Narrows (R152). `waiting` frames wait for their ordering unit. `tagIn` and `tagOut` are the port masks of
R226; `decided` the FRER decision of a replayed record: discarded, and the sequence assigned; `secTag` its SecTAG, `sec` is 0 without SecTAG, 1 verified, 2 failed but passed. -/
structure Frame where
  id       : Nat
  key      : OKey
  stamp    : Nat
  port     : Nat
  bytes    : Bytes
  length   : Nat
  complete : Bool
  failed   : Bool
  reassembled : Bool
  sec      : Nat
  secTag   : SecTag
  action   : Nat
  cls      : Nat
  queue    : Nat
  colour   : Nat
  zone     : Nat
  dest     : Nat
  bypass   : Bool
  handle   : Option Nat
  filter   : Option Nat
  vid      : Nat
  excCode  : Nat
  cells    : List Nat
  need     : Nat
  copies   : Nat
  poison   : Bool
  corrupt  : Bool
  waiting  : Bool
  seq      : Option Nat
  tagIn    : Nat
  tagOut   : Nat
  origin   : Option Origin
  decided  : Option (Bool × Option Nat)
  deriving DecidableEq, Repr

/-- What kind a copy is (R190). -/
inductive CopyKind
  | plain | mirror (n : Nat) | sample | host
  deriving DecidableEq, Repr

/-- One copy of a frame in an egress queue: the cells charged, the raw tick of its enqueue (R212), whether it is
cut-through (R201), the raw tick before which it does not start (R242, R243), its launch time and stamp request (R97 to R99), and for a cluster port the core. -/
structure Copy where
  id     : Nat
  frame  : Nat
  port   : Nat
  queue  : Nat
  kind   : CopyKind
  cells  : Nat
  enq    : Nat
  cut    : Bool
  ready  : Nat
  launch : Nat
  stamp  : Option (Nat × Nat)
  colour : Nat
  deriving DecidableEq, Repr

/-- A copy in transmission: bytes sent before the present fragment, the raw tick at which that fragment started, whether
the copy is preemptable, how many fragments it has had and whether its FCS is stomped. -/
structure TxFrame where
  copy    : Copy
  sent    : Nat
  since   : Nat
  preempt : Bool
  frags   : Nat
  stomp   : Bool
  deriving DecidableEq, Repr

/-- The transmitter of a port: what it sends, a preempted frame that waits, whether a hold is requested, and the latest
frame that left, as sent, with whether its FCS was stomped. -/
structure PortTx where
  cur   : Option TxFrame
  held  : Option TxFrame
  hold  : Bool
  last  : Option (Bytes × Bool)
  deriving DecidableEq, Repr

/-- How a credit moves between events (R230). -/
inductive CreditMode
  | hold | rise | toZero
  deriving DecidableEq, Repr

/-- The credit of a shaped queue in 2^-32 bit, its rise per tick and its bounds. -/
structure Credit where
  value : Int
  mode  : CreditMode
  inc   : Nat
  hi    : Int
  lo    : Int
  deriving DecidableEq, Repr

/-- One entry of a gate list: operation, gate states or stream-gate state, interval in ns, octet maximum. -/
structure GateEntry where
  op     : Nat
  states : Nat
  ns     : Nat
  octets : Nat
  deriving DecidableEq, Repr

/-- A gate list: base time in ns, cycle time in ns, entries. -/
structure GateList where
  base    : Nat
  cycle   : Nat
  entries : List GateEntry
  deriving DecidableEq, Repr

/-- A gate engine: whether it is enabled, the oper list, the list that awaits its X, the initial states, and the entry
whose parity failed with the states held meanwhile (R234 to R238). -/
structure GateEngine where
  enabled : Bool
  oper    : Option GateList
  pending : Option (GateList × Nat)
  initial : Nat
  bad     : Option Nat
  switches : Nat
  deriving DecidableEq, Repr

/-- What a stream gate keeps beside its list (R221): the two closed states, and the octets left in an entry instance. -/
structure StreamGate where
  engine  : GateEngine
  closed  : Bool
  octets  : Bool
  left    : Nat
  inst    : Option (Nat × Nat)
  deriving DecidableEq, Repr

/-- A meter's state (R223), tokens in 2^-32 byte. -/
structure MeterState where
  ctok   : Nat
  etok   : Nat
  last   : Nat
  allRed : Bool
  deriving DecidableEq, Repr

/-- An FRER function's state (R226, R227). -/
structure FrerState where
  takeAny : Bool
  recov   : Nat
  hist    : Nat
  last    : Nat
  gen     : Nat
  deriving DecidableEq, Repr

/-- An FDB entry (Table 8.3), and the key epoch from which a deletion hides it. -/
structure FdbEntry where
  mac     : Nat
  vid     : Nat
  static_ : Bool
  dest    : Nat
  prev    : Option Nat
  seen    : Nat
  visible : Nat
  gone    : Option Nat
  deriving DecidableEq, Repr

/-- A capture ledger record (Table 8.5), as its 64 bytes. -/
structure LedgerRec where
  number : Nat
  bytes  : Bytes
  deriving DecidableEq, Repr

/-- A frame that the cluster has accepted from CP (R26, R153, R154): its queue and what its metadata carries. -/
structure ClusterFrame where
  queue  : Nat
  key    : OKey
  stamp  : Nat
  port   : Nat
  exc    : Nat
  bytes  : Bytes
  deriving DecidableEq, Repr

/-- A datagram in reassembly (R153): ingress port, source and destination, identification and protocol as one number, the
raw tick of the first fragment, and the fragments held. -/
structure Datagram where
  port   : Nat
  flow   : Nat
  since  : Nat
  header : Bytes
  parts  : List (Nat × Bytes)
  total  : Option Nat
  deriving DecidableEq, Repr

/-- Basin and the switch core. `leaked` are cells that no chain and no free list holds, with their strikes; `retiring` and
`retired` are banks; `rebuild` is the table bank being copied and `rebuildWait` those that wait; `bad` are table rows whose
check fails until they are rewritten, and `badSlots` failed slots of dynamic tables; `second` counts confirmed errors. -/
structure Basin where
  frames   : List Frame
  nextId   : Nat
  copies   : List Copy
  nextCopy : Nat
  tx       : List PortTx
  leaked   : List (Nat × Nat)
  retiring : List Nat
  retired  : List Nat
  rebuild  : Option Nat
  rebuildWait : List Nat
  spareUsed : Bool
  bad      : List (Nat × Nat)
  badSlots : List (Nat × Nat)
  second   : List (Nat × Nat)
  fdb      : List (Nat × FdbEntry)
  credits  : List (Nat × Credit)
  gates    : List GateEngine
  streamGates : List (Nat × StreamGate)
  meters   : List (Nat × MeterState)
  frer     : List (Nat × FrerState)
  samples  : List (Nat × Nat)
  ledger   : List LedgerRec
  ledgerLeft : Nat
  ledgerEpoch : Nat
  ledgerUsed : Nat
  cluster  : List ClusterFrame
  datagrams : List Datagram
  deriving DecidableEq, Repr

/-! ### Narrows -/

/-- A session (Table 7.4). Addresses are 128-bit, an IPv4 address in the upper 32 bits; `respSeen` tells whether the
responder has sent, `gone` the key epoch from which a deletion hides it. -/
structure NSession where
  v6       : Bool
  proto    : Nat
  initIp   : Nat
  respIp   : Nat
  initPort : Nat
  respPort : Nat
  initZone : Nat
  respZone : Nat
  state    : Nat
  last     : Nat
  refCell  : Bool
  ref      : Nat
  window   : Bool
  initFin  : Bool
  respFin  : Bool
  respSeen : Bool
  initEnd  : Nat
  respEnd  : Nat
  initWin  : Nat
  respWin  : Nat
  frames   : Nat
  created  : Nat
  gone     : Option Nat
  deriving DecidableEq, Repr

/-- A rate bucket (R176): tokens in 2^-32 and the key epoch of its last evaluation. -/
structure Bucket where
  tokens : Nat
  last   : Nat
  deriving DecidableEq, Repr

/-- Narrows: the sessions by slot, and the buckets that have been used since they were last full. -/
structure Narrows where
  sessions : List (Nat × NSession)
  buckets  : List (Nat × Bucket)
  deriving DecidableEq, Repr

/-! ### Legacy buses (chapter 10) -/

/-- An entry of a CAN transmit queue (R249): its frame, the order key of what queued it, its enqueue time in raw ticks, and
whether its frame has started. -/
structure CanEntry where
  frame   : BusFrame
  key     : OKey
  enq     : Nat
  started : Bool
  deriving DecidableEq, Repr

/-- What a controller in bus-off waits for (R251). -/
inductive BusOffWait
  | none | delay | command | sequence
  deriving DecidableEq, Repr

/-- A CAN controller (R244 to R253): its transmit queue in order-key order, bus-off recovery with the raw tick at which it
began, and the bus-offs of the present raw-counter second; `forced` holds once their limit is reached. -/
structure CanCtl where
  queue   : List CanEntry
  wait    : BusOffWait
  since   : Nat
  second  : Nat
  count   : Nat
  forced  : Bool
  deriving DecidableEq, Repr

/-- A polled ERRN pin (R262): the latest sample low, the event given, the raw tick since which the pin reads high. -/
structure ErrPin where
  low   : Bool
  told  : Bool
  since : Option Nat
  deriving DecidableEq, Repr

/-- A LIN channel (R254 to R258): the mode and schedule in force, its base in ns of the working clock, headers passed since
that base, a committed schedule that waits for the cycle's end, per entry the associated identifiers still to be sent after
a collision, the header in progress, and the latest response sent. -/
structure LinCtl where
  mode     : Nat
  sched    : Nat
  base     : Nat
  passed   : Nat
  want     : Option Nat
  wantAt   : Nat
  follow   : List (Nat × List Nat)
  header   : Option (Nat × Nat)
  sent     : Option (Nat × Bytes)
  deriving DecidableEq, Repr

/-- The FlexRay controller (R259 to R261): the configuration in force, and the latest frame sent as slot and payload, no
payload for a null frame. -/
structure FlexRay where
  config : Bytes
  sent   : Option (Nat × Option Bytes)
  deriving DecidableEq, Repr

/-- The legacy-bus controllers. -/
structure Legacy where
  can  : List CanCtl
  lin  : List LinCtl
  fx   : FlexRay
  errn : List ErrPin
  deriving DecidableEq, Repr

/-! ### Ford (chapter 11) -/

/-- Kind of a deadline, in the order of R265. -/
inductive DeadlineKind
  | timeout | gapEnd | periodic | holdEnd
  deriving DecidableEq, Repr

/-- What an item is (R264): a bus frame; a frame delivered to FP with its receive stamp; the deadlines from a due epoch to the
epoch of its key, until they reach the queue's head; one deadline. -/
inductive FordWork
  | bus (f : BusFrame)
  | eth (bytes : Bytes) (stamp : Nat)
  | due (since : Nat)
  | deadline (pdu : Nat) (kind : DeadlineKind)
  deriving DecidableEq, Repr

/-- An item of the work queue: its key, for a deadline the place just before key (d, 0x0000, 0) (R265). -/
structure FordItem where
  key  : OKey
  work : FordWork
  deriving DecidableEq, Repr

/-- An item on a processor (R24), in dispatch order; `done` once the processor has finished it. -/
structure FordRun where
  proc : Nat
  item : FordItem
  done : Bool
  deriving DecidableEq, Repr

/-- The state of a PDU (Table 11.4) under the definition `defn` applied at epoch `since`: epochs of the last update, the
last transmission and the next periodic deadline; `first` until a reception after reset, commit or timeout; for whole-PDU
routes the frame length and the source's identifier and format; for kind 5 the messages gathered and the epoch of the first;
deadlines lost with a processor, by kind and due epoch (R296). -/
structure PduState where
  defn     : Nat
  since    : Nat
  updated  : Nat
  sent     : Option Nat
  alive    : Nat
  received : Bool
  timedOut : Bool
  changed  : Bool
  written  : Bool
  deferred : Bool
  imageErr : Bool
  acfSeq   : Nat
  acfHeld  : List Bytes
  acfFrom  : Nat
  next     : Nat
  first    : Bool
  length   : Option Nat
  source   : Option (Nat × Nat)
  lost     : List (DeadlineKind × Nat)
  deriving DecidableEq, Repr

/-- Ford: the work queue, what the processors run, PDU states, transmit images that differ from their fill, finished pulled
images, freshness values, raises of them that an epoch, identifier and value name, and bounds, frames handed to FP that wait there, and the next due epoch to release. -/
structure Ford where
  queue   : List FordItem
  running : List FordRun
  pdus    : List (Nat × PduState)
  images  : List (Nat × Bytes)
  pulled  : List (Nat × Bytes)
  fresh   : List (Nat × Nat)
  raises  : List (Nat × Nat × Nat)
  bounds  : List (Nat × Nat)
  out     : List Bytes
  nextDue : Nat
  deriving DecidableEq, Repr

/-! ### Power, wake-up and reset -/

/-- Power states (Table 16.1, `C000h.02`): `coldBoot` until the self-test ends, `entering` from the apply epoch until
PWR_REQ drops, `wake` while the rails come up, `warmBoot` from then until the self-test ends, `held` while reset is asserted. -/
inductive PowerPhase
  | coldBoot | run | idle | entering | quiet | sleep | wake | warmBoot | held
  deriving DecidableEq, Repr

/-- Power and reset (R394 to R408). `toSleep` tells which state was commanded, `entryEpoch` its apply epoch, `roleRef` the
reference level of ROLE_IN, `routes` the table in force, `lowQueues` Lowland's queues, `lowBuses` the controllers it runs,
`tokens` those it may transmit on, `resetDue` a requested reset as (raw tick, cause). -/
structure Power where
  phase      : PowerPhase
  toSleep    : Bool
  entryEpoch : Nat
  entryRaw   : Nat
  reasons    : Nat
  first      : Option Nat
  pwrReq     : Bool
  roleRef    : Bool
  railsFrom  : Nat
  routes     : Bytes
  lowQueues  : List (List BusFrame)
  lowBuses   : Nat
  tokens     : Nat
  routed     : Nat
  discarded  : Nat
  busOffs    : Nat
  resetDue   : Option (Nat × Nat)
  deriving DecidableEq, Repr

/-- Whether Lowland alone runs. -/
def Power.low (p : Power) : Bool := decide (p.phase = .quiet) || decide (p.phase = .sleep)

/-! ### What a resynchronisation copies -/

/-- The covered state that a resynchronisation gives the standby, as at boundary f (R318, Table 12.8): Narrows, the FDB,
meters and FRER state, Ford's PDU state, images and freshness values, the applied configuration with the overlay and the
staging area, the counters covered at checkpoints, and the transmit queues of the CAN controllers. -/
structure Covered where
  narrows  : Narrows
  fdb      : List (Nat × FdbEntry)
  meters   : List (Nat × MeterState)
  frer     : List (Nat × FrerState)
  pdus     : List (Nat × PduState)
  images   : List (Nat × Bytes)
  fresh    : List (Nat × Nat)
  settings : List Setting
  rowOps   : List RowOp
  overlay  : List OverlayRec
  staging  : Staging
  counters : List (Nat × Nat)
  rowStat  : List (Nat × Nat)
  canQueues : List (List CanEntry)
  deriving DecidableEq, Repr

end Sys2Proof.Machine
end

