-- ==== Sys2Proof/Syntax.lean ====
section
/-! DEFINITION. The commands of the block: one constructor for each row of the opcode table. -/

namespace Sys2Proof

/-- The commands. Operand `t` of each is the raw tick at which the command happens; `c` is the caller of a dictionary
request. -/
inductive Instr
  /-- R9. The last byte of a frame's 64-byte header window arrives on ports 0…27 or is presented at HP, CP, FP or XP. The frame is keyed, parsed, classified and routed to the express or shared-state path. -/
  | frameHeaderWindow (t port : Nat) (rx : FrameRx)
  /-- R199. The last byte of a frame arrives. Charges are cut to the actual cell count, and FCS, ICV, oversize and SDU are checked. -/
  | frameEndReceived (t port : Nat) (fin : FrameEnd)
  /-- R36. An input reaches an ordering unit's sort buffer, or is handled as late if its epoch was already released. -/
  | sortBufferArrival (t : Nat) (u : OrderUnit) (key : OKey)
  /-- R36. Sampled order time reaches boundary e + 2, and all inputs of key epoch e are released in order-key order. -/
  | orderingRelease (t : Nat) (u : OrderUnit) (e : Nat)
  /-- R46. While order time is held, an input is released 64 ns after its arrival. -/
  | heldOrderRelease (t : Nat) (u : OrderUnit)
  /-- R30. The 64 ns suspension after a forward-step notice ends, and pending inputs are released in order-key order. -/
  | stepSuspendEnd (t : Nat) (u : OrderUnit)
  /-- R32. An input held back as a source's 33rd key of an epoch is keyed at the next boundary. -/
  | sourceKeyLimitWaitEnd (t source : Nat)
  /-- R18. A full dual-clock queue or sort buffer gains room, and its held-back sender resumes. -/
  | senderResume (t : Nat) (u : OrderUnit)
  /-- R18. A sender held back by a dual-clock queue has waited more than 10 µs, and the fault collection unit is told. -/
  | dcqWaitTimeout (t : Nat) (u : OrderUnit)
  /-- R42. A boundary that is a multiple of 65,536 passes. Covered counters are taken into the checkpoint image, and digests are computed. -/
  | checkpoint (t : Nat)
  /-- R24. The head item of the Ford work queue goes to the lowest-numbered idle processor. -/
  | fordDispatch (t : Nat)
  /-- R24. A processor finishes an item, and its results commit once every lower key has committed. -/
  | fordItemComplete (t proc : Nat)
  /-- R265. A due epoch is reached, and Ford releases its deadlines before the inputs of that epoch. -/
  | fordDeadline (t due : Nat)
  /-- R296. A Ford processor mismatches or fails its test, is taken out of service, and its item is lost. -/
  | processorFailure (t n : Nat)
  /-- R297. A write to 8300h.03 runs the known-answer test on the named processors, and passing ones return to service. -/
  | processorRetest (t : Nat) (c : Caller) (mask passed : Nat)
  /-- R57. The READ operation returns the value that governs inputs of the read's key epoch, and clears RC entries. -/
  | read (t : Nat) (c : Caller) (idx sub : Nat)
  /-- R55. The WRITE operation to an entry with no row of its own is checked and takes effect at k + 4, or is staged if RWS. -/
  | write (t : Nat) (c : Caller) (idx sub : Nat) (data : Bytes)
  /-- R448. A domain or long-entry segment is read at an offset. -/
  | readSeg (t : Nat) (c : Caller) (idx sub off len : Nat)
  /-- R60. A domain segment is written at the next offset, and the content takes effect at the last segment. -/
  | writeSeg (t : Nat) (c : Caller) (idx sub off : Nat) (data : Bytes) (last : Bool)
  /-- R471. A host request opens a management session slot and returns the identifier and device nonce. -/
  | sessionOpen (t slot : Nat) (nonce : Bytes)
  /-- R471. A host proof is verified, and the session opens or is freed with status 0x0007. -/
  | sessionProof (t sid : Nat) (mac : Bytes)
  /-- R73. A management session closes, and staging it owns is discarded unless a commit is armed. -/
  | sessionClose (t : Nat) (c : Caller)
  /-- R68. A liveness probe returns status 0x0000. -/
  | nop (t : Nat) (c : Caller)
  /-- R58. The row that matches the key fields fills the caller's view and row index. -/
  | lookup (t : Nat) (c : Caller) (tbl : Nat)
  /-- R59. A row is added from the view, staged or immediate. -/
  | insert (t : Nat) (c : Caller) (tbl : Nat)
  /-- R59. A row is inserted, or the row with the same key is overwritten. -/
  | replace (t : Nat) (c : Caller) (tbl : Nat)
  /-- R59. The row with the key is removed. -/
  | delete (t : Nat) (c : Caller) (tbl : Nat)
  /-- R58. The view is filled from the row at the row index. -/
  | readRow (t : Nat) (c : Caller) (tbl : Nat)
  /-- R58. The row index moves to the next occupied row and the view is filled. -/
  | nextRow (t : Nat) (c : Caller) (tbl : Nat)
  /-- R59. Every row of the table is removed. -/
  | clear (t : Nat) (c : Caller) (tbl : Nat)
  /-- R60. An open domain write receives no segment for 1 s and is discarded. -/
  | domainWriteTimeout (t : Nat)
  /-- R62. A write of 0x01 to 1300h.01 discards the staging area. -/
  | discardStaging (t : Nat) (c : Caller)
  /-- R63. A write to 1301h.04 runs the arming checks and arms a commit at apply epoch c. -/
  | executeCommit (t : Nat) (c : Caller)
  /-- R64. Apply epoch c is reached, and every staged record takes effect together. -/
  | commitApply (t : Nat)
  /-- R65. Applied static-table changes are written to the run-time overlay in eMRAM. -/
  | overlayWriteComplete (t : Nat)
  /-- R56. The change-journal record is stored and the partner acknowledges, so the write response is sent. -/
  | writeResponse (t : Nat)
  /-- R80. The last segment of an image upload arrives, and the candidate is verified and kept or discarded. -/
  | imageUpload (t : Nat) (c : Caller) (off : Nat) (data : Bytes) (signed : Bool)
  /-- R80. A write of 0x01 to 1300h.12 marks the valid candidate for activation at the next reset. -/
  | imageActivate (t : Nat) (c : Caller)
  /-- R74. A DAP request datagram is authenticated and decrypted, and its operation records are keyed and answered in one response. -/
  | dapRequest (t : Nat) (d : DapDatagram)
  /-- R72. A DAP open request assigns a session and sends the open challenge, or is refused. -/
  | openRequest (t : Nat) (d : DapDatagram)
  /-- R72. A DAP open proof is verified, and the session key is derived and the open accepted. -/
  | openProof (t : Nat) (d : DapDatagram)
  /-- R72. No valid proof arrives within 1 s of the challenge, and the session is freed. -/
  | openProofTimeout (t sid : Nat)
  /-- R72. The 60 s lockout after 8 failed proofs ends. -/
  | dapLockoutEnd (t : Nat)
  /-- R441. A session's idle time exceeds the timeout, and the session closes. -/
  | sessionIdleTimeout (t sid : Nat)
  /-- R440. A write to 1020h.06 closes the named session. -/
  | closeSession (t : Nat) (c : Caller) (n : Nat)
  /-- R75. A CAN SDO request frame performs an expedited or segmented transfer step. -/
  | sdoRequest (t bus ident : Nat) (data : Bytes)
  /-- R76. A segmented SDO transfer receives no segment in time and is aborted. -/
  | sdoSegmentTimeout (t : Nat)
  /-- R77. A bridge dictionary request from the partner is served while paired, or refused. -/
  | partnerRequest (t : Nat) (r : OpRecord)
  /-- R82. TIMEREF is absent or off by more than 200 ppm for 10 µs, and the time PLL switches to REFCLK. -/
  | timerefFault (t : Nat)
  /-- R82. TIMEREF has been good for 100 ms, and the PLL returns to it. -/
  | timerefRestored (t : Nat)
  /-- R84. A rate write to 2001h is accepted and scheduled for r0. -/
  | rateWrite (t : Nat) (c : Caller) (n : Nat) (data : Bytes)
  /-- R88. A step write to 2002h.01…04 is accepted and scheduled for r0. -/
  | stepWrite (t : Nat) (c : Caller) (n : Nat) (data : Bytes)
  /-- R88. A load write to 2002h.05…08 is accepted and scheduled for r0. -/
  | loadWrite (t : Nat) (c : Caller) (n : Nat) (data : Bytes)
  /-- R87. A fall-back increment write to 2003h is accepted and scheduled for r0. -/
  | fallbackIncrementWrite (t : Nat) (c : Caller) (n : Nat) (data : Bytes)
  /-- R85. At raw tick r0 a set's rate, step, load or increment is applied, and the offset is re-based. -/
  | timeCorrectionApply (t n : Nat)
  /-- R88. A set's slew remaining reaches zero, and the slew term returns to zero at the next multiple of 256 ticks. -/
  | slewEnd (t n : Nat)
  /-- R91. The sync receipt timeout passes with no qualified grandmaster, and the set enters holdover. -/
  | grandmasterLost (t n : Nat)
  /-- R91. Holdover of the working clock exceeds its limit, and the fault unit is signalled. -/
  | holdoverLimitExceeded (t : Nat)
  /-- R92. A grandmaster qualifies again, and LP1 applies its first correction. -/
  | holdoverEnd (t n gm : Nat) (offset ratio : Int)
  /-- R94. A regenerated Sync is transmitted, and the residence time is added to its Follow_Up correctionField. -/
  | syncTxStamp (t n port rxRaw txRaw : Nat) (ratio correction : Int)
  /-- R97. A read of 3140h+p.01 removes and returns the oldest transmit time-stamp entry. -/
  | txStampRead (t : Nat) (c : Caller) (port : Nat)
  /-- R99. The working clock reaches a frame's launch time, and the frame becomes eligible. -/
  | launchTimeReached (t port queue : Nat)
  /-- R100. A frame is not started by its launch time plus the late limit, and it is dropped and counted. -/
  | lateLimitExpired (t port queue : Nat)
  /-- R104. The working clock reaches a trigger pulse's leading edge, the pin goes active, and the edge is keyed. -/
  | triggerLeadingEdge (t n : Nat)
  /-- R104. The trailing edge time is reached, and the pin returns to inactive. -/
  | triggerTrailingEdge (t n : Nat)
  /-- R107. A selected edge on CAPTn is stamped, keyed and queued, and may freeze the ledger. -/
  | captureEdge (t n width : Nat) (falling : Bool)
  /-- R107. A read of 2220h+n.03 removes and returns the oldest capture. -/
  | captureRead (t : Nat) (c : Caller) (n : Nat)
  /-- R112. The link conditions hold for the debounce time, and the port enters UP. -/
  | linkUp (t port : Nat)
  /-- R112. A port loses PCS lock, PHY link or PLCA beacons, and it leaves UP. -/
  | pcsLockLost (t port : Nat)
  /-- R123. The link-down hold time runs out, and the port's queues are flushed. -/
  | holdTimerExpired (t port : Nat)
  /-- R113. A poll interval expires, and the PHY register is read and evaluated for link and events. -/
  | mdioPoll (t port : Nat) (value : Option Nat)
  /-- R115. Command 0x01 to 30C0h+p.0B queues an indirect PHY register read. -/
  | indirectRead (t : Nat) (c : Caller) (port : Nat)
  /-- R115. Command 0x02 to 30C0h+p.0B queues an indirect PHY register write. -/
  | indirectWrite (t : Nat) (c : Caller) (port : Nat)
  /-- R115. An indirect MDIO access completes, and its status and data are stored. -/
  | indirectAccessDone (t port value : Nat)
  /-- R117. Every 1 ms the SQI is updated, and a low value raises an event. -/
  | sqiUpdate (t port sqi : Nat)
  /-- R118. A write to 30C0h+p.14 starts a TDR cable test and enters DIAGNOSTIC. -/
  | tdrStart (t : Nat) (c : Caller) (port : Nat)
  /-- R118. The cable test finishes, the result is stored, and the port returns to its state. -/
  | tdrDone (t port result distance : Nat)
  /-- R119. Command 0x01 to 30C0h+p.18 sends a TC10 sleep request. -/
  | tc10Sleep (t : Nat) (c : Caller) (port : Nat)
  /-- R119. Command 0x02 to 30C0h+p.18 sends a wake-up pulse and enters TRAINING. -/
  | tc10Wake (t : Nat) (c : Caller) (port : Nat)
  /-- R119. The partner acknowledges a sleep request, or the sleep timeout passes, and the port enters SLEEP. -/
  | tc10SleepAck (t port : Nat)
  /-- R119. A received TC10 sleep request is accepted or ignored. -/
  | partnerSleepRequest (t port : Nat)
  /-- R119. A TC10 wake-up pulse moves a sleeping port to TRAINING and is forwarded. -/
  | wakePulseReceived (t port : Nat)
  /-- R120. A PLCA follower sees no BEACON for 400 µs and leaves UP. -/
  | beaconTimeout (t port : Nat)
  /-- R120. A coordinator receives another node's BEACON and counts it. -/
  | foreignBeacon (t port : Nat)
  /-- R121. An SP node's PLCA transmit opportunity arrives, and it sends its frames. -/
  | transmitOpportunity (t port : Nat) (collision : Bool)
  /-- R126. A PAUSE frame starts or replaces the port pause timer. -/
  | pauseReceived (t port quanta : Nat)
  /-- R126. A PFC frame starts or replaces pause timers for the enabled priorities. -/
  | pfcReceived (t port enables : Nat) (quanta : List Nat)
  /-- R126. A pause timer runs out, and the queue is eligible again. -/
  | pauseTimerExpired (t port prio : Nat)
  /-- R127. Half the pause time passes while above XON, and the frame is re-sent. -/
  | pauseResend (t port : Nat)
  /-- R128. The verify time expires, and a MAC merge verify frame is sent. -/
  | verifyAttempt (t port : Nat)
  /-- R128. A verify response is received, and preemption becomes active. -/
  | verifyResponse (t port : Nat)
  /-- R240. The MAC can start a frame, queues are evaluated, and the highest eligible head starts or preempts. -/
  | egressSchedule (t port : Nat) (accepts : Bool) (read : Option (Nat × Bool))
  /-- R190. A copy completes transmission or consumption, its copy count falls, and its cells free at zero. -/
  | frameTransmitEnd (t port : Nat)
  /-- R233. The working clock reaches a gate entry's start, and the gate states change. -/
  | gateEntryChange (t port : Nat)
  /-- R234. The working clock reaches X, and the pending admin list becomes oper. -/
  | gateListSwitch (t : Nat) (stream : Bool) (n : Nat)
  /-- R237. The hold advance before a held stretch is reached, and MAC hold is requested. -/
  | holdRequest (t port : Nat)
  /-- R238. A gate entry failing parity is rewritten from its copy. -/
  | gateMemoryRewrite (t port entry : Nat) (done : Bool)
  /-- R212. Every 1 ms the queue heads are swept, and copies past their residence limit are aged out. -/
  | residenceSweep (t : Nat)
  /-- R207. A write to 4001h.41, or the error threshold, retires a bank. -/
  | bankRetire (t : Nat) (c : Caller) (b : Nat)
  /-- R207. The walk dropping copies that reference a retired frame bank completes. -/
  | frameBankWalkDone (t b : Nat)
  /-- R208. The table bank copy into the spare finishes, and lookups switch at the next boundary. -/
  | tableBankRebuildDone (t : Nat)
  /-- R206. Every raw-counter second the auditor reads every table entry. -/
  | tableAuditPass (t : Nat) (static_ dynamic : List (Nat × Nat))
  /-- R210. Every 100 ms a pass over the frame partition reclaims leaked cells and finds corrupt frames. -/
  | freelistAuditPass (t : Nat) (lost corrupt : List Nat)
  /-- R204. A static entry failing its CRC is rewritten from the master copy and read back. -/
  | staticEntryRewrite (t tbl pos bank : Nat) (good : Bool)
  /-- R205. A failed dynamic entry is fetched from the partner or invalidated. -/
  | dynamicEntryFetch (t tbl pos : Nat) (fetched : Bool)
  /-- R183. A session slot refetch from the partner completes. -/
  | sessionRefetchComplete (t slot : Nat) (fetched : Bool)
  /-- R159. A ternary row failing parity is rewritten from the master copy. -/
  | ternaryRewrite (t row : Nat) (detected : Bool)
  /-- R216. A matching event or capture freezes the ledger after its post-trigger records. -/
  | ledgerTrigger (t : Nat)
  /-- R216. Command 0x01 to 4400h.02 discards all records and runs the ledger. -/
  | ledgerRestart (t : Nat) (c : Caller)
  /-- R216. Command 0x02 to 4400h.02 triggers the ledger. -/
  | ledgerFreeze (t : Nat) (c : Caller)
  /-- R153. A datagram whose fragments are not complete within the timeout is discarded. -/
  | fragmentReassemblyTimeout (t : Nat)
  /-- R153. A complete reassembled datagram is re-injected on CP. -/
  | datagramReinject (t : Nat)
  /-- R154. LP0 records a slow-path frame and hands it to a handler or discards it. -/
  | slowPathFrame (t : Nat) (handled : Bool)
  /-- R244. A valid CAN frame passes acceptance filtering, is keyed, and passes the Narrows filter set to Ford. -/
  | canFrameReceived (t n : Nat) (f : BusFrame) (fault : Nat) (partner : Bool) (tec rec_ : Nat)
  /-- R249. At bus idle the lowest arbitration value entry is offered, after age removal. -/
  | canTransmitOffer (t n : Nat)
  /-- R252. A CAN frame completes, is removed from the queue, and the removal is journaled. -/
  | canTransmitComplete (t n outcome stamp tec rec_ : Nat)
  /-- R251. A controller enters bus-off, is counted, signalled and flushed by policy. -/
  | busOff (t n : Nat)
  /-- R251. The bus-off delay passes, and the recovery sequence starts. -/
  | busOffDelayExpired (t n : Nat)
  /-- R251. A write of 0x01 to 7000h+n.0C starts bus-off recovery. -/
  | recover (t : Nat) (c : Caller) (n : Nat)
  /-- R251. 128 occurrences of 11 recessive bits end the recovery. -/
  | busOffRecovered (t n : Nat)
  /-- R255. The working clock reaches a schedule entry's start, and the commander sends the header. -/
  | linHeaderDue (t n : Nat)
  /-- R254. A LIN frame with a checked checksum is keyed and offered to Ford. -/
  | linFrameReceived (t n : Nat) (f : BusFrame) (fault : Nat)
  /-- R256. The cycle in progress ends, and a committed schedule change takes effect. -/
  | linScheduleChange (t n : Nat)
  /-- R261. An owned slot arrives, and the buffer sends its PDU, a repeat or a null frame. -/
  | flexraySlot (t buf cycle start : Nat) (room : Bool)
  /-- R261. A valid FlexRay frame in a buffer is keyed and offered to Ford. -/
  | flexrayFrameReceived (t chan slot cycle start fault syncs sof : Nat) (data : Bytes)
  /-- R262. A transceiver ERRN pin is sampled, and two lows set the error bit and raise an event. -/
  | errnPoll (t pin : Nat) (low : Bool)
  /-- R300. A fatal reaction, or command 0x05, drives outputs inactive, flags the heartbeat and enters HALTED. -/
  | failNotice (t : Nat)
  /-- R302. A START member hears no partner for its claim time and becomes SOLO with every token. -/
  | claim (t : Nat) (pins : Pins)
  /-- R303. A HELLO is received, and a PROOF is sent. -/
  | hello (t : Nat) (m : Bytes)
  /-- R303. A PROOF is verified, and the authority sends RESULT or pairing is refused. -/
  | proof (t : Nat) (m : Bytes)
  /-- R304. A RESULT is received, and the member becomes authority or joiner. -/
  | result (t : Nat) (m : Bytes)
  /-- R303. The handshake does not complete in 10 ms and is abandoned with code 9. -/
  | pairingTimeout (t : Nat)
  /-- R303. Every 100 ms an abandoned pairing handshake is retried. -/
  | pairingRetry (t : Nat)
  /-- R308. The standby receives a journal record, mark or payload from the active member. -/
  | journalRecord (t : Nat) (m : Bytes)
  /-- R307. At least every 256 ns the standby acknowledges its highest complete epoch. -/
  | journalAck (t : Nat) (recv : Option Nat)
  /-- R308. The standby holds the mark, payloads and boundary for epoch e, and releases its records. -/
  | standbyEpochRelease (t e : Nat)
  /-- R309. No own copy matches a record in the match window, and the payload is fetched. -/
  | matchWindowExpired (t : Nat) (key : OKey)
  /-- R309. An own input unclaimed after its mark and match window is discarded. -/
  | unclaimedInputDiscard (t : Nat)
  /-- R310. A frame relayed from the standby is presented at XP, keyed and journaled. -/
  | relayedFrame (t kind : Nat) (m : Bytes)
  /-- R312. The replay lag stays above the limit for 1 ms, and the standby is out of step. -/
  | lagLimitExceeded (t : Nat)
  /-- R313. Journal buffer occupancy exceeds 384 KiB, and an out-of-step record is sent. -/
  | journalOverflow (t : Nat)
  /-- R316. ROLE_IN differs from the expected level for 10 µs, and a fault is raised. -/
  | roleLineMismatch (t : Nat) (pins : Pins)
  /-- R317. The standby's digest arrives, is compared, and a mismatch starts resynchronisation. -/
  | digestCompare (t : Nat) (m : Bytes)
  /-- R318. A resynchronisation starts, and the standby enters SYNCING. -/
  | resyncStart (t : Nat) (m : Option Bytes)
  /-- R318. A copy pass ends, and the next pass of marked blocks begins or the final epoch is chosen. -/
  | resyncPassDone (t marked : Nat)
  /-- R318. At boundary f the final blocks are sent and journaling resumes. -/
  | resyncFinal (t : Nat)
  /-- R318. The standby applies the final blocks, replays from f and enters STANDBY. -/
  | resyncComplete (t f : Nat) (cov : Machine.Covered)
  /-- R318. 10 ms after an abandoned resynchronisation it starts again. -/
  | resyncRestart (t : Nat)
  /-- R320. Neither heartbeat path is heard for 2 µs, or a fail notice arrives, and the partner is declared failed. -/
  | partnerDeclaredFailed (t : Nat) (pins : Pins)
  /-- R321. One heartbeat path goes 2 µs unheard while the other is heard, and a fault is raised. -/
  | heartbeatPathLost (t : Nat) (elnar : Bool) (pins : Pins)
  /-- R322. A non-authority member enters FENCED, stops its outputs and drops ROLE_OUT. -/
  | fence (t : Nat) (pins : Pins)
  /-- R323. ROLE_IN stays low with no heartbeat for 1 µs, and catch-up begins. -/
  | takeoverConfirmed (t : Nat) (pins : Pins)
  /-- R323. Replay to the last mark and own ordering finish. -/
  | catchUpDone (t : Nat)
  /-- R323. The survivor takes authority and every token, enables bus outputs and enters SOLO. -/
  | outputEnable (t : Nat)
  /-- R319. The active member fails during SYNCING, and the syncing member reloads tables and enables outputs within 5 ms. -/
  | syncingReload (t : Nat)
  /-- R327. The swap interval expires with a ready standby, and a swap point B is planned and journaled. -/
  | swapPlan (t : Nat)
  /-- R331. Role command 0x01 plans a swap at once. -/
  | planSwapNow (t : Nat) (c : Caller)
  /-- R331. Role command 0x02 hands over tokens and enters START outside pairing. -/
  | detach (t : Nat) (c : Caller)
  /-- R331. Role command 0x03 allows pairing again. -/
  | allowPairing (t : Nat) (c : Caller)
  /-- R331. Role command 0x04 starts a resynchronisation. -/
  | resynchronise (t : Nat) (c : Caller)
  /-- R331. Role command 0x05 gives a fail notice and enters HALTED. -/
  | failNoticeCommand (t : Nat) (c : Caller)
  /-- R328. Apply epoch b is reached, and authority passes to the other member. -/
  | swapPoint (t : Nat)
  /-- R329. A token handover record is received, and the new holder drives the output. -/
  | tokenHandover (t : Nat) (m : Bytes)
  /-- R329. A CAN frame unfinished after the handover timeout is abandoned to the new holder. -/
  | handoverTimeout (t n : Nat)
  /-- R330. The standby is not ready at B − 10 µs, and the swap is abandoned. -/
  | swapAbandon (t : Nat)
  /-- R339. A lane frame is received. Alignment, justification, BIP-8, heartbeat and cell delineation are processed. -/
  | laneFrameReceived (t r pos : Nat) (line : Bytes)
  /-- R335. A lane frame starts, and the justification code for the next frame is chosen. -/
  | laneFrameSent (t r fill : Nat)
  /-- R342. The use conditions have held for 128 consecutive frames, and the lane enters use. -/
  | laneEntersUse (t r : Nat)
  /-- R340. No transitions for 1,024 bit times declare LOS and force HUNT. -/
  | losDeclared (t r : Nat)
  /-- R347. A sequence gap stays open 2 µs, and the cell is lost. -/
  | cellGapTimeout (t cls : Nat)
  /-- R346. 256 ns pass, or a count rises by 64, and a credit cell is sent. -/
  | creditCellDue (t : Nat)
  /-- R344. A multiframe stamp message is received, and LP1 updates the path delay and disciplines time. -/
  | pairTimeStamps (t tx rx ptx prx n : Nat) (rate : Int)
  /-- R348. Bridge request type 0x02 returns a journal payload. -/
  | payloadFetch (t : Nat) (side : BridgeSide) (q : BridgeReq)
  /-- R348. Bridge request type 0x03 reads the bridge window. -/
  | windowRead (t : Nat) (side : BridgeSide) (q : BridgeReq)
  /-- R348. Bridge request type 0x04 writes the bridge window with completion. -/
  | windowWrite (t : Nat) (side : BridgeSide) (q : BridgeReq)
  /-- R349. Bridge request type 0x05 writes the bridge window without completion. -/
  | windowWritePosted (t : Nat) (side : BridgeSide) (q : BridgeReq)
  /-- R351. Bridge request type 0x06 requests a semaphore for the next boundary decision. -/
  | lockAcquire (t : Nat) (side : BridgeSide) (q : BridgeReq)
  /-- R351. Bridge request type 0x07 releases a semaphore. -/
  | lockRelease (t : Nat) (side : BridgeSide) (q : BridgeReq)
  /-- R348. A completion is received and delivered to its initiator. -/
  | bridgeCompletion (t : Nat) (d : BridgeDone)
  /-- R350. A request has no completion within the bridge timeout and ends with 0x000D. -/
  | bridgeTimeout (t tag : Nat)
  /-- R351. At each 32 ns boundary the pending acquire requests are decided. -/
  | semaphoreArbitrate (t : Nat)
  /-- R351. A 100 µs grant expires, and the semaphore is freed. -/
  | semaphoreExpiry (t sem : Nat)
  /-- R352. A write to 9140h.43 frees a local semaphore. -/
  | releaseSemaphore (t : Nat) (c : Caller) (sem : Nat)
  /-- R353. An orphan notice for a failed posted write is received, counted and journaled. -/
  | orphanNotice (t tag status offset issue : Nat)
  /-- R356. The instruction interval or 5 µs passes, and signatures are compared and state shadowed. -/
  | lockstepCheckpoint (t p instrs : Nat) (equal : Bool) (laneOk : Bool)
  /-- R358. An output or signature mismatch stops the pair and starts a rollback. -/
  | lockstepMismatch (t p pc kind : Nat)
  /-- R358. Shadow registers and the undo log are restored, and re-execution starts. -/
  | rollbackComplete (t p : Nat)
  /-- R365. The duplicated comparators disagree, and input 8 + p is raised. -/
  | comparatorFault (t p : Nat)
  /-- R362. Command 0x01 to A010h+p.04 splits LP2 or LP3 at the next equal checkpoint. -/
  | split (t : Nat) (c : Caller) (p : Nat)
  /-- R363. Command 0x02 rejoins a split pair. -/
  | rejoin (t : Nat) (c : Caller) (p : Nat)
  /-- R361. Command 0x03 tests and reboots a failed LP2 or LP3. -/
  | restart (t : Nat) (c : Caller) (p : Nat) (passed : Bool)
  /-- R364. A debug halt request breaks lockstep and raises input 20 + p. -/
  | debugHalt (t p : Nat) (authenticated : Bool)
  /-- R364. Resuming from debug rejoins the pair. -/
  | debugResume (t p : Nat)
  /-- R367. A fault input occurs, latches and takes its configured reaction. -/
  | faultInputRaised (t n : Nat) (stays : Bool)
  /-- R369. A write to A100h.03 acknowledges a fault input. -/
  | acknowledgeFault (t : Nat) (c : Caller) (n : Nat)
  /-- R369. A read of A100h.21 returns the input record and clears its count. -/
  | inputRecordRead (t : Nat) (c : Caller)
  /-- R367. The fatal hold time passes, and a warm reset follows. -/
  | fatalResetHoldEnd (t : Nat)
  /-- R469. The start-up self-test ends, and the safety state is set. -/
  | selfTestEnd (t results procs banks : Nat)
  /-- R371. A watchdog key is written and checked against the window and sequence. -/
  | watchdogService (t : Nat) (c : Caller) (w key : Nat)
  /-- R371. No valid service arrives within the timeout, and the watchdog input is raised. -/
  | watchdogTimeout (t w : Nat)
  /-- R372. A supply stays outside its window for the filter time, and its input is raised. -/
  | supplyOutOfWindow (t n mv : Nat)
  /-- R372. A supply is back in window for 10 µs, and its input becomes inactive. -/
  | supplyInWindow (t n mv : Nat)
  /-- R372. A sensor crosses its limit or hysteresis. -/
  | temperatureLimit (t n : Nat) (temp : Int)
  /-- R372. A clock is absent for 1 µs, is off by more than 5 %, or a PLL loses lock. -/
  | clockMonitorFault (t n : Nat)
  /-- R373. At each 500 µs boundary SAFE_A and SAFE_B toggle or hold the safe state. -/
  | safeToggle (t : Nat) (refreshed : Bool)
  /-- R373. The safety manager has not refreshed for 2 ms, and the outputs stop toggling. -/
  | safeRefreshLapse (t : Nat)
  /-- R374. Safety SPI command 0x00 exchanges the status frame. -/
  | readStatus (t : Nat) (frame : Bytes)
  /-- R374. Safety SPI command 0x01 raises input 101. -/
  | forceSafeState (t : Nat) (frame : Bytes)
  /-- R374. Safety SPI command 0x02 services watchdog 7. -/
  | serviceWatchdog7 (t : Nat) (frame : Bytes)
  /-- R376. The boot ROM verifies and loads stage 1 and the later images from location A or B. -/
  | boot (t : Nat) (a b : BootHeader) (images : List Bytes)
  /-- R378. A write to B300h.05 blows rollback fuses to the running security version. -/
  | advanceRollback (t : Nat) (c : Caller)
  /-- R378. A write to B300h.06 revokes root key index 0 or 1. -/
  | revokeRootKey (t : Nat) (c : Caller) (v : Nat)
  /-- R380. A write to B300h.18 extends MR7 with a digest. -/
  | extendMr7 (t : Nat) (c : Caller) (digest : Bytes)
  /-- R382. The debug response is verified, opens JTAG, extends MR6 and re-derives the alias keys. -/
  | debugResponse (t : Nat) (c : Caller) (off : Nat) (data : Bytes) (verified : Bool)
  /-- R385. The re-mask period expires, and every slot's shares are re-masked. -/
  | remaskPass (t : Nat) (busy : List Nat)
  /-- R386. A write to B200h.04 produces a signed attestation statement. -/
  | generateStatement (t : Nat) (c : Caller)
  /-- R388. The last segment of a key update message arrives and is checked. -/
  | updateMessage (t : Nat) (c : Caller) (off : Nat) (data : Bytes) (signed unwraps : Bool) (key : Nat)
  /-- R389. The shadow write ends, the commit record is written, and the slot switches. -/
  | updateCommit (t : Nat)
  /-- R392. A tamper sensor fires, and key operations abort and the key store seals or zeroises. -/
  | tamperAlarm (t n : Nat) (lasts : Bool)
  /-- R392. A write to B400h.03 ends sealing and reloads the keys. -/
  | tamperAcknowledge (t : Nat) (c : Caller) (raised : Nat)
  /-- R393. LP1 has the key store generate or unwrap a SAK into a MACsec secure association. -/
  | sakInstall (t port slot sci an pn : Nat) (tx unwraps : Bool)
  /-- R395. Power command 0x01 enters IDLE. -/
  | enterIdle (t : Nat) (c : Caller)
  /-- R395. Power command 0x02 returns from IDLE to RUN. -/
  | returnToRun (t : Nat) (c : Caller)
  /-- R397. Power command 0x03 starts entry to QUIET at its apply epoch. -/
  | enterQuiet (t : Nat) (c : Caller)
  /-- R397. Power command 0x04 starts entry to SLEEP at its apply epoch. -/
  | enterSleep (t : Nat) (c : Caller)
  /-- R396. A port, WAKE pin or commit arming returns the device from IDLE to RUN. -/
  | idleWakeEvent (t : Nat) (pin : Option Nat)
  /-- R397. CAN is handed to Lowland, slot 5 and the warm-image MAC are written, and PWR_REQ drops. -/
  | lowPowerEntryComplete (t : Nat) (roleIn : Bool)
  /-- R399. A frame received under Lowland is matched and copied to target Lowland queues. -/
  | quietRoute (t : Nat) (f : BusFrame)
  /-- R400. An enabled wake source fires, and a wake starts. -/
  | wakeSource (t n : Nat)
  /-- R403. All RUN rails are within their windows, and the warm wake sequence runs. -/
  | railsGood (t : Nat) (macOk : Bool)
  /-- R403. The rails are not good within 20 ms, and Lowland returns to low power. -/
  | railsTimeout (t : Nat)
  /-- R405. A rail outside its window or PORn low holds the device in reset. -/
  | powerOnReset (t : Nat)
  /-- R405. WARM_RSTn held low for 1 µs resets the device. -/
  | warmResetPin (t : Nat)
  /-- R405. Reset is released, PAIR_ID is sampled, and a cold boot begins. -/
  | resetRelease (t : Nat) (strap : Bool)
  /-- R406. A write of 0x01 to 1002h.01 requests a warm reset 1 ms after the response. -/
  | resetCommand (t : Nat) (c : Caller)
  /-- R410. An event enters the journal reorder buffer. -/
  | journalEventRaised (t : Nat) (ev : RaisedEvent)
  /-- R410. Order time reaches e + 512, and the event is coalesced or admitted into the journal. -/
  | journalCommit (t : Nat)
  /-- R414. A severity 2 or 3 entry is written to the eMRAM persistent journal. -/
  | persistentJournalWrite (t : Nat)
  /-- R411. A write to 1200h.03 acknowledges journal entries up to n. -/
  | journalAcknowledge (t : Nat) (c : Caller) (n : Nat)
  /-- R417. A read of a snapshot group member takes or uses the interface's snapshot. -/
  | counterGroupRead (t : Nat) (c : Caller) (idx sub : Nat)
  /-- R418. A write to 1200h.10 requests a counter image at boundary c. -/
  | snapshotRequest (t : Nat) (c : Caller) (boundary : Nat)
  /-- R418. The requested boundary passes, and the checkpoint image is taken. -/
  | snapshotImage (t : Nat)
  /-- R419. Every 1 ms temperature and supply values are refreshed. -/
  | measurementRefresh (t : Nat) (temps : List Int) (mvs : List Nat)
  /-- R420. Each hour of RUN the ageing margin is measured and band hours are added. -/
  | ageingMeasurement (t : Nat) (ppms : List Nat) (mean : Int)
  /-- R421. Every 10 ms the CAN bus load is updated. -/
  | busLoadUpdate (t n busy : Nat)
  /-- R421. Every raw-counter second the BP and Elnar BER values are computed. -/
  | berUpdate (t : Nat) (errs bits : List Nat)
  /-- R425. A write to DRQ_TAIL makes new dictionary requests available to the server. -/
  | drqTailWrite (t v : Nat) (entries : List RingEntry)
  /-- R425. A write to DRS_HEAD frees response ring space, and request acceptance resumes. -/
  | drsHeadWrite (t v : Nat)
  /-- R424. A write enables or disables a ring and resets its indices. -/
  | ringEnable (t : Nat) (ring : RingId) (v : Nat)
  /-- R428. A write to a transmit ring TAIL makes descriptors available. -/
  | txTailWrite (t ring v : Nat)
  /-- R429. A write to a receive ring TAIL posts empty buffers. -/
  | rxTailWrite (t ring v : Nat) (bufs : List (Nat × Nat))
  /-- R424. A write to a BAR register that has no row of its own. -/
  | pcieRegisterWrite (t bar off width v : Nat)
  /-- R426. An invalid BAR write is dropped, counted and raises event 0x0103. -/
  | invalidPostedWrite (t bar off width v : Nat)
  /-- R427. A transmit descriptor is fetched, checked and its frame read and keyed, or it is rejected. -/
  | txDescriptorFetch (t ring : Nat) (d : TxDescriptor)
  /-- R428. A keyed or rejected descriptor is written back, and HEAD advances. -/
  | txDescriptorComplete (t ring : Nat)
  /-- R429. An HP copy is written into receive buffers of its hashed ring. -/
  | rxCopyWrite (t queue : Nat)
  /-- R430. The moderation time passes, and the vector message is sent. -/
  | msixModerationExpired (t v : Nat)
  /-- R433. A link-down, hot reset, FLR or PERST resets the host interface alone. -/
  | pcieLinkReset (t : Nat)
  /-- R449. A REFCLK measurement gate ends, and the clock offsets and status are updated. -/
  | clockGateEnd (t timeref sdref pcie rc : Nat) (crystal : Option Nat)
  /-- R452. The crystal shows no oscillation within 1 s, and its failure is flagged. -/
  | crystalStartTimeout (t : Nat)
  /-- R112. Signal or PCS activity appears on a DOWN port, and it enters TRAINING. -/
  | signalDetected (t port : Nat)
  /-- R112. The signal disappears from a port in TRAINING, and it returns to DOWN. -/
  | signalLost (t port : Nat)
  /-- R437. The PCIe data link comes up, and HP enters UP. -/
  | pcieLinkUp (t lanes gen : Nat)
  /-- R257. A LIN responder receives a header for an identifier it publishes and sends the response from Ford's latest PDU. -/
  | linHeaderReceived (t n id : Nat)
  /-- R30. The synchronised time passes the held order time after a permitted backward step, and order time advances again. -/
  | orderTimeResume (t : Nat)
  /-- R360. Re-execution after a rollback does not reach the next checkpoint within 5 µs, and the pair fails. -/
  | reexecutionTimeout (t p : Nat)
  /-- R299. The safety manager does not refresh Saddle's liveness input within 100 µs. The member ceases to be live, so HB_TX and the heartbeat counter stop, and ROLE_OUT falls after 500 ns. -/
  | livenessLapse (t : Nat) (lapsed : Bool)
  /-- R322. The authority reads ROLE_IN low for 1 µs while the partner is out of step, and it takes the released tokens. -/
  | roleInReleased (t : Nat) (pins : Pins)
  /-- R347. No journal record claims a relayed frame within 10 µs, and the sender discards its retained copy. -/
  | retainedCopyDiscard (t : Nat)
  /-- R372. A monitored clock returns within tolerance, or a PLL regains lock, and its fault input becomes inactive. -/
  | clockMonitorCleared (t n : Nat)
  /-- R340. Transitions are present on an Elnar receive lane for 1 µs, and LOS clears so that alignment can begin. -/
  | losCleared (t r : Nat)
  deriving DecidableEq, Repr

end Sys2Proof
end

