-- ==== Sys2Proof/Config.lean ====
section
/-! DEFINITION. What one device has fixed at manufacture, the cryptographic functions whose standards the spec only names,
and the free values: constants without a body, so that no proof can lean on a value. -/

namespace Sys2Proof.Config

/-- Serial number, fused (Table 19.3). -/
opaque serial : BitVec 128
/-- Base MAC address, fused, as 6 bytes with the first wire byte lowest; bits [4:0] of the last byte read clear (R438). -/
opaque baseMac : BitVec 48
/-- Boot ROM version, fused (Table 19.3). -/
opaque bootRom : BitVec 32
/-- Running firmware build (Table 19.4). -/
opaque firmwareBuild : BitVec 32
/-- Degradation limit of ageing monitor k, fused at test, in ppm (R420). -/
opaque ageLimit : Nat → BitVec 32
/-- The unique device secret (R381). -/
opaque uds : BitVec 384

/-- SHA-384 of octets (R67, R79). -/
opaque sha384 : Bytes → BitVec 384
/-- AES-CMAC under a key (R72, R276, R303). -/
opaque cmac : Nat → Bytes → BitVec 128
/-- HKDF-SHA-384 of input key, salt and info: the first 64 bytes of its output (R73, R381). -/
opaque hkdf : Bytes → Bytes → Bytes → BitVec 512
/-- The uncompressed point of an ECDSA P-384 key pair from its seed (R381). -/
opaque ecPublic : Nat → BitVec 776
/-- The public key of an ML-DSA-65 key pair from its seed (R381). -/
opaque mlPublic : Nat → BitVec 15616
/-- A signature by the device key in a slot over octets (R386): up to 3,309 bytes. -/
opaque signature : Nat → Bytes → BitVec 26472

/-- Whether a FlexRay configuration's 32 parameter words meet the constraints of ISO 17458, which the spec only names (R260). -/
opaque iso17458 : Bytes → Bool

/-- The bit error rate that the device shows when no bit has been received over the second, by the errors (R421). -/
opaque rateOverNothing : Nat → BitVec 32

/-- The n-th random number the device draws: nonces, challenges, questions, generated keys. -/
opaque freeRandom : Nat → BitVec 256
/-- The n-th value that the spec leaves open after an operation that goes on. -/
opaque freeValue : Nat → BitVec 64

end Sys2Proof.Config
end

