-- ==== Sys2Proof/Machine/Bits.lean ====
section
/-! DEFINITION. Bit fields, byte orders, signed values, checksums and keyed lists: the helpers the meanings share. -/

namespace Sys2Proof.Machine

/-- Bit `i` of `n` (R4: bit 0 is the least significant). -/
def bitOf (n i : Nat) : Bool := n.testBit i

/-- `n` with bit `i` set. -/
def setBitAt (n i : Nat) : Nat := n ||| (1 <<< i)

/-- `n` with bit `i` clear. -/
def clearBitAt (n i : Nat) : Nat := n ^^^ (n &&& (1 <<< i))

/-- `n` with bit `i` equal to `b`. -/
def putBitAt (n i : Nat) (b : Bool) : Nat := if b then setBitAt n i else clearBitAt n i

/-- The field `[hi:lo]` of `n`. -/
def fieldOf (n hi lo : Nat) : Nat := (n >>> lo) % 2 ^ (hi + 1 - lo)

/-- 0 or 1. -/
def natOfBool (b : Bool) : Nat := if b then 1 else 0

/-- Bits `0 … k - 1` of `n` that are set, ascending. -/
def bitsSet (n k : Nat) : List Nat := (List.range k).filter (fun i => n.testBit i)

/-- Least significant byte first (R5). -/
def leNat : Bytes → Nat
  | [] => 0
  | b :: bs => b.toNat + 256 * leNat bs

/-- Most significant byte first (R5). -/
def beNat (bs : Bytes) : Nat := bs.foldl (fun a b => a * 256 + b.toNat) 0

/-- The `k` bytes of `n`, least significant first. -/
def toLE : Nat → Nat → Bytes
  | 0, _ => []
  | k + 1, n => BitVec.ofNat 8 n :: toLE k (n / 256)

/-- The `k` bytes of `n`, most significant first. -/
def toBE (k n : Nat) : Bytes := (toLE k n).reverse

/-- Byte `i`, 0 past the end. -/
def byteAt (bs : Bytes) (i : Nat) : Nat := (bs.getD i 0).toNat

/-- The `n` bytes from offset `i`, zero filled. -/
def slice (bs : Bytes) (i n : Nat) : Bytes :=
  let part := (bs.drop i).take n
  part ++ List.replicate (n - part.length) 0

/-- `n`-byte field at offset `i`, most significant byte first. -/
def beAt (bs : Bytes) (i n : Nat) : Nat := beNat (slice bs i n)

/-- `n`-byte field at offset `i`, least significant byte first. -/
def leAt (bs : Bytes) (i n : Nat) : Nat := leNat (slice bs i n)

/-- Bytes `lo … lo + n - 1` of a value held least significant byte first. -/
def subBytes (v lo n : Nat) : Nat := (v / 2 ^ (8 * lo)) % 2 ^ (8 * n)

/-- `v` with the `n` bytes from `lo` replaced by `x`. -/
def putBytes (v lo n x : Nat) : Nat :=
  v % 2 ^ (8 * lo) + (x % 2 ^ (8 * n)) * 2 ^ (8 * lo)
    + (v / 2 ^ (8 * (lo + n))) * 2 ^ (8 * (lo + n))

/-- The `w`-bit two's complement reading of `v`. -/
def sgnOf (w v : Nat) : Int := if v < 2 ^ (w - 1) then (v : Int) else (v : Int) - (2 ^ w : Nat)

/-- The `w`-bit two's complement encoding of `i`. -/
def encSgn (w : Nat) (i : Int) : Nat := (i % (2 ^ w : Nat)).toNat

/-- Keep `i` within `lo … hi`. -/
def clipInt (i lo hi : Int) : Int := if i < lo then lo else if hi < i then hi else i

/-- The TIME80 encoding of `ns` nanoseconds (Table 3.1). -/
def time80Of (ns : Nat) : Nat := (ns / 1000000000) % 2 ^ 48 + (ns % 1000000000) * 2 ^ 48

/-- Nanoseconds of a TIME80 value. -/
def time80Ns (v : Nat) : Nat := (v % 2 ^ 48) * 1000000000 + (v / 2 ^ 48) % 2 ^ 32

/-- The 96-bit value of an order key, as its 12 bytes hold it least significant byte first (Table 2.1). -/
def okeyNat (k : OKey) : Nat := k.seq % 65536 + (k.src % 65536) * 65536 + (k.epoch % 2 ^ 64) * 2 ^ 32

/-- One order key strictly precedes another, cases 1 to 3 of R33. -/
def okeyLt (a b : OKey) : Bool :=
  decide (a.epoch < b.epoch) ||
  (decide (a.epoch = b.epoch) && (decide (a.src < b.src) ||
    (decide (a.src = b.src) &&
      let d := (b.seq + 65536 - a.seq % 65536) % 65536
      decide (1 ≤ d) && decide (d ≤ 32767))))

/-- Insert by order key, after every element that it does not precede (case 4 of R33: arrival order). -/
def insertByKey {α : Type} (key : α → OKey) (x : α) : List α → List α
  | [] => [x]
  | y :: ys => if okeyLt (key x) (key y) then x :: y :: ys else y :: insertByKey key x ys

/-! ### Keyed lists in one canonical form -/

/-- Read a keyed list; an unlisted key reads as `d k`. -/
def kget {β : Type} (d : Nat → β) : List (Nat × β) → Nat → β
  | [], k => d k
  | (j, v) :: l, k => if j = k then v else kget d l k

/-- Read a keyed list; none for an unlisted key. -/
def kfind {β : Type} : List (Nat × β) → Nat → Option β
  | [], _ => none
  | (j, v) :: l, k => if j = k then some v else kfind l k

/-- Remove a key. -/
def kdel {β : Type} : List (Nat × β) → Nat → List (Nat × β)
  | [], _ => []
  | (j, v) :: l, k => if j = k then kdel l k else (j, v) :: kdel l k

/-- Write a key, keeping the keys strictly rising. -/
def kins {β : Type} : List (Nat × β) → Nat → β → List (Nat × β)
  | [], k, v => [(k, v)]
  | (j, w) :: l, k, v =>
    if k < j then (k, v) :: (j, w) :: l
    else if k = j then (k, v) :: l
    else (j, w) :: kins l k v

/-- Write a key; writing what an unlisted key reads as removes the entry. -/
def kput {β : Type} [DecidableEq β] (d : Nat → β) (l : List (Nat × β)) (k : Nat) (v : β) : List (Nat × β) :=
  if v = d k then kdel l k else kins l k v

/-- Strictly rising keys from `lo`, and no entry equal to what an unlisted key reads as. -/
def kwfFrom {β : Type} [DecidableEq β] (d : Nat → β) : Nat → List (Nat × β) → Bool
  | _, [] => true
  | lo, (j, v) :: l => decide (lo ≤ j) && decide (v ≠ d j) && kwfFrom d (j + 1) l

/-- The canonical form of a keyed list. -/
def kwf {β : Type} [DecidableEq β] (d : Nat → β) (l : List (Nat × β)) : Bool := kwfFrom d 0 l

/-! ### Lists of records addressed by position -/

/-- Element `i`, or the default. -/
def nth {α : Type} (l : List α) (i : Nat) (d : α) : α := l.getD i d

/-- Change element `i`, if there is one. -/
def modNth {α : Type} : List α → Nat → (α → α) → List α
  | [], _, _ => []
  | x :: xs, 0, f => f x :: xs
  | x :: xs, i + 1, f => x :: modNth xs i f

/-- Change every element that satisfies `p`. -/
def modWhere {α : Type} (p : α → Bool) (f : α → α) (l : List α) : List α :=
  l.map (fun x => if p x then f x else x)

/-- The first element that satisfies `p`, taken out of the list. -/
def takeFirst {α : Type} (p : α → Bool) : List α → Option (α × List α)
  | [] => none
  | x :: xs =>
    if p x then some (x, xs)
    else match takeFirst p xs with
      | none => none
      | some (y, ys) => some (y, x :: ys)

/-- Insert into a list sorted by `lt`, after equals. -/
def insertSorted {α : Type} (lt : α → α → Bool) (x : α) : List α → List α
  | [] => [x]
  | y :: ys => if lt x y then x :: y :: ys else y :: insertSorted lt x ys

/-- Insertion sort: structural, so that it evaluates in the kernel. -/
def sortBy {α : Type} (lt : α → α → Bool) (l : List α) : List α := l.foldl (fun acc x => insertSorted lt x acc) []

/-- Number of set bits among the lowest `k`. -/
def popCount (n k : Nat) : Nat := (bitsSet n k).length

/-- The elements of a list without repeats, first occurrences kept. -/
def distinct (l : List Nat) : List Nat := l.foldl (fun a x => if x ∈ a then a else a ++ [x]) []

/-- A port mask from a list of ports. -/
def maskOfPorts (l : List Nat) : Nat := l.foldl setBitAt 0

/-- The smallest natural number below `n` that satisfies `p`, searching upward. -/
def firstBelow (n : Nat) (p : Nat → Bool) : Option Nat := (List.range n).find? p

/-! ### Checksums -/

/-- One bit of a reflected CRC. -/
def crcBitRefl (poly r : Nat) : Nat := if r % 2 = 1 then (r / 2) ^^^ poly else r / 2

/-- One byte of a reflected CRC. -/
def crcByteRefl (poly r : Nat) (b : Byte) : Nat :=
  (List.range 8).foldl (fun a _ => crcBitRefl poly a) (r ^^^ b.toNat)

/-- CRC-32 of IEEE 802.3 (Table 3.6). -/
def crc32 (bs : Bytes) : Nat := (bs.foldl (crcByteRefl 0xEDB88320) 0xFFFFFFFF) ^^^ 0xFFFFFFFF

/-- One bit of an unreflected CRC of width `w`. -/
def crcBitMsb (w poly r : Nat) : Nat :=
  if r.testBit (w - 1) then ((r * 2) % 2 ^ w) ^^^ poly else (r * 2) % 2 ^ w

/-- An unreflected CRC of width `w`, most significant bit first, without final XOR. -/
def crcMsb (w poly init : Nat) (bs : Bytes) : Nat :=
  bs.foldl (fun r b => (List.range 8).foldl (fun a _ => crcBitMsb w poly a) (r ^^^ (b.toNat <<< (w - 8)))) init

end Sys2Proof.Machine
end

