-- ==== Sys2Proof/Machine/DictTable.lean ====
section
/-! DEFINITION. The object dictionary's entries as the reference tables give them: placement, type, access code, default,
rights, scope, and the encoding and range checks of one value. -/

namespace Sys2Proof.Machine

/-- Type encodings (Table 3.1); signed types carry their length in bytes. -/
inductive Ty
  | bool | uns (n : Nat) | sgn (n : Nat) | time80 | oct (n : Nat) | str (n : Nat) | dom
  deriving DecidableEq, Repr

/-- Access codes (Table 3.2). -/
inductive Acc
  | co | ro | rw | wo | rc | rws | w1
  deriving DecidableEq, Repr

/-- Checks of a value alone (R6): a numeric range (0x0005), an enumeration or reserved bits (0x0006). -/
inductive Chk
  | any
  | rng (lo hi : Nat)
  | srng (lo hi : Int)
  | zeroOr (lo hi : Nat)
  | oneOf (vals : List Nat)
  | mask (allowed : Nat)
  | both (a b : Chk)
  deriving DecidableEq, Repr

/-- One row of a dictionary table: `cnt` consecutive indices from `idx`, sub-indices `lo … hi`. Rights are a mask:
1 host, 2 management Ethernet, 4 CAN, 8 partner, 16 firmware. -/
structure EntryDef where
  idx : Nat
  cnt : Nat
  lo : Nat
  hi : Nat
  ty : Ty
  acc : Acc
  dflt : Nat
  rights : Nat
  perMember : Bool
  perIface : Bool
  chk : Chk
  deriving DecidableEq, Repr

/-- Bytes of a type (Table 3.1); a domain has no fixed length. -/
def Ty.bytes : Ty → Nat
  | .bool => 1 | .uns n => n | .sgn n => n | .time80 => 10 | .oct n => n | .str n => n | .dom => 0


/-- Entries of access, staging, sessions, journals (Tables 2.8, 3.14, 16.10, 17.6, 19.3 to 19.6), part 0. -/
def dictAccess0 : List EntryDef := [
  ⟨0x1000, 1, 0x00, 0x00, .uns 1, .co, 9, 15, true, false, .any⟩,
  ⟨0x1000, 1, 0x01, 0x01, .uns 2, .co, 8042, 15, true, false, .any⟩,
  ⟨0x1000, 1, 0x02, 0x02, .uns 2, .co, 1856, 15, true, false, .any⟩,
  ⟨0x1000, 1, 0x03, 0x03, .uns 2, .co, 176, 15, true, false, .any⟩,
  ⟨0x1000, 1, 0x04, 0x04, .uns 4, .co, 163840, 15, true, false, .any⟩,
  ⟨0x1000, 1, 0x05, 0x05, .str 16, .co, 0x3034375a564f, 15, true, false, .any⟩,
  ⟨0x1000, 1, 0x06, 0x06, .str 16, .co, 0x5030412d3034375a564f, 15, true, false, .any⟩,
  ⟨0x1000, 1, 0x07, 0x07, .oct 16, .ro, 0, 15, true, false, .any⟩,
  ⟨0x1000, 1, 0x08, 0x08, .oct 6, .ro, 0, 15, true, false, .any⟩,
  ⟨0x1000, 1, 0x09, 0x09, .uns 4, .ro, 0, 15, true, false, .any⟩,
  ⟨0x1001, 1, 0x00, 0x00, .uns 1, .co, 17, 15, true, false, .any⟩,
  ⟨0x1001, 1, 0x01, 0x01, .uns 2, .ro, 0, 15, true, false, .any⟩,
  ⟨0x1001, 1, 0x02, 0x02, .uns 4, .ro, 0, 15, true, false, .any⟩,
  ⟨0x1001, 1, 0x03, 0x03, .uns 4, .ro, 0, 15, false, false, .any⟩,
  ⟨0x1001, 1, 0x04, 0x04, .oct 48, .ro, 0, 15, false, false, .any⟩,
  ⟨0x1001, 1, 0x05, 0x05, .uns 1, .ro, 0, 15, true, false, .any⟩,
  ⟨0x1001, 1, 0x06, 0x06, .uns 4, .ro, 0, 15, true, false, .any⟩,
  ⟨0x1001, 1, 0x10, 0x10, .uns 2, .ro, 0, 15, false, false, .any⟩,
  ⟨0x1001, 1, 0x11, 0x11, .uns 2, .rc, 0, 15, false, false, .any⟩,
  ⟨0x1002, 1, 0x00, 0x00, .uns 1, .co, 4, 15, false, false, .any⟩,
  ⟨0x1002, 1, 0x01, 0x01, .uns 1, .wo, 0, 11, true, false, (.oneOf [1])⟩,
  ⟨0x1002, 1, 0x02, 0x02, .uns 1, .ro, 0, 15, true, false, .any⟩,
  ⟨0x1002, 1, 0x03, 0x03, .uns 1, .ro, 0, 15, true, false, .any⟩,
  ⟨0x1002, 1, 0x04, 0x04, .uns 4, .ro, 0, 15, true, false, .any⟩,
  ⟨0x1010, 1, 0x00, 0x00, .uns 1, .co, 10, 15, false, false, .any⟩,
  ⟨0x1010, 1, 0x01, 0x01, .uns 1, .rws, 15, 3, false, false, (.mask 0xF)⟩,
  ⟨0x1010, 1, 0x02, 0x02, .uns 1, .rws, 15, 3, false, false, (.mask 0xF)⟩,
  ⟨0x1010, 1, 0x03, 0x03, .uns 1, .rws, 3, 3, false, false, (.mask 0xF)⟩,
  ⟨0x1010, 1, 0x04, 0x04, .uns 1, .rws, 3, 3, false, false, (.mask 0xF)⟩,
  ⟨0x1010, 1, 0x05, 0x05, .uns 1, .rws, 255, 3, false, false, (.oneOf [0, 1, 2, 3, 4, 5, 6, 7, 8, 9, 10, 11, 12, 13, 14, 15, 16, 17, 18, 19, 20, 21, 22, 23, 255])⟩,
  ⟨0x1010, 1, 0x06, 0x06, .uns 1, .rws, 1, 3, false, false, (.rng 1 127)⟩,
  ⟨0x1010, 1, 0x07, 0x07, .uns 4, .rws, 1537, 3, false, false, (.mask 0x7FF)⟩,
  ⟨0x1010, 1, 0x08, 0x08, .uns 4, .rws, 1409, 3, false, false, (.mask 0x7FF)⟩,
  ⟨0x1010, 1, 0x09, 0x09, .uns 2, .rws, 1000, 3, false, false, (.rng 10 60000)⟩,
  ⟨0x1010, 1, 0x0A, 0x0A, .uns 2, .rws, 50212, 3, false, false, (.rng 1 65535)⟩,
  ⟨0x1020, 1, 0x00, 0x00, .uns 1, .co, 23, 15, true, false, .any⟩]

/-- Entries of access, staging, sessions, journals (Tables 2.8, 3.14, 16.10, 17.6, 19.3 to 19.6), part 1. -/
def dictAccess1 : List EntryDef := [
  ⟨0x1020, 1, 0x01, 0x01, .uns 1, .ro, 0, 15, true, false, .any⟩,
  ⟨0x1020, 1, 0x02, 0x02, .uns 4, .rws, 60000, 3, true, false, (.rng 1000 3600000)⟩,
  ⟨0x1020, 1, 0x03, 0x03, .uns 4, .rc, 0, 15, true, false, .any⟩,
  ⟨0x1020, 1, 0x04, 0x04, .uns 8, .rc, 0, 15, true, false, .any⟩,
  ⟨0x1020, 1, 0x05, 0x05, .uns 4, .ro, 0, 15, true, false, .any⟩,
  ⟨0x1020, 1, 0x06, 0x06, .uns 1, .wo, 0, 3, true, false, (.rng 1 8)⟩,
  ⟨0x1020, 1, 0x10, 0x17, .oct 32, .ro, 0, 15, true, false, .any⟩,
  ⟨0x1030, 1, 0x00, 0x00, .uns 1, .co, 4, 15, true, false, .any⟩,
  ⟨0x1030, 1, 0x01, 0x01, .uns 4, .ro, 0, 15, true, false, .any⟩,
  ⟨0x1030, 1, 0x02, 0x02, .uns 4, .rw, 0, 15, true, true, .any⟩,
  ⟨0x1030, 1, 0x03, 0x03, .oct 64, .ro, 0, 15, true, false, .any⟩,
  ⟨0x1030, 1, 0x04, 0x04, .uns 2, .ro, 0, 15, true, false, .any⟩,
  ⟨0x1200, 1, 0x00, 0x00, .uns 1, .co, 34, 15, true, false, .any⟩,
  ⟨0x1200, 1, 0x01, 0x01, .uns 2, .ro, 0, 15, true, false, .any⟩,
  ⟨0x1200, 1, 0x02, 0x02, .uns 4, .ro, 0, 15, true, false, .any⟩,
  ⟨0x1200, 1, 0x03, 0x03, .uns 4, .wo, 0, 3, true, false, .any⟩,
  ⟨0x1200, 1, 0x04, 0x04, .uns 4, .ro, 0, 15, true, false, .any⟩,
  ⟨0x1200, 1, 0x05, 0x05, .uns 2, .rws, 1, 3, true, false, (.rng 1 4096)⟩,
  ⟨0x1200, 1, 0x06, 0x06, .uns 1, .rws, 0, 3, true, false, (.rng 0 3)⟩,
  ⟨0x1200, 1, 0x10, 0x10, .uns 8, .wo, 0, 7, true, false, .any⟩,
  ⟨0x1200, 1, 0x11, 0x11, .uns 1, .ro, 0, 15, true, false, .any⟩,
  ⟨0x1200, 1, 0x12, 0x12, .uns 8, .ro, 0, 15, true, false, .any⟩,
  ⟨0x1200, 1, 0x13, 0x13, .uns 4, .rw, 0, 15, true, true, (.mask 0xFFFFFF)⟩,
  ⟨0x1200, 1, 0x14, 0x14, .uns 8, .ro, 0, 15, true, false, .any⟩,
  ⟨0x1200, 1, 0x20, 0x20, .uns 4, .ro, 0, 15, true, false, .any⟩,
  ⟨0x1200, 1, 0x21, 0x21, .uns 4, .rw, 0, 15, true, true, .any⟩,
  ⟨0x1200, 1, 0x22, 0x22, .oct 32, .ro, 0, 15, true, false, .any⟩,
  ⟨0x1201, 1, 0x00, 0x00, .uns 1, .co, 2, 15, true, false, .any⟩,
  ⟨0x1201, 1, 0x01, 0x01, .uns 4, .rw, 0, 15, true, true, .any⟩,
  ⟨0x1201, 1, 0x02, 0x02, .oct 32, .ro, 0, 15, true, false, .any⟩,
  ⟨0x1210, 1, 0x00, 0x00, .uns 1, .co, 9, 15, true, false, .any⟩,
  ⟨0x1210, 1, 0x01, 0x04, .uns 4, .rc, 0, 15, true, false, .any⟩,
  ⟨0x1210, 1, 0x05, 0x05, .uns 1, .rc, 0, 15, true, false, .any⟩,
  ⟨0x1210, 1, 0x06, 0x06, .uns 1, .rc, 0, 15, true, false, .any⟩,
  ⟨0x1210, 1, 0x07, 0x07, .uns 4, .ro, 0, 15, true, false, .any⟩,
  ⟨0x1210, 1, 0x08, 0x08, .uns 4, .rc, 0, 15, true, false, .any⟩]

/-- Entries of access, staging, sessions, journals (Tables 2.8, 3.14, 16.10, 17.6, 19.3 to 19.6), part 2. -/
def dictAccess2 : List EntryDef := [
  ⟨0x1210, 1, 0x09, 0x09, .uns 8, .rc, 0, 15, true, false, .any⟩,
  ⟨0x1300, 1, 0x00, 0x00, .uns 1, .co, 18, 15, false, false, .any⟩,
  ⟨0x1300, 1, 0x01, 0x01, .uns 1, .wo, 0, 7, false, false, (.oneOf [1])⟩,
  ⟨0x1300, 1, 0x02, 0x02, .uns 4, .co, 16384, 15, false, false, .any⟩,
  ⟨0x1300, 1, 0x10, 0x10, .dom, .wo, 0, 3, false, false, .any⟩,
  ⟨0x1300, 1, 0x11, 0x11, .uns 2, .ro, 0, 3, false, false, .any⟩,
  ⟨0x1300, 1, 0x12, 0x12, .uns 1, .wo, 0, 3, false, false, (.oneOf [1])⟩,
  ⟨0x1301, 1, 0x00, 0x00, .uns 1, .co, 4, 7, false, false, .any⟩,
  ⟨0x1301, 1, 0x01, 0x01, .uns 1, .rw, 0, 7, false, true, (.oneOf [0, 1])⟩,
  ⟨0x1301, 1, 0x02, 0x02, .uns 8, .rw, 0, 7, false, true, .any⟩,
  ⟨0x1301, 1, 0x03, 0x03, .uns 1, .rw, 0, 7, false, true, (.rng 0 31)⟩,
  ⟨0x1301, 1, 0x04, 0x04, .uns 1, .wo, 0, 7, false, false, (.oneOf [1])⟩,
  ⟨0x1302, 1, 0x00, 0x00, .uns 1, .co, 8, 15, false, false, .any⟩,
  ⟨0x1302, 1, 0x01, 0x01, .uns 1, .ro, 0, 15, false, false, .any⟩,
  ⟨0x1302, 1, 0x02, 0x02, .uns 2, .ro, 0, 15, false, false, .any⟩,
  ⟨0x1302, 1, 0x03, 0x03, .uns 4, .ro, 0, 15, false, false, .any⟩,
  ⟨0x1302, 1, 0x04, 0x04, .uns 8, .ro, 0, 15, false, false, .any⟩,
  ⟨0x1302, 1, 0x05, 0x05, .uns 2, .ro, 0, 15, false, false, .any⟩,
  ⟨0x1302, 1, 0x06, 0x06, .uns 4, .ro, 0, 15, false, false, .any⟩,
  ⟨0x1302, 1, 0x07, 0x07, .uns 4, .ro, 262144, 15, false, false, .any⟩,
  ⟨0x1302, 1, 0x08, 0x08, .uns 4, .ro, 0, 15, false, false, .any⟩]

/-- Entries of access, staging, sessions, journals (Tables 2.8, 3.14, 16.10, 17.6, 19.3 to 19.6). -/
def dictAccess : List EntryDef := dictAccess0 ++ dictAccess1 ++ dictAccess2

/-- Entries of time base, gPTP and timed I/O (Tables 2.8, 4.3, 4.4, 4.6), part 0. -/
def dictTime0 : List EntryDef := [
  ⟨0x2000, 1, 0x00, 0x00, .uns 1, .co, 19, 15, false, false, .any⟩,
  ⟨0x2000, 1, 0x01, 0x01, .uns 1, .rws, 0, 3, false, false, (.oneOf [0, 1, 2, 3])⟩,
  ⟨0x2000, 1, 0x02, 0x02, .bool, .rws, 0, 3, false, false, .any⟩,
  ⟨0x2000, 1, 0x03, 0x03, .uns 2, .rw, 500, 3, true, false, (.rng 1 500)⟩,
  ⟨0x2000, 1, 0x04, 0x04, .uns 1, .rw, 0, 3, true, false, (.mask 0xF)⟩,
  ⟨0x2000, 1, 0x05, 0x05, .uns 8, .ro, 0, 15, true, false, .any⟩,
  ⟨0x2000, 1, 0x06, 0x06, .uns 2, .ro, 0, 15, true, false, .any⟩,
  ⟨0x2000, 1, 0x07, 0x07, .uns 2, .rc, 0, 15, true, false, .any⟩,
  ⟨0x2000, 1, 0x10, 0x13, .oct 12, .ro, 0, 15, true, false, .any⟩,
  ⟨0x2001, 1, 0x00, 0x00, .uns 1, .co, 4, 15, false, false, .any⟩,
  ⟨0x2001, 1, 0x01, 0x04, .sgn 4, .rw, 0, 3, true, false, (.srng (-1099511627) (1099511627))⟩,
  ⟨0x2002, 1, 0x00, 0x00, .uns 1, .co, 12, 15, false, false, .any⟩,
  ⟨0x2002, 1, 0x01, 0x04, .sgn 8, .wo, 0, 3, true, false, .any⟩,
  ⟨0x2002, 1, 0x05, 0x08, .time80, .wo, 0, 3, true, false, .any⟩,
  ⟨0x2002, 1, 0x09, 0x0C, .sgn 8, .ro, 0, 15, true, false, .any⟩,
  ⟨0x2003, 1, 0x00, 0x00, .uns 1, .co, 4, 15, false, false, .any⟩,
  ⟨0x2003, 1, 0x01, 0x04, .uns 8, .rw, 0x10000000000, 3, true, false, (.rng 1098412116149 1100611139403)⟩,
  ⟨0x2004, 1, 0x00, 0x00, .uns 1, .co, 9, 15, false, false, .any⟩,
  ⟨0x2004, 1, 0x01, 0x04, .uns 1, .ro, 0, 15, true, false, .any⟩,
  ⟨0x2004, 1, 0x05, 0x08, .uns 8, .ro, 0, 15, true, false, .any⟩,
  ⟨0x2004, 1, 0x09, 0x09, .uns 4, .rw, 1000, 3, false, false, .any⟩,
  ⟨0x2005, 1, 0x00, 0x00, .uns 1, .co, 4, 15, false, false, .any⟩,
  ⟨0x2005, 1, 0x01, 0x01, .uns 8, .ro, 0, 15, false, false, .any⟩,
  ⟨0x2005, 1, 0x02, 0x02, .uns 8, .ro, 0, 15, false, false, .any⟩,
  ⟨0x2005, 1, 0x03, 0x03, .uns 4, .rc, 0, 15, false, false, .any⟩,
  ⟨0x2005, 1, 0x04, 0x04, .oct 13, .ro, 0, 15, false, false, .any⟩,
  ⟨0x2100, 4, 0x00, 0x00, .uns 1, .co, 11, 15, false, false, .any⟩,
  ⟨0x2100, 4, 0x01, 0x01, .bool, .rws, 0, 3, false, false, .any⟩,
  ⟨0x2100, 4, 0x02, 0x02, .uns 1, .rws, 0, 3, false, false, (.rng 0 127)⟩,
  ⟨0x2100, 4, 0x03, 0x03, .uns 1, .rws, 255, 3, false, false, .any⟩,
  ⟨0x2100, 4, 0x04, 0x04, .uns 1, .rws, 248, 3, false, false, .any⟩,
  ⟨0x2100, 4, 0x05, 0x05, .uns 1, .rws, 248, 3, false, false, .any⟩,
  ⟨0x2100, 4, 0x06, 0x06, .sgn 1, .rws, 253, 3, false, false, (.srng (-7) (1))⟩,
  ⟨0x2100, 4, 0x07, 0x07, .uns 1, .rws, 3, 3, false, false, (.rng 2 255)⟩,
  ⟨0x2100, 4, 0x08, 0x08, .oct 8, .ro, 0, 15, true, false, .any⟩,
  ⟨0x2100, 4, 0x09, 0x09, .sgn 8, .ro, 0, 15, true, false, .any⟩]

/-- Entries of time base, gPTP and timed I/O (Tables 2.8, 4.3, 4.4, 4.6), part 1. -/
def dictTime1 : List EntryDef := [
  ⟨0x2100, 4, 0x0A, 0x0A, .sgn 4, .ro, 0, 15, true, false, .any⟩,
  ⟨0x2100, 4, 0x0B, 0x0B, .uns 4, .rws, 1000, 3, false, false, (.rng 100 1000000000)⟩,
  ⟨0x2180, 32, 0x00, 0x00, .uns 1, .co, 11, 15, false, false, .any⟩,
  ⟨0x2180, 32, 0x01, 0x01, .uns 1, .rws, 0, 3, false, false, (.mask 0xF)⟩,
  ⟨0x2180, 32, 0x02, 0x02, .bool, .rws, 0, 3, false, false, .any⟩,
  ⟨0x2180, 32, 0x03, 0x03, .uns 1, .rws, 0, 3, false, false, .any⟩,
  ⟨0x2180, 32, 0x04, 0x04, .bool, .rws, 1, 3, false, false, .any⟩,
  ⟨0x2180, 32, 0x05, 0x05, .sgn 1, .rws, 0, 3, false, false, (.srng (-3) (5))⟩,
  ⟨0x2180, 32, 0x06, 0x06, .sgn 4, .rws, 0, 3, false, false, .any⟩,
  ⟨0x2180, 32, 0x07, 0x07, .sgn 4, .rws, 0, 3, false, false, .any⟩,
  ⟨0x2180, 32, 0x08, 0x08, .sgn 8, .rws, 0, 3, false, false, .any⟩,
  ⟨0x2180, 32, 0x09, 0x09, .sgn 8, .ro, 0, 15, true, false, .any⟩,
  ⟨0x2180, 32, 0x0A, 0x0A, .uns 1, .ro, 0, 15, true, false, .any⟩,
  ⟨0x2180, 32, 0x0B, 0x0B, .sgn 4, .ro, 0, 15, true, false, .any⟩,
  ⟨0x2200, 1, 0x00, 0x00, .uns 1, .co, 4, 15, false, false, .any⟩,
  ⟨0x2200, 1, 0x01, 0x01, .uns 2, .rws, 0, 3, false, false, .any⟩,
  ⟨0x2200, 1, 0x02, 0x02, .uns 2, .rws, 0, 3, false, false, .any⟩,
  ⟨0x2200, 1, 0x03, 0x03, .sgn 2, .rws, 0, 3, false, false, (.srng (-100) (100))⟩,
  ⟨0x2200, 1, 0x04, 0x04, .uns 4, .rc, 0, 15, true, false, .any⟩,
  ⟨0x2210, 16, 0x00, 0x00, .uns 1, .co, 8, 15, false, false, .any⟩,
  ⟨0x2210, 16, 0x01, 0x01, .uns 1, .rws, 0, 3, false, false, (.oneOf [0, 1, 2, 3])⟩,
  ⟨0x2210, 16, 0x02, 0x02, .time80, .rws, 0, 3, false, false, .any⟩,
  ⟨0x2210, 16, 0x03, 0x03, .sgn 8, .rws, 65536000000, 3, false, false, (.rng 6553600 65536000000000)⟩,
  ⟨0x2210, 16, 0x04, 0x04, .uns 4, .rws, 1000, 3, false, false, .any⟩,
  ⟨0x2210, 16, 0x05, 0x05, .bool, .rws, 0, 3, false, false, .any⟩,
  ⟨0x2210, 16, 0x06, 0x06, .uns 4, .ro, 0, 15, false, false, .any⟩,
  ⟨0x2210, 16, 0x07, 0x07, .uns 4, .rc, 0, 15, false, false, .any⟩,
  ⟨0x2210, 16, 0x08, 0x08, .uns 1, .ro, 0, 15, true, false, .any⟩,
  ⟨0x2220, 16, 0x00, 0x00, .uns 1, .co, 6, 15, false, false, .any⟩,
  ⟨0x2220, 16, 0x01, 0x01, .uns 1, .rws, 0, 3, false, false, (.oneOf [0, 1, 2, 3])⟩,
  ⟨0x2220, 16, 0x02, 0x02, .uns 2, .rws, 0, 3, false, false, (.rng 0 1000)⟩,
  ⟨0x2220, 16, 0x03, 0x03, .oct 12, .rc, 0, 15, true, false, .any⟩,
  ⟨0x2220, 16, 0x04, 0x04, .uns 1, .ro, 0, 15, true, false, .any⟩,
  ⟨0x2220, 16, 0x05, 0x05, .uns 4, .rc, 0, 15, false, false, .any⟩,
  ⟨0x2220, 16, 0x06, 0x06, .bool, .rws, 0, 3, false, false, .any⟩]

/-- Entries of time base, gPTP and timed I/O (Tables 2.8, 4.3, 4.4, 4.6). -/
def dictTime : List EntryDef := dictTime0 ++ dictTime1

/-- Entries of ports and PHYs (Tables 4.5, 5.4 to 5.8), part 0. -/
def dictPort0 : List EntryDef := [
  ⟨0x3000, 32, 0x00, 0x00, .uns 1, .co, 14, 15, false, false, .any⟩,
  ⟨0x3000, 32, 0x01, 0x01, .bool, .rws, 1, 3, false, false, .any⟩,
  ⟨0x3000, 32, 0x02, 0x02, .uns 1, .rws, 0, 3, false, false, .any⟩,
  ⟨0x3000, 32, 0x03, 0x03, .uns 2, .rws, 1522, 3, false, false, .any⟩,
  ⟨0x3000, 32, 0x04, 0x04, .uns 1, .rws, 0, 3, false, false, (.oneOf [0, 1])⟩,
  ⟨0x3000, 32, 0x05, 0x05, .uns 2, .rws, 500, 3, false, false, (.rng 1 500)⟩,
  ⟨0x3000, 32, 0x06, 0x06, .uns 2, .rws, 0, 3, false, false, (.rng 0 1000)⟩,
  ⟨0x3000, 32, 0x07, 0x07, .uns 1, .rws, 0, 3, false, false, (.mask 0x3)⟩,
  ⟨0x3000, 32, 0x08, 0x08, .uns 1, .rws, 0, 3, false, false, .any⟩,
  ⟨0x3000, 32, 0x09, 0x09, .uns 1, .rws, 0, 3, false, false, .any⟩,
  ⟨0x3000, 32, 0x0A, 0x0A, .uns 1, .rws, 0, 3, false, false, .any⟩,
  ⟨0x3000, 32, 0x0B, 0x0B, .uns 4, .rws, 196608, 3, false, false, .any⟩,
  ⟨0x3000, 32, 0x0C, 0x0C, .uns 4, .rws, 131072, 3, false, false, .any⟩,
  ⟨0x3000, 32, 0x0D, 0x0D, .uns 2, .rws, 65535, 3, false, false, (.rng 1 65535)⟩,
  ⟨0x3000, 32, 0x0E, 0x0E, .uns 4, .co, 0, 15, false, false, .any⟩,
  ⟨0x3040, 32, 0x00, 0x00, .uns 1, .co, 11, 15, true, false, .any⟩,
  ⟨0x3040, 32, 0x01, 0x01, .uns 1, .ro, 0, 15, true, false, .any⟩,
  ⟨0x3040, 32, 0x02, 0x02, .uns 4, .ro, 0, 15, true, false, .any⟩,
  ⟨0x3040, 32, 0x03, 0x03, .bool, .ro, 0, 15, true, false, .any⟩,
  ⟨0x3040, 32, 0x04, 0x04, .bool, .ro, 0, 15, true, false, .any⟩,
  ⟨0x3040, 32, 0x05, 0x05, .uns 2, .ro, 0, 15, true, false, .any⟩,
  ⟨0x3040, 32, 0x06, 0x06, .uns 2, .rc, 0, 15, true, false, .any⟩,
  ⟨0x3040, 32, 0x07, 0x07, .uns 4, .rc, 0, 15, true, false, .any⟩,
  ⟨0x3040, 32, 0x08, 0x08, .uns 1, .ro, 0, 15, true, false, .any⟩,
  ⟨0x3040, 32, 0x09, 0x09, .uns 2, .ro, 0, 15, true, false, .any⟩,
  ⟨0x3040, 32, 0x0A, 0x0A, .uns 4, .ro, 0, 15, true, false, .any⟩,
  ⟨0x3040, 32, 0x0B, 0x0B, .uns 2, .rc, 0, 15, true, false, .any⟩,
  ⟨0x3080, 32, 0x00, 0x00, .uns 1, .co, 33, 15, false, false, .any⟩,
  ⟨0x3080, 32, 0x01, 0x01, .uns 8, .rc, 0, 15, true, false, .any⟩,
  ⟨0x3080, 32, 0x02, 0x02, .uns 8, .rc, 0, 15, true, false, .any⟩,
  ⟨0x3080, 32, 0x03, 0x05, .uns 8, .rc, 0, 15, true, false, .any⟩,
  ⟨0x3080, 32, 0x06, 0x06, .uns 8, .rc, 0, 15, true, false, .any⟩,
  ⟨0x3080, 32, 0x07, 0x07, .uns 8, .rc, 0, 15, true, false, .any⟩,
  ⟨0x3080, 32, 0x08, 0x08, .uns 8, .rc, 0, 15, true, false, .any⟩,
  ⟨0x3080, 32, 0x09, 0x09, .uns 8, .rc, 0, 15, true, false, .any⟩,
  ⟨0x3080, 32, 0x0A, 0x0A, .uns 8, .rc, 0, 15, true, false, .any⟩]

/-- Entries of ports and PHYs (Tables 4.5, 5.4 to 5.8), part 1. -/
def dictPort1 : List EntryDef := [
  ⟨0x3080, 32, 0x0B, 0x0B, .uns 8, .rc, 0, 15, true, false, .any⟩,
  ⟨0x3080, 32, 0x0C, 0x0C, .uns 8, .rc, 0, 15, true, false, .any⟩,
  ⟨0x3080, 32, 0x0D, 0x0D, .uns 8, .rc, 0, 15, true, false, .any⟩,
  ⟨0x3080, 32, 0x10, 0x10, .uns 8, .rc, 0, 15, true, false, .any⟩,
  ⟨0x3080, 32, 0x11, 0x11, .uns 8, .rc, 0, 15, true, false, .any⟩,
  ⟨0x3080, 32, 0x12, 0x14, .uns 8, .rc, 0, 15, true, false, .any⟩,
  ⟨0x3080, 32, 0x15, 0x15, .uns 8, .rc, 0, 15, true, false, .any⟩,
  ⟨0x3080, 32, 0x16, 0x16, .uns 8, .rc, 0, 15, true, false, .any⟩,
  ⟨0x3080, 32, 0x17, 0x17, .uns 8, .rc, 0, 15, true, false, .any⟩,
  ⟨0x3080, 32, 0x18, 0x18, .uns 8, .rc, 0, 15, true, false, .any⟩,
  ⟨0x3080, 32, 0x19, 0x19, .uns 8, .rc, 0, 15, true, false, .any⟩,
  ⟨0x3080, 32, 0x1A, 0x1A, .uns 8, .rc, 0, 15, true, false, .any⟩,
  ⟨0x3080, 32, 0x1B, 0x1B, .uns 8, .rc, 0, 15, true, false, .any⟩,
  ⟨0x3080, 32, 0x20, 0x20, .uns 8, .rc, 0, 15, true, false, .any⟩,
  ⟨0x3080, 32, 0x21, 0x21, .uns 8, .rc, 0, 15, true, false, .any⟩,
  ⟨0x30C0, 20, 0x00, 0x00, .uns 1, .co, 26, 15, false, false, .any⟩,
  ⟨0x30C0, 20, 0x01, 0x01, .uns 1, .rws, 0, 3, false, false, (.oneOf [0, 1])⟩,
  ⟨0x30C0, 20, 0x02, 0x02, .uns 1, .rws, 0, 3, false, false, (.rng 0 31)⟩,
  ⟨0x30C0, 20, 0x03, 0x03, .uns 1, .rws, 0, 3, false, false, (.oneOf [0, 1, 2])⟩,
  ⟨0x30C0, 20, 0x04, 0x04, .uns 4, .rws, 0, 3, false, false, (.mask 0x1FFFFF)⟩,
  ⟨0x30C0, 20, 0x05, 0x05, .uns 2, .rws, 0, 3, false, false, .any⟩,
  ⟨0x30C0, 20, 0x06, 0x06, .uns 2, .rws, 0, 3, false, false, .any⟩,
  ⟨0x30C0, 20, 0x07, 0x07, .uns 2, .rws, 0, 3, false, false, .any⟩,
  ⟨0x30C0, 20, 0x08, 0x08, .uns 4, .rws, 100000, 3, false, false, (.rng 10000 100000000)⟩,
  ⟨0x30C0, 20, 0x09, 0x09, .uns 4, .rw, 0, 3, true, false, (.mask 0x801FFFFF)⟩,
  ⟨0x30C0, 20, 0x0A, 0x0A, .uns 2, .rw, 0, 3, true, false, .any⟩,
  ⟨0x30C0, 20, 0x0B, 0x0B, .uns 1, .wo, 0, 3, false, false, (.oneOf [1, 2])⟩,
  ⟨0x30C0, 20, 0x0C, 0x0C, .uns 2, .ro, 0, 3, true, false, .any⟩,
  ⟨0x30C0, 20, 0x10, 0x10, .uns 1, .rws, 1, 3, false, false, (.oneOf [0, 1])⟩,
  ⟨0x30C0, 20, 0x11, 0x11, .uns 1, .ro, 0, 15, true, false, .any⟩,
  ⟨0x30C0, 20, 0x12, 0x12, .uns 1, .rc, 0, 15, true, false, .any⟩,
  ⟨0x30C0, 20, 0x13, 0x13, .uns 1, .rws, 4, 3, false, false, (.rng 0 7)⟩,
  ⟨0x30C0, 20, 0x14, 0x14, .uns 1, .wo, 0, 3, false, false, (.oneOf [1])⟩,
  ⟨0x30C0, 20, 0x15, 0x15, .uns 1, .ro, 0, 15, true, false, .any⟩,
  ⟨0x30C0, 20, 0x16, 0x16, .uns 2, .ro, 0, 15, true, false, .any⟩,
  ⟨0x30C0, 20, 0x17, 0x17, .bool, .rws, 1, 3, false, false, .any⟩]

/-- Entries of ports and PHYs (Tables 4.5, 5.4 to 5.8), part 2. -/
def dictPort2 : List EntryDef := [
  ⟨0x30C0, 20, 0x18, 0x18, .uns 1, .wo, 0, 3, false, false, (.oneOf [1, 2])⟩,
  ⟨0x30C0, 20, 0x19, 0x19, .uns 2, .rws, 0, 3, false, false, (.mask 0xFFF)⟩,
  ⟨0x30C0, 20, 0x1A, 0x1A, .uns 1, .ro, 0, 15, true, false, .any⟩,
  ⟨0x3100, 20, 0x00, 0x00, .uns 1, .co, 25, 15, false, false, .any⟩,
  ⟨0x3100, 20, 0x01, 0x01, .bool, .rws, 0, 3, false, false, .any⟩,
  ⟨0x3100, 20, 0x02, 0x02, .uns 1, .rws, 0, 3, false, false, (.oneOf [0, 1, 2])⟩,
  ⟨0x3100, 20, 0x03, 0x03, .uns 1, .rws, 2, 3, false, false, (.oneOf [0, 1, 2])⟩,
  ⟨0x3100, 20, 0x04, 0x04, .bool, .rws, 1, 3, false, false, .any⟩,
  ⟨0x3100, 20, 0x05, 0x05, .uns 4, .rws, 0, 3, false, false, .any⟩,
  ⟨0x3100, 20, 0x06, 0x06, .bool, .rws, 1, 3, false, false, .any⟩,
  ⟨0x3100, 20, 0x07, 0x07, .uns 1, .rws, 0, 3, false, false, (.oneOf [0, 30, 50])⟩,
  ⟨0x3100, 20, 0x08, 0x08, .bool, .rws, 1, 3, false, false, .any⟩,
  ⟨0x3100, 20, 0x09, 0x09, .uns 8, .rws, 3221225472, 3, false, false, .any⟩,
  ⟨0x3100, 20, 0x0A, 0x0A, .oct 8, .ro, 0, 15, true, false, .any⟩,
  ⟨0x3100, 20, 0x0B, 0x0B, .uns 1, .ro, 0, 15, true, false, .any⟩,
  ⟨0x3100, 20, 0x0C, 0x0C, .uns 8, .ro, 1, 15, true, false, .any⟩,
  ⟨0x3100, 20, 0x0D, 0x0D, .uns 1, .ro, 0, 15, true, false, .any⟩,
  ⟨0x3100, 20, 0x10, 0x10, .uns 8, .rc, 0, 15, false, false, .any⟩,
  ⟨0x3100, 20, 0x11, 0x11, .uns 8, .rc, 0, 15, false, false, .any⟩,
  ⟨0x3100, 20, 0x12, 0x12, .uns 8, .rc, 0, 15, false, false, .any⟩,
  ⟨0x3100, 20, 0x13, 0x13, .uns 8, .rc, 0, 15, false, false, .any⟩,
  ⟨0x3100, 20, 0x14, 0x14, .uns 8, .rc, 0, 15, false, false, .any⟩,
  ⟨0x3100, 20, 0x15, 0x15, .uns 8, .rc, 0, 15, false, false, .any⟩,
  ⟨0x3100, 20, 0x16, 0x16, .uns 8, .rc, 0, 15, false, false, .any⟩,
  ⟨0x3100, 20, 0x17, 0x17, .uns 8, .rc, 0, 15, false, false, .any⟩,
  ⟨0x3100, 20, 0x18, 0x18, .uns 8, .rc, 0, 15, false, false, .any⟩,
  ⟨0x3100, 20, 0x19, 0x19, .uns 8, .rc, 0, 15, false, false, .any⟩,
  ⟨0x3140, 28, 0x00, 0x00, .uns 1, .co, 4, 15, false, false, .any⟩,
  ⟨0x3140, 28, 0x01, 0x01, .oct 16, .rc, 0, 15, true, false, .any⟩,
  ⟨0x3140, 28, 0x02, 0x02, .uns 1, .ro, 0, 15, true, false, .any⟩,
  ⟨0x3140, 28, 0x03, 0x03, .uns 4, .rc, 0, 15, true, false, .any⟩,
  ⟨0x3140, 28, 0x04, 0x04, .uns 1, .rc, 0, 15, true, false, .any⟩]

/-- Entries of ports and PHYs (Tables 4.5, 5.4 to 5.8). -/
def dictPort : List EntryDef := dictPort0 ++ dictPort1 ++ dictPort2

/-- Entries of queues, gates and preemption (Tables 5.9, 8.9, 9.6, 9.7), part 0. -/
def dictQueue0 : List EntryDef := [
  ⟨0x3400, 32, 0x00, 0x00, .uns 1, .co, 127, 15, false, false, .any⟩,
  ⟨0x3400, 32, 0x01, 0x01, .bool, .rws, 0, 3, false, false, .any⟩,
  ⟨0x3400, 32, 0x02, 0x02, .uns 4, .rws, 0, 3, false, false, .any⟩,
  ⟨0x3400, 32, 0x03, 0x03, .sgn 2, .rws, 20, 3, false, false, (.srng (-32) (255))⟩,
  ⟨0x3400, 32, 0x04, 0x04, .uns 4, .rws, 1542, 3, false, false, (.rng 64 9503)⟩,
  ⟨0x3400, 32, 0x05, 0x05, .sgn 8, .ro, 0, 15, true, false, .any⟩,
  ⟨0x3400, 32, 0x06, 0x06, .sgn 8, .ro, 0, 15, true, false, .any⟩,
  ⟨0x3400, 32, 0x07, 0x07, .sgn 8, .ro, 0, 15, true, false, .any⟩,
  ⟨0x3400, 32, 0x08, 0x08, .uns 4, .rws, 64, 3, false, false, (.rng 0 65536)⟩,
  ⟨0x3400, 32, 0x09, 0x09, .uns 4, .rws, 65536, 3, false, false, (.rng 1 458752)⟩,
  ⟨0x3400, 32, 0x0A, 0x0A, .uns 4, .rc, 0, 15, true, false, .any⟩,
  ⟨0x3400, 32, 0x0B, 0x0B, .uns 4, .ro, 0, 15, true, false, .any⟩,
  ⟨0x3400, 32, 0x0C, 0x0C, .uns 4, .rws, 1000, 3, false, false, .any⟩,
  ⟨0x3400, 32, 0x0D, 0x0D, .uns 4, .rc, 0, 15, true, false, .any⟩,
  ⟨0x3400, 32, 0x0E, 0x0E, .uns 4, .rws, 500000, 3, false, false, (.rng 0 10000000)⟩,
  ⟨0x3400, 32, 0x0F, 0x0F, .uns 4, .rc, 0, 15, true, false, .any⟩,
  ⟨0x3500, 32, 0x00, 0x00, .uns 1, .co, 23, 15, false, false, .any⟩,
  ⟨0x3500, 32, 0x01, 0x01, .uns 1, .rws, 0, 3, false, false, (.oneOf [1, 2, 3, 4, 5, 6, 7])⟩,
  ⟨0x3500, 32, 0x02, 0x02, .uns 2, .ro, 0, 15, false, true, .any⟩,
  ⟨0x3500, 32, 0x03, 0x03, .uns 4, .ro, 0, 15, false, false, .any⟩,
  ⟨0x3500, 32, 0x04, 0x04, .uns 4, .co, 0, 15, false, false, .any⟩,
  ⟨0x3500, 32, 0x05, 0x05, .uns 4, .rw, 0, 15, false, true, .any⟩,
  ⟨0x3500, 8, 0x06, 0x06, .uns 2, .rw, 0, 3, false, true, (.rng 0 1023)⟩,
  ⟨0x3508, 24, 0x06, 0x06, .uns 2, .rw, 0, 3, false, true, (.rng 0 255)⟩,
  ⟨0x3500, 32, 0x07, 0x07, .uns 1, .rw, 0, 3, false, true, (.oneOf [0, 1, 2])⟩,
  ⟨0x3500, 32, 0x08, 0x08, .uns 1, .rw, 255, 3, false, true, .any⟩,
  ⟨0x3500, 32, 0x09, 0x09, .uns 4, .rw, 0, 3, false, true, (.rng 1 1000000000)⟩,
  ⟨0x3500, 32, 0x10, 0x10, .bool, .rws, 0, 3, false, false, .any⟩,
  ⟨0x3500, 32, 0x11, 0x11, .uns 1, .rws, 255, 3, false, false, .any⟩,
  ⟨0x3500, 32, 0x12, 0x12, .time80, .rws, 0, 3, false, false, .any⟩,
  ⟨0x3500, 32, 0x13, 0x13, .uns 4, .rws, 1000000, 3, false, false, (.rng 1000 1000000000)⟩,
  ⟨0x3500, 8, 0x14, 0x14, .uns 2, .rws, 0, 3, false, false, (.rng 1 1024)⟩,
  ⟨0x3508, 24, 0x14, 0x14, .uns 2, .rws, 0, 3, false, false, (.rng 1 256)⟩,
  ⟨0x3500, 32, 0x16, 0x16, .uns 2, .rws, 0, 3, false, false, (.rng 0 10000)⟩,
  ⟨0x3500, 32, 0x17, 0x17, .uns 2, .rws, 8, 3, false, false, (.rng 0 1000)⟩,
  ⟨0x3540, 32, 0x00, 0x00, .uns 1, .co, 15, 15, false, false, .any⟩,
  ⟨0x3540, 32, 0x01, 0x01, .bool, .ro, 0, 15, true, false, .any⟩,
  ⟨0x3540, 32, 0x02, 0x02, .time80, .ro, 0, 15, true, false, .any⟩]

/-- Entries of queues, gates and preemption (Tables 5.9, 8.9, 9.6, 9.7), part 1. -/
def dictQueue1 : List EntryDef := [
  ⟨0x3540, 32, 0x03, 0x03, .uns 4, .ro, 0, 15, true, false, .any⟩,
  ⟨0x3540, 32, 0x04, 0x04, .uns 2, .ro, 0, 15, true, false, .any⟩,
  ⟨0x3540, 32, 0x05, 0x05, .uns 2, .ro, 0, 15, true, false, .any⟩,
  ⟨0x3540, 32, 0x06, 0x06, .time80, .ro, 0, 15, true, false, .any⟩,
  ⟨0x3540, 32, 0x07, 0x07, .bool, .ro, 0, 15, true, false, .any⟩,
  ⟨0x3540, 32, 0x08, 0x08, .time80, .ro, 0, 15, true, false, .any⟩,
  ⟨0x3540, 32, 0x09, 0x09, .uns 4, .ro, 0, 15, true, false, .any⟩,
  ⟨0x3540, 32, 0x0A, 0x0A, .uns 2, .rw, 0, 15, false, true, .any⟩,
  ⟨0x3540, 32, 0x0B, 0x0B, .oct 8, .ro, 0, 15, true, false, .any⟩,
  ⟨0x3540, 32, 0x0C, 0x0C, .uns 1, .ro, 255, 15, true, false, .any⟩,
  ⟨0x3540, 32, 0x0D, 0x0D, .bool, .ro, 0, 15, true, false, .any⟩,
  ⟨0x3540, 32, 0x0E, 0x0E, .uns 8, .rc, 0, 15, true, false, .any⟩,
  ⟨0x3540, 32, 0x0F, 0x0F, .uns 4, .rc, 0, 15, true, false, .any⟩,
  ⟨0x3580, 20, 0x00, 0x00, .uns 1, .co, 20, 15, false, false, .any⟩,
  ⟨0x3580, 20, 0x01, 0x01, .bool, .rws, 0, 3, false, false, .any⟩,
  ⟨0x3580, 20, 0x02, 0x02, .bool, .rws, 0, 3, false, false, .any⟩,
  ⟨0x3580, 20, 0x03, 0x03, .uns 1, .rws, 10, 3, false, false, (.rng 1 128)⟩,
  ⟨0x3580, 20, 0x04, 0x04, .uns 1, .rws, 0, 3, false, false, (.rng 0 3)⟩,
  ⟨0x3580, 20, 0x05, 0x05, .uns 1, .rws, 0, 3, false, false, .any⟩,
  ⟨0x3580, 20, 0x06, 0x06, .uns 1, .ro, 0, 15, true, false, .any⟩,
  ⟨0x3580, 20, 0x07, 0x07, .bool, .ro, 0, 15, true, false, .any⟩,
  ⟨0x3580, 20, 0x10, 0x10, .uns 8, .rc, 0, 15, false, false, .any⟩,
  ⟨0x3580, 20, 0x11, 0x11, .uns 8, .rc, 0, 15, false, false, .any⟩,
  ⟨0x3580, 20, 0x12, 0x12, .uns 8, .rc, 0, 15, false, false, .any⟩,
  ⟨0x3580, 20, 0x13, 0x13, .uns 8, .rc, 0, 15, false, false, .any⟩,
  ⟨0x3580, 20, 0x14, 0x14, .uns 8, .rc, 0, 15, false, false, .any⟩]

/-- Entries of queues, gates and preemption (Tables 5.9, 8.9, 9.6, 9.7). -/
def dictQueue : List EntryDef := dictQueue0 ++ dictQueue1

/-- Entries of Basin and the switch core (Tables 8.8 to 8.11), part 0. -/
def dictSwitch0 : List EntryDef := [
  ⟨0x4000, 1, 0x00, 0x00, .uns 1, .co, 21, 15, false, false, .any⟩,
  ⟨0x4000, 1, 0x01, 0x01, .uns 1, .ro, 40, 15, true, false, .any⟩,
  ⟨0x4000, 1, 0x02, 0x02, .uns 1, .ro, 16, 15, true, false, .any⟩,
  ⟨0x4000, 1, 0x03, 0x03, .uns 1, .ro, 8, 15, true, false, .any⟩,
  ⟨0x4000, 1, 0x04, 0x04, .uns 4, .ro, 327680, 15, true, false, .any⟩,
  ⟨0x4000, 1, 0x05, 0x05, .uns 1, .rws, 4, 3, false, false, (.rng 1 255)⟩,
  ⟨0x4000, 1, 0x10, 0x15, .uns 4, .ro, 0, 15, true, false, .any⟩,
  ⟨0x4001, 1, 0x00, 0x00, .uns 1, .co, 69, 15, false, false, .any⟩,
  ⟨0x4001, 1, 0x01, 0x40, .uns 4, .ro, 0, 15, true, false, .any⟩,
  ⟨0x4001, 1, 0x41, 0x41, .uns 1, .wo, 0, 3, true, false, (.rng 0 63)⟩,
  ⟨0x4001, 1, 0x42, 0x42, .uns 8, .rc, 0, 15, true, false, .any⟩,
  ⟨0x4001, 1, 0x43, 0x43, .uns 8, .rc, 0, 15, true, false, .any⟩,
  ⟨0x4001, 1, 0x44, 0x44, .uns 8, .rc, 0, 15, true, false, .any⟩,
  ⟨0x4001, 1, 0x45, 0x45, .uns 1, .rc, 0, 15, true, false, .any⟩,
  ⟨0x4010, 1, 0x00, 0x00, .uns 1, .co, 63, 15, false, false, .any⟩,
  ⟨0x4010, 1, 0x01, 0x01, .uns 1, .rws, 192, 3, false, false, .any⟩,
  ⟨0x4010, 1, 0x02, 0x02, .uns 1, .rws, 128, 3, false, false, .any⟩,
  ⟨0x4010, 1, 0x03, 0x03, .uns 4, .ro, 311296, 15, true, false, .any⟩,
  ⟨0x4010, 1, 0x04, 0x04, .uns 4, .ro, 0, 15, true, false, .any⟩,
  ⟨0x4010, 1, 0x05, 0x05, .uns 4, .ro, 327680, 15, true, false, .any⟩,
  ⟨0x4010, 1, 0x06, 0x06, .uns 8, .rc, 0, 15, true, false, .any⟩,
  ⟨0x4010, 1, 0x07, 0x07, .uns 8, .rc, 0, 15, true, false, .any⟩,
  ⟨0x4010, 1, 0x09, 0x09, .uns 8, .rc, 0, 15, true, false, .any⟩,
  ⟨0x4010, 1, 0x10, 0x10, .uns 8, .rc, 0, 15, true, false, .any⟩,
  ⟨0x4010, 1, 0x20, 0x3F, .uns 1, .rws, 0, 3, false, false, .any⟩,
  ⟨0x4020, 1, 0x00, 0x00, .uns 1, .co, 6, 15, false, false, .any⟩,
  ⟨0x4020, 1, 0x01, 0x01, .uns 2, .co, 100, 15, false, false, .any⟩,
  ⟨0x4020, 1, 0x02, 0x02, .uns 4, .ro, 0, 15, true, false, .any⟩,
  ⟨0x4020, 1, 0x03, 0x03, .uns 8, .rc, 0, 15, true, false, .any⟩,
  ⟨0x4020, 1, 0x04, 0x04, .uns 4, .ro, 0, 15, true, false, .any⟩,
  ⟨0x4020, 1, 0x05, 0x05, .uns 8, .rc, 0, 15, true, false, .any⟩,
  ⟨0x4020, 1, 0x06, 0x06, .uns 8, .rc, 0, 15, true, false, .any⟩,
  ⟨0x4100, 1, 0x00, 0x00, .uns 1, .co, 63, 15, false, false, .any⟩,
  ⟨0x4100, 1, 0x01, 0x01, .uns 4, .rws, 300, 3, false, false, (.zeroOr 10 1000000)⟩,
  ⟨0x4100, 1, 0x02, 0x02, .uns 4, .ro, 0, 15, false, false, .any⟩,
  ⟨0x4100, 1, 0x03, 0x03, .uns 8, .rc, 0, 15, true, false, .any⟩]

/-- Entries of Basin and the switch core (Tables 8.8 to 8.11), part 1. -/
def dictSwitch1 : List EntryDef := [
  ⟨0x4100, 1, 0x04, 0x04, .uns 8, .rc, 0, 15, true, false, .any⟩,
  ⟨0x4100, 1, 0x05, 0x05, .uns 8, .rc, 0, 15, true, false, .any⟩,
  ⟨0x4100, 1, 0x06, 0x06, .uns 8, .rc, 0, 15, true, false, .any⟩,
  ⟨0x4100, 1, 0x07, 0x07, .uns 8, .rc, 0, 15, true, false, .any⟩,
  ⟨0x4100, 1, 0x08, 0x08, .uns 8, .rc, 0, 15, true, false, .any⟩,
  ⟨0x4100, 1, 0x20, 0x3F, .uns 4, .rws, 12289, 3, false, false, .any⟩,
  ⟨0x4101, 1, 0x01, 0x01, .uns 1, .wo, 0, 3, false, false, (.oneOf [1, 2, 3, 4, 5, 6, 7])⟩,
  ⟨0x4101, 1, 0x02, 0x02, .uns 2, .ro, 0, 15, false, true, .any⟩,
  ⟨0x4101, 1, 0x03, 0x03, .uns 4, .ro, 0, 15, false, false, .any⟩,
  ⟨0x4101, 1, 0x04, 0x04, .uns 4, .co, 65536, 15, false, false, .any⟩,
  ⟨0x4101, 1, 0x05, 0x05, .uns 4, .rw, 0, 15, false, true, .any⟩,
  ⟨0x4101, 1, 0x06, 0x06, .oct 6, .rw, 0, 3, false, true, .any⟩,
  ⟨0x4101, 1, 0x07, 0x07, .uns 2, .rw, 0, 3, false, true, (.rng 1 4094)⟩,
  ⟨0x4101, 1, 0x08, 0x08, .uns 4, .rw, 0, 3, false, true, .any⟩,
  ⟨0x4101, 1, 0x09, 0x09, .uns 1, .rw, 0, 3, false, true, (.mask 0x1)⟩,
  ⟨0x4101, 1, 0x0A, 0x0A, .uns 4, .ro, 0, 15, false, true, .any⟩,
  ⟨0x4200, 1, 0x01, 0x01, .uns 1, .wo, 0, 3, false, false, (.oneOf [1, 2, 3, 4, 5, 6, 7])⟩,
  ⟨0x4200, 1, 0x02, 0x02, .uns 2, .ro, 0, 15, false, true, .any⟩,
  ⟨0x4200, 1, 0x03, 0x03, .uns 4, .ro, 0, 15, false, false, .any⟩,
  ⟨0x4200, 1, 0x04, 0x04, .uns 4, .co, 4094, 15, false, false, .any⟩,
  ⟨0x4200, 1, 0x05, 0x05, .uns 4, .rw, 0, 15, false, true, .any⟩,
  ⟨0x4200, 1, 0x06, 0x06, .uns 2, .rw, 0, 3, false, true, (.rng 1 4094)⟩,
  ⟨0x4200, 1, 0x07, 0x07, .uns 4, .rw, 0, 3, false, true, .any⟩,
  ⟨0x4200, 1, 0x08, 0x08, .uns 4, .rw, 0, 3, false, true, .any⟩,
  ⟨0x4200, 1, 0x09, 0x09, .uns 4, .rw, 0, 3, false, true, .any⟩,
  ⟨0x4200, 1, 0x0A, 0x0A, .uns 1, .rw, 0, 3, false, true, (.mask 0x3)⟩,
  ⟨0x4300, 16, 0x00, 0x00, .uns 1, .co, 8, 15, false, false, .any⟩,
  ⟨0x4300, 16, 0x01, 0x01, .uns 1, .rws, 255, 3, false, false, (.oneOf [0, 1, 2, 3, 4, 5, 6, 7, 8, 9, 10, 11, 12, 13, 14, 15, 16, 17, 18, 19, 20, 21, 22, 23, 24, 25, 26, 27, 28, 29, 30, 31, 32, 255])⟩,
  ⟨0x4300, 16, 0x02, 0x02, .uns 1, .rws, 0, 3, false, false, (.rng 0 7)⟩,
  ⟨0x4300, 16, 0x03, 0x03, .uns 1, .rws, 2, 3, false, false, (.oneOf [0, 1, 2])⟩,
  ⟨0x4300, 16, 0x04, 0x04, .uns 2, .rws, 0, 3, false, false, (.zeroOr 64 9216)⟩,
  ⟨0x4300, 16, 0x05, 0x05, .uns 4, .rws, 0, 3, false, false, .any⟩,
  ⟨0x4300, 16, 0x06, 0x06, .uns 4, .rws, 0, 3, false, false, .any⟩,
  ⟨0x4300, 16, 0x07, 0x07, .uns 8, .rc, 0, 15, true, false, .any⟩,
  ⟨0x4300, 16, 0x08, 0x08, .uns 8, .rc, 0, 15, true, false, .any⟩,
  ⟨0x4310, 1, 0x00, 0x00, .uns 1, .co, 5, 15, false, false, .any⟩]

/-- Entries of Basin and the switch core (Tables 8.8 to 8.11), part 2. -/
def dictSwitch2 : List EntryDef := [
  ⟨0x4310, 1, 0x01, 0x01, .uns 4, .rws, 0, 3, false, false, (.rng 0 16777216)⟩,
  ⟨0x4310, 1, 0x02, 0x02, .uns 1, .rws, 0, 3, false, false, (.oneOf [0, 1])⟩,
  ⟨0x4310, 1, 0x03, 0x03, .uns 1, .rws, 0, 3, false, false, (.rng 0 7)⟩,
  ⟨0x4310, 1, 0x04, 0x04, .uns 8, .rc, 0, 15, true, false, .any⟩,
  ⟨0x4310, 1, 0x05, 0x05, .uns 8, .rc, 0, 15, true, false, .any⟩,
  ⟨0x4400, 1, 0x00, 0x00, .uns 1, .co, 12, 15, false, false, .any⟩,
  ⟨0x4400, 1, 0x01, 0x01, .uns 1, .ro, 1, 15, true, false, .any⟩,
  ⟨0x4400, 1, 0x02, 0x02, .uns 1, .wo, 0, 3, true, false, (.oneOf [1, 2])⟩,
  ⟨0x4400, 1, 0x03, 0x03, .uns 2, .rws, 0, 3, false, false, .any⟩,
  ⟨0x4400, 1, 0x04, 0x04, .uns 4, .rws, 0, 3, false, false, .any⟩,
  ⟨0x4400, 1, 0x05, 0x05, .uns 4, .ro, 131072, 15, true, false, .any⟩,
  ⟨0x4400, 1, 0x06, 0x06, .uns 8, .ro, 0, 15, true, false, .any⟩,
  ⟨0x4400, 1, 0x07, 0x07, .uns 8, .rc, 0, 15, true, false, .any⟩,
  ⟨0x4400, 1, 0x08, 0x08, .uns 8, .rw, 0, 15, false, true, .any⟩,
  ⟨0x4400, 1, 0x09, 0x09, .oct 64, .ro, 0, 15, true, false, .any⟩,
  ⟨0x4400, 1, 0x0A, 0x0A, .oct 12, .ro, 0, 15, true, false, .any⟩,
  ⟨0x4400, 1, 0x0B, 0x0B, .uns 1, .ro, 0, 15, true, false, .any⟩,
  ⟨0x4400, 1, 0x0C, 0x0C, .uns 4, .rws, 0, 3, false, false, .any⟩]

/-- Entries of Basin and the switch core (Tables 8.8 to 8.11). -/
def dictSwitch : List EntryDef := dictSwitch0 ++ dictSwitch1 ++ dictSwitch2

/-- Entries of classification and stream functions (Tables 6.9 to 6.12, 9.8), part 0. -/
def dictClass0 : List EntryDef := [
  ⟨0x5000, 1, 0x00, 0x00, .uns 1, .co, 127, 15, false, false, .any⟩,
  ⟨0x5000, 1, 0x10, 0x1F, .uns 4, .rws, 0, 3, false, false, .any⟩,
  ⟨0x5000, 1, 0x40, 0x7F, .oct 32, .rws, 0, 3, false, false, .any⟩,
  ⟨0x5100, 1, 0x00, 0x00, .uns 1, .co, 10, 15, false, false, .any⟩,
  ⟨0x5100, 1, 0x01, 0x01, .uns 1, .rws, 0, 3, false, false, (.oneOf [1, 2, 3, 4, 5, 6, 7])⟩,
  ⟨0x5100, 1, 0x02, 0x02, .uns 2, .ro, 0, 15, false, true, .any⟩,
  ⟨0x5100, 1, 0x03, 0x03, .uns 4, .ro, 0, 15, false, false, .any⟩,
  ⟨0x5100, 1, 0x04, 0x04, .uns 4, .co, 8192, 15, false, false, .any⟩,
  ⟨0x5100, 1, 0x05, 0x05, .uns 4, .rw, 0, 15, false, true, .any⟩,
  ⟨0x5100, 1, 0x06, 0x06, .uns 2, .rw, 0, 3, false, true, (.rng 0 8191)⟩,
  ⟨0x5100, 1, 0x07, 0x07, .oct 80, .rw, 0, 3, false, true, .any⟩,
  ⟨0x5100, 1, 0x08, 0x08, .oct 80, .rw, 0, 3, false, true, .any⟩,
  ⟨0x5100, 1, 0x09, 0x09, .uns 8, .rw, 0, 3, false, true, .any⟩,
  ⟨0x5100, 1, 0x0A, 0x0A, .uns 8, .ro, 0, 15, false, true, .any⟩,
  ⟨0x5200, 1, 0x00, 0x00, .uns 1, .co, 10, 15, false, false, .any⟩,
  ⟨0x5200, 1, 0x01, 0x01, .uns 1, .rws, 0, 3, false, false, (.oneOf [1, 2, 3, 4, 5, 6, 7])⟩,
  ⟨0x5200, 1, 0x02, 0x02, .uns 2, .ro, 0, 15, false, true, .any⟩,
  ⟨0x5200, 1, 0x03, 0x03, .uns 4, .ro, 0, 15, false, false, .any⟩,
  ⟨0x5200, 1, 0x04, 0x04, .uns 4, .co, 65536, 15, false, false, .any⟩,
  ⟨0x5200, 1, 0x05, 0x05, .uns 4, .rw, 0, 15, false, true, .any⟩,
  ⟨0x5200, 1, 0x06, 0x06, .uns 1, .rw, 0, 3, false, true, (.rng 1 4)⟩,
  ⟨0x5200, 1, 0x07, 0x07, .uns 1, .rw, 0, 3, false, true, .any⟩,
  ⟨0x5200, 1, 0x08, 0x08, .oct 20, .rw, 0, 3, false, true, .any⟩,
  ⟨0x5200, 1, 0x09, 0x09, .uns 8, .rw, 0, 3, false, true, .any⟩,
  ⟨0x5200, 1, 0x0A, 0x0A, .uns 8, .ro, 0, 15, false, true, .any⟩,
  ⟨0x5300, 1, 0x00, 0x00, .uns 1, .co, 35, 15, false, false, .any⟩,
  ⟨0x5300, 1, 0x01, 0x20, .oct 16, .rws, 0, 3, false, false, .any⟩,
  ⟨0x5300, 1, 0x21, 0x21, .oct 4, .rws, 0, 3, false, false, .any⟩,
  ⟨0x5300, 1, 0x22, 0x22, .oct 16, .rws, 0, 3, false, false, .any⟩,
  ⟨0x5300, 1, 0x23, 0x23, .uns 2, .rws, 1000, 3, false, false, (.rng 10 10000)⟩,
  ⟨0x5400, 1, 0x00, 0x00, .uns 1, .co, 26, 15, false, false, .any⟩,
  ⟨0x5400, 1, 0x01, 0x0B, .uns 8, .rc, 0, 15, true, false, .any⟩,
  ⟨0x5400, 1, 0x10, 0x10, .uns 8, .rc, 0, 15, true, false, .any⟩,
  ⟨0x5400, 1, 0x11, 0x11, .uns 8, .rc, 0, 15, true, false, .any⟩,
  ⟨0x5400, 1, 0x12, 0x12, .uns 8, .rc, 0, 15, true, false, .any⟩,
  ⟨0x5400, 1, 0x13, 0x13, .uns 8, .rc, 0, 15, true, false, .any⟩]

/-- Entries of classification and stream functions (Tables 6.9 to 6.12, 9.8), part 1. -/
def dictClass1 : List EntryDef := [
  ⟨0x5400, 1, 0x14, 0x14, .uns 8, .rc, 0, 15, true, false, .any⟩,
  ⟨0x5400, 1, 0x15, 0x15, .uns 8, .rc, 0, 15, true, false, .any⟩,
  ⟨0x5400, 1, 0x16, 0x16, .uns 8, .rc, 0, 15, true, false, .any⟩,
  ⟨0x5400, 1, 0x17, 0x17, .uns 8, .rc, 0, 15, true, false, .any⟩,
  ⟨0x5400, 1, 0x18, 0x18, .uns 8, .rc, 0, 15, true, false, .any⟩,
  ⟨0x5400, 1, 0x19, 0x19, .uns 8, .rc, 0, 15, true, false, .any⟩,
  ⟨0x5400, 1, 0x1A, 0x1A, .uns 8, .rc, 0, 15, true, false, .any⟩,
  ⟨0x5800, 1, 0x00, 0x00, .uns 1, .co, 8, 15, false, false, .any⟩,
  ⟨0x5800, 1, 0x01, 0x01, .uns 1, .rws, 0, 3, false, false, (.oneOf [1, 2, 3, 4, 5, 6, 7])⟩,
  ⟨0x5800, 1, 0x02, 0x02, .uns 2, .ro, 0, 15, false, true, .any⟩,
  ⟨0x5800, 1, 0x03, 0x03, .uns 4, .ro, 0, 15, false, false, .any⟩,
  ⟨0x5800, 1, 0x04, 0x04, .uns 4, .co, 32768, 15, false, false, .any⟩,
  ⟨0x5800, 1, 0x05, 0x05, .uns 4, .rw, 0, 15, false, true, .any⟩,
  ⟨0x5800, 1, 0x06, 0x06, .oct 60, .rw, 0, 3, false, true, .any⟩,
  ⟨0x5800, 1, 0x07, 0x07, .uns 2, .rw, 0, 3, false, true, (.rng 0 32767)⟩,
  ⟨0x5800, 1, 0x08, 0x08, .uns 8, .ro, 0, 15, false, true, .any⟩,
  ⟨0x5900, 1, 0x00, 0x00, .uns 1, .co, 15, 15, false, false, .any⟩,
  ⟨0x5900, 1, 0x01, 0x01, .uns 1, .rws, 0, 3, false, false, (.oneOf [1, 2, 3, 4, 5, 6, 7])⟩,
  ⟨0x5900, 1, 0x02, 0x02, .uns 2, .ro, 0, 15, false, true, .any⟩,
  ⟨0x5900, 1, 0x03, 0x03, .uns 4, .ro, 0, 15, false, false, .any⟩,
  ⟨0x5900, 1, 0x04, 0x04, .uns 4, .co, 4096, 15, false, false, .any⟩,
  ⟨0x5900, 1, 0x05, 0x05, .uns 4, .rw, 0, 15, false, true, .any⟩,
  ⟨0x5900, 1, 0x06, 0x06, .uns 2, .rw, 0, 3, false, true, (.rng 0 4095)⟩,
  ⟨0x5900, 1, 0x07, 0x07, .oct 16, .rw, 0, 3, false, true, .any⟩,
  ⟨0x5900, 1, 0x08, 0x08, .bool, .ro, 0, 15, false, true, .any⟩,
  ⟨0x5900, 1, 0x09, 0x0F, .uns 8, .ro, 0, 15, false, true, .any⟩,
  ⟨0x5A00, 1, 0x00, 0x00, .uns 1, .co, 18, 15, false, false, .any⟩,
  ⟨0x5A00, 1, 0x01, 0x01, .uns 1, .rws, 0, 3, false, false, (.oneOf [1, 2, 3, 4, 5, 6, 7])⟩,
  ⟨0x5A00, 1, 0x02, 0x02, .uns 2, .ro, 0, 15, false, true, .any⟩,
  ⟨0x5A00, 1, 0x03, 0x03, .uns 4, .ro, 0, 15, false, false, .any⟩,
  ⟨0x5A00, 1, 0x04, 0x04, .uns 4, .co, 256, 15, false, false, .any⟩,
  ⟨0x5A00, 1, 0x05, 0x05, .uns 4, .rw, 0, 15, false, true, .any⟩,
  ⟨0x5A00, 1, 0x06, 0x06, .uns 1, .rw, 0, 3, false, true, .any⟩,
  ⟨0x5A00, 1, 0x07, 0x07, .bool, .rw, 0, 3, false, true, .any⟩,
  ⟨0x5A00, 1, 0x08, 0x08, .uns 1, .rw, 1, 3, false, true, .any⟩,
  ⟨0x5A00, 1, 0x09, 0x09, .time80, .rw, 0, 3, false, true, .any⟩]

/-- Entries of classification and stream functions (Tables 6.9 to 6.12, 9.8), part 2. -/
def dictClass2 : List EntryDef := [
  ⟨0x5A00, 1, 0x0A, 0x0A, .uns 4, .rw, 1000000, 3, false, true, (.rng 1000 1000000000)⟩,
  ⟨0x5A00, 1, 0x0B, 0x0B, .uns 1, .rw, 0, 3, false, true, .any⟩,
  ⟨0x5A00, 1, 0x0C, 0x0C, .oct 128, .rw, 0, 3, false, true, .any⟩,
  ⟨0x5A00, 1, 0x0D, 0x0D, .uns 1, .rw, 0, 3, false, true, (.mask 0x3)⟩,
  ⟨0x5A00, 1, 0x0E, 0x0E, .uns 1, .rw, 255, 3, false, true, (.oneOf [0, 1, 2, 3, 4, 5, 6, 7, 8, 9, 10, 11, 12, 13, 14, 15, 16, 17, 18, 19, 20, 21, 22, 23, 24, 25, 26, 27, 28, 29, 30, 31, 255])⟩,
  ⟨0x5A00, 1, 0x0F, 0x0F, .uns 1, .ro, 1, 15, false, true, .any⟩,
  ⟨0x5A00, 1, 0x10, 0x12, .uns 8, .ro, 0, 15, false, true, .any⟩,
  ⟨0x5B00, 1, 0x00, 0x00, .uns 1, .co, 17, 15, false, false, .any⟩,
  ⟨0x5B00, 1, 0x01, 0x01, .uns 1, .rws, 0, 3, false, false, (.oneOf [1, 2, 3, 4, 5, 6, 7])⟩,
  ⟨0x5B00, 1, 0x02, 0x02, .uns 2, .ro, 0, 15, false, true, .any⟩,
  ⟨0x5B00, 1, 0x03, 0x03, .uns 4, .ro, 0, 15, false, false, .any⟩,
  ⟨0x5B00, 1, 0x04, 0x04, .uns 4, .co, 4096, 15, false, false, .any⟩,
  ⟨0x5B00, 1, 0x05, 0x05, .uns 4, .rw, 0, 15, false, true, .any⟩,
  ⟨0x5B00, 1, 0x06, 0x06, .uns 2, .rw, 0, 3, false, true, (.rng 0 32767)⟩,
  ⟨0x5B00, 1, 0x07, 0x07, .uns 4, .rw, 0, 3, false, true, (.rng 0 25000000)⟩,
  ⟨0x5B00, 1, 0x08, 0x08, .uns 4, .rw, 0, 3, false, true, .any⟩,
  ⟨0x5B00, 1, 0x09, 0x09, .uns 4, .rw, 0, 3, false, true, (.rng 0 25000000)⟩,
  ⟨0x5B00, 1, 0x0A, 0x0A, .uns 4, .rw, 0, 3, false, true, .any⟩,
  ⟨0x5B00, 1, 0x0B, 0x0B, .uns 1, .rw, 0, 3, false, true, (.mask 0xF)⟩,
  ⟨0x5B00, 1, 0x0C, 0x0C, .uns 1, .rw, 255, 3, false, true, (.oneOf [0, 1, 2, 3, 4, 5, 6, 7, 8, 9, 10, 11, 12, 13, 14, 15, 16, 17, 18, 19, 20, 21, 22, 23, 24, 25, 26, 27, 28, 29, 30, 31, 255])⟩,
  ⟨0x5B00, 1, 0x0D, 0x0D, .bool, .ro, 0, 15, false, true, .any⟩,
  ⟨0x5B00, 1, 0x0E, 0x11, .uns 8, .ro, 0, 15, false, true, .any⟩,
  ⟨0x5C00, 1, 0x00, 0x00, .uns 1, .co, 20, 15, false, false, .any⟩,
  ⟨0x5C00, 1, 0x01, 0x01, .uns 1, .rws, 0, 3, false, false, (.oneOf [1, 2, 3, 4, 5, 6, 7])⟩,
  ⟨0x5C00, 1, 0x02, 0x02, .uns 2, .ro, 0, 15, false, true, .any⟩,
  ⟨0x5C00, 1, 0x03, 0x03, .uns 4, .ro, 0, 15, false, false, .any⟩,
  ⟨0x5C00, 1, 0x04, 0x04, .uns 4, .co, 2048, 15, false, false, .any⟩,
  ⟨0x5C00, 1, 0x05, 0x05, .uns 4, .rw, 0, 15, false, true, .any⟩,
  ⟨0x5C00, 1, 0x06, 0x06, .uns 2, .rw, 0, 3, false, true, .any⟩,
  ⟨0x5C00, 1, 0x07, 0x07, .uns 1, .rw, 0, 3, false, true, (.oneOf [0, 1, 2, 3])⟩,
  ⟨0x5C00, 1, 0x08, 0x08, .uns 2, .rw, 0, 3, false, true, (.rng 0 32767)⟩,
  ⟨0x5C00, 1, 0x09, 0x09, .uns 1, .rw, 255, 3, false, true, .any⟩,
  ⟨0x5C00, 1, 0x0A, 0x0A, .uns 1, .rw, 0, 3, false, true, (.oneOf [0, 1])⟩,
  ⟨0x5C00, 1, 0x0B, 0x0B, .uns 1, .rw, 2, 3, false, true, (.rng 1 32)⟩,
  ⟨0x5C00, 1, 0x0C, 0x0C, .uns 2, .rw, 100, 3, false, true, .any⟩,
  ⟨0x5C00, 1, 0x0D, 0x0D, .bool, .rw, 0, 3, false, true, .any⟩]

/-- Entries of classification and stream functions (Tables 6.9 to 6.12, 9.8), part 3. -/
def dictClass3 : List EntryDef := [
  ⟨0x5C00, 1, 0x0E, 0x0E, .uns 4, .rw, 0, 3, false, true, (.mask 0x8FFFFFFF)⟩,
  ⟨0x5C00, 1, 0x0F, 0x0F, .uns 8, .ro, 0, 15, true, true, .any⟩,
  ⟨0x5C00, 1, 0x10, 0x14, .uns 8, .ro, 0, 15, true, true, .any⟩]

/-- Entries of classification and stream functions (Tables 6.9 to 6.12, 9.8). -/
def dictClass : List EntryDef := dictClass0 ++ dictClass1 ++ dictClass2 ++ dictClass3

/-- Entries of Narrows (Tables 7.8 to 7.10), part 0. -/
def dictNarrows0 : List EntryDef := [
  ⟨0x6000, 1, 0x00, 0x00, .uns 1, .co, 55, 15, false, false, .any⟩,
  ⟨0x6000, 1, 0x01, 0x01, .bool, .rws, 0, 3, false, false, .any⟩,
  ⟨0x6000, 1, 0x02, 0x02, .uns 1, .rws, 0, 3, false, false, (.oneOf [0, 1])⟩,
  ⟨0x6000, 1, 0x03, 0x03, .bool, .rws, 0, 3, false, false, .any⟩,
  ⟨0x6000, 1, 0x04, 0x0E, .uns 4, .rws, 0, 3, false, false, (.rng 1 86400)⟩,
  ⟨0x6000, 1, 0x0F, 0x0F, .uns 4, .ro, 0, 15, false, false, .any⟩,
  ⟨0x6000, 1, 0x10, 0x10, .uns 2, .rws, 100, 3, false, false, .any⟩,
  ⟨0x6000, 1, 0x11, 0x11, .uns 2, .rws, 32, 3, false, false, (.rng 1 4095)⟩,
  ⟨0x6000, 1, 0x20, 0x37, .uns 1, .rws, 0, 3, false, false, (.oneOf [0, 1, 2])⟩,
  ⟨0x6010, 1, 0x00, 0x00, .uns 1, .co, 127, 15, false, false, .any⟩,
  ⟨0x6010, 1, 0x01, 0x20, .uns 1, .rws, 0, 3, false, false, (.rng 0 63)⟩,
  ⟨0x6010, 1, 0x40, 0x7F, .uns 4, .rws, 0, 3, false, false, .any⟩,
  ⟨0x6100, 1, 0x00, 0x00, .uns 1, .co, 12, 15, false, false, .any⟩,
  ⟨0x6100, 1, 0x01, 0x01, .uns 1, .rws, 0, 3, false, false, (.oneOf [1, 2, 3, 4, 5, 6, 7])⟩,
  ⟨0x6100, 1, 0x02, 0x02, .uns 2, .ro, 0, 15, false, true, .any⟩,
  ⟨0x6100, 1, 0x03, 0x03, .uns 4, .ro, 0, 15, false, false, .any⟩,
  ⟨0x6100, 1, 0x04, 0x04, .uns 4, .co, 20480, 15, false, false, .any⟩,
  ⟨0x6100, 1, 0x05, 0x05, .uns 4, .rw, 0, 15, false, true, .any⟩,
  ⟨0x6100, 1, 0x06, 0x06, .uns 1, .rw, 0, 3, false, true, (.oneOf [0, 1])⟩,
  ⟨0x6100, 1, 0x07, 0x07, .uns 2, .rw, 0, 3, false, true, .any⟩,
  ⟨0x6100, 1, 0x08, 0x08, .uns 2, .rw, 0, 3, false, true, .any⟩,
  ⟨0x6100, 1, 0x09, 0x09, .oct 12, .rw, 0, 3, false, true, .any⟩,
  ⟨0x6100, 1, 0x0A, 0x0A, .uns 4, .rw, 0, 3, false, true, .any⟩,
  ⟨0x6100, 1, 0x0B, 0x0B, .uns 2, .rw, 65535, 3, false, true, .any⟩,
  ⟨0x6100, 1, 0x0C, 0x0C, .uns 8, .ro, 0, 15, false, true, .any⟩,
  ⟨0x6200, 1, 0x00, 0x00, .uns 1, .co, 17, 15, false, false, .any⟩,
  ⟨0x6200, 1, 0x01, 0x01, .uns 1, .wo, 0, 3, false, false, (.oneOf [1, 2, 3, 4, 5, 6, 7])⟩,
  ⟨0x6200, 1, 0x02, 0x02, .uns 2, .ro, 0, 15, false, true, .any⟩,
  ⟨0x6200, 1, 0x03, 0x03, .uns 4, .ro, 0, 15, true, false, .any⟩,
  ⟨0x6200, 1, 0x04, 0x04, .uns 4, .co, 131072, 15, false, false, .any⟩,
  ⟨0x6200, 1, 0x05, 0x05, .uns 4, .rw, 0, 15, false, true, .any⟩,
  ⟨0x6200, 1, 0x06, 0x06, .uns 1, .rw, 0, 3, false, true, .any⟩,
  ⟨0x6200, 1, 0x07, 0x07, .oct 16, .rw, 0, 3, false, true, .any⟩,
  ⟨0x6200, 1, 0x08, 0x08, .oct 16, .rw, 0, 3, false, true, .any⟩,
  ⟨0x6200, 1, 0x09, 0x09, .uns 2, .rw, 0, 3, false, true, .any⟩,
  ⟨0x6200, 1, 0x0A, 0x0A, .uns 2, .rw, 0, 3, false, true, .any⟩]

/-- Entries of Narrows (Tables 7.8 to 7.10), part 1. -/
def dictNarrows1 : List EntryDef := [
  ⟨0x6200, 1, 0x0B, 0x0B, .uns 1, .rw, 0, 3, false, true, .any⟩,
  ⟨0x6200, 1, 0x0C, 0x0C, .uns 1, .rw, 0, 3, false, true, .any⟩,
  ⟨0x6200, 1, 0x0D, 0x0D, .uns 1, .rw, 0, 3, false, true, .any⟩,
  ⟨0x6200, 1, 0x0E, 0x0E, .uns 4, .rw, 0, 3, false, true, .any⟩,
  ⟨0x6200, 1, 0x0F, 0x0F, .uns 2, .rw, 0, 3, false, true, .any⟩,
  ⟨0x6200, 1, 0x10, 0x10, .uns 4, .rw, 0, 3, false, true, .any⟩,
  ⟨0x6200, 1, 0x11, 0x11, .bool, .rw, 0, 3, false, true, .any⟩,
  ⟨0x6300, 24, 0x00, 0x00, .uns 1, .co, 8, 15, false, false, .any⟩,
  ⟨0x6300, 24, 0x01, 0x01, .uns 1, .rws, 0, 3, false, false, (.oneOf [1, 2, 3, 4, 5, 6, 7])⟩,
  ⟨0x6300, 24, 0x02, 0x02, .uns 2, .ro, 0, 15, false, true, .any⟩,
  ⟨0x6300, 24, 0x03, 0x03, .uns 4, .ro, 0, 15, false, false, .any⟩,
  ⟨0x6300, 24, 0x04, 0x04, .uns 4, .co, 2048, 15, false, false, .any⟩,
  ⟨0x6300, 24, 0x05, 0x05, .uns 4, .rw, 0, 15, false, true, .any⟩,
  ⟨0x6300, 24, 0x06, 0x06, .uns 2, .rw, 0, 3, false, true, (.rng 0 2047)⟩,
  ⟨0x6300, 24, 0x07, 0x07, .oct 32, .rw, 0, 3, false, true, .any⟩,
  ⟨0x6300, 24, 0x08, 0x08, .uns 8, .ro, 0, 15, false, true, .any⟩,
  ⟨0x6400, 1, 0x00, 0x00, .uns 1, .co, 19, 15, false, false, .any⟩,
  ⟨0x6400, 1, 0x01, 0x06, .uns 8, .rc, 0, 15, true, false, .any⟩,
  ⟨0x6400, 1, 0x07, 0x07, .uns 8, .rc, 0, 15, true, false, .any⟩,
  ⟨0x6400, 1, 0x08, 0x08, .uns 8, .rc, 0, 15, true, false, .any⟩,
  ⟨0x6400, 1, 0x09, 0x09, .uns 8, .rc, 0, 15, true, false, .any⟩,
  ⟨0x6400, 1, 0x0A, 0x0A, .uns 8, .rc, 0, 15, true, false, .any⟩,
  ⟨0x6400, 1, 0x0B, 0x0B, .uns 8, .rc, 0, 15, true, false, .any⟩,
  ⟨0x6400, 1, 0x0C, 0x0C, .uns 8, .rc, 0, 15, true, false, .any⟩,
  ⟨0x6400, 1, 0x0D, 0x0D, .uns 8, .rc, 0, 15, true, false, .any⟩,
  ⟨0x6400, 1, 0x0E, 0x0E, .uns 8, .rc, 0, 15, true, false, .any⟩,
  ⟨0x6400, 1, 0x0F, 0x0F, .uns 8, .rc, 0, 15, true, false, .any⟩,
  ⟨0x6400, 1, 0x10, 0x12, .uns 8, .rc, 0, 15, true, false, .any⟩,
  ⟨0x6400, 1, 0x13, 0x13, .uns 8, .rc, 0, 15, true, false, .any⟩]

/-- Entries of Narrows (Tables 7.8 to 7.10). -/
def dictNarrows : List EntryDef := dictNarrows0 ++ dictNarrows1

/-- Entries of legacy buses and PLCA (Tables 5.10, 10.7 to 10.9), part 0. -/
def dictBus0 : List EntryDef := [
  ⟨0x7000, 24, 0x00, 0x00, .uns 1, .co, 255, 15, false, false, .any⟩,
  ⟨0x7000, 24, 0x01, 0x01, .bool, .rws, 0, 3, false, false, .any⟩,
  ⟨0x7000, 24, 0x02, 0x02, .uns 1, .rws, 1, 3, false, false, (.mask 0x3)⟩,
  ⟨0x7000, 24, 0x03, 0x03, .uns 4, .rws, 500000, 3, false, false, .any⟩,
  ⟨0x7000, 24, 0x04, 0x04, .uns 2, .rws, 800, 3, false, false, (.rng 500 950)⟩,
  ⟨0x7000, 24, 0x05, 0x05, .uns 4, .rws, 2000000, 3, false, false, .any⟩,
  ⟨0x7000, 24, 0x06, 0x06, .uns 2, .rws, 750, 3, false, false, (.rng 500 950)⟩,
  ⟨0x7000, 24, 0x07, 0x07, .uns 2, .rws, 0, 3, false, false, .any⟩,
  ⟨0x7000, 24, 0x08, 0x08, .bool, .rws, 0, 3, false, false, .any⟩,
  ⟨0x7000, 24, 0x09, 0x09, .uns 1, .rws, 0, 3, false, false, (.mask 0x83)⟩,
  ⟨0x7000, 24, 0x0A, 0x0A, .uns 2, .rws, 100, 3, false, false, (.rng 1 60000)⟩,
  ⟨0x7000, 24, 0x0B, 0x0B, .uns 1, .rws, 0, 3, false, false, .any⟩,
  ⟨0x7000, 24, 0x0C, 0x0C, .uns 1, .wo, 0, 3, true, false, (.oneOf [1])⟩,
  ⟨0x7000, 24, 0x0D, 0x0D, .bool, .rws, 1, 3, false, false, .any⟩,
  ⟨0x7000, 24, 0x0E, 0x0E, .uns 4, .rws, 0, 3, false, false, .any⟩,
  ⟨0x7000, 24, 0x0F, 0x0F, .bool, .rws, 0, 3, false, false, .any⟩,
  ⟨0x7000, 24, 0x10, 0x10, .uns 1, .rws, 0, 3, false, false, (.oneOf [0, 1])⟩,
  ⟨0x7000, 24, 0x12, 0x12, .uns 4, .rws, 1000, 3, false, false, .any⟩,
  ⟨0x7000, 24, 0x13, 0x13, .bool, .rws, 0, 3, false, false, .any⟩,
  ⟨0x7000, 24, 0x14, 0x14, .uns 2, .rws, 0, 3, false, false, .any⟩,
  ⟨0x7000, 24, 0x20, 0x20, .uns 1, .ro, 0, 15, true, false, .any⟩,
  ⟨0x7000, 24, 0x21, 0x21, .uns 1, .ro, 0, 15, true, false, .any⟩,
  ⟨0x7000, 24, 0x22, 0x22, .uns 1, .ro, 0, 15, true, false, .any⟩,
  ⟨0x7000, 24, 0x23, 0x23, .uns 1, .ro, 0, 15, true, false, .any⟩,
  ⟨0x7000, 24, 0x24, 0x24, .uns 2, .rc, 0, 15, true, false, .any⟩,
  ⟨0x7000, 24, 0x25, 0x25, .uns 2, .ro, 0, 15, true, false, .any⟩,
  ⟨0x7000, 24, 0x26, 0x26, .uns 4, .rc, 0, 15, true, false, .any⟩,
  ⟨0x7000, 24, 0x30, 0x3A, .uns 8, .rc, 0, 15, true, false, .any⟩,
  ⟨0x7000, 24, 0x80, 0xFF, .oct 12, .rws, 0, 3, false, false, .any⟩,
  ⟨0x7040, 8, 0x00, 0x00, .uns 1, .co, 255, 15, false, false, .any⟩,
  ⟨0x7040, 8, 0x01, 0x01, .uns 1, .rws, 0, 3, false, false, (.oneOf [0, 1, 2])⟩,
  ⟨0x7040, 8, 0x02, 0x02, .uns 2, .rws, 19200, 3, false, false, (.rng 1000 20000)⟩,
  ⟨0x7040, 8, 0x03, 0x03, .uns 1, .rws, 13, 3, false, false, (.rng 13 26)⟩,
  ⟨0x7040, 8, 0x0B, 0x0B, .uns 1, .rws, 0, 3, false, false, (.rng 0 7)⟩,
  ⟨0x7040, 8, 0x0C, 0x0C, .time80, .rws, 0, 3, false, false, .any⟩,
  ⟨0x7040, 8, 0x0D, 0x0D, .time80, .ro, 0, 15, true, false, .any⟩]

/-- Entries of legacy buses and PLCA (Tables 5.10, 10.7 to 10.9), part 1. -/
def dictBus1 : List EntryDef := [
  ⟨0x7040, 8, 0x0F, 0x0F, .uns 2, .rws, 0, 3, false, false, .any⟩,
  ⟨0x7040, 8, 0x10, 0x17, .uns 2, .rws, 0, 3, false, false, .any⟩,
  ⟨0x7040, 8, 0x20, 0x20, .uns 8, .rws, 0, 3, false, false, .any⟩,
  ⟨0x7040, 8, 0x21, 0x21, .uns 1, .ro, 0, 15, true, false, .any⟩,
  ⟨0x7040, 8, 0x22, 0x22, .uns 4, .rc, 0, 15, false, false, .any⟩,
  ⟨0x7040, 8, 0x30, 0x34, .uns 8, .rc, 0, 15, true, false, .any⟩,
  ⟨0x7040, 8, 0x40, 0xFF, .oct 12, .rws, 0, 3, false, false, .any⟩,
  ⟨0x7060, 1, 0x00, 0x00, .uns 1, .co, 56, 15, false, false, .any⟩,
  ⟨0x7060, 1, 0x01, 0x01, .bool, .rws, 0, 3, false, false, .any⟩,
  ⟨0x7060, 1, 0x02, 0x02, .uns 1, .rws, 3, 3, false, false, (.mask 0x3)⟩,
  ⟨0x7060, 1, 0x03, 0x03, .uns 1, .rws, 0, 3, false, false, (.oneOf [0, 1, 2])⟩,
  ⟨0x7060, 1, 0x04, 0x04, .bool, .rws, 0, 3, false, false, .any⟩,
  ⟨0x7060, 1, 0x0E, 0x0E, .uns 2, .rws, 0, 3, false, false, .any⟩,
  ⟨0x7060, 1, 0x0F, 0x0F, .uns 4, .rws, 1000, 3, false, false, .any⟩,
  ⟨0x7060, 1, 0x10, 0x10, .dom, .wo, 0, 3, false, false, .any⟩,
  ⟨0x7060, 1, 0x20, 0x20, .uns 1, .ro, 0, 15, true, false, .any⟩,
  ⟨0x7060, 1, 0x21, 0x21, .uns 1, .ro, 0, 15, true, false, .any⟩,
  ⟨0x7060, 1, 0x22, 0x22, .uns 1, .ro, 0, 15, true, false, .any⟩,
  ⟨0x7060, 1, 0x23, 0x23, .time80, .ro, 0, 15, true, false, .any⟩,
  ⟨0x7060, 1, 0x24, 0x24, .uns 2, .rc, 0, 15, true, false, .any⟩,
  ⟨0x7060, 1, 0x30, 0x38, .uns 8, .rc, 0, 15, true, false, .any⟩,
  ⟨0x7080, 8, 0x00, 0x00, .uns 1, .co, 7, 15, false, false, .any⟩,
  ⟨0x7080, 8, 0x01, 0x01, .uns 1, .rws, 255, 3, false, false, (.oneOf [0, 1, 2, 3, 4, 5, 6, 7, 255])⟩,
  ⟨0x7080, 8, 0x02, 0x02, .uns 1, .rws, 8, 3, false, false, (.rng 2 8)⟩,
  ⟨0x7080, 8, 0x03, 0x03, .uns 1, .rws, 32, 3, false, false, (.rng 1 255)⟩,
  ⟨0x7080, 8, 0x04, 0x04, .uns 1, .rws, 0, 3, false, false, .any⟩,
  ⟨0x7080, 8, 0x05, 0x05, .uns 1, .rws, 128, 3, false, false, .any⟩,
  ⟨0x7080, 8, 0x06, 0x06, .bool, .ro, 0, 15, true, false, .any⟩,
  ⟨0x7080, 8, 0x07, 0x07, .uns 4, .rc, 0, 15, true, false, .any⟩]

/-- Entries of legacy buses and PLCA (Tables 5.10, 10.7 to 10.9). -/
def dictBus : List EntryDef := dictBus0 ++ dictBus1

/-- Entries of Ford (Tables 11.7 to 11.9), part 0. -/
def dictFord0 : List EntryDef := [
  ⟨0x8000, 1, 0x00, 0x00, .uns 1, .co, 127, 15, false, false, .any⟩,
  ⟨0x8000, 1, 0x01, 0x01, .bool, .rws, 0, 3, false, false, .any⟩,
  ⟨0x8000, 1, 0x02, 0x02, .uns 1, .rws, 16, 3, false, false, (.rng 1 32)⟩,
  ⟨0x8000, 1, 0x03, 0x03, .uns 4, .ro, 0, 15, false, false, .any⟩,
  ⟨0x8000, 1, 0x04, 0x04, .uns 4, .co, 1048576, 15, false, false, .any⟩,
  ⟨0x8000, 1, 0x40, 0x7F, .oct 128, .rws, 0, 3, false, false, .any⟩,
  ⟨0x8100, 1, 0x00, 0x00, .uns 1, .co, 9, 15, false, false, .any⟩,
  ⟨0x8100, 1, 0x01, 0x01, .uns 1, .rws, 0, 3, false, false, (.oneOf [1, 2, 3, 4, 5, 6, 7])⟩,
  ⟨0x8100, 1, 0x02, 0x02, .uns 2, .ro, 0, 15, false, true, .any⟩,
  ⟨0x8100, 1, 0x03, 0x03, .uns 4, .ro, 0, 15, false, false, .any⟩,
  ⟨0x8100, 1, 0x04, 0x04, .uns 4, .co, 8192, 15, false, false, .any⟩,
  ⟨0x8100, 1, 0x05, 0x05, .uns 4, .rw, 0, 15, false, true, .any⟩,
  ⟨0x8100, 1, 0x06, 0x06, .uns 2, .rw, 0, 3, false, true, (.rng 0 8191)⟩,
  ⟨0x8100, 1, 0x07, 0x07, .oct 64, .rw, 0, 3, false, true, .any⟩,
  ⟨0x8100, 1, 0x08, 0x08, .oct 16, .ro, 0, 15, true, true, .any⟩,
  ⟨0x8100, 1, 0x09, 0x09, .oct 2048, .ro, 0, 15, true, true, .any⟩,
  ⟨0x8200, 1, 0x00, 0x00, .uns 1, .co, 9, 15, false, false, .any⟩,
  ⟨0x8200, 1, 0x01, 0x01, .uns 1, .rws, 0, 3, false, false, (.oneOf [1, 2, 3, 4, 5, 6, 7])⟩,
  ⟨0x8200, 1, 0x02, 0x02, .uns 2, .ro, 0, 15, false, true, .any⟩,
  ⟨0x8200, 1, 0x03, 0x03, .uns 4, .ro, 0, 15, false, false, .any⟩,
  ⟨0x8200, 1, 0x04, 0x04, .uns 4, .co, 69632, 15, false, false, .any⟩,
  ⟨0x8200, 1, 0x05, 0x05, .uns 4, .rw, 0, 15, false, true, .any⟩,
  ⟨0x8200, 1, 0x06, 0x06, .uns 1, .rw, 0, 3, false, true, (.oneOf [0, 1])⟩,
  ⟨0x8200, 1, 0x07, 0x07, .uns 4, .rw, 0, 3, false, true, .any⟩,
  ⟨0x8200, 1, 0x08, 0x08, .oct 32, .rw, 0, 3, false, true, .any⟩,
  ⟨0x8200, 1, 0x09, 0x09, .uns 8, .ro, 0, 15, false, true, .any⟩,
  ⟨0x8300, 1, 0x00, 0x00, .uns 1, .co, 39, 15, false, false, .any⟩,
  ⟨0x8300, 1, 0x01, 0x01, .uns 4, .ro, 4294967295, 15, true, false, .any⟩,
  ⟨0x8300, 1, 0x02, 0x02, .uns 4, .rc, 0, 15, true, false, .any⟩,
  ⟨0x8300, 1, 0x03, 0x03, .uns 4, .wo, 0, 3, true, false, .any⟩,
  ⟨0x8300, 1, 0x04, 0x04, .uns 8, .rc, 0, 15, true, false, .any⟩,
  ⟨0x8300, 1, 0x05, 0x05, .oct 12, .ro, 0, 15, true, false, .any⟩,
  ⟨0x8300, 1, 0x06, 0x06, .uns 2, .ro, 0, 15, true, false, .any⟩,
  ⟨0x8300, 1, 0x07, 0x07, .uns 2, .rc, 0, 15, true, false, .any⟩,
  ⟨0x8300, 1, 0x10, 0x10, .uns 8, .rc, 0, 15, true, false, .any⟩,
  ⟨0x8300, 1, 0x11, 0x11, .uns 8, .rc, 0, 15, true, false, .any⟩]

/-- Entries of Ford (Tables 11.7 to 11.9), part 1. -/
def dictFord1 : List EntryDef := [
  ⟨0x8300, 1, 0x12, 0x12, .uns 8, .rc, 0, 15, true, false, .any⟩,
  ⟨0x8300, 1, 0x13, 0x13, .uns 8, .rc, 0, 15, true, false, .any⟩,
  ⟨0x8300, 1, 0x14, 0x14, .uns 8, .rc, 0, 15, true, false, .any⟩,
  ⟨0x8300, 1, 0x15, 0x15, .uns 8, .rc, 0, 15, true, false, .any⟩,
  ⟨0x8300, 1, 0x16, 0x16, .uns 8, .rc, 0, 15, true, false, .any⟩,
  ⟨0x8300, 1, 0x17, 0x17, .uns 8, .rc, 0, 15, true, false, .any⟩,
  ⟨0x8300, 1, 0x18, 0x18, .uns 8, .rc, 0, 15, true, false, .any⟩,
  ⟨0x8300, 1, 0x19, 0x19, .uns 8, .rc, 0, 15, true, false, .any⟩,
  ⟨0x8300, 1, 0x1A, 0x1A, .uns 8, .rc, 0, 15, true, false, .any⟩,
  ⟨0x8300, 1, 0x1B, 0x1B, .uns 8, .rc, 0, 15, true, false, .any⟩,
  ⟨0x8300, 1, 0x1C, 0x1C, .uns 8, .rc, 0, 15, true, false, .any⟩,
  ⟨0x8300, 1, 0x1D, 0x1D, .uns 8, .rc, 0, 15, true, false, .any⟩,
  ⟨0x8300, 1, 0x1E, 0x1E, .uns 8, .rc, 0, 15, true, false, .any⟩,
  ⟨0x8300, 1, 0x1F, 0x1F, .uns 8, .rc, 0, 15, true, false, .any⟩,
  ⟨0x8300, 1, 0x20, 0x20, .uns 8, .rc, 0, 15, true, false, .any⟩,
  ⟨0x8300, 1, 0x21, 0x21, .uns 8, .rc, 0, 15, true, false, .any⟩,
  ⟨0x8300, 1, 0x22, 0x22, .uns 8, .rc, 0, 15, true, false, .any⟩,
  ⟨0x8300, 1, 0x23, 0x23, .uns 8, .rc, 0, 15, true, false, .any⟩,
  ⟨0x8300, 1, 0x24, 0x24, .uns 8, .rc, 0, 15, true, false, .any⟩,
  ⟨0x8300, 1, 0x25, 0x25, .uns 8, .rc, 0, 15, true, false, .any⟩,
  ⟨0x8300, 1, 0x26, 0x26, .uns 8, .rc, 0, 15, true, false, .any⟩,
  ⟨0x8300, 1, 0x27, 0x27, .uns 8, .rc, 0, 15, true, false, .any⟩,
  ⟨0x8400, 1, 0x00, 0x00, .uns 1, .co, 8, 15, false, false, .any⟩,
  ⟨0x8400, 1, 0x01, 0x01, .uns 1, .wo, 0, 3, false, false, (.oneOf [1, 2, 3, 4, 5, 6, 7])⟩,
  ⟨0x8400, 1, 0x02, 0x02, .uns 2, .ro, 0, 15, false, true, .any⟩,
  ⟨0x8400, 1, 0x03, 0x03, .uns 4, .ro, 0, 15, false, false, .any⟩,
  ⟨0x8400, 1, 0x04, 0x04, .uns 4, .co, 1024, 15, false, false, .any⟩,
  ⟨0x8400, 1, 0x05, 0x05, .uns 4, .rw, 0, 15, false, true, .any⟩,
  ⟨0x8400, 1, 0x06, 0x06, .uns 2, .rw, 0, 3, false, true, (.rng 0 1023)⟩,
  ⟨0x8400, 1, 0x07, 0x07, .uns 8, .rw, 0, 3, false, true, .any⟩,
  ⟨0x8400, 1, 0x08, 0x08, .uns 8, .ro, 1024, 15, true, true, .any⟩]

/-- Entries of Ford (Tables 11.7 to 11.9). -/
def dictFord : List EntryDef := dictFord0 ++ dictFord1

/-- Entries of Saddle and the Elnar link (Tables 12.14 to 12.16, 13.6), part 0. -/
def dictPair0 : List EntryDef := [
  ⟨0x9000, 1, 0x00, 0x00, .uns 1, .co, 37, 15, false, false, .any⟩,
  ⟨0x9000, 1, 0x01, 0x01, .bool, .rws, 0, 3, false, false, .any⟩,
  ⟨0x9000, 1, 0x02, 0x02, .uns 1, .rws, 0, 3, false, false, (.oneOf [0, 1])⟩,
  ⟨0x9000, 1, 0x03, 0x03, .uns 1, .rws, 255, 3, false, false, .any⟩,
  ⟨0x9000, 1, 0x04, 0x04, .uns 2, .rws, 1500, 3, false, false, (.rng 100 2500)⟩,
  ⟨0x9000, 1, 0x05, 0x05, .uns 4, .rws, 20, 3, false, false, (.rng 5 1000)⟩,
  ⟨0x9000, 1, 0x06, 0x06, .uns 2, .rws, 10, 3, false, false, (.rng 1 1000)⟩,
  ⟨0x9000, 1, 0x10, 0x10, .uns 1, .ro, 0, 15, true, false, .any⟩,
  ⟨0x9000, 1, 0x11, 0x11, .uns 1, .ro, 0, 15, true, false, .any⟩,
  ⟨0x9000, 1, 0x12, 0x12, .uns 2, .ro, 1, 15, true, false, .any⟩,
  ⟨0x9000, 1, 0x13, 0x13, .uns 1, .ro, 0, 15, true, false, .any⟩,
  ⟨0x9000, 1, 0x14, 0x14, .uns 2, .rc, 0, 15, true, false, .any⟩,
  ⟨0x9000, 1, 0x15, 0x15, .uns 8, .ro, 0, 15, true, false, .any⟩,
  ⟨0x9000, 1, 0x16, 0x16, .uns 4, .ro, 0, 15, false, false, .any⟩,
  ⟨0x9000, 1, 0x17, 0x17, .uns 4, .ro, 0, 15, true, false, .any⟩,
  ⟨0x9000, 1, 0x18, 0x18, .uns 4, .rc, 0, 15, true, false, .any⟩,
  ⟨0x9000, 1, 0x19, 0x19, .uns 4, .ro, 0, 15, true, false, .any⟩,
  ⟨0x9000, 1, 0x1A, 0x1A, .uns 4, .ro, 0, 15, true, false, .any⟩,
  ⟨0x9000, 1, 0x1B, 0x1B, .uns 4, .ro, 0, 15, true, false, .any⟩,
  ⟨0x9000, 1, 0x1C, 0x1C, .uns 4, .ro, 0, 15, true, false, .any⟩,
  ⟨0x9000, 1, 0x1D, 0x1D, .uns 4, .rc, 0, 15, true, false, .any⟩,
  ⟨0x9000, 1, 0x1E, 0x1E, .oct 10, .ro, 0, 15, true, false, .any⟩,
  ⟨0x9000, 1, 0x1F, 0x1F, .uns 8, .rc, 0, 15, true, false, .any⟩,
  ⟨0x9000, 1, 0x20, 0x20, .uns 8, .rc, 0, 15, true, false, .any⟩,
  ⟨0x9000, 1, 0x21, 0x21, .uns 8, .rc, 0, 15, true, false, .any⟩,
  ⟨0x9000, 1, 0x22, 0x22, .uns 8, .rc, 0, 15, true, false, .any⟩,
  ⟨0x9000, 1, 0x23, 0x23, .uns 4, .ro, 0, 15, true, false, .any⟩,
  ⟨0x9000, 1, 0x24, 0x24, .uns 8, .rc, 0, 15, true, false, .any⟩,
  ⟨0x9000, 1, 0x25, 0x25, .uns 8, .rc, 0, 15, true, false, .any⟩,
  ⟨0x9001, 1, 0x00, 0x00, .uns 1, .co, 2, 15, false, false, .any⟩,
  ⟨0x9001, 1, 0x01, 0x01, .uns 1, .wo, 0, 3, true, false, (.oneOf [1, 2, 3, 4, 5])⟩,
  ⟨0x9001, 1, 0x02, 0x02, .uns 2, .ro, 0, 15, true, false, .any⟩,
  ⟨0x9010, 1, 0x00, 0x00, .uns 1, .co, 7, 15, false, false, .any⟩,
  ⟨0x9010, 1, 0x01, 0x01, .bool, .rws, 1, 3, false, false, .any⟩,
  ⟨0x9010, 1, 0x02, 0x02, .uns 4, .rws, 900, 3, false, false, (.rng 60 86400)⟩,
  ⟨0x9010, 1, 0x03, 0x03, .uns 1, .rws, 0, 3, false, false, (.rng 0 31)⟩]

/-- Entries of Saddle and the Elnar link (Tables 12.14 to 12.16, 13.6), part 1. -/
def dictPair1 : List EntryDef := [
  ⟨0x9010, 1, 0x04, 0x04, .time80, .ro, 0, 15, false, false, .any⟩,
  ⟨0x9010, 1, 0x05, 0x05, .uns 4, .ro, 0, 15, false, false, .any⟩,
  ⟨0x9010, 1, 0x06, 0x06, .uns 2, .ro, 0, 15, false, false, .any⟩,
  ⟨0x9010, 1, 0x07, 0x07, .uns 2, .rws, 10, 3, false, false, (.rng 1 1000)⟩,
  ⟨0x9020, 1, 0x00, 0x00, .uns 1, .co, 95, 15, false, false, .any⟩,
  ⟨0x9020, 1, 0x01, 0x18, .uns 1, .rws, 1, 3, false, false, (.mask 0x1)⟩,
  ⟨0x9020, 1, 0x19, 0x20, .uns 1, .rws, 1, 3, false, false, (.mask 0x1)⟩,
  ⟨0x9020, 1, 0x21, 0x21, .uns 1, .rws, 1, 3, false, false, (.mask 0x1)⟩,
  ⟨0x9020, 1, 0x22, 0x31, .uns 1, .rws, 0, 3, false, false, (.mask 0x3)⟩,
  ⟨0x9020, 1, 0x40, 0x5F, .uns 1, .rws, 0, 3, false, false, (.oneOf [0, 1, 2])⟩,
  ⟨0x9100, 1, 0x00, 0x00, .uns 1, .co, 12, 15, false, false, .any⟩,
  ⟨0x9100, 1, 0x01, 0x01, .bool, .rws, 1, 3, false, false, .any⟩,
  ⟨0x9100, 1, 0x02, 0x02, .uns 1, .rws, 6, 3, false, false, (.rng 5 9)⟩,
  ⟨0x9100, 1, 0x03, 0x03, .uns 1, .ro, 0, 15, true, false, .any⟩,
  ⟨0x9100, 1, 0x04, 0x04, .uns 1, .ro, 0, 15, true, false, .any⟩,
  ⟨0x9100, 1, 0x05, 0x05, .uns 1, .rc, 0, 15, true, false, .any⟩,
  ⟨0x9100, 1, 0x06, 0x06, .uns 8, .rc, 0, 15, true, false, .any⟩,
  ⟨0x9100, 1, 0x07, 0x07, .uns 8, .rc, 0, 15, true, false, .any⟩,
  ⟨0x9100, 1, 0x08, 0x08, .uns 8, .rc, 0, 15, true, false, .any⟩,
  ⟨0x9100, 1, 0x09, 0x09, .uns 8, .rc, 0, 15, true, false, .any⟩,
  ⟨0x9100, 1, 0x0A, 0x0A, .uns 4, .ro, 0, 15, true, false, .any⟩,
  ⟨0x9100, 1, 0x0B, 0x0B, .sgn 4, .rws, 0, 3, false, false, .any⟩,
  ⟨0x9100, 1, 0x0C, 0x0C, .uns 8, .rc, 0, 15, true, false, .any⟩,
  ⟨0x9110, 4, 0x00, 0x00, .uns 1, .co, 14, 15, false, false, .any⟩,
  ⟨0x9110, 4, 0x01, 0x01, .bool, .rws, 1, 3, false, false, .any⟩,
  ⟨0x9110, 4, 0x02, 0x02, .uns 1, .ro, 0, 15, true, false, .any⟩,
  ⟨0x9110, 4, 0x03, 0x03, .uns 1, .ro, 2, 15, true, false, .any⟩,
  ⟨0x9110, 4, 0x04, 0x04, .uns 1, .rc, 0, 15, true, false, .any⟩,
  ⟨0x9110, 4, 0x05, 0x05, .uns 1, .ro, 0, 15, true, false, .any⟩,
  ⟨0x9110, 4, 0x06, 0x06, .uns 8, .rc, 0, 15, true, false, .any⟩,
  ⟨0x9110, 4, 0x07, 0x07, .uns 4, .ro, 0, 15, true, false, .any⟩,
  ⟨0x9110, 4, 0x08, 0x08, .uns 8, .rc, 0, 15, true, false, .any⟩,
  ⟨0x9110, 4, 0x09, 0x09, .uns 8, .rc, 0, 15, true, false, .any⟩,
  ⟨0x9110, 4, 0x0A, 0x0A, .uns 8, .rc, 0, 15, true, false, .any⟩,
  ⟨0x9110, 4, 0x0B, 0x0B, .uns 4, .rc, 0, 15, true, false, .any⟩,
  ⟨0x9110, 4, 0x0C, 0x0C, .uns 8, .rc, 0, 15, true, false, .any⟩]

/-- Entries of Saddle and the Elnar link (Tables 12.14 to 12.16, 13.6), part 2. -/
def dictPair2 : List EntryDef := [
  ⟨0x9110, 4, 0x0D, 0x0D, .uns 8, .rc, 0, 15, true, false, .any⟩,
  ⟨0x9110, 4, 0x0E, 0x0E, .uns 8, .rc, 0, 15, true, false, .any⟩,
  ⟨0x9120, 1, 0x00, 0x00, .uns 1, .co, 6, 15, false, false, .any⟩,
  ⟨0x9120, 1, 0x01, 0x01, .str 16, .rws, 0x303030302d524941502d3034375a564f, 3, false, false, .any⟩,
  ⟨0x9120, 1, 0x02, 0x02, .str 16, .rws, 0x303030302d524941502d3034375a564f, 3, false, false, .any⟩,
  ⟨0x9120, 1, 0x03, 0x06, .oct 16, .ro, 0, 15, true, false, .any⟩,
  ⟨0x9130, 1, 0x00, 0x00, .uns 1, .co, 10, 15, false, false, .any⟩,
  ⟨0x9130, 1, 0x01, 0x01, .uns 4, .rws, 50, 3, false, false, (.rng 10 10000)⟩,
  ⟨0x9130, 1, 0x02, 0x02, .uns 2, .ro, 0, 15, true, false, .any⟩,
  ⟨0x9130, 1, 0x03, 0x03, .uns 8, .rc, 0, 15, true, false, .any⟩,
  ⟨0x9130, 1, 0x04, 0x04, .uns 8, .rc, 0, 15, true, false, .any⟩,
  ⟨0x9130, 1, 0x05, 0x05, .uns 8, .rc, 0, 15, true, false, .any⟩,
  ⟨0x9130, 1, 0x06, 0x06, .uns 8, .rc, 0, 15, true, false, .any⟩,
  ⟨0x9130, 1, 0x07, 0x07, .uns 4, .rc, 0, 15, true, false, .any⟩,
  ⟨0x9130, 1, 0x08, 0x08, .oct 24, .ro, 0, 15, true, false, .any⟩,
  ⟨0x9130, 1, 0x09, 0x09, .uns 4, .co, 65536, 15, false, false, .any⟩,
  ⟨0x9130, 1, 0x0A, 0x0A, .uns 8, .rc, 0, 15, true, false, .any⟩,
  ⟨0x9140, 1, 0x00, 0x00, .uns 1, .co, 68, 15, false, false, .any⟩,
  ⟨0x9140, 1, 0x01, 0x01, .uns 4, .co, 100, 15, false, false, .any⟩,
  ⟨0x9140, 1, 0x02, 0x02, .uns 8, .rc, 0, 15, true, false, .any⟩,
  ⟨0x9140, 1, 0x03, 0x42, .uns 2, .ro, 0, 15, true, false, .any⟩,
  ⟨0x9140, 1, 0x43, 0x43, .uns 1, .wo, 0, 3, false, false, (.rng 0 63)⟩,
  ⟨0x9140, 1, 0x44, 0x44, .uns 8, .rc, 0, 15, true, false, .any⟩]

/-- Entries of Saddle and the Elnar link (Tables 12.14 to 12.16, 13.6). -/
def dictPair : List EntryDef := dictPair0 ++ dictPair1 ++ dictPair2

/-- Entries of safety cluster, faults, monitors and watchdogs (Tables 14.7 to 14.10), part 0. -/
def dictSafety0 : List EntryDef := [
  ⟨0xA000, 1, 0x00, 0x00, .uns 1, .co, 5, 15, false, false, .any⟩,
  ⟨0xA000, 1, 0x01, 0x01, .uns 1, .ro, 0, 15, true, false, .any⟩,
  ⟨0xA000, 1, 0x02, 0x02, .uns 4, .ro, 0, 15, true, false, .any⟩,
  ⟨0xA000, 1, 0x03, 0x03, .bool, .rws, 0, 3, false, false, .any⟩,
  ⟨0xA000, 1, 0x04, 0x04, .bool, .rws, 1, 3, false, false, .any⟩,
  ⟨0xA000, 1, 0x05, 0x05, .uns 4, .ro, 0, 15, true, false, .any⟩,
  ⟨0xA010, 4, 0x00, 0x00, .uns 1, .co, 11, 15, false, false, .any⟩,
  ⟨0xA010, 4, 0x01, 0x01, .uns 1, .ro, 0, 15, true, false, .any⟩,
  ⟨0xA010, 4, 0x02, 0x02, .uns 2, .rws, 2048, 3, false, false, (.rng 512 8192)⟩,
  ⟨0xA010, 4, 0x03, 0x03, .uns 1, .rws, 16, 3, false, false, (.rng 1 255)⟩,
  ⟨0xA010, 4, 0x04, 0x04, .uns 1, .wo, 0, 3, true, false, (.oneOf [1, 2, 3])⟩,
  ⟨0xA010, 4, 0x05, 0x05, .uns 4, .rws, 131072, 3, false, false, .any⟩,
  ⟨0xA010, 4, 0x06, 0x06, .uns 4, .ro, 0, 15, true, false, .any⟩,
  ⟨0xA010, 4, 0x07, 0x07, .oct 20, .ro, 0, 15, true, false, .any⟩,
  ⟨0xA010, 4, 0x08, 0x08, .uns 4, .rc, 0, 15, true, false, .any⟩,
  ⟨0xA010, 4, 0x09, 0x09, .uns 4, .ro, 0, 15, true, false, .any⟩,
  ⟨0xA010, 4, 0x0A, 0x0A, .uns 8, .ro, 0, 15, true, false, .any⟩,
  ⟨0xA010, 4, 0x0B, 0x0B, .uns 2, .ro, 0, 15, true, false, .any⟩,
  ⟨0xA100, 1, 0x00, 0x00, .uns 1, .co, 33, 15, false, false, .any⟩,
  ⟨0xA100, 1, 0x01, 0x01, .oct 32, .ro, 0, 15, true, false, .any⟩,
  ⟨0xA100, 1, 0x02, 0x02, .oct 32, .ro, 0, 15, true, false, .any⟩,
  ⟨0xA100, 1, 0x03, 0x03, .uns 1, .wo, 0, 3, true, false, .any⟩,
  ⟨0xA100, 1, 0x04, 0x04, .uns 1, .ro, 0, 15, true, false, .any⟩,
  ⟨0xA100, 1, 0x05, 0x05, .bool, .rws, 1, 3, false, false, .any⟩,
  ⟨0xA100, 1, 0x06, 0x06, .uns 2, .rws, 10, 3, false, false, (.rng 1 1000)⟩,
  ⟨0xA100, 1, 0x10, 0x13, .oct 64, .rws, 0, 3, false, false, .any⟩,
  ⟨0xA100, 1, 0x20, 0x20, .uns 1, .rw, 0, 15, false, true, .any⟩,
  ⟨0xA100, 1, 0x21, 0x21, .oct 28, .rc, 0, 15, true, false, .any⟩,
  ⟨0xA200, 1, 0x00, 0x00, .uns 1, .co, 32, 15, false, false, .any⟩,
  ⟨0xA200, 1, 0x01, 0x0A, .uns 4, .rws, 0, 3, false, false, .any⟩,
  ⟨0xA200, 1, 0x10, 0x17, .sgn 2, .rws, 125, 3, false, false, (.rng 0 140)⟩,
  ⟨0xA200, 1, 0x18, 0x18, .uns 2, .rws, 2, 3, false, false, (.rng 1 100)⟩,
  ⟨0xA200, 1, 0x20, 0x20, .uns 4, .ro, 0, 15, true, false, .any⟩,
  ⟨0xA300, 1, 0x00, 0x00, .uns 1, .co, 77, 15, false, false, .any⟩,
  ⟨0xA300, 1, 0x10, 0x10, .bool, .co, 1, 3, false, false, .any⟩,
  ⟨0xA300, 1, 0x11, 0x11, .uns 4, .rws, 0, 3, false, false, .any⟩]

/-- Entries of safety cluster, faults, monitors and watchdogs (Tables 14.7 to 14.10), part 1. -/
def dictSafety1 : List EntryDef := [
  ⟨0xA300, 1, 0x12, 0x12, .uns 4, .rws, 1000, 3, false, false, (.rng 50 10000000)⟩,
  ⟨0xA300, 1, 0x13, 0x13, .uns 2, .wo, 0, 16, true, false, .any⟩,
  ⟨0xA300, 1, 0x14, 0x14, .uns 1, .ro, 0, 15, true, false, .any⟩,
  ⟨0xA300, 1, 0x15, 0x15, .uns 4, .rc, 0, 15, true, false, .any⟩,
  ⟨0xA300, 1, 0x18, 0x18, .bool, .co, 1, 3, false, false, .any⟩,
  ⟨0xA300, 1, 0x19, 0x19, .uns 4, .rws, 0, 3, false, false, .any⟩,
  ⟨0xA300, 1, 0x1A, 0x1A, .uns 4, .rws, 1000, 3, false, false, (.rng 50 10000000)⟩,
  ⟨0xA300, 1, 0x1B, 0x1B, .uns 2, .wo, 0, 16, true, false, .any⟩,
  ⟨0xA300, 1, 0x1C, 0x1C, .uns 1, .ro, 0, 15, true, false, .any⟩,
  ⟨0xA300, 1, 0x1D, 0x1D, .uns 4, .rc, 0, 15, true, false, .any⟩,
  ⟨0xA300, 1, 0x20, 0x20, .bool, .rws, 0, 3, false, false, .any⟩,
  ⟨0xA300, 1, 0x21, 0x21, .uns 4, .rws, 0, 3, false, false, .any⟩,
  ⟨0xA300, 1, 0x22, 0x22, .uns 4, .rws, 1000, 3, false, false, (.rng 50 10000000)⟩,
  ⟨0xA300, 1, 0x23, 0x23, .uns 2, .wo, 0, 16, true, false, .any⟩,
  ⟨0xA300, 1, 0x24, 0x24, .uns 1, .ro, 0, 15, true, false, .any⟩,
  ⟨0xA300, 1, 0x25, 0x25, .uns 4, .rc, 0, 15, true, false, .any⟩,
  ⟨0xA300, 1, 0x28, 0x28, .bool, .rws, 0, 3, false, false, .any⟩,
  ⟨0xA300, 1, 0x29, 0x29, .uns 4, .rws, 0, 3, false, false, .any⟩,
  ⟨0xA300, 1, 0x2A, 0x2A, .uns 4, .rws, 1000, 3, false, false, (.rng 50 10000000)⟩,
  ⟨0xA300, 1, 0x2B, 0x2B, .uns 2, .wo, 0, 16, true, false, .any⟩,
  ⟨0xA300, 1, 0x2C, 0x2C, .uns 1, .ro, 0, 15, true, false, .any⟩,
  ⟨0xA300, 1, 0x2D, 0x2D, .uns 4, .rc, 0, 15, true, false, .any⟩,
  ⟨0xA300, 1, 0x30, 0x30, .bool, .rws, 0, 3, false, false, .any⟩,
  ⟨0xA300, 1, 0x31, 0x31, .uns 4, .rws, 0, 3, false, false, .any⟩,
  ⟨0xA300, 1, 0x32, 0x32, .uns 4, .rws, 1000, 3, false, false, (.rng 50 10000000)⟩,
  ⟨0xA300, 1, 0x33, 0x33, .uns 2, .wo, 0, 16, true, false, .any⟩,
  ⟨0xA300, 1, 0x34, 0x34, .uns 1, .ro, 0, 15, true, false, .any⟩,
  ⟨0xA300, 1, 0x35, 0x35, .uns 4, .rc, 0, 15, true, false, .any⟩,
  ⟨0xA300, 1, 0x38, 0x38, .bool, .rws, 0, 3, false, false, .any⟩,
  ⟨0xA300, 1, 0x39, 0x39, .uns 4, .rws, 0, 3, false, false, .any⟩,
  ⟨0xA300, 1, 0x3A, 0x3A, .uns 4, .rws, 1000, 3, false, false, (.rng 50 10000000)⟩,
  ⟨0xA300, 1, 0x3B, 0x3B, .uns 2, .wo, 0, 16, true, false, .any⟩,
  ⟨0xA300, 1, 0x3C, 0x3C, .uns 1, .ro, 0, 15, true, false, .any⟩,
  ⟨0xA300, 1, 0x3D, 0x3D, .uns 4, .rc, 0, 15, true, false, .any⟩,
  ⟨0xA300, 1, 0x40, 0x40, .bool, .rws, 0, 3, false, false, .any⟩,
  ⟨0xA300, 1, 0x41, 0x41, .uns 4, .rws, 0, 3, false, false, .any⟩]

/-- Entries of safety cluster, faults, monitors and watchdogs (Tables 14.7 to 14.10), part 2. -/
def dictSafety2 : List EntryDef := [
  ⟨0xA300, 1, 0x42, 0x42, .uns 4, .rws, 1000, 3, false, false, (.rng 50 10000000)⟩,
  ⟨0xA300, 1, 0x43, 0x43, .uns 2, .wo, 0, 3, true, false, .any⟩,
  ⟨0xA300, 1, 0x44, 0x44, .uns 1, .ro, 0, 15, true, false, .any⟩,
  ⟨0xA300, 1, 0x45, 0x45, .uns 4, .rc, 0, 15, true, false, .any⟩,
  ⟨0xA300, 1, 0x48, 0x48, .bool, .rws, 0, 3, false, false, .any⟩,
  ⟨0xA300, 1, 0x49, 0x49, .uns 4, .rws, 0, 3, false, false, .any⟩,
  ⟨0xA300, 1, 0x4A, 0x4A, .uns 4, .rws, 1000, 3, false, false, (.rng 50 10000000)⟩,
  ⟨0xA300, 1, 0x4B, 0x4B, .uns 2, .wo, 0, 16, true, false, .any⟩,
  ⟨0xA300, 1, 0x4C, 0x4C, .uns 1, .ro, 0, 15, true, false, .any⟩,
  ⟨0xA300, 1, 0x4D, 0x4D, .uns 4, .rc, 0, 15, true, false, .any⟩]

/-- Entries of safety cluster, faults, monitors and watchdogs (Tables 14.7 to 14.10). -/
def dictSafety : List EntryDef := dictSafety0 ++ dictSafety1 ++ dictSafety2

/-- Entries of keys, attestation and boot (Tables 15.8, 15.9), part 0. -/
def dictKey0 : List EntryDef := [
  ⟨0xB000, 1, 0x00, 0x00, .uns 1, .co, 8, 15, true, false, .any⟩,
  ⟨0xB000, 1, 0x01, 0x01, .uns 2, .ro, 0, 15, true, false, .any⟩,
  ⟨0xB000, 1, 0x02, 0x02, .uns 1, .rw, 0, 15, true, true, .any⟩,
  ⟨0xB000, 1, 0x03, 0x03, .oct 16, .ro, 0, 15, true, false, .any⟩,
  ⟨0xB000, 1, 0x04, 0x04, .uns 2, .rws, 10, 3, true, false, (.rng 1 1000)⟩,
  ⟨0xB000, 1, 0x05, 0x05, .uns 4, .ro, 0, 15, true, false, .any⟩,
  ⟨0xB000, 1, 0x06, 0x06, .uns 4, .rc, 0, 15, true, false, .any⟩,
  ⟨0xB000, 1, 0x07, 0x07, .uns 1, .ro, 0, 15, true, false, .any⟩,
  ⟨0xB000, 1, 0x08, 0x08, .uns 8, .rc, 0, 15, true, false, .any⟩,
  ⟨0xB100, 1, 0x00, 0x00, .uns 1, .co, 5, 15, true, false, .any⟩,
  ⟨0xB100, 1, 0x01, 0x01, .dom, .wo, 0, 3, true, false, .any⟩,
  ⟨0xB100, 1, 0x02, 0x02, .uns 2, .ro, 0, 3, true, false, .any⟩,
  ⟨0xB100, 1, 0x03, 0x03, .uns 8, .ro, 0, 15, true, false, .any⟩,
  ⟨0xB100, 1, 0x04, 0x04, .uns 4, .rc, 0, 15, true, false, .any⟩,
  ⟨0xB100, 1, 0x05, 0x05, .uns 1, .ro, 0, 15, true, false, .any⟩,
  ⟨0xB200, 1, 0x00, 0x00, .uns 1, .co, 8, 15, true, false, .any⟩,
  ⟨0xB200, 1, 0x01, 0x01, .oct 48, .ro, 0, 15, true, false, .any⟩,
  ⟨0xB200, 1, 0x02, 0x02, .oct 32, .rw, 0, 3, true, true, .any⟩,
  ⟨0xB200, 1, 0x03, 0x03, .uns 1, .rw, 0, 3, true, true, .any⟩,
  ⟨0xB200, 1, 0x04, 0x04, .uns 1, .wo, 0, 3, true, false, (.oneOf [1])⟩,
  ⟨0xB200, 1, 0x05, 0x05, .dom, .ro, 0, 3, true, false, .any⟩,
  ⟨0xB200, 1, 0x06, 0x06, .oct 97, .ro, 0, 15, true, false, .any⟩,
  ⟨0xB200, 1, 0x07, 0x07, .dom, .ro, 0, 15, true, false, .any⟩,
  ⟨0xB200, 1, 0x08, 0x08, .dom, .ro, 0, 15, true, false, .any⟩,
  ⟨0xB300, 1, 0x00, 0x00, .uns 1, .co, 27, 15, true, false, .any⟩,
  ⟨0xB300, 1, 0x01, 0x01, .uns 1, .ro, 0, 15, true, false, .any⟩,
  ⟨0xB300, 1, 0x02, 0x02, .uns 1, .ro, 0, 15, true, false, .any⟩,
  ⟨0xB300, 1, 0x03, 0x03, .uns 2, .ro, 0, 15, true, false, .any⟩,
  ⟨0xB300, 1, 0x04, 0x04, .uns 1, .ro, 0, 15, true, false, .any⟩,
  ⟨0xB300, 1, 0x05, 0x05, .uns 1, .wo, 0, 3, true, false, (.oneOf [1])⟩,
  ⟨0xB300, 1, 0x06, 0x06, .uns 1, .wo, 0, 3, true, false, (.oneOf [1, 2])⟩,
  ⟨0xB300, 1, 0x07, 0x07, .uns 2, .ro, 0, 15, true, false, .any⟩,
  ⟨0xB300, 1, 0x08, 0x08, .uns 2, .ro, 0, 15, true, false, .any⟩,
  ⟨0xB300, 1, 0x10, 0x17, .oct 48, .ro, 0, 15, true, false, .any⟩,
  ⟨0xB300, 1, 0x18, 0x18, .oct 48, .wo, 0, 3, true, false, .any⟩,
  ⟨0xB300, 1, 0x19, 0x19, .uns 1, .ro, 0, 15, true, false, .any⟩]

/-- Entries of keys, attestation and boot (Tables 15.8, 15.9), part 1. -/
def dictKey1 : List EntryDef := [
  ⟨0xB300, 1, 0x1A, 0x1A, .oct 32, .ro, 0, 3, true, false, .any⟩,
  ⟨0xB300, 1, 0x1B, 0x1B, .dom, .wo, 0, 3, true, false, .any⟩,
  ⟨0xB400, 1, 0x00, 0x00, .uns 1, .co, 5, 15, true, false, .any⟩,
  ⟨0xB400, 1, 0x01, 0x01, .uns 1, .ro, 0, 15, true, false, .any⟩,
  ⟨0xB400, 1, 0x02, 0x02, .uns 1, .rc, 0, 15, true, false, .any⟩,
  ⟨0xB400, 1, 0x03, 0x03, .uns 1, .wo, 0, 3, true, false, (.oneOf [1])⟩,
  ⟨0xB400, 1, 0x04, 0x04, .uns 4, .rc, 0, 15, true, false, .any⟩,
  ⟨0xB400, 1, 0x05, 0x05, .oct 16, .ro, 0, 15, true, false, .any⟩]

/-- Entries of keys, attestation and boot (Tables 15.8, 15.9). -/
def dictKey : List EntryDef := dictKey0 ++ dictKey1

/-- Entries of power, wake, clocks and measurement (Tables 16.10, 17.7, 20.3), part 0. -/
def dictPower0 : List EntryDef := [
  ⟨0xC000, 1, 0x00, 0x00, .uns 1, .co, 19, 15, false, false, .any⟩,
  ⟨0xC000, 1, 0x01, 0x01, .uns 1, .wo, 0, 3, false, false, (.oneOf [1, 2, 3, 4])⟩,
  ⟨0xC000, 1, 0x02, 0x02, .uns 1, .ro, 0, 15, true, false, .any⟩,
  ⟨0xC000, 1, 0x03, 0x03, .uns 2, .ro, 0, 15, true, false, .any⟩,
  ⟨0xC000, 1, 0x07, 0x07, .uns 4, .ro, 0, 15, true, false, .any⟩,
  ⟨0xC000, 1, 0x09, 0x09, .uns 1, .ro, 0, 15, true, false, .any⟩,
  ⟨0xC000, 1, 0x10, 0x10, .dom, .wo, 0, 3, false, false, .any⟩,
  ⟨0xC000, 1, 0x11, 0x11, .uns 4, .ro, 0, 15, true, false, .any⟩,
  ⟨0xC000, 1, 0x12, 0x12, .uns 4, .ro, 0, 15, true, false, .any⟩,
  ⟨0xC000, 1, 0x13, 0x13, .uns 4, .ro, 0, 15, true, false, .any⟩,
  ⟨0xC100, 1, 0x00, 0x00, .uns 1, .co, 9, 15, false, false, .any⟩,
  ⟨0xC100, 1, 0x01, 0x01, .uns 8, .rws, 0, 3, false, false, (.mask 0x3FFFFFFFF)⟩,
  ⟨0xC100, 1, 0x02, 0x02, .uns 8, .ro, 0, 15, true, false, .any⟩,
  ⟨0xC100, 1, 0x03, 0x03, .uns 1, .rws, 0, 3, false, false, (.mask 0xF)⟩,
  ⟨0xC100, 1, 0x04, 0x04, .uns 2, .rws, 50, 3, false, false, (.rng 1 10000)⟩,
  ⟨0xC100, 1, 0x05, 0x05, .uns 2, .rws, 5, 3, false, false, (.rng 1 100)⟩,
  ⟨0xC100, 1, 0x06, 0x06, .uns 4, .rws, 0, 3, false, false, (.rng 0 86400000)⟩,
  ⟨0xC100, 1, 0x07, 0x07, .uns 1, .ro, 0, 15, true, false, .any⟩,
  ⟨0xC100, 1, 0x08, 0x08, .uns 8, .ro, 0, 15, true, false, .any⟩,
  ⟨0xC100, 1, 0x09, 0x09, .uns 1, .ro, 255, 15, true, false, .any⟩,
  ⟨0xC200, 1, 0x00, 0x00, .uns 1, .co, 22, 15, true, false, .any⟩,
  ⟨0xC200, 1, 0x01, 0x01, .uns 1, .ro, 0, 15, true, false, .any⟩,
  ⟨0xC200, 1, 0x02, 0x02, .uns 2, .ro, 0, 15, true, false, .any⟩,
  ⟨0xC200, 1, 0x03, 0x03, .uns 2, .rc, 0, 15, true, false, .any⟩,
  ⟨0xC200, 1, 0x04, 0x04, .bool, .rws, 0, 3, false, false, .any⟩,
  ⟨0xC200, 1, 0x05, 0x05, .uns 2, .rws, 100, 3, false, false, (.rng 10 1000)⟩,
  ⟨0xC200, 1, 0x10, 0x10, .sgn 4, .ro, 0, 15, true, false, .any⟩,
  ⟨0xC200, 1, 0x11, 0x11, .sgn 4, .ro, 0, 15, true, false, .any⟩,
  ⟨0xC200, 1, 0x12, 0x12, .sgn 4, .ro, 0, 15, true, false, .any⟩,
  ⟨0xC200, 1, 0x13, 0x13, .sgn 4, .ro, 0, 15, true, false, .any⟩,
  ⟨0xC200, 1, 0x14, 0x14, .sgn 4, .ro, 0, 15, true, false, .any⟩,
  ⟨0xC200, 1, 0x15, 0x15, .sgn 4, .ro, 2147483648, 15, true, false, .any⟩,
  ⟨0xC200, 1, 0x16, 0x16, .uns 4, .ro, 0, 15, true, false, .any⟩,
  ⟨0xC300, 1, 0x00, 0x00, .uns 1, .co, 75, 15, true, false, .any⟩,
  ⟨0xC300, 1, 0x01, 0x08, .sgn 2, .ro, 0, 15, true, false, .any⟩,
  ⟨0xC300, 1, 0x09, 0x09, .sgn 2, .rc, 0, 15, true, false, .any⟩]

/-- Entries of power, wake, clocks and measurement (Tables 16.10, 17.7, 20.3), part 1. -/
def dictPower1 : List EntryDef := [
  ⟨0xC300, 1, 0x10, 0x19, .uns 2, .ro, 0, 15, true, false, .any⟩,
  ⟨0xC300, 1, 0x20, 0x27, .uns 2, .ro, 1000, 15, true, false, .any⟩,
  ⟨0xC300, 1, 0x28, 0x28, .uns 4, .ro, 0, 15, true, false, .any⟩,
  ⟨0xC300, 1, 0x29, 0x2F, .uns 4, .ro, 0, 15, true, false, .any⟩,
  ⟨0xC300, 1, 0x30, 0x30, .uns 2, .rws, 100, 3, true, false, (.rng 0 1000)⟩,
  ⟨0xC300, 1, 0x31, 0x34, .uns 4, .rc, 0, 15, true, false, .any⟩,
  ⟨0xC300, 1, 0x39, 0x39, .sgn 4, .ro, 0, 15, true, false, .any⟩,
  ⟨0xC300, 1, 0x40, 0x47, .uns 4, .ro, 0, 15, true, false, .any⟩,
  ⟨0xC300, 1, 0x48, 0x4B, .uns 4, .ro, 0, 15, true, false, .any⟩]

/-- Entries of power, wake, clocks and measurement (Tables 16.10, 17.7, 20.3). -/
def dictPower : List EntryDef := dictPower0 ++ dictPower1

/-- The rows whose index has the high byte `idx / 256` of its family. -/
def dictFamily (idx : Nat) : List EntryDef :=

  if idx < 0x2000 then dictAccess else

  if idx < 0x3000 then dictTime else

  if idx < 0x3400 then dictPort else

  if idx < 0x4000 then dictQueue else

  if idx < 0x5000 then dictSwitch else

  if idx < 0x6000 then dictClass else

  if idx < 0x7000 then dictNarrows else

  if idx < 0x8000 then dictBus else

  if idx < 0x9000 then dictFord else

  if idx < 0xA000 then dictPair else

  if idx < 0xB000 then dictSafety else

  if idx < 0xC000 then dictKey else

  dictPower


/-- The dictionary row that defines `idx.sub`, if any (R48, R435, R443). Parameters of `3400h+p` repeat every 16
sub-indices, one block for each queue (R447). -/
def entryDef (idx sub : Nat) : Option EntryDef :=
  let sub' := if 0x3400 ≤ idx ∧ idx < 0x3420 ∧ sub % 16 ≠ 0 ∧ sub < 0x80 then sub % 16 else sub
  (dictFamily idx).find? (fun e => decide (e.idx ≤ idx) && decide (idx < e.idx + e.cnt)
    && decide (e.lo ≤ sub') && decide (sub' ≤ e.hi))

/-- Whether an object holds the index (R48). -/
def objectExists (idx : Nat) : Bool :=
  (dictFamily idx).any (fun e => decide (e.idx ≤ idx) && decide (idx < e.idx + e.cnt))

/-- The key of an entry in the value stores. -/
def dkey (idx sub : Nat) : Nat := idx * 256 + sub

end Sys2Proof.Machine
end

