-- ==== Sys2Proof/Machine/State.lean ====
section
/-! DEFINITION. The state of the block, the reasons it can stop, and the state after reset. -/

namespace Sys2Proof.Machine

/-! ### Stops -/

/-- Why the machine stops with a fault. -/
inductive Fault
  /-- Raised by every meaning whose operand names a port, controller, lane, pair or other unit that the hardware does
  not have (R3): no such command can reach the block. Safe: the machine stops where nothing can happen. -/
  | noSuchUnit
  deriving DecidableEq, Repr

/-- Why a command has no meaning. -/
inductive Refusal
  /-- Raised only by the dispatcher, for a command of the table that has no meaning yet. Safe: the machine stops. -/
  | notModelled (mnemonic : String)
  deriving DecidableEq, Repr

/-! ### The block -/

/-- The state of the block: every unit of the device, the count of free values drawn so far (the model's own field), and
the commands that wait, first in, first out. -/
structure State where
  time    : TimeBase
  ord     : Ordering
  dict    : Dict
  access  : Access
  journal : Journal
  safety  : Safety
  host    : HostIf
  ports   : List Port
  saddle : Saddle
  keys : KeyStore
  power : Power
  basin : Basin
  narrows : Narrows
  legacy : Legacy
  ford : Ford
  elnar : Elnar
  fresh   : Nat
  pending : List Instr
  deriving DecidableEq, Repr

/-! ### Reset -/

/-- A time set after reset (Tables 4.3): zero offset, nominal scale, not synchronised. -/
def TimeSet.reset : TimeSet := ⟨0, 0, 2 ^ 40, false, 0, 0, 0, 0, 0, 0⟩

/-- The time base after reset (R28, R81). -/
def TimeBase.reset : TimeBase :=
  { raw := 0, orderNs := 0, working := 0, sets := List.replicate 4 TimeSet.reset, corrections := [], held := false,
    holdBoundary := 0, forwardStep := false, stepNs := 0, onRefclk := false, holdSignalled := false, followUps := [],
    txStamps := List.replicate 28 [], triggers := List.replicate 16 ⟨0, false, false, false, false, 0⟩,
    captures := List.replicate 16 ⟨[], none⟩ }

/-- The ordering units after reset. -/
def Ordering.reset : Ordering :=
  { sources := [],
    units := [⟨.narrows, [], 0, none⟩, ⟨.ford, [], 0, none⟩, ⟨.policers, [], 0, none⟩, ⟨.commit, [], 0, none⟩,
      ⟨.fdb, [], 0, none⟩, ⟨.saddle, [], 0, none⟩],
    transit := [], heldBack := [], waits := [], lastCheck := 0 }

/-- The image in force when nothing has been loaded: every entry takes its default (R50). -/
def DictImage.none : DictImage := ⟨[], [], [], 0, 0⟩

/-- The staging area after reset (Table 3.5). -/
def Staging.reset : Staging :=
  { state := .empty, owner := none, recs := [], epoch := 0, gateB := none, result := 0, refused := 0, applied := 0, armed := OKey.zero }

/-- The dictionary after reset (R50). -/
def Dict.reset : Dict :=
  { image := .none, settings := [], rowOps := [], stat := [], rowStat := [], perIface := [], w1Done := [],
    staging := .reset, changes := [], changeNo := 0, changeWrap := false, overlay := [], awaiting := [], replies := [],
    domWrites := [], domReads := [], domains := [], candidate := none }

/-- A free session slot. -/
def Session.free : Session := ⟨0, false, 0, 0, 0, 0, 0, 0, 0, 0, 0, 0, 0⟩

/-- Sessions after reset. -/
def Access.reset : Access :=
  { sessions := List.replicate 8 Session.free, failTimes := [], lockout := none, dapOut := [], sdo := none, sdoOut := [] }

/-- The event journal after reset. -/
def Journal.reset : Journal :=
  { reorder := [], lastKey := none, held := [], nextNo := 1, persistent := [], persistNo := 0, toPersist := [],
    snapshots := [], request := none, imageAt := 0, image := [], imageRows := [], trigger := none, aged := [] }

/-- A lockstep pair after reset. -/
def LockPair.reset : LockPair := ⟨0, 0, 0, 0, 0, 0, false, 0, false, false, false, 0⟩

/-- The safety units after reset: watchdogs 0 and 1 run (Table 14.10), the outputs are low. -/
def Safety.reset : Safety :=
  { pairs := List.replicate 4 LockPair.reset, active := 0, latched := 0, recs := [], reactions := [], handlers := [],
    fatalRaw := none, testFailed := false,
    watchdogs := [⟨true, 0, false⟩, ⟨true, 0, false⟩] ++ List.replicate 6 ⟨false, 0, false⟩,
    toggling := false, safeA := false, safeB := false,
    spiCount := 0, question := 0, spiStatus := [] }

/-- A ring block after reset (Table 18.2). -/
def Ring.reset : Ring := ⟨0, 0, 0, 0, 0x100, 0, 0, 0, 0, 0⟩

/-- The host interface after reset (Tables 18.1, 18.2). -/
def HostIf.reset : HostIf :=
  { linkUp := false, drqBase := 0, drqSize := 0, drqTail := 0, drqHead := 0, drsBase := 0, drsSize := 0, drsHead := 0,
    drsTail := 0, drCtrl := 0, drStatus := 0, drMod := 0, requests := [], invalidWr := 0, link := 0, half := none,
    tx := List.replicate 16 Ring.reset, rx := List.replicate 16 Ring.reset, rxmap := List.range 8, fetched := [],
    posted := [], writes := [], vectors := [], pba := 0, masked := 0, mods := [], drrTurn := 0, deficits := List.replicate 16 0,
    starved := [], msix := [] }

/-- A port after reset. -/
def Port.reset : Port :=
  { prior := 0, pollMet := false, polled := false, lastPoll := 0, holdEnd := none, flushing := false,
    pauseUntil := List.replicate 8 none, xoff := false, resendAt := 0,
    verifyTries := 0, indirect := none, sqiLow := false, sqiSeen := false, sqiOkSince := none, sas := [], macOut := [], attempts := 0,
    burst := 0, receiving := none, assembling := none }

/-- Saddle after reset: pair enable is false by default, so the member is DISABLED (R301). -/
def Saddle.reset : Saddle :=
  { enabled := false, role := .disabled, authority := false, lapsed := none, roleOut := false, detached := false,
    handshake := none, retryAt := none, claimFrom := 0, heardElnar := none, pinHeard := false, roleIn := false, noticeTo := 0,
    journaling := false, outbox := [], acked := 0, inbox := [], own := [], mark := 0, released := 0,
    retained := [], lagSince := none, declared := none, confirmed := false, caughtUp := false, resync := none,
    digests := [], forceDigest := false, swap := none, swapped := 0, handovers := [] }

/-- A receive lane after reset: HUNT. -/
def RxLane.reset : RxLane :=
  { cands := [], pos := 0, bad := 0, jc := 0, parity := none, edge := none, differs := false, part := [], spoiled := false, held := [],
    trace := [], traceBad := false, timRun := 0, aisRun := 0, rdiRun := 0, sdFrames := 0, sdErrs := 0, sfFrames := 0,
    sfErrs := 0, good := 0, heart := none, notices := 0, stamp := 0 }

/-- A class after a restart. -/
def CellClass.reset : CellClass :=
  { out := [], txSeq := 0, sent := 0, credited := 0, rxSeq := 0, consumed := 0, early := [], part := [], broken := false }

/-- The Elnar link after reset. -/
def Elnar.reset : Elnar :=
  { rx := List.replicate 4 RxLane.reset, tx := List.replicate 4 ⟨0, 0, 0, [], [], 0, [], 0⟩,
    classes := List.replicate 5 CellClass.reset, credit := false, slot := 0, received := [], out := [], window := [],
    sems := [], acquires := [], results := [], delay := 0 }

/-- The key store after reset: measurements cleared (R380), volatile slots empty; the fuses of a part not yet provisioned
read zero. -/
def KeyStore.reset : KeyStore :=
  { slots := [], polarity := false, ready := false, sealed_ := false, shadow := none, commits := [], counter := 0,
    mrs := List.replicate 8 0, rollback := 0, revoked := 0, rootIndex := 0, lifecycle := 0, unlocks := 0,
    unlocked := false, challenge := 0, statement := [], bootDone := false, bootBlocked := false }

/-- A gate engine after reset: gates disabled, every gate open. -/
def GateEngine.reset : GateEngine := ⟨false, none, none, 0xFF, none, 0⟩

/-- Basin after reset: every frame cell is free, the capture ledger runs (R216). -/
def Basin.reset : Basin :=
  { frames := [], nextId := 0, copies := [], nextCopy := 0, tx := List.replicate 32 ⟨none, none, false, none⟩, leaked := [],
    retiring := [], retired := [], rebuild := none, rebuildWait := [], spareUsed := false, bad := [], badSlots := [],
    second := [], fdb := [], credits := [], gates := List.replicate 32 GateEngine.reset, streamGates := [], meters := [],
    frer := [], samples := [], ledger := [], ledgerLeft := 0, ledgerEpoch := 0, ledgerUsed := 0, cluster := [],
    datagrams := [] }

/-- Narrows after reset: no session, every bucket full (R176). -/
def Narrows.reset : Narrows := ⟨[], []⟩

/-- The legacy buses after reset: every controller off. -/
def Legacy.reset : Legacy :=
  { can := List.replicate 24 ⟨[], .none, 0, 0, 0, false⟩,
    lin := List.replicate 8 ⟨0, 0, 0, 0, none, 0, [], none, none⟩,
    fx := ⟨[], none⟩, errn := List.replicate 26 ⟨false, false, none⟩ }

/-- Ford after reset. -/
def Ford.reset : Ford := ⟨[], [], [], [], [], [], [], [], [], 0⟩

/-- Power right after reset: the cold boot begins, PWR_REQ high (Tables 16.7, 16.9). -/
def Power.reset : Power :=
  { phase := .coldBoot, toSleep := false, entryEpoch := 0, entryRaw := 0, reasons := 0, first := none, pwrReq := true,
    roleRef := false, railsFrom := 0, routes := [], lowQueues := List.replicate 8 [], lowBuses := 0,
    tokens := 0, routed := 0, discarded := 0, busOffs := 0, resetDue := none }

/-- The block right after reset. -/
def State.reset : State :=
  { time := .reset, ord := .reset, dict := .reset, access := .reset, journal := .reset, safety := .reset,
    host := .reset, ports := List.replicate 32 Port.reset,
    saddle := .reset,
    keys := .reset,
    power := .reset,
    basin := .reset,
    narrows := .reset,
    legacy := .reset,
    ford := .reset,
    elnar := .reset,
    fresh := 0, pending := [] }

end Sys2Proof.Machine
end

