-- ==== Sys2Proof/Machine/Ops.lean ====
section
/-! DEFINITION. The operations every meaning shares: time, order keys, values of entries, counters, events and the journal. -/

namespace Sys2Proof.Machine

open Sys2Proof

/-- What a command answers. -/
abbrev Out := Host.Outcome State Fault Refusal

/-! ### Time sets (R83, R84, R87) -/

/-- The scale of a set in 2^-40 ns per raw tick: rate mode or fall-back mode, less the slew term. -/
def TimeSet.scale (ts : TimeSet) : Nat :=
  ((if ts.fallMode then (ts.fallback : Int) else (2 ^ 40 : Int) + ts.rate) - (ts.slewTerm : Int)).toNat

/-- The reading of a set at a raw tick, in 2^-32 ns (R83), with what the ticks after the end of a slew did not take (R88). -/
def TimeSet.q32 (ts : TimeSet) (raw : Nat) : Int := ts.offset + (((raw * ts.scale + ts.given) / 256 : Nat) : Int)

/-- The reading of a set in whole nanoseconds. -/
def TimeSet.ns (ts : TimeSet) (raw : Nat) : Nat := (ts.q32 raw / 2 ^ 32).toNat

/-- The fraction of a reading in 2^-16 ns. -/
def TimeSet.frac (ts : TimeSet) (raw : Nat) : Nat := ((ts.q32 raw / 2 ^ 16) % 65536).toNat

/-- `d` raw ticks of a running slew: each takes the slew term from the remainder, the last only what remains (R88). -/
def TimeSet.tick (d : Nat) (ts : TimeSet) : TimeSet :=
  { ts with slewRem := ts.slewRem - ts.slewTerm * d, given := ts.given + (ts.slewTerm * d - ts.slewRem) }

/-- Time set `n`. -/
def State.timeSet (s : State) (n : Nat) : TimeSet := nth s.time.sets n TimeSet.reset

/-- Change time set `n`. -/
def State.modSet (s : State) (n : Nat) (f : TimeSet → TimeSet) : State :=
  { s with time := { s.time with sets := modNth s.time.sets n f } }

/-- The working clock's reading in ns (R90). -/
def State.workingNs (s : State) : Nat := (s.timeSet s.time.working).ns s.time.raw

/-- A credit after `d` switch cycles in its mode (R230). -/
def Credit.run (d : Nat) (c : Credit) : Credit :=
  match c.mode with
  | .hold => c
  | .rise => { c with value := min (c.value + ((d * c.inc : Nat) : Int)) c.hi }
  | .toZero => { c with value := if c.value < 0 then min (c.value + ((d * c.inc : Nat) : Int)) 0 else 0 }

/-- Time passes up to raw tick `t`: the raw counter advances, running slews absorb, and order time follows the working
clock and never decreases (R28, R81). -/
def State.advance (s : State) (t : Nat) : State :=
  let raw := max s.time.raw t
  let sets := s.time.sets.map (TimeSet.tick (raw - s.time.raw))
  let sync := (nth sets s.time.working TimeSet.reset).ns raw
  let credits := s.basin.credits.map (fun (x : Nat × Credit) => (x.1, x.2.run (raw - s.time.raw)))
  { s with
    time := { s.time with raw := raw, sets := sets, orderNs := max s.time.orderNs sync },
    basin := { s.basin with credits := credits } }

/-- Whether the units outside Lowland run: neither held in reset, nor in QUIET or SLEEP, nor waiting for the rails of a
wake (Table 16.1). -/
def State.awake (s : State) : Bool :=
  !s.power.low && !decide (s.power.phase = .wake) && !decide (s.power.phase = .held)

/-- A command at raw tick `t` that reaches a unit in any state but reset: time advances and the effect follows; a command
that names a unit the hardware lacks faults. -/
def happenAny (t : Nat) (unitExists : Bool) (s : State) (f : State → State) : Out :=
  if unitExists then .next (if s.power.phase = .held then s else f (s.advance t)) else .fault .noSuchUnit

/-- A command at raw tick `t` to a unit that needs the device awake: otherwise only time advances, and in reset nothing
happens. -/
def happen (t : Nat) (unitExists : Bool) (s : State) (f : State → State) : Out :=
  happenAny t unitExists s (fun s => if s.awake then f s else s)

/-- The key epoch of an input keyed now (R31). -/
def State.keyEpoch (s : State) : Nat := (s.time.orderNs + 31) / 32

/-! ### Order keys (R32) -/

/-- A source that has issued no key. -/
def SourceKeys.none : SourceKeys := ⟨0, 0, 0⟩

/-- The key counters of a source. -/
def State.sourceKeys (s : State) (src : Nat) : SourceKeys := kget (fun _ => SourceKeys.none) s.ord.sources src

/-- Whether bit 4 of determinism status holds: order time held, or two boundaries not yet past (Table 2.7). -/
def State.orderHeld (s : State) : Bool := s.time.held || decide (s.time.orderNs / 32 < s.time.holdBoundary)

/-- The key a source issues next: its sequence, and the present key epoch, or the next one when 32 keys bear it already
and order time is not held (R32). -/
def State.nextKey (s : State) (src : Nat) : OKey :=
  let k := s.sourceKeys src
  let e := max s.keyEpoch (if s.time.held then 0 else k.epoch)
  let e' := if !s.time.held && decide (k.epoch = e) && decide (32 ≤ k.count) then e + 1 else e
  ⟨e', src, k.seq⟩

/-- Issue a key: the sequence counter increments and wraps, and a key that had to wait for the next boundary is noted. -/
def State.issueKey (s : State) (src : Nat) : State :=
  let k := s.sourceKeys src
  let key := s.nextKey src
  let count := if k.epoch = key.epoch then k.count + 1 else 1
  let waits := if s.keyEpoch < key.epoch then s.ord.waits ++ [key] else s.ord.waits
  { s with ord := { s.ord with
      sources := kput (fun _ => SourceKeys.none) s.ord.sources src ⟨(k.seq + 1) % 65536, key.epoch, count⟩,
      waits := waits } }

/-! ### Values of dictionary entries -/

/-- Whether a port is a BP, EP or SP port, or an internal one (Table 0.3). -/
def isBP (p : Nat) : Bool := decide (p < 8)
/-- EP0 … EP11. -/
def isEP (p : Nat) : Bool := decide (8 ≤ p) && decide (p < 20)
/-- SP0 … SP7. -/
def isSP (p : Nat) : Bool := decide (20 ≤ p) && decide (p < 28)
/-- HP, CP, FP, XP. -/
def isInternal (p : Nat) : Bool := decide (28 ≤ p)

/-- The MAC address of port `p` as a number with the first wire byte highest (R438). -/
def portMac (p : Nat) : Nat :=
  let b := beNat (toLE 6 Config.baseMac.toNat)
  (b / 32) * 32 + p

/-- State timeouts in seconds in the order of `6000h.04` … `0E` (Table 7.5). -/
def stateTimeoutDefaults : List Nat := [20, 10, 7200, 120, 30, 10, 30, 180, 10, 30, 180]

/-- Rows of the Basin tables at default allocation (Table 8.1). -/
def allocationDefaults : List Nat := [65536, 32768, 131072, 65536, 65536, 8192]

/-- Default reactions of the fault inputs (Table 14.2). -/
def defaultReaction (i : Nat) : Nat :=
  if i < 4 then 1
  else if i < 16 then nth [4, 4, 3, 3] (i % 4) 0
  else if i < 20 then 0
  else if i < 24 then 1
  else if i < 32 then nth [4, 4, 3, 3, 3, 3, 1, 3] (i - 24) 0
  else if i < 50 then 3
  else if i < 58 then nth [4, 1, 3, 1, 4, 4, 3, 3] (i - 50) 0
  else if i = 64 then 3 else if i = 66 then 3
  else if i = 99 then 3 else if i = 100 then 3 else if i = 101 then 3
  else if i < 103 then 1 else 0

/-- Default windows of the supplies, lower and upper in mV (Table 14.4). -/
def supplyWindows : List (Nat × Nat) :=
  [(713, 787), (760, 840), (713, 787), (3135, 3465), (1710, 1890), (855, 945), (1140, 1260), (1710, 1890),
   (3135, 3465), (1710, 1890)]

/-- A value whose bytes are given, first byte lowest. -/
def natOfBytes (l : List Nat) : Nat := l.foldr (fun b a => b % 256 + 256 * a) 0

/-- Defaults that depend on the instance (Tables 4.4, 5.1, 5.4, 5.7, 5.8, 7.8, 8.8, 9.7, 12.16, 14.8, 14.9). -/
def instanceDefault (idx sub : Nat) : Option Nat :=
  if 0x2100 ≤ idx ∧ idx < 0x2104 ∧ sub = 2 then some (idx - 0x2100)
  else if 0x3000 ≤ idx ∧ idx < 0x3020 then
    let p := idx - 0x3000
    if sub = 2 then some (if isBP p then 0x02 else if isEP p then 0x10 else if isSP p then 0x20 else 0xFF)
    else if sub = 0x0E then some (if isBP p then 262144 else if isEP p then 32768 else if isSP p then 8192 else 0)
    else if isInternal p ∧ 6 ≤ sub ∧ sub ≤ 0x0D then some 0
    else none
  else if 0x30C0 ≤ idx ∧ idx < 0x30D4 ∧ sub = 1 then some (if idx - 0x30C0 < 8 then (idx - 0x30C0) / 4 else 0)
  else if 0x3100 ≤ idx ∧ idx < 0x3114 ∧ sub = 0x0A then
    let p := idx - 0x3100
    some (leNat (toBE 6 (portMac p) ++ toBE 2 (p + 1)))
  else if 0x3500 ≤ idx ∧ idx < 0x3520 ∧ sub = 4 then some (if isBP (idx - 0x3500) then 1024 else 256)
  else if idx = 0x4000 ∧ 0x10 ≤ sub ∧ sub ≤ 0x15 then some (nth allocationDefaults (sub - 0x10) 0)
  else if idx = 0x6000 ∧ 4 ≤ sub ∧ sub ≤ 0x0E then some (nth stateTimeoutDefaults (sub - 4) 0)
  else if idx = 0x9020 ∧ 0x40 ≤ sub ∧ sub ≤ 0x5F then
    some (if 8 ≤ sub - 0x40 ∧ sub - 0x40 ≤ 28 then 1 else 0)
  else if idx = 0xA100 ∧ 0x10 ≤ sub ∧ sub ≤ 0x13 then
    some (natOfBytes ((List.range 64).map (fun i => defaultReaction (64 * (sub - 0x10) + i))))
  else if idx = 0xA200 ∧ 1 ≤ sub ∧ sub ≤ 0x0A then
    let w := nth supplyWindows (sub - 1) (0, 0)
    some (w.1 + 65536 * w.2)
  else if idx = 0x1000 ∧ sub = 7 then some Config.serial.toNat
  else if idx = 0x1000 ∧ sub = 8 then some (leNat (toBE 6 (portMac 0)))
  else if idx = 0x1000 ∧ sub = 9 then some Config.bootRom.toNat
  else if idx = 0x1001 ∧ sub = 2 then some Config.firmwareBuild.toNat
  else none

/-- The default of an entry (R50). -/
def entryDefault (key : Nat) : Nat :=
  let idx := key / 256
  let sub := key % 256
  match instanceDefault idx sub with
  | some v => v
  | none => match entryDef idx sub with
    | some e => e.dflt
    | none => 0

/-- Whether setting `a` is later than setting `b`: by epoch, then by the order key of the request (R55). -/
def laterChange (ea ka sa eb kb sb : Nat) : Bool :=
  decide (eb < ea) || (decide (ea = eb) && (decide (kb < ka) || (decide (ka = kb) && decide (sb < sa))))

/-- Put a setting into the list, latest first; of equals, the one that arrives later is later. -/
def insertSetting (x : Setting) : List Setting → List Setting
  | [] => [x]
  | y :: ys => if laterChange y.epoch y.kep y.src x.epoch x.kep x.src then y :: insertSetting x ys else x :: y :: ys

/-- Put a row change into the list, latest first. -/
def insertRowOp (x : RowOp) : List RowOp → List RowOp
  | [] => [x]
  | y :: ys => if laterChange y.epoch y.kep y.src x.epoch x.kep x.src then y :: insertRowOp x ys else x :: y :: ys

/-- The value of a configuration entry that governs inputs of key epoch `e` (R40, R55): the latest change of epoch `e` or
lower, else the image's value, else the default. -/
def State.regAt (s : State) (e key : Nat) : Nat :=
  match s.dict.settings.find? (fun x => decide (x.key = key) && decide (x.epoch ≤ e)) with
  | some x => x.val
  | none => kget entryDefault s.dict.image.entries key

/-- The value of a configuration entry for an input keyed now. -/
def State.reg (s : State) (idx sub : Nat) : Nat := s.regAt s.keyEpoch (dkey idx sub)

/-- A status or counter entry. -/
def State.stat (s : State) (idx sub : Nat) : Nat := kget entryDefault s.dict.stat (dkey idx sub)

/-- Set a status or counter entry. -/
def State.setStat (s : State) (idx sub v : Nat) : State :=
  { s with dict := { s.dict with stat := kput entryDefault s.dict.stat (dkey idx sub) v } }

/-- Set bits of a status entry. -/
def State.orStat (s : State) (idx sub bits : Nat) : State := s.setStat idx sub (s.stat idx sub ||| bits)

/-- The rows that a table has by default: VID 1 of the VLAN table (R198). -/
def defaultRows (tbl : Nat) : List (Nat × List Nat) :=
  if tbl = 0x4200 then [(1, [1, 0x1FFFFFFF, 0x1FFFFFFF, 0x1FFFFFFF, 3])] else []

/-- The row that governs inputs of key epoch `e` at a position of a table, if any. -/
def State.rowAt (s : State) (e tbl pos : Nat) : Option (List Nat) :=
  match s.dict.rowOps.find? (fun x => decide (x.tbl = tbl) && decide (x.pos = pos) && decide (x.epoch ≤ e)) with
  | some x => x.vals
  | none => match s.dict.image.rows.find? (fun r => decide (r.tbl = tbl) && decide (r.pos = pos)) with
    | some r => some r.vals
    | none => kfind (defaultRows tbl) pos

/-- The occupied rows of a table for inputs of key epoch `e`, by rising position. -/
def State.rowsAt (s : State) (e tbl : Nat) : List (Nat × List Nat) :=
  let base := (s.dict.image.rows.filter (fun r => decide (r.tbl = tbl))).foldl (fun a r => kins a r.pos r.vals)
    (defaultRows tbl)
  (s.dict.rowOps.reverse.filter (fun x => decide (x.tbl = tbl) && decide (x.epoch ≤ e))).foldl
    (fun a x => match x.vals with
      | some v => kins a x.pos v
      | none => kdel a x.pos) base

/-- Field at sub-index `sub` of a row's values. -/
def rowSub (vals : List Nat) (sub : Nat) : Nat := nth vals (sub - 6) 0

/-- The key of a row's counter. -/
def rkey (tbl pos sub : Nat) : Nat := (tbl * 2 ^ 32 + pos) * 256 + sub

/-- A row counter. -/
def State.rowStat (s : State) (tbl pos sub : Nat) : Nat := kget (fun _ => 0) s.dict.rowStat (rkey tbl pos sub)

/-- Set a row counter. -/
def State.setRowStat (s : State) (tbl pos sub v : Nat) : State :=
  { s with dict := { s.dict with rowStat := kput (fun _ => 0) s.dict.rowStat (rkey tbl pos sub) v } }

/-- Count on a row; 64-bit row counters wrap (R158, R224). -/
def State.bumpRow (s : State) (tbl pos sub : Nat) : State :=
  s.setRowStat tbl pos sub ((s.rowStat tbl pos sub + 1) % 2 ^ 64)

/-- Number of an interface in change-journal records (Table 3.6). -/
def ifaceNum : Iface → Nat
  | .host => 0 | .mgmt => 1 | .can => 2 | .partner => 3 | .firmware => 4

/-- Rights letter of an interface as a mask bit (R52). -/
def ifaceBit : Iface → Nat
  | .host => 0 | .mgmt => 1 | .can => 2 | .partner => 3 | .firmware => 4

/-- Source number under which an interface's requests are keyed (Table 2.2). -/
def ifaceSource : Iface → Nat
  | .host => 0x0200 | .mgmt => 0x0210 | .can => 0x0220 | .partner => 0x0F00 | .firmware => 0x0300

/-- Key of a caller's own value of a per-interface entry (R58, R436). -/
def callerKey (c : Caller) (key : Nat) : Nat := (ifaceNum c.iface * 16 + c.session) * 2 ^ 24 + key

/-- A caller's own value of a per-interface entry. -/
def State.ownVal (s : State) (c : Caller) (idx sub : Nat) : Nat :=
  kget (fun k => entryDefault (k % 2 ^ 24)) s.dict.perIface (callerKey c (dkey idx sub))

/-- Set a caller's own value. -/
def State.setOwn (s : State) (c : Caller) (idx sub v : Nat) : State :=
  { s with dict := { s.dict with
      perIface := kput (fun k => entryDefault (k % 2 ^ 24)) s.dict.perIface (callerKey c (dkey idx sub)) v } }

/-- A free value: the spec leaves it open, and the count of values drawn advances. -/
def State.drawFree (s : State) : State := { s with fresh := s.fresh + 1 }

/-- The next free value. -/
def State.freeNat (s : State) : Nat := (Config.freeValue s.fresh).toNat

/-- The next random number. -/
def State.random (s : State) : Nat := (Config.freeRandom s.fresh).toNat

/-! ### MSI-X (R430) -/

/-- Send a vector's message, or mark it pending while masked. -/
def State.signalVector (s : State) (v : Nat) : State :=
  if bitOf s.host.masked v then { s with host := { s.host with pba := setBitAt s.host.pba v } }
  else { s with host := { s.host with
    vectors := kput (fun _ => 0) s.host.vectors v (kget (fun _ => 0) s.host.vectors v + 1) } }

/-! ### Events (R410 to R415, R468) -/

/-- Severity of an event code (Table 17.2); class 0x0C takes its severity from the reaction. -/
def eventSeverity (code : Nat) : Nat :=
  if code = 0x0401 ∨ code = 0x0501 ∨ code = 0x0F02 then 0
  else if code = 0x0602 ∨ code = 0x0902 ∨ code = 0x0A01 then 3
  else if code = 0x0101 ∨ code = 0x0102 ∨ code = 0x0202 ∨ code = 0x0901 ∨ code = 0x0A02 ∨ code = 0x0A03
    ∨ code = 0x0A04 ∨ code = 0x0B02 ∨ code = 0x0E01 then 2
  else 1

/-- Put an event into the reorder buffer, in order-key order. -/
def State.putEvent (s : State) (ev : Event) : State :=
  { s with journal := { s.journal with reorder := insertByKey Event.key ev s.journal.reorder } }

/-- An event of the model's making under a key. -/
def mkEvent (key : OKey) (ns code sev args : Nat) : Event := ⟨key, ns, code, sev, args⟩

/-- Note a counter that saturated (bit 0) or wrapped (bit 1): `1210h.06`, `.07` and event 0x0F01 or 0x0F02 from source
0x0810 (R416). -/
def State.flagCounter (s : State) (idx sub bit : Nat) : State :=
  let s1 := (s.orStat 0x1210 6 (1 <<< bit)).setStat 0x1210 7 (idx * 256 + sub)
  let key := s1.nextKey 0x0810
  let code := if bit = 0 then 0x0F01 else 0x0F02
  (s1.issueKey 0x0810).putEvent (mkEvent key s1.time.orderNs code (eventSeverity code) (idx + 65536 * sub))

/-- Advance a 64-bit counter, which wraps (Table 17.4). -/
def State.count64 (s : State) (idx sub n : Nat) : State := s.setStat idx sub ((s.stat idx sub + n) % 2 ^ 64)

/-- Advance a 32-bit counter by one; at its largest value it stays and is flagged (Table 17.4). -/
def State.count32 (s : State) (idx sub : Nat) : State :=
  let v := s.stat idx sub
  if v = 0xFFFFFFFF then s
  else if v + 1 = 0xFFFFFFFF then (s.setStat idx sub (v + 1)).flagCounter idx sub 0
  else s.setStat idx sub (v + 1)

/-- Advance a 32-bit counter whose saturation bit is `bit` of the entry `fidx.fsub`. -/
def State.count32Own (s : State) (idx sub fidx fsub bit : Nat) : State :=
  let v := s.stat idx sub
  if v = 0xFFFFFFFF then s
  else if v + 1 = 0xFFFFFFFF then (s.setStat idx sub (v + 1)).orStat fidx fsub (1 <<< bit)
  else s.setStat idx sub (v + 1)

/-- Advance a `w`-bit sequence counter, which wraps and is flagged (Table 17.4). -/
def State.countSeq (s : State) (idx sub w : Nat) : State :=
  let v := s.stat idx sub
  if v + 1 = 2 ^ w then (s.setStat idx sub 0).flagCounter idx sub 1 else s.setStat idx sub (v + 1)

/-- Unread entries of the journal at severities up to `sev`. -/
def Journal.unread (j : Journal) (sev : Nat) : Nat :=
  (j.held.filter (fun e => !e.acked && decide (e.ev.sev ≤ sev))).length

/-- The newest unread entry with an event's source and code, if its count can still rise (R412). -/
def Journal.joinable (j : Journal) (ev : Event) : Option JEntry :=
  match j.held.reverse.find? (fun e => !e.acked && decide (e.ev.key.src = ev.key.src) && decide (e.ev.code = ev.code)) with
  | some e => if e.count < 4095 then some e else none
  | none => none

/-- Whether the journal has room for a new entry of a severity (R413). -/
def Journal.admits (j : Journal) (sev : Nat) : Bool :=
  decide (j.unread 3 < 4096) && (decide (sev = 3) || decide (j.unread 2 < 3840))

/-- Add an entry, in a free slot or in that of the oldest acknowledged entry (R413). -/
def Journal.add (j : Journal) (ev : Event) (ooo : Bool) : Journal :=
  let held := if j.held.length < 4096 then j.held else match takeFirst JEntry.acked j.held with
    | some (_, r) => r
    | none => j.held
  let e : JEntry := ⟨j.nextNo, ev, 0, ooo, false⟩
  { j with held := held ++ [e], nextNo := if j.nextNo = 0xFFFFFFFF then 1 else j.nextNo + 1,
           toPersist := if 2 ≤ ev.sev then j.toPersist ++ [e] else j.toPersist }

/-- Whether the trigger code of the capture ledger names this event's code. -/
def State.ledgerCode (s : State) (code : Nat) : Bool :=
  decide (s.reg 0x4400 3 ≠ 0) && decide (s.reg 0x4400 3 = code)

/-- Commit an event to the journal (R410 to R413): severity filter, order, coalescing, admission, loss. -/
def State.commitEvent (s : State) (ev : Event) : State :=
  if ev.sev < s.reg 0x1200 6 then s
  else
    let ooo := match s.journal.lastKey with
      | some k => okeyLt ev.key k
      | none => false
    let s := if ooo then s.count32 0x1210 8 else s
    let lastKey := if ooo then s.journal.lastKey else some ev.key
    let trig := if s.ledgerCode ev.code && s.journal.trigger.isNone then some (1, ev.key) else s.journal.trigger
    let s := { s with journal := { s.journal with lastKey := lastKey, trigger := trig } }
    match s.journal.joinable ev with
    | some e =>
      let up : JEntry := { e with count := e.count + 1 }
      let held := modWhere (fun x => decide (x.number = e.number)) (fun _ => up) s.journal.held
      let pers := if 2 ≤ ev.sev then s.journal.toPersist ++ [up] else s.journal.toPersist
      ({ s with journal := { s.journal with held := held, toPersist := pers } } : State).count64 0x1210 9 1
    | none =>
      if s.journal.admits ev.sev then
        let s := { s with journal := s.journal.add ev ooo }
        if s.journal.unread 3 = s.reg 0x1200 5 then s.signalVector 1 else s
      else s.count32Own 0x1210 (1 + ev.sev) 0x1210 5 ev.sev

/-- Whether an event's hold has ended: order time has reached boundary e + 512, or a later-keyed event has been
committed (R410). -/
def State.eventDue (s : State) (ev : Event) : Bool :=
  decide ((ev.key.epoch + 512) * 32 ≤ s.time.orderNs) ||
  (match s.journal.lastKey with
    | some k => okeyLt ev.key k
    | none => false)

/-- An event arrives at the journal: committed at once when its hold has ended, else buffered; a full buffer commits its
oldest-keyed event early (R410). -/
def State.arriveEvent (s : State) (ev : Event) : State :=
  if s.eventDue ev then s.commitEvent ev
  else if s.journal.reorder.length < 1024 then s.putEvent ev
  else match s.journal.reorder with
    | [] => s.putEvent ev
    | old :: rest => (({ s with journal := { s.journal with reorder := rest } } : State).commitEvent old).putEvent ev

/-- Raise an event under a new key of a source (R468). -/
def State.raiseEvent (s : State) (src code args : Nat) : State :=
  (s.issueKey src).arriveEvent (mkEvent (s.nextKey src) s.time.orderNs code (eventSeverity code) args)

/-- Raise an event under the key of the input that caused it: its order time is key epoch × 32 ns (R468). -/
def State.raiseKeyed (s : State) (key : OKey) (code args : Nat) : State :=
  s.arriveEvent (mkEvent key (key.epoch * 32) code (eventSeverity code) args)

/-- Set a bit of determinism sticky; its first setting raises event 0x0203 (R44). -/
def State.noteDeterminism (s : State) (bit : Nat) : State :=
  if bitOf (s.stat 0x1001 0x11) bit then s
  else (s.orStat 0x1001 0x11 (1 <<< bit)).raiseEvent 0x0810 0x0203 (1 <<< bit)

end Sys2Proof.Machine
end

