-- ==== Sys2Proof/Machine/Faults.lean ====
section
/-! DEFINITION. The fault collection unit: raising an input, its record and its reaction (R366 to R369). -/

namespace Sys2Proof.Machine

open Sys2Proof

/-- The configured reaction of a fault input (R367). -/
def State.reactionOf (s : State) (i : Nat) : Nat := subBytes (s.reg 0xA100 (0x10 + i / 64)) (i % 64) 1

/-- The record of a fault input (R368). -/
def State.faultRec (s : State) (i : Nat) : FaultRec := kget (fun _ => ⟨0, OKey.zero, OKey.zero⟩) s.safety.recs i

/-- Mode of lockstep pair `p` (`A010h+p.01`). -/
def State.pairMode (s : State) (p : Nat) : Nat := s.stat (0xA010 + p) 1

/-- Whether a latched input holds a reaction of at least `r`. -/
def Safety.latchedAt (f : Safety) (r : Nat) : Bool :=
  f.reactions.any (fun x => bitOf f.latched x.1 && decide (r ≤ x.2))

/-- The safety state that conditions call for once the self-test has ended (R469). -/
def State.safetyTarget (s : State) : Nat :=
  if s.safety.fatalRaw.isSome then 4
  else if s.safety.latchedAt 3 || s.safety.testFailed then 3
  else if (List.range 4).any (fun p => decide (s.pairMode p = 6) || decide (s.pairMode p = 3)) then 2
  else 1

/-- Bring the safety state up to date, and drive the outputs low outside states 1 and 2 (R373, R469). -/
def State.refreshSafety (s : State) : State :=
  let st := if s.stat 0xA000 1 = 0 then 0 else s.safetyTarget
  let s := s.setStat 0xA000 1 st
  if st = 1 ∨ st = 2 then s
  else { s with safety := { s.safety with toggling := false, safeA := false, safeB := false } }

/-- The fatal reaction (Table 14.3): the instant is noted, from which no port starts a frame and no shared output is driven,
and frames in transmission are stomped; the fail notice of a pair follows (R300). -/
def State.fatalActions (s : State) : State :=
  if s.safety.fatalRaw.isSome then s
  else
    let stomp := fun (t : TxFrame) => { t with stomp := true }
    let tx := s.basin.tx.map (fun (x : PortTx) => { x with cur := x.cur.map stomp, held := x.held.map stomp })
    { s with
      safety := { s.safety with fatalRaw := some s.time.raw },
      basin := { s.basin with tx := tx } }

/-- The immediate actions of a reaction (Table 14.3), its event under the occurrence's key; `first` tells whether the input was not yet latched. -/
def State.react (s : State) (key : OKey) (i r : Nat) (first : Bool) : State :=
  let s := if 1 ≤ r ∧ first then
      (s.arriveEvent (mkEvent key s.time.orderNs (0x0C00 + i) (if r = 1 then 1 else 3) r)).signalVector 2
    else s
  let s := if 2 ≤ r ∧ first then { s with safety := { s.safety with handlers := s.safety.handlers ++ [i] } } else s
  if 4 ≤ r then s.fatalActions else s

/-- A fault input occurs: it is active while its cause lasts, latches at its first occurrence, its record advances, and
its configured reaction is taken (R366 to R368). -/
def State.raiseFault (s : State) (i : Nat) (stays : Bool) : State :=
  let key := s.nextKey 0x0800
  let first := !bitOf s.safety.latched i
  let rec_ := s.faultRec i
  let r := s.reactionOf i
  let upd : FaultRec := ⟨if rec_.count = 0xFFFFFFFF then rec_.count else rec_.count + 1,
    if first then key else rec_.first, key⟩
  let s := s.issueKey 0x0800
  let f := s.safety
  let f := { f with
    active := if stays then setBitAt f.active i else f.active,
    latched := setBitAt f.latched i,
    recs := kput (fun _ => ⟨0, OKey.zero, OKey.zero⟩) f.recs i upd,
    reactions := kput (fun _ => 0) f.reactions i (max r (if first then 0 else kget (fun _ => 0) f.reactions i)) }
  (({ s with safety := f } : State).react key i r first).refreshSafety

/-- The cause of a fault input ends: the input is no longer active; it stays latched (R366). -/
def State.clearCause (s : State) (i : Nat) : State :=
  { s with safety := { s.safety with active := clearBitAt s.safety.active i } }

end Sys2Proof.Machine
end

