-- ==== Sys2Proof/Machine/Watershed.lean ====
section
/-! DEFINITION. Watershed's parser and the classification key (R136 to R146). -/

namespace Sys2Proof.Machine

open Sys2Proof

/-- What the parse of a frame yields: the fields of Table 6.4, the exception code, and what Watershed hands on beside the
key: VLAN tags, the innermost IP header with its total length, TCP numbers (R174), an R-TAG's sequence (R225) and the sv bit of IEEE 1722. -/
structure Parsed where
  flags    : Nat
  bitmap   : Nat
  da       : Nat
  sa       : Nat
  outerTci : Nat
  innerTci : Nat
  etype    : Nat
  sip      : Nat
  dip      : Nat
  proto    : Nat
  tos      : Nat
  sport    : Nat
  dport    : Nat
  tcpFlags : Nat
  app      : Nat
  user     : Nat
  counted  : Nat
  exc      : Nat
  tags     : Nat
  v6       : Bool
  ipOff    : Option Nat
  ipLen    : Nat
  tcpSeq   : Nat
  tcpAck   : Nat
  tcpWin   : Nat
  segLen   : Nat
  rtag     : Option Nat
  sv       : Bool
  deriving DecidableEq, Repr

/-- A parse that has read nothing. -/
def Parsed.start : Parsed :=
  ⟨0, 0, 0, 0, 0, 0, 0, 0, 0, 0, 0, 0, 0, 0, 0, 0, 0, 0, 0, false, none, 0, 0, 0, 0, 0, none, false⟩

/-- Stop at an exception (R144): codes 1 to 6 set flag 0, 7 to 11 flag 1, and the code goes into flags [7:4]. -/
def Parsed.stop (p : Parsed) (code : Nat) : Parsed :=
  { p with exc := code, flags := (p.flags ||| (if code ≤ 6 then 1 else 2)) ||| code * 16 }

/-- Set a bit of the header bitmap. -/
def Parsed.mark (p : Parsed) (bit : Nat) : Parsed := { p with bitmap := setBitAt p.bitmap bit }

/-- Set a bit of the flags. -/
def Parsed.flag (p : Parsed) (bit : Nat) : Parsed := { p with flags := setBitAt p.flags bit }

/-- One more counted header (R136). -/
def Parsed.count (p : Parsed) : Parsed := { p with counted := p.counted + 1 }

/-- What the parser reads with: the frame's bytes, its length without FCS, hooks and nodes as [sub-index] values, and
whether the port has a MACsec-delivered frame, verified or not. -/
structure ParseIn where
  bytes : Bytes
  len   : Nat
  hooks : List Nat
  node  : Nat → Nat

/-- First exception of a header at `h` of `n` bytes among codes 2, 3 and 1, 0 when none (R144). -/
def headerExc (c : ParseIn) (p : Parsed) (counted : Bool) (h n : Nat) : Nat :=
  if counted ∧ 8 ≤ p.counted then 2 else if 256 < h + n then 3 else if c.len < h + n then 1 else 0

/-- The node that a hook of a kind enters for a value (R141). -/
def hookNode (c : ParseIn) (kind v : Nat) : Option Nat :=
  (c.hooks.find? (fun x => bitOf x 31 && decide (fieldOf x 19 16 = kind) && decide (fieldOf x 15 0 = v))).map
    (fun x => fieldOf x 30 24)

/-- What the parser does next: end, a built-in IP header, or a node, at an offset. -/
inductive ParseNext
  | done
  | ip4 (h : Nat)
  | ip6 (h : Nat)
  | node (n h : Nat)
  deriving DecidableEq, Repr

/-- Next step for a hook that was consulted. -/
def hookNext (c : ParseIn) (kind v h : Nat) : ParseNext :=
  match hookNode c kind v with
  | some n => .node n h
  | none => .done

/-! ### Applications (R139) -/

/-- A DoIP generic header at `h`, in a payload that ends at `stop`. -/
def parseDoip (c : ParseIn) (p : Parsed) (h stop : Nat) : Parsed :=
  if stop < h + 8 then p
  else if 256 < h + 8 then p.stop 3
  else if byteAt c.bytes h + byteAt c.bytes (h + 1) ≠ 255 then p
  else if 8 ≤ p.counted then p.stop 2
  else { p.mark 9 with app := beAt c.bytes h 8, counted := p.counted + 1 }

/-- After a TCP or UDP header: DoIP by port 13400, else a hook of kind 2 or 3. -/
def parseApp (c : ParseIn) (p : Parsed) (kind h stop : Nat) : Parsed × ParseNext :=
  if p.sport = 13400 ∨ p.dport = 13400 then (parseDoip c p h stop, .done)
  else (p, hookNext c kind p.dport h)

/-- IEEE 1722: the subtype, and the stream_id when sv is set. -/
def parseAvtp (c : ParseIn) (p : Parsed) (h : Nat) : Parsed :=
  let e := headerExc c p true h 2
  if e ≠ 0 then p.stop e
  else
    let p := { p.mark 8 with proto := byteAt c.bytes h }
    if byteAt c.bytes (h + 1) < 128 then p.count
    else
      let e := headerExc c p true h 12
      if e ≠ 0 then p.stop e else { p.count with app := beAt c.bytes (h + 4) 8, sv := true }

/-! ### L4 (R139, R174) -/

/-- A TCP header whose IP payload ends at `stop`. -/
def parseTcp (c : ParseIn) (p : Parsed) (h stop : Nat) : Parsed × ParseNext :=
  let doff := byteAt c.bytes (h + 12) / 16
  let e1 := headerExc c p true h 20
  let e := if e1 ≠ 0 then e1 else headerExc c p true h (4 * max 5 doff)
  if e ≠ 0 then (p.stop e, .done)
  else
    let p := { p with sport := beAt c.bytes h 2, dport := beAt c.bytes (h + 2) 2, tcpFlags := byteAt c.bytes (h + 13) }
    if doff < 5 ∨ stop < h + 4 * doff then (p.stop 9, .done)
    else
      let f := p.tcpFlags
      let p := { p.mark 5 with
        tcpSeq := beAt c.bytes (h + 4) 4, tcpAck := beAt c.bytes (h + 8) 4, tcpWin := beAt c.bytes (h + 14) 2,
        segLen := stop - h - 4 * doff + natOfBool (bitOf f 1) + natOfBool (bitOf f 0), counted := p.counted + 1 }
      parseApp c p 3 (h + 4 * doff) stop

/-- A UDP header. -/
def parseUdp (c : ParseIn) (p : Parsed) (h stop : Nat) : Parsed × ParseNext :=
  let e := headerExc c p true h 8
  if e ≠ 0 then (p.stop e, .done)
  else
    let n := beAt c.bytes (h + 4) 2
    let p := { p with sport := beAt c.bytes h 2, dport := beAt c.bytes (h + 2) 2 }
    if n < 8 ∨ stop < h + n then (p.stop 9, .done)
    else parseApp c (p.mark 6).count 2 (h + 8) (h + n)

/-- An ICMP or ICMPv6 header: 4 bytes, or 8 for an echo request or reply. -/
def parseIcmp (c : ParseIn) (p : Parsed) (v6 : Bool) (h stop : Nat) : Parsed :=
  let ty := byteAt c.bytes h
  let echo := if v6 then decide (ty = 128 ∨ ty = 129) else decide (ty = 8 ∨ ty = 0)
  let n := if echo then 8 else 4
  let e1 := headerExc c p true h 4
  let e := if e1 ≠ 0 then e1 else headerExc c p true h n
  if e ≠ 0 then p.stop e
  else
    let p := { p with sport := beAt c.bytes h 2, dport := if echo then beAt c.bytes (h + 4) 2 else 0 }
    if stop < h + n then p.stop 9 else (p.mark 7).count

/-- The header after the last IP header, by protocol. -/
def parseL4 (c : ParseIn) (p : Parsed) (v6 : Bool) (proto h stop : Nat) : Parsed × ParseNext :=
  if proto = 6 then parseTcp c p h stop
  else if proto = 17 then parseUdp c p h stop
  else if proto = (if v6 then 58 else 1) then (parseIcmp c p v6 h stop, .done)
  else (p, hookNext c 4 proto h)

/-! ### IP (R138, R140) -/

/-- The L3 and L4 fields of an earlier IP header are not kept (R140). -/
def Parsed.newIp (p : Parsed) : Parsed :=
  { p with sip := 0, dip := 0, sport := 0, dport := 0, tcpFlags := 0, tcpSeq := 0, tcpAck := 0, tcpWin := 0, segLen := 0 }

/-- An IPv4 header at `h`. -/
def parseIp4 (c : ParseIn) (p : Parsed) (h : Nat) : Parsed × ParseNext :=
  let ihl := byteAt c.bytes h % 16
  let e1 := headerExc c p true h 20
  let e := if e1 ≠ 0 then e1 else headerExc c p true h (4 * max 5 ihl)
  if e ≠ 0 then (p.stop e, .done)
  else
    let total := beAt c.bytes (h + 2) 2
    let proto := byteAt c.bytes (h + 9)
    let p := { p.newIp.mark 3 with
      tos := byteAt c.bytes (h + 1), proto := proto, sip := beAt c.bytes (h + 12) 4, dip := beAt c.bytes (h + 16) 4,
      v6 := false, ipOff := some h, ipLen := total }
    if byteAt c.bytes h / 16 ≠ 4 ∨ ihl < 5 ∨ total < 4 * ihl ∨ c.len < h + total then (p.stop 7, .done)
    else
      let p := p.count
      let w := beAt c.bytes (h + 6) 2
      let frag := bitOf w 13 || decide (w % 8192 ≠ 0)
      let p := if frag then p.flag (if w % 8192 = 0 then 2 else 3) else p
      if 5 < ihl then (p.stop 4, .done)
      else if frag then (p, .done)
      else parseL4 c p false proto (h + 20) (h + total)

/-- IPv6 extension headers (R138), at most `fuel` more. -/
def parseExt (c : ParseIn) : Nat → Parsed → Nat → Nat → Nat → Nat → Parsed × ParseNext
  | fuel, p, nh, n, h, stop =>
    if nh = 0 ∨ nh = 43 ∨ nh = 44 ∨ nh = 51 ∨ nh = 60 then
      let e1 := headerExc c p true h 0
      if e1 = 2 then (p.stop 2, .done)
      else if 4 ≤ n then (p.stop 5, .done)
      else
        let e2 := headerExc c p true h 2
        let len := if nh = 44 then 8 else if nh = 51 then (byteAt c.bytes (h + 1) + 2) * 4
          else (byteAt c.bytes (h + 1) + 1) * 8
        let e := if e2 ≠ 0 then e2 else headerExc c p true h len
        if e ≠ 0 then (p.stop e, .done)
        else if stop < h + len then (p.stop 11, .done)
        else
          let next := byteAt c.bytes h
          let p := { p.count with proto := next }
          if nh = 44 then (p.flag (if beAt c.bytes (h + 2) 2 / 8 = 0 then 2 else 3), .done)
          else match fuel with
            | 0 => (p, .done)
            | f + 1 => parseExt c f p next (n + 1) (h + len) stop
    else parseL4 c p true nh h stop

/-- An IPv6 header at `h`. -/
def parseIp6 (c : ParseIn) (p : Parsed) (h : Nat) : Parsed × ParseNext :=
  let e := headerExc c p true h 40
  if e ≠ 0 then (p.stop e, .done)
  else
    let plen := beAt c.bytes (h + 4) 2
    let nh := byteAt c.bytes (h + 6)
    let p := { p.newIp.mark 4 with
      tos := beAt c.bytes h 2 / 16 % 256, proto := nh, sip := beAt c.bytes (h + 8) 16, dip := beAt c.bytes (h + 24) 16,
      v6 := true, ipOff := some h, ipLen := 40 + plen }
    if byteAt c.bytes h / 16 ≠ 6 ∨ c.len < h + 40 + plen then (p.stop 8, .done)
    else parseExt c 5 p.count nh 0 (h + 40) (h + 40 + plen)

/-! ### Programmable nodes (R142) -/

/-- Length of a node's header (R142). -/
def nodeLength (c : ParseIn) (n h : Nat) : Nat :=
  if bitOf n 1 then
    let f := beAt c.bytes (h + subBytes n 2 1) (subBytes n 3 1 / 8)
    (((f &&& subBytes n 4 2) <<< subBytes n 6 1) + subBytes n 7 1) % 65536
  else subBytes n 1 1

/-- The node after node `n`: the first valid transition that matches, else the default. -/
def nodeNext (c : ParseIn) (n h : Nat) : Nat :=
  let v := beAt c.bytes (h + subBytes n 8 1) (subBytes n 9 1)
  match (List.range 4).find? (fun i => bitOf (subBytes n (19 + 4 * i) 1) 0 && decide (subBytes n (16 + 4 * i) 2 = v)) with
  | some i => subBytes n (18 + 4 * i) 1
  | none => subBytes n 10 1

/-- A node at `h`. -/
def parseNode (c : ParseIn) (p : Parsed) (num h : Nat) : Parsed × ParseNext :=
  let n := c.node num
  let len := nodeLength c n h
  if 8 ≤ p.counted then (p.stop 2, .done)
  else if len < 2 ∨ 64 < len then (p.stop 10, .done)
  else
    let e := headerExc c p true h len
    if e ≠ 0 then (p.stop e, .done)
    else
      let xl := subBytes n 12 1
      let user := if xl = 0 then p.user
        else putBytes p.user (subBytes n 13 1) xl (beAt c.bytes (h + subBytes n 11 1) xl)
      let b := fieldOf n 4 2
      let p := { (if b = 0 then p else p.mark (11 + b)).count with user := user }
      let next := nodeNext c n h
      (p, if next = 1 then .ip4 (h + len) else if next = 2 then .ip6 (h + len)
        else if 0x40 ≤ next ∧ next ≤ 0x7F then .node next (h + len) else .done)

/-- Follow counted headers; each step counts one, so nine steps end it (R136, R143). -/
def parseFrom (c : ParseIn) : Nat → Parsed → ParseNext → Parsed
  | 0, p, _ => p
  | fuel + 1, p, next =>
    if p.exc ≠ 0 then p
    else match next with
      | .done => p
      | .ip4 h => let r := parseIp4 c p h; parseFrom c fuel r.1 r.2
      | .ip6 h => let r := parseIp6 c p h; parseFrom c fuel r.1 r.2
      | .node n h => let r := parseNode c p n h; parseFrom c fuel r.1 r.2

/-! ### Ethernet and tags -/

/-- VLAN tags from offset `h`, the place of the EtherType; at most two (R144, code 6). -/
def parseTags (c : ParseIn) : Nat → Parsed → Nat → Parsed × Nat
  | fuel, p, h =>
    let et := beAt c.bytes h 2
    if et = 0x8100 ∨ et = 0x88A8 then
      match fuel with
      | 0 => (p.stop 6, h)
      | f + 1 =>
        let e := headerExc c p false h 6
        if e ≠ 0 then (p.stop e, h)
        else
          let tci := beAt c.bytes (h + 2) 2
          let p := { p.mark p.tags with
            outerTci := if p.tags = 0 then tci else p.outerTci, innerTci := if p.tags = 0 then p.innerTci else tci,
            tags := p.tags + 1 }
          parseTags c f p (h + 4)
    else ({ p with etype := et }, h)

/-- The header that an EtherType names (Table 6.1). -/
def etherNext (c : ParseIn) (p : Parsed) (h : Nat) : Parsed × ParseNext :=
  if p.etype = 0x0800 then (p, .ip4 h)
  else if p.etype = 0x86DD then (p, .ip6 h)
  else if p.etype = 0x22F0 then (parseAvtp c p h, .done)
  else if p.etype = 0x88E5 then ((p.mark 2).flag 8, .done)
  else if p.etype = 0x88F7 then (p.mark 10, .done)
  else if p.etype = 0x888E then (p.mark 11, .done)
  else (p, hookNext c 1 p.etype h)

/-- Parse a frame (R136 to R144). `sec` is 1 for a frame that MACsec verified, 2 for one passed after a failed
verification, 0 otherwise (R137). -/
def parseFrame (c : ParseIn) (sec : Nat) : Parsed :=
  let e := headerExc c Parsed.start false 0 14
  if e ≠ 0 then Parsed.start.stop e
  else
    let da := beAt c.bytes 0 6
    let p := { Parsed.start with da := da, sa := beAt c.bytes 6 6 }
    let p := if bitOf (byteAt c.bytes 0) 0 then p.flag 10 else p
    let p := if da = 0xFFFFFFFFFFFF then p.flag 11 else p
    let p := if sec = 0 then p else if sec = 1 then (p.mark 2).flag 9 else p.mark 2
    let r := parseTags c 2 p 12
    let p := if r.1.exc = 0 ∧ r.1.etype = 0xF1C1 ∧ r.2 + 6 ≤ c.len then
      { r.1 with rtag := some (beAt c.bytes (r.2 + 4) 2) } else r.1
    if p.exc ≠ 0 then p
    else
      let q := etherNext c p (r.2 + 2)
      let p := parseFrom c 9 q.1 q.2
      { p with flags := p.flags + min p.counted 8 * 4096 }

/-! ### The key (R146, Table 6.4) -/

/-- The 640-bit key. -/
def Parsed.keyBits (p : Parsed) (port profile : Nat) : Nat :=
  port * 2 ^ 635 + profile * 2 ^ 627 + p.flags * 2 ^ 600 + p.bitmap * 2 ^ 584 + p.da * 2 ^ 536 + p.sa * 2 ^ 488
    + p.outerTci * 2 ^ 472 + p.innerTci * 2 ^ 456 + p.etype * 2 ^ 440 + p.sip * 2 ^ 312 + p.dip * 2 ^ 184
    + p.proto * 2 ^ 176 + p.tos * 2 ^ 168 + p.sport * 2 ^ 152 + p.dport * 2 ^ 136 + p.tcpFlags * 2 ^ 128
    + p.app * 2 ^ 64 + p.user

/-- Whether the frame has an outer VLAN tag. -/
def Parsed.tagged (p : Parsed) : Bool := bitOf p.bitmap 0

/-- The outer VID, 0 when untagged. -/
def Parsed.outerVid (p : Parsed) : Nat := if p.tagged then p.outerTci % 4096 else 0

/-- A group destination address. -/
def Parsed.group (p : Parsed) : Bool := bitOf p.flags 10

/-- A broadcast destination address. -/
def Parsed.broadcast (p : Parsed) : Bool := bitOf p.flags 11

/-- Whether the frame carries an IP header. -/
def Parsed.isIp (p : Parsed) : Bool := bitOf p.bitmap 3 || bitOf p.bitmap 4

/-- A TCP segment whose header was parsed. -/
def Parsed.isTcp (p : Parsed) : Bool := bitOf p.bitmap 5

/-- A fragment of a datagram. -/
def Parsed.isFragment (p : Parsed) : Bool := bitOf p.flags 2 || bitOf p.flags 3

/-- The parse graph in force for inputs of key epoch `e`. -/
def State.parseIn (s : State) (e : Nat) (bytes : Bytes) (length : Nat) : ParseIn :=
  { bytes := bytes, len := length - 4,
    hooks := (List.range 16).map (fun i => s.regAt e (dkey 0x5000 (0x10 + i))),
    node := fun n => s.regAt e (dkey 0x5000 n) }

/-- Parse a frame with the configuration in force for its key epoch. -/
def State.parse (s : State) (e : Nat) (bytes : Bytes) (length sec : Nat) : Parsed :=
  parseFrame (s.parseIn e bytes length) sec

end Sys2Proof.Machine
end

