-- ==== Sys2Proof/Machine/Classify.lean ====
section
/-! DEFINITION. Classification: rules, exact match, the resolved action, control and DAP delivery, stream identification
(R145 to R159). -/

namespace Sys2Proof.Machine

open Sys2Proof

/-! ### Action words (Table 6.6) -/

/-- Outcome of an action word. -/
def actOutcome (a : Nat) : Nat := fieldOf a 63 60
/-- Redirect port. -/
def actRedirect (a : Nat) : Nat := fieldOf a 59 55
/-- Stream handle, when valid. -/
def actHandle (a : Nat) : Option Nat := if bitOf a 28 then some (fieldOf a 43 29) else none
/-- Mirror session, when valid. -/
def actMirror (a : Nat) : Option Nat := if bitOf a 16 then some (fieldOf a 20 17) else none
/-- Sample bit. -/
def actSample (a : Nat) : Bool := bitOf a 15
/-- Track bit. -/
def actTrack (a : Nat) : Bool := bitOf a 14
/-- Host-copy bit. -/
def actHostCopy (a : Nat) : Bool := bitOf a 13
/-- Defer bit. -/
def actDefer (a : Nat) : Bool := bitOf a 12

/-- Bits `lo … hi` of `a` replaced by those of `b`. -/
def takeField (a b hi lo : Nat) : Nat :=
  a % 2 ^ lo + fieldOf b hi lo * 2 ^ lo + (a / 2 ^ (hi + 1)) * 2 ^ (hi + 1)

/-- The fields with a valid bit: from the field's top bit down to its valid bit. -/
def validFields : List (Nat × Nat) := [(54, 51), (50, 48), (47, 44), (43, 28), (27, 21), (20, 16)]

/-- An exact action joined with a rule that deferred to it (R150). -/
def joinDeferred (e t : Nat) : Nat :=
  let a := validFields.foldl (fun a f => if bitOf a f.2 then a else takeField a t f.1 f.2) e
  a ||| (fieldOf t 15 13) * 2 ^ 13

/-- An action word with an outcome and a valid queue. -/
def actDeliver (outcome queue : Nat) : Nat := outcome * 2 ^ 60 + queue * 2 ^ 45 + 2 ^ 44

/-! ### Default records (Table 6.11) -/

/-- The default record of a port. -/
def State.portRecord (s : State) (e p : Nat) : Nat := s.regAt e (dkey 0x5300 (1 + p))

/-- Miss action of a record. -/
def recMiss (r : Nat) : Nat := subBytes r 0 8
/-- Exception action. -/
def recException (r : Nat) : Nat := subBytes r 8 1
/-- Profile. -/
def recProfile (r : Nat) : Nat := subBytes r 9 1
/-- Exact format. -/
def recFormat (r : Nat) : Nat := subBytes r 10 1
/-- Default class. -/
def recClass (r : Nat) : Nat := subBytes r 11 1

/-! ### Lookups -/

/-- What a lookup finds: nothing, a row's position and action, or a row whose check fails (R159). -/
inductive Hit
  | miss
  | row (pos action : Nat)
  | error
  deriving DecidableEq, Repr

/-- Whether a row's check fails. -/
def State.rowBad (s : State) (tbl pos : Nat) : Bool := decide ((tbl, pos) ∈ s.basin.bad)

/-- The first matching rule of the ternary table (R147); `caring` restricts it to rules that care for both exception flags
(R145). A rule that fails its parity before the match is an error. -/
def State.ternary (s : State) (e key : Nat) (caring : Bool) : Hit :=
  let care := fun (r : Nat × List Nat) => rowSub r.2 8
  match (s.rowsAt e 0x5100).find? (fun r => s.rowBad 0x5100 r.1 ||
    (decide (key &&& care r = rowSub r.2 7 &&& care r) && (!caring || decide (fieldOf (care r) 601 600 = 3)))) with
  | some r => if s.rowBad 0x5100 r.1 then .error else .row r.1 (rowSub r.2 9)
  | none => .miss

/-- The exact-match key of a format, if the frame carries the headers it needs (Table 6.5). -/
def exactKey (format : Nat) (p : Parsed) : Option Nat :=
  let ok := decide (p.exc = 0)
  if format = 1 then some (p.da + p.outerVid * 2 ^ 48)
  else if format = 2 ∧ bitOf p.bitmap 3 ∧ ok then
    some (p.dip + p.sip * 2 ^ 32 + p.dport * 2 ^ 64 + p.sport * 2 ^ 80 + p.proto * 2 ^ 96)
  else if format = 3 ∧ bitOf p.bitmap 4 ∧ ok then some (p.dip + p.dport * 2 ^ 128 + p.proto * 2 ^ 144)
  else if format = 4 ∧ bitOf p.bitmap 8 ∧ p.sv then some (p.app + p.outerVid * 2 ^ 64)
  else none

/-- The exact-match lookup. -/
def State.exact (s : State) (e format profile : Nat) (p : Parsed) : Hit :=
  match exactKey format p with
  | none => .miss
  | some k => match (s.rowsAt e 0x5200).find? (fun r => decide (r.2.take 3 = [format, profile, k])) with
    | none => .miss
    | some r => if s.rowBad 0x5200 r.1 then .error else .row r.1 (rowSub r.2 9)

/-! ### Stream identification (R155 to R157) -/

/-- Bytes 0 to 59 of the identification entry that a probe looks for. -/
def probeMatch (method mode port : Nat) (p : Parsed) : Nat :=
  let ip := decide (method = 3)
  let addr := fun (a : Nat) => if p.v6 then toBE 16 a else toBE 4 a ++ List.replicate 12 0
  leNat (toLE 1 method ++ toLE 1 (mode + 4 * natOfBool (ip && p.v6)) ++ toLE 1 port
    ++ toLE 1 (if ip then p.tos / 4 else 0) ++ toLE 2 (if mode = 1 then p.outerVid else 0)
    ++ toBE 6 (if method = 2 then p.sa else p.da) ++ toLE 1 (if ip then p.proto else 0) ++ [0]
    ++ toLE 2 (if ip then p.sport else 0) ++ toLE 2 (if ip then p.dport else 0)
    ++ (if ip then addr p.dip ++ addr p.sip else List.replicate 32 0))

/-- The probes of R156 in their order. -/
def probes (port : Nat) (p : Parsed) : List Nat :=
  let methods := if p.isIp && decide (p.exc = 0) then [3, 1, 2] else [1, 2]
  let own := if p.outerVid ≠ 0 then 1 else 2
  methods.flatMap (fun m => [probeMatch m own port p, probeMatch m 3 port p, probeMatch m own 0xFF p, probeMatch m 3 0xFF p])

/-- The first probe that hits supplies the handle. -/
def State.identify (s : State) (e port : Nat) (p : Parsed) : Hit :=
  let rows := s.rowsAt e 0x5800
  match (probes port p).findSome? (fun k => rows.find? (fun r => decide (rowSub r.2 6 = k))) with
  | none => .miss
  | some r => if s.rowBad 0x5800 r.1 then .error else .row r.1 (rowSub r.2 7)

/-! ### Resolution (R150 to R152) -/

/-- The result of classification: action, resolved fields, whether rules and Narrows are bypassed, whether the frame is a
DAP datagram, exception slow path, and the counters and rows that count. -/
structure Classified where
  action : Nat
  cls    : Nat
  colour : Nat
  queue  : Nat
  zone   : Nat
  handle : Option Nat
  bypass : Bool
  slow   : Bool
  counts : List Nat
  hits   : List (Nat × Nat)
  error  : Bool
  deriving DecidableEq, Repr

/-- A control frame (R152). -/
def Parsed.isControl (p : Parsed) : Bool := decide (p.etype = 0x88F7) || decide (p.etype = 0x888E)

/-- A DAP datagram by address and port (R152). -/
def State.isDap (s : State) (e : Nat) (p : Parsed) : Bool :=
  let a4 := s.regAt e (dkey 0x5300 0x21)
  let a6 := s.regAt e (dkey 0x5300 0x22)
  bitOf p.bitmap 6 && decide (p.dport = s.regAt e (dkey 0x1010 0x0A)) &&
    ((bitOf p.bitmap 3 && decide (a4 ≠ 0) && decide (p.dip = beNat (toLE 4 a4)))
      || (bitOf p.bitmap 4 && decide (a6 ≠ 0) && decide (p.dip = beNat (toLE 16 a6))))

/-- The unresolved choice: an action, rows hit, counters of `5400h`, slow path by exception, lookup error. -/
structure Chosen where
  action : Nat
  hits   : List (Nat × Nat)
  counts : List Nat
  slow   : Bool
  error  : Bool
  deriving DecidableEq, Repr

/-- A lookup error takes the miss action and is counted in `5400h.19` (R159). -/
def lookupError (miss : Nat) (hits : List (Nat × Nat)) : Chosen := ⟨miss, hits, [0x19], false, true⟩

/-- A frame with an exception (R145). -/
def State.chooseException (s : State) (e key r : Nat) : Chosen :=
  match s.ternary e key true with
  | .error => lookupError (recMiss r) []
  | .row pos a => ⟨a, [(0x5100, pos)], [], false, false⟩
  | .miss =>
    if recException r = 0 then ⟨2 * 2 ^ 60, [], [0x10], false, false⟩
    else if recException r = 1 then ⟨actDeliver 6 1, [], [0x11], true, false⟩
    else ⟨0, [], [0x12], false, false⟩

/-- A fragment: to the slow path unless a rule drops it (R153). -/
def State.chooseFragment (s : State) (e key r : Nat) : Chosen :=
  match s.ternary e key false with
  | .error => lookupError (recMiss r) []
  | .row pos a =>
    if actOutcome a = 2 then ⟨2 * 2 ^ 60, [(0x5100, pos)], [0x14], false, false⟩
    else ⟨actDeliver 6 1, [(0x5100, pos)], [0x13], false, false⟩
  | .miss => ⟨actDeliver 6 1, [], [0x13], false, false⟩

/-- The ternary and exact lookups together (R150). -/
def State.chooseRule (s : State) (e key r : Nat) (p : Parsed) : Chosen :=
  let t := s.ternary e key false
  let x := s.exact e (recFormat r) (recProfile r) p
  match t, x with
  | .error, _ => lookupError (recMiss r) []
  | _, .error => lookupError (recMiss r) []
  | .row tp ta, .row xp xa =>
    if actDefer ta then ⟨joinDeferred xa ta, [(0x5100, tp), (0x5200, xp)], [], false, false⟩
    else ⟨ta, [(0x5100, tp)], [], false, false⟩
  | .row tp ta, .miss => ⟨ta, [(0x5100, tp)], [], false, false⟩
  | .miss, .row xp xa => ⟨xa, [(0x5200, xp)], [], false, false⟩
  | .miss, .miss => ⟨recMiss r, [], [], false, false⟩

/-- The action for a frame of HP whose descriptor names an egress port (R152). -/
def originAction (o : Origin) : Nat :=
  2 ^ 60 + o.egress * 2 ^ 55 + o.cls * 2 ^ 52 + 2 ^ 51 + o.queue * 2 ^ 45 + 2 ^ 44

/-- Apply DAP delivery and clear the defer bit (R150, R152). -/
def State.finishChoice (s : State) (e : Nat) (p : Parsed) (c : Chosen) : Chosen :=
  let a := if actDefer c.action then clearBitAt c.action 12 else c.action
  let a := if s.isDap e p ∧ actOutcome a ≠ 2 then takeField (takeField a (actDeliver 4 0) 63 60) (actDeliver 4 0) 47 44 else a
  { c with action := a }

/-- The action of a frame that is not a control frame. -/
def State.choose (s : State) (e port : Nat) (p : Parsed) (o : Option Origin) : Chosen :=
  let r := s.portRecord e port
  let key := p.keyBits port (recProfile r)
  match o with
  | some x =>
    if x.given then ⟨originAction x, [], [], false, false⟩
    else if p.exc ≠ 0 then s.chooseException e key r
    else if p.isFragment then s.chooseFragment e key r
    else s.finishChoice e p (s.chooseRule e key r p)
  | none =>
    if p.exc ≠ 0 then s.chooseException e key r
    else if p.isFragment then s.chooseFragment e key r
    else s.finishChoice e p (s.chooseRule e key r p)

/-- The defaults of R151 for what the action leaves invalid. -/
def State.resolveFields (s : State) (e port : Nat) (p : Parsed) (c : Chosen) (h : Option Nat) (idHits : List (Nat × Nat)) :
    Classified :=
  let r := s.portRecord e port
  let a := c.action
  let dflt := if p.tagged ∧ !bitOf (subBytes r 12 1) 1 then p.outerTci / 8192 else recClass r
  let cls := if bitOf a 51 then fieldOf a 54 52 else dflt
  let colour := if bitOf a 48 then fieldOf a 50 49
    else if p.tagged ∧ bitOf p.outerTci 12 ∧ bitOf (subBytes r 12 1) 0 then 1 else 0
  let queue := if bitOf a 44 then fieldOf a 47 45 else cls
  let zone := if bitOf a 21 then fieldOf a 27 22 else s.regAt e (dkey 0x6010 (1 + port)) % 64
  ⟨a, cls, colour, queue, zone, (match h with | some x => some x | none => actHandle a), false, c.slow, c.counts,
    c.hits ++ idHits, c.error⟩

/-- Control frames of ports 0 to 27, and those of LP1 (R152). -/
def State.controlChoice (s : State) (e port : Nat) (p : Parsed) (o : Option Origin) : Option Chosen :=
  if !p.isControl then none
  else if port < 28 then
    let gptp := decide (p.etype = 0x88F7)
    let on := if gptp then decide (s.regAt e (dkey (0x2180 + port) 1) ≠ 0) else decide (s.regAt e (dkey (0x3100 + port) 1) = 1)
    some (if on then ⟨actDeliver 4 (if gptp then 2 else 3), [], [], false, false⟩ else ⟨2 * 2 ^ 60, [], [0x18], false, false⟩)
  else match o with
    | some x => if port = 29 ∧ x.given ∧ x.core / 2 = 1 then some ⟨originAction x, [], [], false, false⟩ else none
    | none => none

/-- Classification of a parsed frame of ingress port `port` (R150, R151, R156). -/
def State.classify (s : State) (e port : Nat) (p : Parsed) (o : Option Origin) : Classified :=
  let exc := if p.exc = 0 then [] else [p.exc]
  let opq := if bitOf p.flags 8 then [0x17] else []
  match s.controlChoice e port p o with
  | some c => { s.resolveFields e port p c none [] with bypass := true, handle := none, counts := exc ++ opq ++ c.counts }
  | none =>
    let c := s.choose e port p o
    let r :=
      if c.error ∨ p.isFragment ∨ actOutcome c.action = 2 then s.resolveFields e port p c none []
      else match s.identify e port p with
        | .miss => s.resolveFields e port p c none []
        | .row pos h => s.resolveFields e port p c (some h) [(0x5800, pos)]
        | .error => s.resolveFields e port p (lookupError (recMiss (s.portRecord e port)) c.hits) none []
    { r with counts := exc ++ opq ++ r.counts }

/-- Hit counters of the tables (R158). -/
def hitSub (tbl : Nat) : Nat := if tbl = 0x5800 then 8 else 0x0A

/-- Count what classification counts, and signal a lookup error (R159). -/
def State.countClass (s : State) (c : Classified) : State :=
  let s := c.counts.foldl (fun s n => s.count64 0x5400 n 1) s
  let s := c.hits.foldl (fun s h => s.bumpRow h.1 h.2 (hitSub h.1)) s
  if c.error then s.raiseFault 62 false else s

end Sys2Proof.Machine
end

