-- ==== Sys2Proof/Machine/Pair.lean ====
section
/-! DEFINITION. What every unit asks of the pair: homes, tokens, whose keys order the inputs, and the input journal
(R54, R301, R306, R309, R314). -/

namespace Sys2Proof.Machine

open Sys2Proof

/-- The member number: the PAIR_ID strap (`9000h.11`). -/
def State.pairId (s : State) : Nat := s.stat 0x9000 0x11

/-- Whether the home of port `p` includes this member (`9020h.40`…`5F`). -/
def State.homeHere (s : State) (p : Nat) : Bool :=
  let h := s.reg 0x9020 (0x40 + p)
  !s.saddle.enabled || decide (h = 0) || decide (h = 1 + s.pairId)

/-- Whether port `p` is homed on both members. -/
def State.homeBoth (s : State) (p : Nat) : Bool := decide (s.reg 0x9020 (0x40 + p) = 0)

/-- Numbers of the shared outputs as bits of `9000h.15`. -/
def outCan (n : Nat) : Nat := n
/-- LIN channels. -/
def outLin (n : Nat) : Nat := 24 + n
/-- FlexRay. -/
def outFx : Nat := 32
/-- Triggers. -/
def outTrig (n : Nat) : Nat := 33 + n

/-- Every output number. -/
def outputCount : Nat := 49

/-- Whether a trigger is shared (bit 1 of its class). -/
def State.trigShared (s : State) (n : Nat) : Bool := bitOf (s.reg 0x9020 (0x22 + n)) 1

/-- Whether an output is shared: every bus, and the triggers marked so (R314). -/
def State.outShared (s : State) (n : Nat) : Bool := decide (n < 33) || s.trigShared (n - 33)

/-- Whether an output is of class S. -/
def State.classS (s : State) (n : Nat) : Bool := bitOf (s.reg 0x9020 (1 + n)) 0

/-- Whether this member holds the token of an output. -/
def State.holds (s : State) (n : Nat) : Bool := bitOf (s.stat 0x9000 0x15) n

/-- Roles in which a member drives no shared output (Table 12.2). -/
def Role.silent (r : Role) : Bool := decide (r ∈ [Role.start, .syncing, .fenced, .halted, .takeover])

/-- Whether this member drives an output: a member that is DISABLED drives every output, another the shared ones whose
tokens it holds (R301, R314); none is driven after a fatal reaction (Table 14.3). -/
def State.drives (s : State) (n : Nat) : Bool :=
  s.safety.fatalRaw.isNone && !decide (s.saddle.role = .halted) &&
    (!s.saddle.enabled || !s.outShared n || (s.holds n && !s.saddle.role.silent))

/-- Whether the token of output `n` is being handed over: nothing new starts on it (R329). -/
def State.handing (s : State) (n : Nat) : Bool := s.saddle.handovers.any (fun h => decide (h.output = n))

/-- The tokens of every shared output. -/
def State.allTokens (s : State) : Nat := maskOfPorts ((List.range outputCount).filter s.outShared)

/-- Change the tokens held; a change of holder advances the generation (R314). -/
def State.setTokens (s : State) (v : Nat) : State :=
  if v = s.stat 0x9000 0x15 then s else (s.setStat 0x9000 0x15 v).countSeq 0x9000 0x16 32

/-- Whether this member follows its partner's journal: its own keys only match inputs (R47, R308, R323). -/
def State.follows (s : State) : Bool :=
  decide (s.saddle.role = .standby) || decide (s.saddle.role = .syncing) ||
    (decide (s.saddle.role = .takeover) && !s.saddle.caughtUp)

/-- Whether the pair is in step: the active member journals, the standby follows (R311). -/
def State.inStep (s : State) : Bool :=
  (decide (s.saddle.role = .active) && s.saddle.journaling) || decide (s.saddle.role = .standby)

/-- Whether this member journals an input of key epoch `e`: journaling runs, or a resynchronisation ends at boundary `e` or
before (R306, R318). -/
def State.journals (s : State) (e : Nat) : Bool :=
  decide (s.saddle.role = .active) && (s.saddle.journaling ||
    (match s.saddle.resync.bind Resync.final with
      | some f => decide (f ≤ e)
      | none => false))

/-- The key of a record. -/
def recKey (r : JRec) : OKey := ⟨r.epoch, r.src, r.seq⟩

/-- Put a record for a keyed input into Saddle's sort buffer, in order-key order (R306). -/
def State.journalInput (s : State) (key : OKey) (kind arg tag : Nat) (relayed : Bool) (payload : Option Bytes) : State :=
  if s.journals key.epoch then
    let r : JRec := ⟨key.epoch, key.src, key.seq, kind, relayed, false, none, arg, tag, payload⟩
    { s with saddle := { s.saddle with outbox := insertByKey recKey r s.saddle.outbox } }
  else s

/-- Note the FRER decision of a journaled frame in its record: discarded, or the sequence assigned (R306). -/
def State.journalFrer (s : State) (key : OKey) (drop : Bool) (seq : Option Nat) : State :=
  if s.journals key.epoch then
    { s with saddle := { s.saddle with
        outbox := modWhere (fun (r : JRec) => decide (recKey r = key)) (fun r => { r with frerDrop := drop, frerSeq := seq })
          s.saddle.outbox } }
  else s

/-- An own input of the standby waits for its record (R309). -/
def State.keepOwn (s : State) (key : OKey) (tag : Nat) (x : OwnInput) : State :=
  { s with saddle := { s.saddle with own := s.saddle.own ++ [⟨key, tag, s.time.raw, x⟩] } }

/-- Count an input that the standby withholds (R311). -/
def State.withhold (s : State) : State := s.count64 0x9000 0x25 1

/-- Match tag of an Ethernet frame (R309). -/
def frameTag (b : Bytes) : Nat := crc32 (b.take 64)

/-- Match tag of a bus frame: the identifier of its kind, then the data (R309); a FlexRay frame has its slot and
cycle in `xl` as slot × 64 + cycle. -/
def busTag (f : BusFrame) : Nat :=
  crc32 ((if f.kind = 1 then toBE 4 f.ident else if f.kind = 2 then toBE 1 f.ident else
    toBE 2 (f.xl / 64) ++ toBE 1 (f.xl % 64)) ++ f.data)

/-- Match tag of a trigger edge. -/
def pulseTag (k : Nat) : Nat := crc32 (toBE 4 k)

end Sys2Proof.Machine
end

