-- ==== Sys2Proof/Machine/Link.lean ====
section
/-! DEFINITION. The Elnar link as the other units use it: lane frames, scrambling, cells, messages, lane use, the loss and the
restart of the link (R333 to R347, R352 to R354). -/

namespace Sys2Proof.Machine

open Sys2Proof

/-- The alignment word. -/
def alignWord : Nat := 0xB31E9C4D72E5

/-- Whether the link is in SYNC (`9100h.03`). -/
def State.linkSync (s : State) : Bool := decide (s.stat 0x9100 3 = 1)

/-- Whether lane `r` is in use. -/
def State.laneInUse (s : State) (r : Nat) : Bool := bitOf (s.stat 0x9100 4) r

/-- Receive lane `r`. -/
def State.rxLane (s : State) (r : Nat) : RxLane := nth s.elnar.rx r RxLane.reset

/-- Change receive lane `r`. -/
def State.modRx (s : State) (r : Nat) (f : RxLane → RxLane) : State :=
  { s with elnar := { s.elnar with rx := modNth s.elnar.rx r f } }

/-- Class `c` of 1…5. -/
def State.cellClass (s : State) (c : Nat) : CellClass := nth s.elnar.classes (c - 1) CellClass.reset

/-- Change class `c`. -/
def State.modClass (s : State) (c : Nat) (f : CellClass → CellClass) : State :=
  { s with elnar := { s.elnar with classes := modNth s.elnar.classes (c - 1) f } }

/-- Whether a member is live, its self-test passed (R299): its liveness input is refreshed and no fatal reaction is in force. -/
def State.live (s : State) : Bool :=
  s.saddle.enabled && s.safety.fatalRaw.isNone && !decide (s.saddle.role = .halted) && decide (s.stat 0xA000 1 ≠ 0)
    && s.saddle.lapsed.isNone

/-! ### Scrambling and parity (R334, R338) -/

/-- One byte of the scrambler's sequence, and the state after it. -/
def scrambleByte (st : Nat) : Nat × Nat :=
  (List.range 8).foldl (fun (a : Nat × Nat) _ =>
    let g := natOfBool (bitOf a.1 22 != bitOf a.1 17)
    ((a.1 * 2 + g) % 2 ^ 23, a.2 * 2 + g)) (st, 0)

/-- Bytes with the scrambler's sequence applied; applying it twice gives the bytes back. -/
def scramble : Nat → Bytes → Bytes
  | _, [] => []
  | st, b :: bs => (b ^^^ BitVec.ofNat 8 (scrambleByte st).2) :: scramble (scrambleByte st).1 bs

/-- A frame between line and data: bytes 6…255 scrambled from 0x7FFFFF. -/
def lineFrame (f : Bytes) : Bytes := f.take 6 ++ scramble 0x7FFFFF (f.drop 6)

/-- BIP-8 of a frame as on the line: even parity by bit. -/
def bip8 (f : Bytes) : Nat := f.foldl (fun a b => a ^^^ b.toNat) 0

/-! ### Messages and cells sent (R345 to R347) -/

/-- The cells of a message: 30 bytes each, the last marked and filled with zeros. -/
def cellsOfMsg : Nat → Bytes → List (Bool × Bytes)
  | 0, _ => []
  | k + 1, b => if b.length ≤ 30 then [(true, b ++ List.replicate (30 - b.length) 0)] else (false, b.take 30) :: cellsOfMsg k (b.drop 30)

/-- Send a message of a class; out of frame nothing is sent. -/
def State.sendMsg (s : State) (cls kind flags : Nat) (body : Bytes) : State :=
  if s.linkSync then
    let m := toBE 1 kind ++ toBE 1 flags ++ toBE 2 body.length ++ body
    s.modClass cls (fun c => { c with out := c.out ++ cellsOfMsg (m.length + 1) m })
  else s

/-- A message that a command acts upon has been delivered: it is no longer waiting. -/
def State.consume (s : State) (cls kind : Nat) (body : Bytes) : State :=
  match takeFirst (fun (m : LinkMsg) => decide (m.cls = cls) && decide (m.kind = kind) && decide (m.body = body)) s.elnar.received with
  | none => s
  | some (_, rest) => { s with elnar := { s.elnar with received := rest } }

/-- Buffer of a class in cells; class C needs no credits. -/
def classCells (c : Nat) : Nat := if c = 1 then 8192 else if c = 4 then 512 else 2048

/-- Whether class `c` has a cell that may go. -/
def State.cellReady (s : State) (c : Nat) : Bool :=
  let x := s.cellClass c
  decide (x.out ≠ []) && (decide (c = 5) || decide (x.sent - x.credited < classCells c))

/-- The class whose cell takes the next slot (R346): every sixteenth slot for F, else C, J, T, S, F. -/
def State.nextClass (s : State) : Option Nat :=
  if 15 ≤ s.elnar.slot ∧ s.cellReady 3 then some 3 else [5, 1, 4, 2, 3].find? s.cellReady

/-- The credit cell: cells consumed of J, S, F and T. -/
def State.creditCell (s : State) : Bytes :=
  toBE 2 0xC000 ++ toBE 2 (s.cellClass 1).consumed ++ toBE 2 (s.cellClass 2).consumed ++ toBE 2 (s.cellClass 3).consumed
    ++ toBE 2 (s.cellClass 4).consumed ++ List.replicate 22 0

/-- The cell of the next slot: a credit cell that is due, a cell of a class, or idle. -/
def State.nextCell (s : State) : State × Bytes :=
  let up := { s with elnar := { s.elnar with slot := s.elnar.slot + 1 } }
  if s.elnar.credit then ({ up with elnar := { up.elnar with credit := false } }, s.creditCell)
  else match s.nextClass with
    | none => (up, List.replicate 32 0)
    | some c => match (s.cellClass c).out with
      | [] => (up, List.replicate 32 0)
      | (last, d) :: rest =>
        let seq := (s.cellClass c).txSeq
        let s := up.modClass c (fun x => { x with out := rest, txSeq := (x.txSeq + 1) % 4096, sent := x.sent + 1 })
        let s := if c = 3 then { s with elnar := { s.elnar with slot := 0 } } else s
        (s.count64 0x9100 6 1, toBE 2 (c * 8192 + 4096 * natOfBool last + seq) ++ d)

/-- Data bytes for a frame: at least `n`, from the bytes left over and then whole cells, idle ones on a lane without use. -/
def fillData : Nat → Bool → Nat → Bytes → State → State × Bytes
  | 0, _, _, d, s => (s, d)
  | k + 1, use, n, d, s =>
    if n ≤ d.length then (s, d)
    else
      let r := if use then s.nextCell else (s, List.replicate 32 0)
      fillData k use n (d ++ r.2) r.1

/-! ### Lane use and the link (R341 to R343, R352 to R354) -/

/-- Whether receive lane `r` is usable: SYNC without LOS, TIM, SF or AIS. -/
def State.laneUsable (s : State) (r : Nat) : Bool :=
  decide (s.stat (0x9110 + r) 2 = 2) && decide (s.stat (0x9110 + r) 3 &&& 0x35 = 0)

/-- The conditions of use of lane `r`. -/
def State.useConditions (s : State) (r : Nat) : Bool :=
  s.laneUsable r && !bitOf (s.stat (0x9110 + r) 3) 6 && decide (s.reg (0x9110 + r) 1 = 1) && decide (s.reg 0x9100 1 = 1)

/-- An orphan posted write: counted, stored and reported (R353). -/
def State.orphan (s : State) (tag init status offset issue : Nat) : State :=
  let rec_ := leNat (toLE 1 tag ++ toLE 1 init ++ toBE 2 status ++ toBE 4 offset ++ toBE 8 issue ++ toBE 8 s.time.orderNs)
  ((s.count32 0x9130 7).setStat 0x9130 8 rec_).raiseEvent 0x0F00 0x0B02 (tag + issue * 256)

/-- A completion is given to its initiator. -/
def State.giveResult (s : State) (init : Nat) (d : BridgeDone) : State :=
  { s with elnar := { s.elnar with results := s.elnar.results ++ [(init, d)] } }

/-- Every outstanding request ends: a posted write that was not credited is an orphan, another answers 0x000D (R353, R354). -/
def State.endOutstanding (s : State) : State :=
  let l := s.elnar.out
  let s := { s with elnar := { s.elnar with out := [], acquires := s.elnar.acquires.filter (fun a => !a.partner) } }
  l.foldl (fun s (o : Outstanding) =>
    if o.req.kind = 5 then s.orphan o.req.tag o.req.init 0x0D o.req.offset o.req.issue
    else if o.ended then s
    else s.giveResult o.req.init ⟨o.req.kind + 0x80, o.req.tag, 0x0D, []⟩) s

/-- A follower's synchronised time sets enter holdover (R91, R102). -/
def State.holdSets (s : State) : State :=
  { s with time := { s.time with sets := s.time.sets.map (fun (u : TimeSet) =>
      if u.status = 1 ∧ ¬ u.fallMode then { u with status := 2, holdRaw := s.time.raw, holdNs := 0 } else u) } }

/-- A member with pair enable finds the link out of frame: bit 2 of determinism status begins (Table 2.7). -/
def State.noteOut (s : State) : State :=
  if s.saddle.enabled then (s.orStat 0x1001 0x10 4).noteDeterminism 2 else s

/-- The link is in SYNC and the partner's journal caught up: bit 2 ends (Table 2.7). -/
def State.endOut (s : State) : State := s.setStat 0x1001 0x10 0

/-- The link goes out of frame: the partner loses its semaphores, and what is outstanding ends (R343, R352). -/
def State.linkLost (s : State) : State :=
  let lost := s.elnar.sems.filter (fun x => decide (x.2.holder = 2))
  let s := { s with elnar := { s.elnar with sems := s.elnar.sems.filter (fun x => decide (x.2.holder ≠ 2)) } }
  let s := if s.saddle.role = .standby ∨ s.saddle.role = .syncing then s.holdSets else s
  ((((s.setStat 0x9100 3 0).orStat 0x9100 5 1).count64 0x9140 0x44 lost.length).endOutstanding).noteOut

/-- The link enters SYNC: every sequence, count and buffer starts again (R343). -/
def State.linkRestart (s : State) : State :=
  { (s.setStat 0x9100 3 1) with elnar := { s.elnar with
      classes := List.replicate 5 CellClass.reset, credit := false, slot := 0, received := [] } }

/-- Lane `r` leaves use (R342). -/
def State.laneOut (s : State) (r : Nat) : State :=
  let s := s.modRx r (fun x => { x with good := 0 })
  if s.laneInUse r then
    let s := (s.setStat 0x9100 4 (clearBitAt (s.stat 0x9100 4) r)).orStat 0x9100 5 2
    if s.stat 0x9100 4 = 0 then s.linkLost else s
  else s

/-- Leave use when the conditions fail. -/
def State.checkUse (s : State) (r : Nat) : State := if s.useConditions r then s else s.laneOut r

/-- Declare a defect of lane `r`: sticky bit, event, fault (R340). -/
def State.declareDefect (s : State) (r bit : Nat) : State :=
  if bitOf (s.stat (0x9110 + r) 3) bit then s
  else
    let s := (s.orStat (0x9110 + r) 3 (1 <<< bit)).orStat (0x9110 + r) 4 (1 <<< bit)
    ((s.raiseEvent 0x0F00 0x0B01 (r + 256 * bit)).raiseFault (91 + r) true).checkUse r

/-- Clear a defect; the lane's fault input ends with the last. -/
def State.clearDefect (s : State) (r bit : Nat) : State :=
  let s := s.setStat (0x9110 + r) 3 (clearBitAt (s.stat (0x9110 + r) 3) bit)
  if s.stat (0x9110 + r) 3 = 0 then s.clearCause (91 + r) else s

/-- Declare or clear a defect as a condition says. -/
def State.setDefect (s : State) (r bit : Nat) (on : Bool) : State := if on then s.declareDefect r bit else s.clearDefect r bit

/-- Loss of frame: HUNT, counted (R339). -/
def State.loseFrame (s : State) (r : Nat) : State :=
  let s := ((s.setStat (0x9110 + r) 2 0).count32 (0x9110 + r) 0x0B).modRx r (fun _ => RxLane.reset)
  (s.declareDefect r 1).laneOut r

/-! ### Cells received (R345 to R347) -/

/-- A cell in sequence joins its class's message; the last one completes it. -/
def State.acceptCell (s : State) (c : Nat) (last : Bool) (d : Bytes) : State :=
  let x := s.cellClass c
  let m := x.part ++ d
  let s := (s.count64 0x9100 7 1).modClass c (fun x => { x with
    rxSeq := (x.rxSeq + 1) % 4096, consumed := x.consumed + 1, part := if last then [] else m,
    broken := x.broken && !last })
  if last && !x.broken then
    let msg : LinkMsg := ⟨c, byteAt m 0, byteAt m 1, (m.drop 4).take (beAt m 2 2)⟩
    { s with elnar := { s.elnar with received := s.elnar.received ++ [msg] } }
  else s

/-- Cells that came early are taken as their turn comes. -/
def drainEarly : Nat → Nat → State → State
  | 0, _, s => s
  | k + 1, c, s =>
    let x := s.cellClass c
    match takeFirst (fun (y : Cell × Nat) => decide (y.1.seq = x.rxSeq)) x.early with
    | none => s
    | some (y, rest) => drainEarly k c ((s.modClass c (fun x => { x with early := rest })).acceptCell c y.1.last y.1.data)

/-- A 16-bit count seen after `old`. -/
def countAfter (old v : Nat) : Nat := old + (v + 65536 - old % 65536) % 65536

/-- A credit cell: the partner's counts; posted writes that are credited are no longer outstanding. -/
def State.takeCredits (s : State) (d : Bytes) : State :=
  let s := [(1, 0), (2, 2), (3, 4), (4, 6)].foldl (fun s (x : Nat × Nat) =>
    s.modClass x.1 (fun c => { c with credited := countAfter c.credited (beAt d x.2 2) })) s
  let n := (s.cellClass 4).credited
  { s with elnar := { s.elnar with out := s.elnar.out.filter (fun o => !(decide (o.req.kind = 5) && decide (o.cells ≤ n))) } }

/-- A cell that a lane in use delivers. -/
def State.takeCell (s : State) (b : Bytes) : State :=
  let h := beAt b 0 2
  let c := h / 8192
  if c = 0 then s
  else if c = 6 then s.takeCredits (b.drop 2)
  else if c = 7 then s.count64 0x9100 8 1
  else
    let seq := h % 4096
    let last := bitOf h 12
    let x := s.cellClass c
    let ahead := (seq + 4096 - x.rxSeq) % 4096
    if ahead = 0 then drainEarly (x.early.length + 1) c (s.acceptCell c last (b.drop 2))
    else if ahead < 2048 then
      s.modClass c (fun x => { x with early := x.early ++ [(⟨c, last, seq, b.drop 2⟩, s.time.raw)] })
    else s

/-! ### A lane frame (R336 to R341) -/

/-- Justification by majority of three copies: nominal, with an error, when none agrees or the majority is reserved (R336). -/
def jcDecode (b : Nat) : Nat × Bool :=
  let x := b % 4
  let y := b / 4 % 4
  let z := b / 16 % 4
  let m := if x = y ∨ x = z then x else if y = z then y else 3
  if m = 3 then (0, false) else (m, true)

/-- The data bytes of a frame under a justification (Table 13.1). -/
def frameData (code : Nat) (f : Bytes) : Bytes :=
  (if code = 1 then slice f 12 1 else []) ++ (if code = 2 then [] else slice f 13 1) ++ slice f 15 241

/-- Whole cells of 32 bytes, and what is left. -/
def chunk32 : Nat → Bytes → List Bytes × Bytes
  | 0, d => ([], d)
  | k + 1, d => if d.length < 32 then ([], d) else
    let r := chunk32 k (d.drop 32)
    (d.take 32 :: r.1, r.2)

/-- A window's errors reach or leave a defect (R340): `w` frames; the lane's new counts. -/
def State.errorWindow (s : State) (r bit w frames errs : Nat) : State × Nat × Nat :=
  let s := if 10 ≤ errs then s.declareDefect r bit else s
  if w ≤ frames then
    let s := if bit = 3 then s.setStat (0x9110 + r) 7 errs else s
    (if errs ≤ 1 then s.clearDefect r bit else s, 0, 0)
  else (s, frames, errs)

/-- The parity of the frame before: errors are counted, and its cells are delivered or discarded (R338, R340). -/
def State.frameParity (s : State) (r errs : Nat) : State :=
  let x := s.rxLane r
  let s := s.count64 (0x9110 + r) 6 errs
  let use := s.laneInUse r && s.laneUsable r
  let s := s.modRx r (fun x => { x with held := [], spoiled := x.spoiled || (decide (errs ≠ 0) && decide (x.part ≠ [])) })
  let s := if errs ≠ 0 then s.count64 0x9100 8 x.held.length else if use then x.held.foldl State.takeCell s else s
  let sd := s.errorWindow r 3 ((10 ^ (s.reg 0x9100 2 + 1) + 2047) / 2048) (x.sdFrames + 1) (x.sdErrs + errs)
  let sf := sd.1.errorWindow r 4 5 (x.sfFrames + 1) (x.sfErrs + errs)
  sf.1.modRx r (fun x => { x with
    sdFrames := sd.2.1, sdErrs := sd.2.2, sfFrames := sf.2.1, sfErrs := sf.2.2,
    traceBad := x.traceBad || decide (errs ≠ 0) })

/-- A run towards declaring or clearing a defect at `n` in a row: the new run. -/
def State.runDefect (s : State) (r bit : Nat) (seen : Bool) (run : Nat) : State × Nat :=
  if seen = bitOf (s.stat (0x9110 + r) 3) bit then (s, 0)
  else if 2 ≤ run then (s.setDefect r bit seen, 0) else (s, run + 1)

/-- The trace character of a frame; a whole cycle without a parity error is accepted and compared (R340). -/
def State.traceFrame (s : State) (r trc mfc : Nat) : State :=
  let x := s.rxLane r
  let s := if mfc % 16 = 0 ∧ x.trace.length = 16 ∧ ¬ x.traceBad then
      let s := s.setStat 0x9120 (3 + r) (leNat x.trace)
      let y := s.runDefect r 2 (decide (leNat x.trace ≠ s.reg 0x9120 2)) x.timRun
      y.1.modRx r (fun x => { x with timRun := y.2 })
    else s
  s.modRx r (fun x =>
    let tr := if mfc % 16 = 0 then [] else x.trace
    { x with trace := if tr.length = mfc % 16 then tr ++ [BitVec.ofNat 8 trc] else tr,
             traceBad := if mfc % 16 = 0 then false else x.traceBad })

/-- The heartbeat of a usable lane (R320): heard when the counter is one above the lane's previous one with bit 7 clear. -/
def State.heartFrame (s : State) (r hb : Nat) : State :=
  let x := s.rxLane r
  let heard := decide (hb < 128) && decide (x.heart.map (fun h => (h + 1) % 128) = some hb)
  let s := s.modRx r (fun x => { x with heart := some (hb % 128), notices := if 128 ≤ hb then x.notices + 1 else 0 })
  if heard then { s with saddle := { s.saddle with heardElnar := some s.time.raw } } else s

/-- The status bytes of a frame: trace, AIS and RDI, lane number, heartbeat and multiframe stamp. -/
def State.frameStatus (s : State) (r : Nat) (f : Bytes) : State :=
  let mfc := byteAt f 7
  let st := byteAt f 11
  let s := s.traceFrame r (byteAt f 6) mfc
  let a := s.runDefect r 5 (bitOf st 6) (s.rxLane r).aisRun
  let d := a.1.runDefect r 6 (bitOf st 7) (s.rxLane r).rdiRun
  let s := d.1.modRx r (fun x => { x with
    aisRun := a.2, rdiRun := d.2, stamp := if mfc = 0 then s.time.raw else x.stamp })
  let s := s.setStat (0x9110 + r) 5 (st / 16 % 4)
  if s.laneUsable r then s.heartFrame r (byteAt f 10) else s

/-- Cell boundaries of a frame (R337): the data bytes before the first boundary, none when there is none yet, and whether two
frames in a row differed. -/
def boundary (x : RxLane) (cp : Nat) : Option Nat × Bool × Bool :=
  match x.edge with
  | none => (if cp < 32 then some cp else none, decide (32 ≤ cp), false)
  | some e =>
    if e = cp then (some e, false, false)
    else if x.differs ∧ cp < 32 then (some cp, true, true) else (some e, true, false)

/-- The cells that end in a frame (R337). -/
def State.frameCells (s : State) (r cp : Nat) (d : Bytes) : State :=
  let x := s.rxLane r
  let b := boundary x cp
  let s := if b.2.1 then s.count64 (0x9110 + r) 0x0C 1 else s
  let drop := if b.2.2 then x.held.length + natOfBool (decide (x.part ≠ [])) else 0
  let s := s.count64 0x9100 8 drop
  let x := if b.2.2 then { x with part := [], spoiled := false, held := [] } else x
  match b.1 with
  | none => s.modRx r (fun _ => { x with differs := b.2.1 })
  | some e =>
    let first := x.part ++ d.take e
    let whole := decide (first.length = 32)
    let s := if whole && x.spoiled then s.count64 0x9100 8 1 else s
    let ch := chunk32 8 (d.drop e)
    let held := (if whole && !x.spoiled then [first] else []) ++ ch.1
    s.modRx r (fun _ => { x with
      differs := b.2.1 && !b.2.2, edge := some ((32 - ch.2.length) % 32), part := ch.2, spoiled := false, held := held })

/-- A frame of an aligned lane, as on the line. -/
def State.alignedFrame (s : State) (r : Nat) (line : Bytes) : State :=
  let f := lineFrame line
  let x := s.rxLane r
  let s := match x.parity with
    | some p => s.frameParity r (popCount (p ^^^ byteAt f 8) 8)
    | none => s
  let s := s.frameStatus r f
  let code := x.jc
  let s := if code = 1 then s.count64 (0x9110 + r) 8 1 else if code = 2 then s.count64 (0x9110 + r) 9 1 else s
  let nx := jcDecode (byteAt f 9)
  let s := if nx.2 then s else s.count64 (0x9110 + r) 0x0A 1
  let s := s.frameCells r (byteAt f 14) (frameData code f)
  let s := s.modRx r (fun x => { x with jc := nx.1, parity := some (bip8 line) })
  if s.useConditions r then s.modRx r (fun x => { x with good := min (x.good + 1) 128 }) else s.laneOut r

end Sys2Proof.Machine
end

