-- ==== Sys2Proof/Machine/Gates.lean ====
section
/-! DEFINITION. Gate lists: the entry in force, the list that is loaded and its X, open times and hold (R232 to R241). -/

namespace Sys2Proof.Machine

open Sys2Proof

/-! ### Lists -/

/-- Phase of a time in a list's cycle, the modulo floored (R233). -/
def GateList.phase (l : GateList) (t : Nat) : Nat :=
  if l.cycle = 0 then 0 else (((t : Int) - (l.base : Int)) % (l.cycle : Int)).toNat

/-- Number of the cycle that holds a time. -/
def GateList.cycleNo (l : GateList) (t : Nat) : Int :=
  if l.cycle = 0 then 0 else ((t : Int) - (l.base : Int)) / (l.cycle : Int)

/-- The entries with their start and end within the cycle: entries that start at or after its end are not used, the last
one used lasts to the end (R232). -/
def spansFrom (cycle : Nat) : Nat → Nat → List GateEntry → List (Nat × Nat × Nat × GateEntry)
  | _, _, [] => []
  | i, at_, e :: es =>
    if cycle ≤ at_ then []
    else
      let stop := at_ + e.ns
      if es.isEmpty ∨ cycle ≤ stop then [(i, at_, cycle, e)]
      else (i, at_, stop, e) :: spansFrom cycle (i + 1) stop es

/-- The used entries of a list. -/
def GateList.spans (l : GateList) : List (Nat × Nat × Nat × GateEntry) := spansFrom l.cycle 0 0 l.entries

/-- The entry in force at a phase. -/
def GateList.entryAt (l : GateList) (phase : Nat) : Option (Nat × Nat × Nat × GateEntry) :=
  l.spans.find? (fun x => decide (x.2.1 ≤ phase) && decide (phase < x.2.2.1))

/-- Time from phase `phase` until an entry that satisfies `p` begins; 0 when it is in force, none when there is none in
the cycle. -/
def GateList.until (l : GateList) (p : Nat → GateEntry → Bool) (phase : Nat) : Option Nat :=
  match l.entryAt phase with
  | none => none
  | some x =>
    if p x.1 x.2.2.2 then some 0
    else match l.spans.find? (fun y => decide (phase < y.2.1) && p y.1 y.2.2.2) with
      | some y => some (y.2.1 - phase)
      | none => match l.spans.find? (fun y => p y.1 y.2.2.2) with
        | some y => some (l.cycle - phase + y.2.1)
        | none => none

/-- Whether hold is in force during entry `i` (R237): the latest operation 1 or 2 at or before it, cyclically, is 1. -/
def GateList.holdAt (l : GateList) (i : Nat) : Bool :=
  let ops := l.spans.map (fun x => x.2.2.2.op)
  let before := (ops.take (i + 1)).reverse ++ (ops.drop (i + 1)).reverse
  match before.find? (fun o => decide (o = 1 ∨ o = 2)) with
  | some o => decide (o = 1)
  | none => false

/-- The first cycle start after `t` (R234). -/
def GateList.firstAfter (l : GateList) (t : Nat) : Nat :=
  if t < l.base then l.base else l.base + ((t - l.base) / l.cycle + 1) * l.cycle

/-! ### Engines -/

/-- The list in force at a time: a pending one from its X on. -/
def GateEngine.listAt (g : GateEngine) (t : Nat) : Option GateList :=
  match g.pending with
  | some (l, x) => if x ≤ t then some l else g.oper
  | none => g.oper

/-- The entry in force, as its number and content. -/
def GateEngine.entry (g : GateEngine) (t : Nat) : Option (Nat × GateEntry) :=
  match g.listAt t with
  | none => none
  | some l => (l.entryAt (l.phase t)).map (fun x => (x.1, x.2.2.2))

/-- States of the entry before entry `i` of a list, cyclically. -/
def GateList.before (l : GateList) (i : Nat) : Nat :=
  (nth l.entries ((i + l.entries.length - 1) % l.entries.length) ⟨0, 0xFF, 0, 0⟩).states

/-- The gate states at a time (R233 to R235); while an entry's parity fails, those of the last good entry (R238). -/
def GateEngine.states (g : GateEngine) (t : Nat) : Nat :=
  if !g.enabled then 0xFF
  else match g.entry t with
    | none => g.initial
    | some (i, e) => if g.bad = some i then (match g.listAt t with | some l => l.before i | none => g.initial)
      else e.states

/-- Time from `t` until a list's entry satisfies `p`. -/
def listUntil (l : Option GateList) (p : GateList → Nat → GateEntry → Bool) (t : Nat) : Option Nat :=
  match l with
  | none => none
  | some x => x.until (p x) (x.phase t)

/-- Time until an entry satisfies `p`, the pending switch included. -/
def GateEngine.until (g : GateEngine) (p : GateList → Nat → GateEntry → Bool) (t : Nat) : Option Nat :=
  match g.pending with
  | none => listUntil g.oper p t
  | some (l, x) =>
    if x ≤ t then listUntil (some l) p t
    else
      let later := (listUntil (some l) p x).map (fun d => x - t + d)
      match listUntil g.oper p t with
      | some d => if t + d < x then some d else later
      | none => later

/-- Open time W of queue `q` at `t`, none when unbounded (R239). -/
def GateEngine.openTime (g : GateEngine) (q t : Nat) : Option Nat :=
  if !g.enabled then none
  else
    let w := g.until (fun _ _ e => !bitOf e.states q) t
    match g.listAt t with
    | some _ => w
    | none => if bitOf g.initial q then w else some 0

/-- Hold in force by phase (R237). -/
def GateEngine.holdIn (g : GateEngine) (t : Nat) : Bool :=
  g.enabled && match g.listAt t with
    | none => false
    | some l => match l.entryAt (l.phase t) with
      | some x => l.holdAt x.1
      | none => false

/-- Time until the next held stretch begins. -/
def GateEngine.untilHold (g : GateEngine) (t : Nat) : Option Nat :=
  if !g.enabled then none else g.until (fun l i _ => l.holdAt i) t

/-- The longest stretch during which queue `q` stays open, joined across the cycle boundary; none when unbounded (R241). -/
def GateEngine.wmax (g : GateEngine) (q : Nat) : Option Nat :=
  match g.oper with
  | none => none
  | some l =>
    if !g.enabled then none
    else
      let sp := l.spans
      if sp.all (fun x => bitOf x.2.2.2.states q) then none
      else
        let run := (sp ++ sp).foldl (fun (acc : Nat × Nat) x =>
          if bitOf x.2.2.2.states q then
            let n := acc.1 + (x.2.2.1 - x.2.1)
            (n, max acc.2 n)
          else (0, acc.2)) (0, 0)
        some run.2

/-- Load a list at tL: it becomes oper at its first cycle start after tL (R234). -/
def GateEngine.load (g : GateEngine) (l : GateList) (tl : Nat) : GateEngine :=
  { g with enabled := true, pending := some (l, l.firstAfter tl) }

/-- The pending list becomes oper (R234, R236). -/
def GateEngine.switch (g : GateEngine) (t : Nat) : GateEngine :=
  match g.pending with
  | some (l, x) =>
    if x ≤ t then { g with oper := some l, pending := none, bad := none, switches := (g.switches + 1) % 2 ^ 32 } else g
  | none => g

/-- Disabling opens every gate and discards a pending list (R235). -/
def GateEngine.disable (g : GateEngine) : GateEngine := { g with enabled := false, oper := none, pending := none, bad := none }

/-! ### The port gates -/

/-- Gate engine of a port. -/
def State.gate (s : State) (p : Nat) : GateEngine := nth s.basin.gates p GateEngine.reset

/-- Change the gate engine of a port. -/
def State.modGate (s : State) (p : Nat) (f : GateEngine → GateEngine) : State :=
  { s with basin := { s.basin with gates := modNth s.basin.gates p f } }

/-- The admin list of a port in force for key epoch `e` (R232). -/
def State.adminList (s : State) (e p : Nat) : GateList :=
  let tbl := 0x3500 + p
  ⟨time80Ns (s.regAt e (dkey tbl 0x12)), s.regAt e (dkey tbl 0x13),
    (List.range (s.regAt e (dkey tbl 0x14))).map (fun i => match s.rowAt e tbl i with
      | some v => ⟨rowSub v 7, rowSub v 8, rowSub v 9, 0⟩
      | none => ⟨0, 0xFF, 0, 0⟩)⟩

/-- Hold in force on a port (R237): preemption active, and the entry or the requested hold calls for it. -/
def State.portHold (s : State) (p : Nat) : Bool :=
  decide (s.stat (0x3580 + p) 7 = 1) && ((s.gate p).holdIn s.workingNs || (nth s.basin.tx p ⟨none, none, false, none⟩).hold)

end Sys2Proof.Machine
end

