-- ==== Sys2Proof/Machine/Narrows.lean ====
section
/-! DEFINITION. The Narrows firewall: zones, rules, sessions, buckets and logging (R160 to R182, R473). -/

namespace Sys2Proof.Machine

open Sys2Proof

/-! ### Buckets (R176) -/

/-- A bucket that is full. -/
def fullBucket (burst : Nat) : Bucket := ⟨burst * 2 ^ 32, 0⟩

/-- A bucket refilled for key epoch `e`; an earlier epoch adds nothing. -/
def Bucket.refill (b : Bucket) (rate burst e : Nat) : Bucket :=
  ⟨min (burst * 2 ^ 32) (b.tokens + (e - b.last) * rate * 2 ^ 37 / 1000000000), max b.last e⟩

/-- Evaluate a bucket and take a token (R176); rate 0 is no limit. -/
def State.takeToken (s : State) (n rate burst e : Nat) : State × Bool :=
  if rate = 0 then (s, true)
  else
    let b := ((kfind s.narrows.buckets n).getD (fullBucket burst)).refill rate burst e
    let ok := decide (2 ^ 32 ≤ b.tokens)
    let b := if ok then { b with tokens := b.tokens - 2 ^ 32 } else b
    ({ s with narrows := { s.narrows with buckets := kins s.narrows.buckets n b } }, ok)

/-- A bucket refills to full (R176). -/
def State.refillBucket (s : State) (n : Nat) : State :=
  { s with narrows := { s.narrows with buckets := kdel s.narrows.buckets n } }

/-- Number of the logging bucket; buckets 0 to 63 are the zones' creation buckets. -/
def logBucket : Nat := 64

/-- Number of the bucket of entry `i` of CNb's filter set. -/
def canBucket (b i : Nat) : Nat := 1000 + b * 2048 + i

/-! ### Logging (R182) -/

/-- Raise a deny-and-log event under the frame's key, through the global bucket. -/
def State.logDeny (s : State) (key : OKey) (args : Nat) : State :=
  let e := key.epoch
  let r := s.takeToken logBucket (s.regAt e (dkey 0x6000 0x10)) (s.regAt e (dkey 0x6000 0x11)) e
  if r.2 then r.1.raiseKeyed key 0x0501 args else r.1.count64 0x6400 0x0F 1

/-- Argument bytes of a frame's log event. -/
def denyArgs (zone dzone reason : Nat) (p : Parsed) : Nat :=
  leNat (toLE 1 zone ++ toLE 1 dzone ++ toLE 1 p.proto ++ toLE 1 reason ++ toLE 2 p.sport ++ toLE 2 p.dport
    ++ toBE 4 (p.sip % 2 ^ 32) ++ toBE 4 (p.dip % 2 ^ 32))

/-! ### Matrix and rules (R163 to R165) -/

/-- Verdict of a word. -/
def wordVerdict (w : Nat) : Nat := w % 8
/-- Create bit. -/
def wordCreate (w : Nat) : Bool := bitOf w 3
/-- Whether a verdict lets a session open. -/
def permitClass (w : Nat) : Bool := decide (wordVerdict w ∈ [0, 3, 4])

/-- Row position of a cell, and of a rule. -/
def cellPos (z d : Nat) : Nat := z * 64 + d
/-- Row position of rule `i` of a list. -/
def rulePos (list i : Nat) : Nat := 4096 + list * 64 + i

/-- The cell's list and default word; a cell without a row has no list, and permits within a zone (R163). -/
def State.cell (s : State) (e z d : Nat) : Nat × Nat :=
  match (if s.rowBad 0x6100 (cellPos z d) then none else s.rowAt e 0x6100 (cellPos z d)) with
  | some v => (rowSub v 0x0B, rowSub v 0x0A)
  | none => (0xFFFF, if z = d then 0 else 1)

/-- Whether a rule's match holds (R164, Table 7.1). -/
def ruleMatches (m : Nat) (p : Parsed) : Bool :=
  let f := subBytes m 0 1
  (!bitOf f 2 || bitOf p.bitmap 9) &&
  (if bitOf f 1 then decide (p.etype = subBytes m 2 2)
   else p.isIp && (bitOf f 0 || decide (p.proto = subBytes m 1 1))
    && decide (subBytes m 4 2 ≤ p.dport) && decide (p.dport ≤ subBytes m 6 2)
    && decide (subBytes m 8 2 ≤ p.sport) && decide (p.sport ≤ subBytes m 10 2))

/-- What decides a frame: a row and its word, or a row whose parity fails (R183). -/
structure Decision where
  pos   : Nat
  word  : Nat
  cell  : Bool
  error : Bool
  deriving DecidableEq, Repr

/-- The first matching rule of the cell's list, else the cell's default. -/
def State.matrixDecision (s : State) (e z d : Nat) (p : Parsed) : Decision :=
  let c := s.cell e z d
  let dflt : Decision := ⟨cellPos z d, c.2, true, s.rowBad 0x6100 (cellPos z d)⟩
  if c.1 = 0xFFFF then dflt
  else match (List.range 64).findSome? (fun i =>
    if s.rowBad 0x6100 (rulePos c.1 i) then some { dflt with error := true }
    else match s.rowAt e 0x6100 (rulePos c.1 i) with
      | some v => if ruleMatches (rowSub v 9) p then some ⟨rulePos c.1 i, rowSub v 0x0A, false, false⟩ else none
      | none => none) with
    | some x => x
    | none => dflt

/-! ### Sessions (R169 to R178) -/

/-- Units of 2^15 epochs of a key epoch, as 32 bits. -/
def sessionUnits (e : Nat) : Nat := (e / 32768) % 2 ^ 32

/-- Age of a session in units. -/
def NSession.age (x : NSession) (e : Nat) : Nat := (sessionUnits e + 2 ^ 32 - x.last) % 2 ^ 32

/-- Sub-index of a state's timeout in `6000h` (Table 7.5). -/
def timeoutSub (st : Nat) : Nat :=
  if st ≤ 6 then 3 + st else if st ≤ 10 then 2 + st else if st = 11 then 0x0C else st + 1

/-- Timeout of a state in units (R173). -/
def State.sessionTimeout (s : State) (e st : Nat) : Nat :=
  (s.regAt e (dkey 0x6000 (timeoutSub st)) * 1000000000 + 1048575) / 2 ^ 20

/-- Whether a session is expired for an input of key epoch `e` (R173). -/
def State.sessionExpired (s : State) (e : Nat) (x : NSession) : Bool := decide (s.sessionTimeout e x.state < x.age e)

/-- The sessions that are present for key epoch `e`. -/
def State.liveSessions (s : State) (e : Nat) : List (Nat × NSession) :=
  s.narrows.sessions.filter (fun x => !s.sessionExpired e x.2 && !(match x.2.gone with | some g => decide (g ≤ e) | none => false))

/-- The tuple of a frame: addresses in the upper bits, ports as R169 and R170 take them. -/
structure Flow where
  v6    : Bool
  proto : Nat
  src   : Nat
  dst   : Nat
  sport : Nat
  dport : Nat
  deriving DecidableEq, Repr

/-- Whether the frame is an ICMP or ICMPv6 frame. -/
def Parsed.isIcmpProto (p : Parsed) : Bool := decide (p.proto = if p.v6 then 58 else 1)

/-- Type of an ICMP frame. -/
def Parsed.icmpType (p : Parsed) : Nat := p.sport / 256

/-- An echo request. -/
def Parsed.echoRequest (p : Parsed) : Bool := bitOf p.bitmap 7 && decide (p.icmpType = if p.v6 then 128 else 8)

/-- An echo reply. -/
def Parsed.echoReply (p : Parsed) : Bool := bitOf p.bitmap 7 && decide (p.icmpType = if p.v6 then 129 else 0)

/-- The flow of a frame. -/
def Parsed.flow (p : Parsed) : Flow :=
  let up := fun (a : Nat) => if p.v6 then a else a * 2 ^ 96
  let ports := decide (p.proto = 6) || decide (p.proto = 17)
  let echo := p.isIcmpProto
  ⟨p.v6, p.proto, up p.sip, up p.dip, if ports then p.sport else if echo then p.dport else 0,
    if ports then p.dport else if echo then p.dport else 0⟩

/-- Whether a session holds the flow as its initiator sends it. -/
def NSession.forward (x : NSession) (f : Flow) (z d : Nat) : Bool :=
  decide (x.v6 = f.v6) && decide (x.proto = f.proto) && decide (x.initIp = f.src) && decide (x.initPort = f.sport)
    && decide (x.respIp = f.dst) && decide (x.respPort = f.dport) && decide (x.initZone = z) && decide (x.respZone = d)

/-- Whether a session holds the flow as its responder sends it. -/
def NSession.backward (x : NSession) (f : Flow) (z d : Nat) : Bool :=
  x.forward ⟨f.v6, f.proto, f.dst, f.src, f.dport, f.sport⟩ d z

/-- The session of a frame, by slot (R169). -/
def State.findSession (s : State) (e z d : Nat) (p : Parsed) : Option (Nat × NSession) :=
  if p.isIcmpProto ∧ ¬ p.echoRequest ∧ ¬ p.echoReply then none
  else (s.liveSessions e).find? (fun x => x.2.forward p.flow z d || x.2.backward p.flow z d)

/-- The CRC-32 over the two sides of a flow (R169). -/
def flowHash (f : Flow) : Nat :=
  let a := f.src * 65536 + f.sport
  let b := f.dst * 65536 + f.dport
  let l := min a b
  let h := max a b
  crc32 (toBE 1 f.proto ++ toBE 16 (l / 65536) ++ toBE 16 (h / 65536) ++ toBE 2 (l % 65536) ++ toBE 2 (h % 65536))

/-- The bucket of a flow (R169). -/
def flowBucket (f : Flow) : Nat := flowHash f % 16384

/-- TCP flags. -/
def Parsed.fin (p : Parsed) : Bool := bitOf p.tcpFlags 0
/-- SYN. -/
def Parsed.syn (p : Parsed) : Bool := bitOf p.tcpFlags 1
/-- RST. -/
def Parsed.rst (p : Parsed) : Bool := bitOf p.tcpFlags 2
/-- ACK. -/
def Parsed.ack (p : Parsed) : Bool := bitOf p.tcpFlags 4

/-- The state after a frame that the present state accepts, or none for a state violation (R171, Table 7.5). -/
def sessionNext (st : Nat) (init : Bool) (p : Parsed) (x : NSession) : Option Nat :=
  if 1 ≤ st ∧ st ≤ 5 ∧ p.rst then some 6
  else if st = 1 then
    (if init ∧ p.syn ∧ ¬ p.ack then some 1 else if ¬ init ∧ p.syn ∧ p.ack then some 2 else none)
  else if st = 2 then
    (if p.syn ∧ (init ∨ p.ack) then some 2 else if init ∧ p.ack ∧ ¬ p.syn then some 3 else none)
  else if st = 3 then (if p.syn then none else some (if p.fin then 4 else 3))
  else if st = 4 then
    (if p.syn then none else some (if p.fin ∧ ((init ∧ x.respFin) ∨ (¬ init ∧ x.initFin)) then 5 else 4))
  else if st = 5 then (if p.syn then none else some 5)
  else if st = 8 then some (if init then 8 else 9)
  else if st = 9 then some 9
  else if st = 10 then (if init ∧ p.echoRequest then some 10 else if ¬ init ∧ p.echoReply then some 11 else none)
  else if st = 11 then (if (init ∧ p.echoRequest) ∨ (¬ init ∧ p.echoReply) then some 11 else none)
  else if st = 12 then some (if init then 12 else 13)
  else if st = 13 then some 13
  else none

/-- Window check (R175): the session with updated ends, or none on failure. -/
def windowCheck (init : Bool) (p : Parsed) (x : NSession) : Option NSession :=
  let first := !init && !x.respSeen
  let xend := if first then (p.tcpSeq + p.segLen) % 2 ^ 32 else if init then x.initEnd else x.respEnd
  let yend := if init then x.respEnd else x.initEnd
  let ywin := if init then x.respWin else x.initWin
  let yseen := if init then x.respSeen else true
  let ahead := sgnOf 32 ((p.tcpSeq + p.segLen + 2 ^ 32 - xend) % 2 ^ 32)
  let wy : Int := ((ywin * 16384 : Nat) : Int)
  if yseen ∧ (wy < ahead ∨ ahead < -wy) then none
  else if p.ack ∧ 0 < sgnOf 32 ((p.tcpAck + 2 ^ 32 - yend) % 2 ^ 32) then none
  else
    let e := if 0 < ahead then (p.tcpSeq + p.segLen) % 2 ^ 32 else xend
    if init then some { x with initEnd := e, initWin := max x.initWin p.tcpWin }
    else some { x with respEnd := e, respWin := max x.respWin p.tcpWin }

/-- A frame accepted by its session (R171). -/
def NSession.accept (x : NSession) (e st : Nat) (init : Bool) (p : Parsed) : NSession :=
  { x with
    state := st, last := sessionUnits e, frames := min 0xFFFFFFFF (x.frames + 1),
    initFin := x.initFin || (init && p.isTcp && p.fin && decide (3 ≤ x.state)),
    respFin := x.respFin || (!init && p.isTcp && p.fin && decide (3 ≤ x.state)),
    respSeen := x.respSeen || !init }

/-- Put a session in a slot. -/
def State.setSession (s : State) (slot : Nat) (x : NSession) : State :=
  { s with narrows := { s.narrows with sessions := kins s.narrows.sessions slot x } }

/-- Free a slot. -/
def State.dropSession (s : State) (slot : Nat) : State :=
  { s with narrows := { s.narrows with sessions := kdel s.narrows.sessions slot } }

/-- Whether a creating frame (R170). -/
def createsSession (p : Parsed) : Bool :=
  if p.proto = 6 then p.isTcp && p.syn && !p.ack
  else if p.proto = 17 then true
  else if p.isIcmpProto then p.echoRequest
  else true

/-- The slot that occupies `slot` for key epoch `e`, if any: an IPv6 session covers its pair. -/
def State.occupant (s : State) (e slot : Nat) : Option (Nat × NSession) :=
  (s.liveSessions e).find? (fun x => decide (x.1 = slot) || (x.2.v6 && decide (x.1 + 1 = slot)))

/-- The lowest free place of a bucket: a slot, or an aligned pair for IPv6. -/
def State.freePlace (s : State) (e b : Nat) (v6 : Bool) : Option Nat :=
  let used := (s.liveSessions e).foldl (fun a x => a + (if x.2.v6 then 2 else 1)) 0
  if s.stat 0x4000 0x12 ≤ used then none
  else if v6 then ((List.range 4).map (fun k => 8 * b + 2 * k)).find? (fun k =>
    (s.occupant e k).isNone && (s.occupant e (k + 1)).isNone)
  else ((List.range 8).map (fun k => 8 * b + k)).find? (fun k => (s.occupant e k).isNone)

/-- Age of a place that would be evicted: its newest occupant's age, or none where nothing stands. -/
def State.placeAge (s : State) (e k : Nat) (v6 : Bool) : Option Nat :=
  match s.occupant e k, (if v6 then s.occupant e (k + 1) else none) with
  | some a, some b => some (min (a.2.age e) (b.2.age e))
  | some a, none => some (a.2.age e)
  | none, some b => some (b.2.age e)
  | none, none => none

/-- The place whose occupants are oldest, lowest on a tie (R177). -/
def State.oldestPlace (s : State) (e b : Nat) (v6 : Bool) : Option Nat :=
  let places := if v6 then (List.range 4).map (fun k => 8 * b + 2 * k) else (List.range 8).map (fun k => 8 * b + k)
  (places.foldl (fun (best : Option (Nat × Nat)) k => match s.placeAge e k v6, best with
    | none, _ => best
    | some a, none => some (k, a)
    | some a, some x => if x.2 < a then some (k, a) else best) none).map Prod.fst

/-- Remove whatever holds a slot, counting live occupants as evicted. -/
def State.clearSlot (s : State) (e slot : Nat) : State :=
  let s := match s.occupant e slot with
    | some x => (s.dropSession x.1).count64 0x6400 8 1
    | none => s
  { s with narrows := { s.narrows with
      sessions := s.narrows.sessions.filter (fun x => !(decide (x.1 = slot) || (x.2.v6 && decide (x.1 + 1 = slot)))) } }

/-- The session that a creating frame opens. -/
def newSession (e z d : Nat) (p : Parsed) (dec : Decision) : NSession :=
  let f := p.flow
  let st := if p.proto = 6 then (if p.syn ∧ ¬ p.ack then 1 else 3) else if p.proto = 17 then 8
    else if p.isIcmpProto then 10 else 12
  ⟨f.v6, f.proto, f.src, f.dst, f.sport, f.dport, z, d, st, sessionUnits e, dec.cell,
    (if dec.cell then dec.pos else dec.pos - 4096), decide (st = 1) && bitOf dec.word 4, false, false, false,
    (p.tcpSeq + p.segLen) % 2 ^ 32, 0, p.tcpWin, 0, 1, e, none⟩

/-- Create a session (R176, R177): the reason of a failure, 0 on success. -/
def State.tryCreate (s : State) (e z d : Nat) (p : Parsed) (dec : Decision) : State × Nat :=
  let b := flowBucket p.flow
  let v6 := p.v6
  let free := s.freePlace e b v6
  if free.isNone ∧ s.regAt e (dkey 0x6000 2) = 0 then (s, 6)
  else
    let lim := s.regAt e (dkey 0x6010 (0x40 + z))
    let r := s.takeToken z (lim % 2 ^ 20) (lim / 2 ^ 20) e
    if !r.2 then (r.1, 5)
    else match (match free with | some k => some k | none => r.1.oldestPlace e b v6) with
      | none => (r.1, 6)
      | some k =>
        let s := r.1.clearSlot e k
        let s := if v6 then s.clearSlot e (k + 1) else s
        ((s.setSession k (newSession e z d p dec)).count64 0x6400 7 1, 0)

/-! ### Judging (R162, R166 to R168, R473) -/

/-- A judgement of one destination zone: the word that acts, the deny reason, the row that counts, a detected error. -/
structure Judged where
  word   : Nat
  reason : Nat
  pos    : Nat
  error  : Bool
  deriving DecidableEq, Repr

/-- A deny with a log (R182). -/
def denyLog (reason pos : Nat) : Judged := ⟨2, reason, pos, false⟩

/-- The judgement by the matrix, with creation (R168). -/
def State.judgeNew (s : State) (e z d : Nat) (tr : Bool) (p : Parsed) : State × Judged :=
  let dec := s.matrixDecision e z d p
  let w := dec.word
  let plain : Judged := ⟨w, if wordVerdict w = 2 then (if dec.cell then 2 else 1) else 0, dec.pos, dec.error⟩
  if dec.error then (s, { plain with reason := if wordVerdict w = 2 then 2 else 0 })
  else if tr ∧ permitClass w ∧ wordCreate w ∧ createsSession p then
    let r := s.tryCreate e z d p dec
    if r.2 = 0 then (r.1, plain) else (r.1, denyLog r.2 dec.pos)
  else if tr ∧ p.isTcp ∧ ¬ (p.syn ∧ ¬ p.ack) ∧ wordCreate w then
    if s.regAt e (dkey 0x6000 3) = 1 then
      let r := s.tryCreate e z d p dec
      if r.2 = 0 then (r.1, plain) else (r.1, denyLog r.2 dec.pos)
    else (s, denyLog 8 dec.pos)
  else (s, plain)

/-- Row position of a session's reference (R178). -/
def NSession.refPos (x : NSession) : Nat := if x.refCell then x.ref else 4096 + x.ref

/-- The word of the row a session refers to, if the row still supports it. -/
def State.refWord (s : State) (e : Nat) (x : NSession) : Option Nat :=
  let w := if x.refCell then some (s.cell e (x.ref / 64) (x.ref % 64)).2
    else (s.rowAt e 0x6100 x.refPos).map (fun v => rowSub v 0x0A)
  match w with
  | some w => if permitClass w ∧ wordCreate w then some w else none
  | none => none

/-- The judgement for one destination zone (R168). -/
def State.judge (s : State) (e z d : Nat) (tr : Bool) (p : Parsed) : State × Judged :=
  match (if tr then s.findSession e z d p else none) with
  | none => s.judgeNew e z d tr p
  | some (slot, x) =>
    if (0x6200, slot) ∈ s.basin.badSlots then
      (s, ⟨(s.cell e z d).2, if wordVerdict (s.cell e z d).2 = 2 then 2 else 0, cellPos z d, true⟩)
    else match s.refWord e x with
    | none => (s.dropSession slot).judgeNew e z d tr p
    | some w =>
      let init := x.forward p.flow z d
      if p.isTcp ∧ init ∧ p.syn ∧ ¬ p.ack ∧ ¬ p.rst ∧ (x.state = 5 ∨ x.state = 6) then (s.dropSession slot).judgeNew e z d tr p
      else match sessionNext x.state init p x with
        | none => (s, denyLog 3 x.refPos)
        | some st =>
          match (if x.window ∧ p.isTcp then windowCheck init p x else some x) with
          | none => (s, denyLog 4 x.refPos)
          | some y => (s.setSession slot (y.accept e st init p), ⟨w, 0, x.refPos, false⟩)

/-- Counter of a reason in `6400h` (R182). -/
def reasonSub (r : Nat) : Nat :=
  if r = 3 then 0x0B else if r = 4 then 0x0C else if r = 5 then 9 else if r = 6 then 0x0A else if r = 8 then 0x0D else 0

/-- Count a judgement and log a deny-and-log (R166, R167, R182, R473). -/
def State.countJudged (s : State) (key : OKey) (shared : Bool) (z d : Nat) (p : Parsed) (j : Judged) : State :=
  let v := wordVerdict j.word
  let s := s.bumpRow 0x6100 j.pos 0x0C
  let s := if j.error then s.count64 0x6400 0x0E 1 else s
  let s := s.count64 0x6400 (if v = 3 then (if shared then 1 else 0x13) else v + 1) 1
  let s := if reasonSub j.reason ≠ 0 then s.count64 0x6400 (reasonSub j.reason) 1 else s
  if v = 2 then s.logDeny key (denyArgs z d j.reason p) else s

/-- The result for a frame: destination groups with their words, and the CP queue of a hand-to-cluster verdict. -/
structure Narrowed where
  groups  : List (Nat × Nat)
  cpQueue : Option Nat
  verdict : Nat
  judged  : Bool
  deriving DecidableEq, Repr

/-- Zone of a destination port. -/
def State.portZone (s : State) (e p : Nat) : Nat := s.regAt e (dkey 0x6010 (1 + p)) % 64

/-- Judge every distinct destination zone of a frame (R162). -/
def State.narrowsStage (s : State) (key : OKey) (shared : Bool) (z : Nat) (track : Bool) (p : Parsed) (dest : Nat) :
    State × Narrowed :=
  let e := key.epoch
  if s.regAt e (dkey 0x6000 1) = 0 then (s, ⟨[(dest, 0)], none, 0, false⟩)
  else
    let ports := bitsSet dest 32
    let single := decide (ports.length = 1) && !p.group
    let tr := track && single && p.isIp
    let zones := distinct (ports.map (fun q => s.portZone e q))
    zones.foldl (fun (acc : State × Narrowed) d =>
      let mask := maskOfPorts (ports.filter (fun q => decide (s.portZone e q = d)))
      let r := acc.1.judge e z d tr p
      let s' := r.1.countJudged key shared z d p r.2
      let v := wordVerdict r.2.word
      let n := acc.2
      (s', if v = 1 ∨ v = 2 then { n with verdict := if n.groups.isEmpty then v else n.verdict }
        else if v = 5 then { n with cpQueue := some (n.cpQueue.getD (fieldOf r.2.word 14 12)), verdict := v }
        else { n with groups := n.groups ++ [(mask, r.2.word)], verdict := v }))
      (s, ⟨[], none, 0, true⟩)

end Sys2Proof.Machine
end

