-- ==== Sys2Proof/Machine/Streams.lean ====
section
/-! DEFINITION. Stream filters, stream gates, meters and FRER (R217 to R228). -/

namespace Sys2Proof.Machine

open Sys2Proof

/-! ### Metering length (R218) -/

/-- The metering length of a frame: its length when known, else from its innermost IP header, else the port's maximum. -/
def meterLength (known : Bool) (length maxLen : Nat) (p : Parsed) : Nat :=
  if known then length
  else match p.ipOff with
    | some h => if p.exc = 0 then max 64 (h + p.ipLen + 4) else maxLen
    | none => maxLen

/-! ### Stream gates (R220, R221) -/

/-- List of a stream gate's row: entries of 8 bytes (Table 9.2). -/
def streamList (v : List Nat) : GateList :=
  ⟨time80Ns (rowSub v 9), rowSub v 0x0A, (List.range (rowSub v 0x0B)).map (fun i =>
    let e := subBytes (rowSub v 0x0C) (8 * i) 8
    ⟨0, subBytes e 4 1, subBytes e 0 4, subBytes e 5 2⟩)⟩

/-- A stream gate that no commit has loaded: its row's enable and initial state. -/
def StreamGate.fresh (v : List Nat) : StreamGate :=
  ⟨⟨decide (rowSub v 7 = 1), none, none, rowSub v 8, none, 0⟩, false, false, 0, none⟩

/-- Stream gate `g` for key epoch `e`. -/
def State.streamGate (s : State) (e g : Nat) : StreamGate :=
  match kfind s.basin.streamGates g with
  | some x => x
  | none => StreamGate.fresh ((s.rowAt e 0x5A00 g).getD [])

/-- Put a stream gate. -/
def State.setStreamGate (s : State) (g : Nat) (x : StreamGate) : State :=
  { s with basin := { s.basin with streamGates := kins s.basin.streamGates g x } }

/-- State byte, octet maximum and entry instance of a stream gate at t_e = e × 32 ns. -/
def StreamGate.at_ (x : StreamGate) (e : Nat) : Nat × Nat × Option (Nat × Nat) :=
  let t := e * 32
  if !x.engine.enabled then (1, 0, none)
  else match x.engine.listAt t with
    | none => (x.engine.initial, 0, none)
    | some l => match l.entryAt (l.phase t) with
      | none => (x.engine.initial, 0, none)
      | some y => (y.2.2.2.states, y.2.2.2.octets, some (encSgn 64 (l.cycleNo t), y.1))

/-- A gate's decision for a frame of metering length `m`: passed, and the internal priority value (R221). -/
def State.gateDecision (s : State) (e g m port : Nat) : State × Bool × Option Nat :=
  let v := (s.rowAt e 0x5A00 g).getD []
  let src := rowSub v 0x0E
  let s := if src ≠ 0xFF ∧ src ≠ port then s.bumpRow 0x5A00 g 0x12 else s
  let x := s.streamGate e g
  let y := x.at_ e
  let flags := rowSub v 0x0D
  if s.rowBad 0x5A00 g ∨ x.closed ∨ x.octets ∨ !bitOf y.1 0 then
    let s := s.bumpRow 0x5A00 g 0x10
    let natural := !s.rowBad 0x5A00 g && !x.closed && !x.octets
    (if bitOf flags 0 ∧ natural then s.setStreamGate g { x with closed := true } else s, false, none)
  else
    let ipv := if bitOf y.1 4 then some (fieldOf y.1 3 1) else none
    if y.2.1 = 0 then (s, true, ipv)
    else
      let left := if x.inst = y.2.2 then x.left else 64 * y.2.1
      if left < m then
        let s := s.bumpRow 0x5A00 g 0x11
        (s.setStreamGate g { x with octets := bitOf flags 1, left := left, inst := y.2.2 }, false, none)
      else (s.setStreamGate g { x with left := left - m, inst := y.2.2 }, true, ipv)

/-! ### Meters (R223, R224) -/

/-- A meter with full buckets. -/
def MeterState.full (v : List Nat) : MeterState := ⟨rowSub v 8 * 2 ^ 32, rowSub v 0x0A * 2 ^ 32, 0, false⟩

/-- Refill a meter for key epoch `e` (R223). -/
def MeterState.refill (m : MeterState) (v : List Nat) (e : Nat) : MeterState :=
  let ne := e - m.last
  let dc := ne * rowSub v 7 * 4 * 2 ^ 32 / 1000000
  let de := ne * rowSub v 9 * 4 * 2 ^ 32 / 1000000
  let cmax := rowSub v 8 * 2 ^ 32
  let emax := rowSub v 0x0A * 2 ^ 32
  let c := m.ctok + dc
  let ov := c - cmax
  let x := m.etok + de + (if bitOf (rowSub v 0x0B) 1 then ov else 0)
  { m with ctok := min c cmax, etok := min x emax, last := max m.last e }

/-- Colour a frame of `len` bytes and colour `col` (R223): 0 green, 1 yellow, 2 red. -/
def MeterState.colour (m : MeterState) (v : List Nat) (len col : Nat) : MeterState × Nat :=
  let need := len * 2 ^ 32
  let blind := !bitOf (rowSub v 0x0B) 0
  let r : MeterState × Nat :=
    if m.allRed then (m, 2)
    else if (blind ∨ col = 0) ∧ need ≤ m.ctok then ({ m with ctok := m.ctok - need }, 0)
    else if (blind ∨ col ≠ 2) ∧ need ≤ m.etok then ({ m with etok := m.etok - need }, 1)
    else (m, 2)
  if r.2 = 2 ∧ bitOf (rowSub v 0x0B) 3 then ({ r.1 with allRed := true }, 2) else r

/-- Apply meter `n`: the new colour and whether the frame is dropped (R222 to R224). -/
def State.applyMeter (s : State) (e n len col port : Nat) : State × Nat × Bool :=
  let v := (s.rowAt e 0x5B00 n).getD []
  let src := rowSub v 0x0C
  let s := if src ≠ 0xFF ∧ src ≠ port then s.bumpRow 0x5B00 n 0x11 else s
  let m := ((kfind s.basin.meters n).getD (MeterState.full v)).refill v e
  let r := m.colour v len col
  let s := ({ s with basin := { s.basin with meters := kins s.basin.meters n r.1 } } : State).bumpRow 0x5B00 n (0x0E + r.2)
  (s, r.2, decide (r.2 = 2) || (decide (r.2 = 1) && bitOf (rowSub v 0x0B) 2))

/-! ### Filters (R217, R219) -/

/-- The lowest-numbered filter that matches a handle and class. -/
def State.filterFor (s : State) (e handle cls : Nat) : Option (Nat × Nat) :=
  ((s.rowsAt e 0x5900).find? (fun r =>
    let f := rowSub r.2 7
    !s.rowBad 0x5900 r.1 && bitOf (subBytes f 3 1) 0 && (decide (subBytes f 0 2 = handle) || decide (subBytes f 0 2 = 0xFFFF))
      && bitOf (subBytes f 2 1) cls)).map (fun r => (r.1, rowSub r.2 7))

/-- Whether a handle names a filter with a shared meter, which selects the shared-state path (R149, R222). -/
def State.sharedMeter (s : State) (e cls : Nat) (handle : Option Nat) : Bool :=
  match handle with
  | none => false
  | some h => match s.filterFor e h cls with
    | none => false
    | some (_, f) => bitOf (subBytes f 3 1) 2 &&
      decide (rowSub ((s.rowAt e 0x5B00 (subBytes f 8 2)).getD []) 0x0C = 0xFF)

/-- What the filter checks yield: pass, the internal priority value, the colour. -/
structure Filtered where
  pass   : Bool
  ipv    : Option Nat
  colour : Nat
  filter : Option Nat
  deriving DecidableEq, Repr

/-- Count one of a filter's counters (`5900h.09`…`0F`). -/
def State.bumpFilter (s : State) (n sub : Nat) : State := s.bumpRow 0x5900 n sub

/-- The filter meter (R219, check 4). -/
def State.filterMeter (s : State) (e n f m col port : Nat) (ipv : Option Nat) : State × Filtered :=
  if bitOf (subBytes f 3 1) 2 then
    let r := s.applyMeter e (subBytes f 8 2) m col port
    (r.1.bumpFilter n (if r.2.2 then 0x0F else 0x0E), ⟨!r.2.2, ipv, r.2.1, some n⟩)
  else (s, ⟨true, ipv, col, some n⟩)

/-- The stream gate (R219, check 3). -/
def State.filterGate (s : State) (e n f m col port : Nat) : State × Filtered :=
  if bitOf (subBytes f 3 1) 1 then
    let r := s.gateDecision e (subBytes f 6 1) m port
    if r.2.1 then (r.1.bumpFilter n 0x0C).filterMeter e n f m col port r.2.2
    else (r.1.bumpFilter n 0x0D, ⟨false, none, col, some n⟩)
  else s.filterMeter e n f m col port none

/-- A filter's checks in order (R219). -/
def State.filterChecks (s : State) (e n f m col port : Nat) : State × Filtered :=
  let s := s.bumpFilter n 9
  let maxSdu := subBytes f 4 2
  if s.rowStat 0x5900 n 8 = 1 then (s.bumpFilter n 0x0B, ⟨false, none, col, some n⟩)
  else if maxSdu ≠ 0 ∧ maxSdu < m then
    let s := s.bumpFilter n 0x0B
    (if bitOf (subBytes f 3 1) 3 then s.setRowStat 0x5900 n 8 1 else s, ⟨false, none, col, some n⟩)
  else (if maxSdu ≠ 0 then s.bumpFilter n 0x0A else s).filterGate e n f m col port

/-- The stage for a frame (R217): without a handle or a matching filter it passes. -/
def State.streamFilter (s : State) (e : Nat) (handle : Option Nat) (cls m col port : Nat) : State × Filtered :=
  match handle with
  | none => (s, ⟨true, none, col, none⟩)
  | some h => match s.filterFor e h cls with
    | none => (s, ⟨true, none, col, none⟩)
    | some (n, f) => s.filterChecks e n f m col port

/-! ### Replication and elimination (R225 to R228) -/

/-- A function that has handled no frame. -/
def FrerState.fresh : FrerState := ⟨true, 0, 0, 0, 0⟩

/-- State of function `n`. -/
def State.frerState (s : State) (n : Nat) : FrerState := (kfind s.basin.frer n).getD FrerState.fresh

/-- Put a function's state. -/
def State.setFrer (s : State) (n : Nat) (x : FrerState) : State :=
  { s with basin := { s.basin with frer := kins s.basin.frer n x } }

/-- The function of a kind for a handle, and for kind 3 a port. -/
def State.frerFor (s : State) (e kind handle port : Nat) : Option (Nat × List Nat) :=
  (s.rowsAt e 0x5C00).find? (fun r => decide (rowSub r.2 7 = kind) && decide (rowSub r.2 8 = handle)
    && (decide (kind ≠ 3) || decide (rowSub r.2 9 = port)))

/-- Reset timeout in units of 2^15 epochs (R227). -/
def frerUnits (t : Nat) : Nat := (t * 1000000 + 1048575) / 2 ^ 20

/-- What recovery does with a sequence (R227): the new state, pass, and the counter of a discard or an out-of-order pass. -/
def recoverSeq (r : FrerState) (v : List Nat) (q : Nat) : FrerState × Bool × Nat :=
  let h := rowSub v 0x0B
  if r.takeAny then ({ r with recov := q, hist := 1, takeAny := false }, true, 0)
  else
    let d := sgnOf 16 ((q + 65536 - r.recov) % 65536)
    if rowSub v 0x0A = 1 then
      if d = 0 then (r, false, 0x10) else ({ r with recov := q }, true, 0)
    else if (h : Int) ≤ d ∨ d ≤ -(h : Int) then (r, false, 0x11)
    else if d ≤ 0 then
      if bitOf r.hist (-d).toNat then (r, false, 0x10)
      else ({ r with hist := setBitAt r.hist (-d).toNat }, true, 0x12)
    else ({ r with hist := ((r.hist <<< d.toNat) ||| 1) % 2 ^ h, recov := q }, true, 0)

/-- A recovery function meets a frame (R227): pass or discard. -/
def State.frerRecover (s : State) (e n : Nat) (v : List Nat) (seq : Option Nat) : State × Bool :=
  match seq with
  | none =>
    let s := s.bumpRow 0x5C00 n 0x14
    (s, decide (rowSub v 0x0D = 1))
  | some q =>
    let r := s.frerState n
    let u := frerUnits (rowSub v 0x0C)
    let stale := decide (u ≠ 0) && !r.takeAny && decide (u < (sessionUnits e + 2 ^ 32 - r.last) % 2 ^ 32)
    let s := if stale then s.bumpRow 0x5C00 n 0x13 else s
    let x := recoverSeq { r with takeAny := r.takeAny || stale } v q
    let s := if x.2.2 ≠ 0 then s.bumpRow 0x5C00 n x.2.2 else s
    if x.2.1 then ((s.bumpRow 0x5C00 n 0x0F).setFrer n { x.1 with last := sessionUnits e }, true)
    else (s.setFrer n x.1, false)

/-- The result of FRER: pass, the sequence assigned, the ports where an R-TAG is inserted and removed. -/
structure Frered where
  pass   : Bool
  seq    : Option Nat
  tagIn  : Nat
  tagOut : Nat
  deriving DecidableEq, Repr

/-- The generation function (R226). -/
def State.frerGenerate (s : State) (e handle port : Nat) (seq : Option Nat) (out : Nat) : State × Frered :=
  match s.frerFor e 1 handle port with
  | none => (s, ⟨true, none, 0, out⟩)
  | some (n, v) => match seq with
    | some _ => (s.bumpRow 0x5C00 n 0x14, ⟨true, none, 0, out⟩)
    | none =>
      let r := s.frerState n
      ((s.bumpRow 0x5C00 n 0x0F).setFrer n { r with gen := (r.gen + 1) % 65536 },
        ⟨true, some r.gen, rowSub v 0x0E, out⟩)

/-- FRER for a frame with a stream handle: individual recovery, sequence recovery, generation (R226). -/
def State.frerStage (s : State) (e : Nat) (handle : Option Nat) (port : Nat) (seq : Option Nat) : State × Frered :=
  match handle with
  | none => (s, ⟨true, none, 0, 0⟩)
  | some h =>
    let r3 := match s.frerFor e 3 h port with
      | none => (s, true, 0)
      | some (n, v) => let x := s.frerRecover e n v seq; (x.1, x.2, rowSub v 0x0E)
    if !r3.2.1 then (r3.1, ⟨false, none, 0, 0⟩)
    else
      let r2 := match r3.1.frerFor e 2 h port with
        | none => (r3.1, true, 0)
        | some (n, v) => let x := r3.1.frerRecover e n v seq; (x.1, x.2, rowSub v 0x0E)
      if !r2.2.1 then (r2.1, ⟨false, none, 0, 0⟩)
      else r2.1.frerGenerate e h port seq (r3.2.2 ||| r2.2.2)

end Sys2Proof.Machine
end

