-- ==== Sys2Proof/Machine/Layouts.lean ====
section
/-! DEFINITION. The checks of a record's own fields against the layout that its table gives: the first group of R470. -/

namespace Sys2Proof.Machine

open Sys2Proof

/-- The status of a record: a reserved encoding comes before a range (R467). -/
def pick (reserved range : Bool) : Nat := if reserved then 6 else if range then 5 else 0

/-- Whether `v` lies outside `lo … hi`. -/
def outside (lo hi v : Nat) : Bool := decide (v < lo) || decide (hi < v)

/-- The action word (R149, Table 6.6). -/
def actionStatus (a : Nat) : Nat :=
  let o := fieldOf a 63 60
  pick false (decide (7 ≤ o) || decide (fieldOf a 50 49 = 3) || (decide (o = 1) && !outside 28 30 (fieldOf a 59 55))
    || (decide (o = 4) && !(bitOf a 44 && decide (4 ≤ fieldOf a 47 45))) || decide (a % 4096 ≠ 0))

/-- The per-port default record (Table 6.11). -/
def portRecordStatus (v : Nat) : Nat :=
  let a := actionStatus (subBytes v 0 8)
  let reserved := decide (2 < subBytes v 8 1) || decide (4 < subBytes v 10 1) || decide (3 < subBytes v 12 1)
    || decide (subBytes v 13 3 ≠ 0)
  pick reserved (decide (7 < subBytes v 11 1) || decide (a ≠ 0))

/-! ### The parse graph (R141 to R143) -/

/-- EtherTypes of Table 6.1. -/
def knownEtypes : List Nat := [0x8100, 0x88A8, 0x88E5, 0x0800, 0x86DD, 0x22F0, 0x88F7, 0x888E]
/-- IP protocols and extension headers of Table 6.1. -/
def knownProtos : List Nat := [0, 43, 44, 51, 60, 6, 17, 1, 58]

/-- A hook: [31] valid, [30:24] start node, [23:20] reserved, [19:16] kind, [15:0] value. -/
def hookStatus (h : Nat) : Nat :=
  let kind := fieldOf h 19 16
  let v := h % 65536
  let known := if kind = 1 then decide (v ∈ knownEtypes) else if kind = 4 then decide (v ∈ knownProtos)
    else decide (v = 13400)
  pick (decide (fieldOf h 23 20 ≠ 0) || (bitOf h 31 && outside 1 4 kind))
    (bitOf h 31 && (known || decide (fieldOf h 30 24 < 0x40)))

/-- Whether a number names the end of the parse, a built-in header or a node. -/
def nodeName (n : Nat) : Bool := decide (n ≤ 2) || !outside 0x40 0x7F n

/-- Transition `i` of a node: match value, next node, flags. -/
def nodeTransition (v i : Nat) : Nat × Nat × Nat :=
  (subBytes v (16 + 4 * i) 2, subBytes v (18 + 4 * i) 1, subBytes v (19 + 4 * i) 1)

/-- A node (Table 6.2); a node that is not valid is not looked at. -/
def nodeStatus (v : Nat) : Nat :=
  let fl := subBytes v 0 1
  let field := bitOf fl 1
  let badTrans := (List.range 4).any (fun i =>
    let t := nodeTransition v i
    decide (1 < t.2.2) || (bitOf t.2.2 0 && !nodeName t.2.1))
  pick false (bitOf fl 0 && (decide (4 < fieldOf fl 4 2) || decide (32 ≤ fl)
    || (if field then decide (subBytes v 1 1 ≠ 0) else outside 2 64 (subBytes v 1 1))
    || decide (63 < subBytes v 2 1)
    || (if field then decide (subBytes v 3 1 ∉ [8, 16]) else decide (subBytes v 3 1 ≠ 0))
    || decide (3 < subBytes v 6 1) || decide (63 < subBytes v 8 1) || decide (2 < subBytes v 9 1)
    || !nodeName (subBytes v 10 1) || decide (63 < subBytes v 11 1) || decide (8 < subBytes v 12 1)
    || decide (8 < subBytes v 12 1 + subBytes v 13 1) || decide (subBytes v 14 2 ≠ 0) || badTrans))

/-! ### Rows of the tables -/

/-- Reserved bits of the classification key, [626:616] (Table 6.4). -/
def keyReserved : Nat := (2 ^ 11 - 1) * 2 ^ 616

/-- A ternary rule (R147). -/
def ternaryStatus (value care action : Nat) : Nat :=
  pick (decide (care &&& keyReserved ≠ 0)) (decide (value &&& care ≠ value) || decide (actionStatus action ≠ 0))

/-- Key bits that an exact-match format uses (Table 6.5). -/
def formatBits (f : Nat) : Nat := if f = 1 then 60 else if f = 2 then 104 else if f = 3 then 152 else 76

/-- An exact-match entry (R148). -/
def exactStatus (format key action : Nat) : Nat :=
  pick (decide (4 < format) || (decide (format ≠ 0) && decide (2 ^ formatBits format ≤ key)))
    (decide (format = 0) || decide (actionStatus action ≠ 0))

/-- A stream identification entry, bytes 0…59 of Table 6.7 (R155): fields its method does not use are zero. -/
def identStatus (v : Nat) : Nat :=
  let method := subBytes v 0 1
  let fl := subBytes v 1 1
  let mode := fl % 4
  let ip := decide (method = 3)
  let unused := !ip && (decide (4 ≤ fl) || decide (subBytes v 3 1 ≠ 0) || decide (subBytes v 12 1 ≠ 0)
    || decide (subBytes v 14 36 ≠ 0))
  let short4 := ip && !bitOf fl 2 && (decide (subBytes v 22 12 ≠ 0) || decide (subBytes v 38 12 ≠ 0))
  pick (outside 1 3 method || decide (mode = 0) || decide (8 ≤ fl) || unused || short4 || decide (64 ≤ subBytes v 3 1)
      || decide (subBytes v 13 1 ≠ 0) || decide (subBytes v 50 10 ≠ 0) || decide (4096 ≤ subBytes v 4 2)
      || (decide (mode ≠ 1) && decide (subBytes v 4 2 ≠ 0)))
    (decide (31 < subBytes v 2 1) && decide (subBytes v 2 1 ≠ 0xFF))

/-- A stream filter (Table 9.1). -/
def filterStatus (v : Nat) : Nat :=
  let h := subBytes v 0 2
  let sdu := subBytes v 4 2
  pick (decide (16 ≤ subBytes v 3 1) || decide (subBytes v 7 1 ≠ 0) || decide (subBytes v 10 6 ≠ 0))
    ((decide (32767 < h) && decide (h ≠ 0xFFFF)) || (decide (sdu ≠ 0) && outside 64 9216 sdu)
      || decide (32767 < subBytes v 8 2))

/-- Entry `i` of a stream gate's list: interval, state byte, octet maximum, reserved byte (Table 9.2). -/
def gateListEntry (v i : Nat) : Nat := subBytes v (8 * i) 8

/-- A stream gate (R220, Tables 9.2 and 9.8): the first `length` entries of its list are checked. -/
def gateRowStatus (enable : Bool) (initial length list : Nat) : Nat :=
  let es := (List.range (min length 16)).map (gateListEntry list)
  pick (decide (32 ≤ initial) || es.any (fun e => decide (32 ≤ subBytes e 4 1) || decide (subBytes e 7 1 ≠ 0)))
    ((enable && decide (length = 0)) || decide (16 < length) || es.any (fun e => outside 1 1000000000 (subBytes e 0 4)))

/-- A rule's match (R164, Table 7.1). -/
def ruleStatus (m : Nat) : Nat :=
  let fl := subBytes m 0 1
  pick (decide (8 ≤ fl) || (bitOf fl 1 && (decide (subBytes m 1 1 ≠ 0) || decide (subBytes m 4 8 ≠ 0))))
    (decide (subBytes m 6 2 < subBytes m 4 2) || decide (subBytes m 10 2 < subBytes m 8 2))

/-- A verdict word (R165, Table 7.2). -/
def verdictStatus (w : Nat) : Nat :=
  let v := w % 8
  pick (decide (fieldOf w 7 5 ≠ 0) || bitOf w 15 || bitOf w 31)
    (decide (6 ≤ v) || (decide (v ≠ 4) && decide (fieldOf w 11 8 ≠ 0)) || (decide (v ≠ 5) && decide (fieldOf w 14 12 ≠ 0))
      || (decide (v ≠ 3) && decide (fieldOf w 30 16 ≠ 0)) || (bitOf w 3 && decide (v ∈ [1, 2, 5])))

/-- A row of the policy matrix (R163, R164): kind, first and second key, match, verdict word, list. -/
def matrixStatus (kind first second m word list : Nat) : Nat :=
  let w := verdictStatus word
  if kind = 0 then
    pick (decide (m ≠ 0) || decide (w = 6))
      (decide (63 < first) || decide (63 < second) || (decide (1023 < list) && decide (list ≠ 0xFFFF)) || decide (w ≠ 0))
  else
    let r := ruleStatus m
    pick (decide (r = 6) || decide (w = 6)) (decide (1023 < first) || decide (63 < second) || decide (r ≠ 0) || decide (w ≠ 0))

/-- A CAN filter entry (R180, Table 7.6). -/
def canFilterStatus (v : Nat) : Nat :=
  let lo := subBytes v 0 4
  let hi := subBytes v 4 4
  let verdict := subBytes v 18 4
  let rate := subBytes v 14 2
  let l0 := subBytes v 10 2
  let l1 := subBytes v 12 2
  pick (decide (2 ^ 30 ≤ lo) || decide (2 ^ 30 ≤ hi) || decide (16 ≤ subBytes v 8 1) || decide (4 ≤ subBytes v 9 1)
      || decide (4 ≤ verdict) || decide (subBytes v 22 10 ≠ 0))
    (decide (bitOf lo 29 ≠ bitOf hi 29) || decide (hi < lo) || decide (2048 < l0) || decide (2048 < l1) || decide (l1 < l0)
      || outside 1 1024 (subBytes v 16 2) || (decide (rate = 0) != decide (verdict ≠ 3)))

/-- A CAN acceptance filter (Table 10.2). -/
def acceptStatus (v : Nat) : Nat :=
  pick (decide (2 ^ 30 ≤ subBytes v 0 4) || decide (2 ^ 30 ≤ subBytes v 4 4) || decide (16 ≤ subBytes v 8 1)
    || decide (4 ≤ subBytes v 9 1) || decide (subBytes v 10 2 ≠ 0)) false

/-- A Ford header template (R271); header length 0 is a template that is not used. -/
def templateStatus (v : Nat) : Nat :=
  let n := subBytes v 0 1
  pick (decide (8 ≤ subBytes v 1 1) || decide (subBytes v 3 1 ≠ 0)) (decide (n ≠ 0) && outside 14 124 n)

/-! ### Ford's tables -/

/-- Payload lengths of a CAN format (Table 11.3). -/
def canLengths (fmt n : Nat) : Bool :=
  if fmt = 0 then decide (n ≤ 8)
  else if fmt = 3 then !outside 1 2048 n
  else decide (n ≤ 8) || decide (n ∈ [12, 16, 20, 24, 32, 48, 64])

/-- Whether a definition's length has the range of its kind (Table 11.3). -/
def pduLengthOk (kind fmt n : Nat) (tx : Bool) : Bool :=
  if kind = 1 then canLengths fmt n
  else if kind = 2 then !outside 1 8 n
  else if kind = 3 then decide (n ≤ 254) && decide (n % 2 = 0)
  else if kind = 4 then !outside 1 1472 n
  else tx || canLengths fmt n

/-- Transmit modes of a kind (Table 11.3). -/
def pduModeOk (kind mode : Nat) (tx : Bool) : Bool :=
  if !tx then decide (mode = 0)
  else if kind = 1 ∨ kind = 4 then !outside 1 5 mode
  else if kind = 5 then decide (mode = 5)
  else decide (mode = 0)

/-- Greatest bus number of a kind (Table 11.2). -/
def pduBusMax (kind : Nat) (tx : Bool) : Nat :=
  if kind = 1 then 23 else if kind = 2 then 7 else if kind = 3 then 0 else if kind = 4 ∨ tx then 63 else 31

/-- The fields that Ford fills in a PDU, as first bit and length in bits: check word, alive counter, authentication. -/
def pduFields (v : Nat) : List (Nat × Nat) :=
  let len := subBytes v 8 2
  let auth := if bitOf v 10 then subBytes v 47 1 + subBytes v 48 1 else 0
  [(8 * subBytes v 38 2, 8 * subBytes v 30 1), (subBytes v 40 2, subBytes v 31 1), (8 * (len - auth), 8 * auth)]

/-- Whether two runs of bits meet. -/
def runsMeet (a b : Nat × Nat) : Bool :=
  decide (0 < a.2) && decide (0 < b.2) && decide (a.1 < b.1 + b.2) && decide (b.1 < a.1 + a.2)

/-- Whether a definition's filled fields lie outside the PDU or overlap (R268). -/
def pduFieldsBad (v : Nat) : Bool :=
  let len := 8 * subBytes v 8 2
  let fs := pduFields v
  let auth := if bitOf v 10 then 8 * (subBytes v 47 1 + subBytes v 48 1) else 0
  fs.any (fun x => decide (0 < x.2) && decide (len < x.1 + x.2)) || decide (len < auth)
    || runsMeet (nth fs 0 (0, 0)) (nth fs 1 (0, 0)) || runsMeet (nth fs 0 (0, 0)) (nth fs 2 (0, 0))
    || runsMeet (nth fs 1 (0, 0)) (nth fs 2 (0, 0))

/-- A PDU definition alone (R268, Tables 11.2 and 11.3). -/
def pduStatus (v : Nat) : Nat :=
  let kind := subBytes v 0 1
  let tx := bitOf v 9
  let fmt := subBytes v 3 1
  let ident := subBytes v 4 4
  let mode := subBytes v 10 1
  let alive := subBytes v 31 1
  let secured := bitOf v 10
  let reservedId := if kind = 1 ∨ kind = 5 then decide (2 ^ 29 ≤ ident) else if kind = 2 then decide (64 ≤ ident) else false
  pick (outside 1 5 kind || decide (32 ≤ subBytes v 1 1) || decide (16 ≤ fmt) || reservedId || decide (subBytes v 43 1 ≠ 0)
      || decide (subBytes v 58 6 ≠ 0) || decide (2 < subBytes v 30 1) || decide (4 < subBytes v 49 1))
    (!pduLengthOk kind (fmt % 4) (subBytes v 8 2) tx || !pduModeOk kind mode tx || decide (pduBusMax kind tx < subBytes v 2 1)
      || (decide (mode ∈ [3, 4]) && outside 1 60000000 (subBytes v 12 4)) || decide (60000000 < subBytes v 16 4)
      || decide (60000000 < subBytes v 20 4) || decide (8 < alive)
      || (!tx && decide (0 < alive) && decide (subBytes v 42 1 = 0))
      || (secured && (decide (8 < subBytes v 47 1) || outside 3 16 (subBytes v 48 1) || decide (1023 < subBytes v 50 2)
        || (!tx && decide (subBytes v 52 4 = 0))))
      || pduFieldsBad v)

/-- A signal route alone (R273, Table 11.5). -/
def routeStatus (v : Nat) : Nat :=
  let n := subBytes v 4 1
  let m := subBytes v 10 1
  let attr := subBytes v 28 2
  pick (decide (4 ≤ subBytes v 5 1) || bitOf (subBytes v 11 1) 7 || decide (subBytes v 30 2 ≠ 0))
    (decide (8191 < subBytes v 0 2) || decide (8191 < subBytes v 6 2) || (decide (4095 < attr) && decide (attr ≠ 0xFFFF))
      || (if n = 0 then decide (m ≠ 0) else decide (64 < n) || outside 1 64 m))

/-- An attribute record alone (Table 11.6). -/
def attributeStatus (v : Nat) : Nat :=
  pick false (decide (sgnOf 64 (subBytes v 8 8) < sgnOf 64 (subBytes v 0 8)))

/-- The own rules of a row's fields; `f x` is the field at sub-index `x`. -/
def rowOwnStatus (tbl : Nat) (f : Nat → Nat) : Nat :=
  if 0x3500 ≤ tbl ∧ tbl < 0x3520 then pick false (decide ((if tbl < 0x3508 then 1024 else 256) ≤ f 6))
  else if tbl = 0x5100 then ternaryStatus (f 7) (f 8) (f 9)
  else if tbl = 0x5200 then exactStatus (f 6) (f 8) (f 9)
  else if tbl = 0x5800 then identStatus (f 6)
  else if tbl = 0x5900 then filterStatus (f 7)
  else if tbl = 0x5A00 then gateRowStatus (decide (f 7 ≠ 0)) (f 8) (f 0x0B) (f 0x0C)
  else if tbl = 0x5C00 then
    pick (outside 1 3 (f 7)) (decide (2047 < f 6) || (if f 7 = 3 then decide (31 < f 9) else decide (f 9 ≠ 0xFF)))
  else if tbl = 0x6100 then matrixStatus (f 6) (f 7) (f 8) (f 9) (f 0x0A) (f 0x0B)
  else if 0x6300 ≤ tbl ∧ tbl < 0x6318 then canFilterStatus (f 7)
  else if tbl = 0x8100 then pduStatus (f 7)
  else if tbl = 0x8200 then
    if f 6 = 0 then (let r := routeStatus (f 8); if r ≠ 0 then r else pick false (decide (65535 < f 7)))
    else (let r := attributeStatus (f 8); if r ≠ 0 then r else pick false (decide (4095 < f 7)))
  else 0

/-- Records and single values whose layout a functional chapter gives. -/
def layoutStatus (idx sub v : Nat) : Nat :=
  if idx = 0x5000 then (if sub < 0x20 then hookStatus v else nodeStatus v)
  else if idx = 0x5300 then (if 1 ≤ sub ∧ sub ≤ 0x20 then portRecordStatus v else 0)
  else if 0x7000 ≤ idx ∧ idx < 0x7018 then (if 0x80 ≤ sub then acceptStatus v else 0)
  else if 0x7040 ≤ idx ∧ idx < 0x7048 then (if 0x40 ≤ sub then pick (decide (4 ≤ subBytes v 2 1)) false else 0)
  else if idx = 0x8000 then (if 0x40 ≤ sub then templateStatus v else 0)
  else if 0x3500 ≤ idx ∧ idx < 0x3520 ∧ sub = 0x14 then pick false (decide ((if idx < 0x3508 then 1024 else 256) < v))
  else 0

end Sys2Proof.Machine
end

