-- ==== Sys2Proof/Machine/Validity.lean ====
section
/-! DEFINITION. The checks of a value alone: lengths, encodings, ranges and the functions a port kind lacks (R6, R49, R108,
R467, R470). -/

namespace Sys2Proof.Machine

open Sys2Proof

/-- Status of a value under a check: 0, 0x0005 out of range, 0x0006 reserved encoding (R6). -/
def chkStatus (bytes v : Nat) : Chk → Nat
  | .any => 0
  | .rng lo hi => if lo ≤ v ∧ v ≤ hi then 0 else 5
  | .srng lo hi => if lo ≤ sgnOf (8 * bytes) v ∧ sgnOf (8 * bytes) v ≤ hi then 0 else 5
  | .zeroOr lo hi => if v = 0 ∨ (lo ≤ v ∧ v ≤ hi) then 0 else 5
  | .oneOf vals => if v ∈ vals then 0 else 6
  | .mask m => if v &&& m = v then 0 else 6
  | .both a b => let x := chkStatus bytes v a; if x ≠ 0 then x else chkStatus bytes v b

/-- Whether octets are characters 0x20…0x7E padded with 0x00 (Table 3.1). -/
def strOk : Bytes → Bool
  | [] => true
  | b :: bs =>
    if b = 0 then bs.all (fun x => decide (x = 0))
    else decide (0x20 ≤ b.toNat) && decide (b.toNat ≤ 0x7E) && strOk bs

/-- Length check of a write (R49): exact, but a string may be shorter. -/
def lengthStatus (ty : Ty) (n : Nat) : Nat :=
  match ty with
  | .str k => if 1 ≤ n ∧ n ≤ k then 0 else 4
  | .dom => 0
  | t => if n = t.bytes then 0 else 4

/-- Encoding check of a type (Table 3.1). -/
def typeStatus (ty : Ty) (data : Bytes) : Nat :=
  match ty with
  | .bool => if leNat data ≤ 1 then 0 else 6
  | .time80 => if leAt data 6 4 < 1000000000 then 0 else 5
  | .str _ => if strOk data then 0 else 6
  | _ => 0

/-- Codes of `3000h+p.02` that a port's kind has (Table 5.1). -/
def modeCodes (p : Nat) : List Nat :=
  if isBP p then [0, 1, 2, 3, 4, 5, 6] else if isEP p then [0x10, 0x11] else if isSP p then [0x20] else []

/-- Reactions permitted for a fault input (Table 14.2). -/
def permittedReaction (i r : Nat) : Bool :=
  if i = 4 ∨ i = 8 ∨ i = 12 ∨ i = 24 ∨ i = 50 ∨ i = 54 ∨ i = 55 then decide (r = 4)
  else if i = 5 ∨ i = 9 ∨ i = 13 ∨ i = 25 ∨ i = 99 then decide (r = 3) || decide (r = 4)
  else if i = 101 then decide (r = 3)
  else if i < 103 then decide (r ≤ 4)
  else decide (r = 0)

/-- The functions of a port kind (R108, R437): 0x000B when a write would enable what the kind lacks. -/
def kindStatus (idx sub v : Nat) : Nat :=
  if 0x3000 ≤ idx ∧ idx < 0x3020 then
    let p := idx - 0x3000
    if isInternal p ∧ (sub = 2 ∨ (6 ≤ sub ∧ sub ≤ 0x0D)) then 0x0B
    else if ¬ isBP p ∧ 7 ≤ sub ∧ sub ≤ 9 ∧ v ≠ 0 then 0x0B
    else 0
  else if 0x30C0 ≤ idx ∧ idx < 0x30D4 then
    let p := idx - 0x30C0
    if sub ≠ 0 ∧ ((isEP p ∧ sub ≤ 0x0C) ∨ (isBP p ∧ 0x10 ≤ sub)) then 0x0B else 0
  else if 0x2180 ≤ idx ∧ idx < 0x21A0 ∧ sub = 1 ∧ isInternal (idx - 0x2180) ∧ v ≠ 0 then 0x0B
  else if (idx = 0xA010 ∨ idx = 0xA011) ∧ sub = 4 then 0x0B
  else 0

/-- Whether a sub-index that the table lists is absent on this instance: ports 28…31 have only some statistics (R135). -/
def absentSub (idx sub : Nat) : Bool :=
  decide (0x309C ≤ idx) && decide (idx < 0x30A0) &&
    !(decide (sub ≤ 5) || decide (sub = 0x0A) || (decide (0x10 ≤ sub) && decide (sub ≤ 0x14)) || decide (sub = 0x19))

/-- Ranges of an entry that its own rule gives and the table's columns do not (group 1 of R470). -/
def ownRange (idx sub v : Nat) : Nat :=
  if 0x3000 ≤ idx ∧ idx < 0x3020 then
    let p := idx - 0x3000
    if sub = 2 then (if isInternal p ∨ v ∈ modeCodes p then 0 else 6)
    else if sub = 3 then (if 64 ≤ v ∧ v ≤ (if isSP p then 2048 else 9216) then 0 else 5)
    else 0
  else if 0x2210 ≤ idx ∧ idx < 0x2220 ∧ sub = 4 then (if 8 ≤ v ∧ v ≤ 1000000000 then 0 else 5)
  else if idx = 0xA100 ∧ 0x10 ≤ sub ∧ sub ≤ 0x13 then
    if (List.range 64).all (fun i => permittedReaction (64 * (sub - 0x10) + i) (subBytes v i 1)) then 0 else 5
  else if idx = 0xA200 ∧ 1 ≤ sub ∧ sub ≤ 0x0A then (if v % 65536 ≤ v / 65536 then 0 else 5)
  else layoutStatus idx sub v

/-- Status of a written value: length, type encoding, reserved encodings, ranges, in the order of R467. -/
def valueStatus (e : EntryDef) (idx sub : Nat) (data : Bytes) : Nat :=
  let l := lengthStatus e.ty data.length
  if l ≠ 0 then l
  else
    let ty := typeStatus e.ty data
    let c := chkStatus e.ty.bytes (leNat data) e.chk
    let o := ownRange idx sub (leNat data)
    if ty = 6 ∨ c = 6 ∨ o = 6 then 6
    else if ty ≠ 0 then ty else if c ≠ 0 then c else o

end Sys2Proof.Machine
end

