-- ==== Sys2Proof/Machine/DictCore.lean ====
section
/-! DEFINITION. The dictionary server's shared operations: the checks of a request in the order of R467, replies and the
change journal, immediate and staged writes, table positions and views. -/

namespace Sys2Proof.Machine

open Sys2Proof

/-! ### Requests and replies -/

/-- Session slot `n` (1…8). -/
def State.session (s : State) (n : Nat) : Session := nth s.access.sessions (n - 1) Session.free

/-- Change session slot `n`. -/
def State.modSession (s : State) (n : Nat) (f : Session → Session) : State :=
  { s with access := { s.access with sessions := if n = 0 then s.access.sessions else modNth s.access.sessions (n - 1) f } }

/-- Whether a caller's session is open on its own interface for a request of key epoch `k`: a request that shares the key
epoch of the closing comes after it (R441, R471). -/
def State.sessionLive (s : State) (c : Caller) (k : Nat) : Bool :=
  let x := s.session c.session
  decide (1 ≤ c.session) && decide (c.session ≤ 8) && decide (x.state = 2) &&
    (decide (c.iface = .host ∧ x.host) || decide (c.iface = .mgmt ∧ ¬ x.host)) &&
    decide (k ≤ (x.idleNs + s.regAt k (dkey 0x1020 2) * 1000000) / 32)

/-- Whether a caller has an authenticated session; the verified pairing stands for the partner's (R53). -/
def State.authenticated (s : State) (c : Caller) (k : Nat) : Bool :=
  match c.iface with
  | .partner => true
  | .firmware => true
  | .can => false
  | _ => s.sessionLive c k

/-- Writes that need an authenticated session (R53, R280, R364). -/
def needsSession (idx sub : Nat) : Bool :=
  decide (idx = 0x1010) || decide (idx = 0x1020) || decide (idx = 0x8400) || (decide (0xB000 ≤ idx) && decide (idx < 0xB500))
    || (decide (idx = 0x1300) && (decide (sub = 0x10) || decide (sub = 0x12))) || (decide (idx = 0xA000) && decide (sub = 3))

/-- An accepted request of an open session restarts its idle time and is counted (R441). -/
def State.touchSession (s : State) (c : Caller) : State :=
  if s.sessionLive c s.keyEpoch then
    s.modSession c.session (fun x => { x with
      idleNs := s.time.orderNs,
      requests := if x.requests = 0xFFFFFFFF then x.requests else x.requests + 1 })
  else s

/-- Give a caller its response. -/
def State.reply (s : State) (c : Caller) (status value len : Nat) : State :=
  { s with dict := { s.dict with
      replies := s.dict.replies.filter (fun r => decide (r.caller.iface ≠ c.iface)) ++ [⟨c, status, value, len⟩] } }

/-- Whether partner requests are served: the pairing completed and the role has not been left since (R77). -/
def State.servesPartner (s : State) : Bool :=
  decide (s.stat 0x9100 3 = 1) && decide (s.saddle.role ∈ [Role.syncing, .standby, .active, .takeover])

/-- A request through interface `c` happens at raw tick `t`: the partner's are answered with 0x000D unless the members are
paired (R77). -/
def happenBy (c : Caller) (t : Nat) (unitExists : Bool) (s : State) (f : State → State) : Out :=
  happen t unitExists s (fun s => if c.iface = .partner ∧ ¬ s.servesPartner then s.reply c 0x0D 0 0 else f s)

/-- The rights mask of an interface (`1010h.01`…`04`); firmware is not masked. -/
def State.rights (s : State) (i : Iface) : Nat :=
  match i with
  | .firmware => 15
  | _ => s.reg 0x1010 (1 + ifaceNum i)

/-- Kind of access as a bit of the rights mask (R52). -/
inductive AccessKind
  | read | write | commit | image
  deriving DecidableEq, Repr

/-- The mask bit of a kind of access. -/
def AccessKind.bit : AccessKind → Nat
  | .read => 0 | .write => 1 | .commit => 2 | .image => 3

/-- Kind of access that a write of an entry is. -/
def writeKind (idx sub : Nat) : AccessKind :=
  if idx = 0x1301 ∧ sub = 4 then .commit
  else if idx = 0x1300 ∧ (sub = 0x10 ∨ sub = 0x12) then .image
  else .write

/-- Whether an entry lists an interface's letter and the interface's rights grant the access (R52). -/
def State.allowed (s : State) (e : EntryDef) (i : Iface) (kind : AccessKind) : Bool :=
  (decide (i = .firmware) || bitOf e.rights (ifaceBit i)) && bitOf (s.rights i) kind.bit

/-- Checks 1 to 4 of R467. -/
def State.addressStatus (s : State) (c : Caller) (idx sub : Nat) (kind : AccessKind) : Nat :=
  if 0xF000 ≤ idx then 3
  else if !objectExists idx then 1
  else match entryDef idx sub with
    | none => 2
    | some e => if absentSub idx sub then 2 else if s.allowed e c.iface kind then 0 else 3

/-- Whether a write to a shared entry is refused for want of authority (R54). -/
def State.lacksAuthority (s : State) (e : EntryDef) : Bool :=
  s.saddle.enabled && !s.saddle.authority && !e.perMember && !e.perIface

/-- Whether a session is missing, or a named session is not the caller's (R53, R471). -/
def State.sessionStatus (s : State) (c : Caller) (k idx sub : Nat) (isWrite : Bool) : Nat :=
  if isWrite ∧ needsSession idx sub ∧ ¬ s.authenticated c k then 7
  else if c.session ≠ 0 ∧ (c.iface = .host ∨ c.iface = .mgmt) ∧ ¬ s.sessionLive c k then 7
  else 0

/-! ### Staging -/

/-- Bytes an overlay record takes (R65). -/
def overlayBytes (n : Nat) : Nat := (16 + n + 15) / 16 * 16

/-- Bytes of the overlay in use. -/
def Dict.overlayUsed (d : Dict) : Nat := d.overlay.foldl (fun a r => a + r.bytes) 0

/-- The stored bytes of a table's row: its key and value fields. -/
def rowBytes (tbl : Nat) : Nat :=
  ((dictFamily tbl).filter (fun e => decide (e.idx ≤ tbl) && decide (tbl < e.idx + e.cnt) && decide (6 ≤ e.lo)
    && decide (e.acc = .rw))).foldl (fun a e => a + e.ty.bytes * (e.hi + 1 - e.lo)) 0

/-- Bytes a staged change will take in the overlay. -/
def StagedWork.bytes : StagedWork → Nat
  | .value key _ => match entryDef (key / 256) (key % 256) with
    | some e => overlayBytes e.ty.bytes
    | none => overlayBytes 0
  | .rowOp tbl code _ => if code = 7 then overlayBytes 0 else overlayBytes (rowBytes tbl)

/-- Free bytes of the overlay (`1302h.07`). -/
def State.overlayFree (s : State) : Nat := 262144 - s.dict.overlayUsed

/-- Bytes the staged changes will take. -/
def Dict.stagedBytes (d : Dict) : Nat := d.staging.recs.foldl (fun a r => a + r.bytes) 0

/-- Whether a caller may stage: nothing armed, and the area empty or its own (R61). -/
def State.stagingBusy (s : State) (c : Caller) : Bool :=
  match s.dict.staging.state with
  | .empty => false
  | .armed => true
  | .open_ => decide (s.dict.staging.owner ≠ some c)

/-- Whether a staged change replaces an earlier record of the same entry (R61). -/
def sameSlot (a b : StagedWork) : Bool :=
  match a, b with
  | .value k _, .value j _ => decide (k = j)
  | _, _ => false

/-- Whether the staging area or the overlay has no room for a change (R61, R65). -/
def State.stagingFull (s : State) (w : StagedWork) : Bool :=
  let replaces := s.dict.staging.recs.any (fun r => sameSlot w r)
  (!replaces && decide (16384 ≤ s.dict.staging.recs.length)) ||
    decide (s.overlayFree < s.dict.stagedBytes + w.bytes)

/-- Stage a change: the first makes its interface and session the owner, and a second write of the same entry replaces the
first record (R61). -/
def State.stage (s : State) (c : Caller) (w : StagedWork) : State :=
  let g := s.dict.staging
  let recs := if g.recs.any (fun r => sameSlot w r) then g.recs.map (fun r => if sameSlot w r then w else r)
    else g.recs ++ [w]
  { s with dict := { s.dict with staging := { g with state := .open_, owner := some c, recs := recs } } }

/-- The staging area becomes empty (R62, R64). -/
def State.emptyStaging (s : State) : State :=
  { s with dict := { s.dict with staging := { s.dict.staging with
      state := .empty, owner := none, recs := [], epoch := 0, gateB := none } } }

/-- The key that a source issued last. -/
def State.lastKey (s : State) (src : Nat) : OKey :=
  let k := s.sourceKeys src
  ⟨k.epoch, src, (k.seq + 65535) % 65536⟩

/-! ### Change journal (R67) -/

/-- Store a change-journal record in the ring of 1,024. -/
def State.journalChange (s : State) (c : Caller) (kind idx sub : Nat) (old new : Bytes) (epoch : Nat) : State :=
  let no := (s.dict.changeNo + 1) % 2 ^ 32
  let wrap := if no = 0 then !s.dict.changeWrap else s.dict.changeWrap
  let r : ChangeRec := ⟨no, wrap, s.time.orderNs, c, kind, idx, sub, old, new, epoch⟩
  { s with dict := { s.dict with
      changeNo := no, changeWrap := wrap,
      changes := (if s.dict.changes.length < 1024 then s.dict.changes else s.dict.changes.drop 1) ++ [r] } }

/-- An accepted write of octets: its record is stored and its response waits (R56). -/
def State.acceptBytes (s : State) (c : Caller) (kind idx sub : Nat) (old new : Bytes) (value epoch : Nat) : State :=
  let s := s.journalChange c kind idx sub old new (if kind = 2 ∨ kind = 3 then epoch else 0)
  { s with dict := { s.dict with awaiting := s.dict.awaiting ++
    [⟨c, value, (s.lastKey (ifaceSource c.iface)).epoch, .reply⟩] } }

/-- Bytes of an entry's type. -/
def entryBytes (idx sub : Nat) : Nat := match entryDef idx sub with
  | some e => e.ty.bytes
  | none => 0

/-- An accepted write of a value. -/
def State.acceptWrite (s : State) (c : Caller) (kind idx sub old new value epoch : Nat) : State :=
  s.acceptBytes c kind idx sub (toLE (entryBytes idx sub) old) (toLE (entryBytes idx sub) new) value epoch

/-! ### Immediate changes -/

/-- Put a setting that governs inputs of key epoch `epoch` and later (R55). -/
def State.addSetting (s : State) (epoch kep src key val : Nat) : State :=
  { s with dict := { s.dict with settings := insertSetting ⟨epoch, kep, src, key, val⟩ s.dict.settings } }

/-- Put a row change. -/
def State.addRowOp (s : State) (epoch kep src tbl pos : Nat) (vals : Option (List Nat)) : State :=
  { s with dict := { s.dict with rowOps := insertRowOp ⟨epoch, kep, src, tbl, pos, vals⟩ s.dict.rowOps } }

/-! ### The write operation -/

/-- Whether an entry is shared by a pair. -/
def sharedEntry (idx sub : Nat) : Bool := match entryDef idx sub with
  | some e => !e.perMember && !e.perIface
  | none => false

/-- Key a dictionary request, and journal it when it concerns a shared entry (R306): operation (1 read, 2 write, 3 domain segment,
16 and its code for a table operation), sub-index, index, the caller's session with bit 7 when it is open, and data. -/
def State.keyRequest (s : State) (c : Caller) (op idx sub : Nat) (data : Bytes) : State :=
  let key := s.nextKey (ifaceSource c.iface)
  let s := s.issueKey (ifaceSource c.iface)
  if sharedEntry idx sub then
    s.journalInput key 0x05 (ifaceNum c.iface) 0 false (some (toBE 1 op ++ toBE 1 sub ++ toBE 2 idx
      ++ toBE 1 (c.session + 128 * natOfBool (s.sessionLive c s.keyEpoch)) ++ data))
  else s

/-- Whether the dictionary server no longer runs: from the apply epoch of an entry to QUIET or SLEEP (R397). -/
def State.serverOff (s : State) (k : Nat) : Bool :=
  (decide (s.power.phase = .entering) || s.power.low) && decide (s.power.entryEpoch ≤ k)

/-- Status of a write by the conditions of R467 that precede the entry's own state. -/
def State.writeStatus (s : State) (c : Caller) (k idx sub : Nat) (data : Bytes) : Nat :=
  let a := s.addressStatus c idx sub (writeKind idx sub)
  if a ≠ 0 then a
  else match entryDef idx sub with
    | none => 2
    | some e =>
      if e.acc = .co ∨ e.acc = .ro ∨ e.acc = .rc then 3
      else
        let se := s.sessionStatus c k idx sub true
        if se ≠ 0 then se
        else
          let v := valueStatus e idx sub data
          if v ≠ 0 then v
          else if e.acc = .rws ∧ s.stagingBusy c then 9
          else if kindStatus idx sub (leNat data) ≠ 0 ∨ s.serverOff k then 0x0B
          else if e.acc = .w1 ∧ dkey idx sub ∈ s.dict.w1Done then 0x0B
          else if s.lacksAuthority e then 0x0B
          else if e.acc = .rws ∧ s.stagingFull (.value (dkey idx sub) (leNat data)) then 8
          else 0

/-- The effect of an accepted write on the stored values (R51, R55, R61). -/
def State.storeWrite (s : State) (c : Caller) (k idx sub : Nat) (e : EntryDef) (v : Nat) : State :=
  if e.perIface then (s.setOwn c idx sub v).acceptWrite c 0 idx sub (s.ownVal c idx sub) v 0 (k + 4)
  else match e.acc with
    | .rws => (s.stage c (.value (dkey idx sub) v)).acceptWrite c 1 idx sub (s.regAt k (dkey idx sub)) v 0 (k + 4)
    | .wo => s.acceptWrite c 0 idx sub 0 v 0 (k + 4)
    | .w1 =>
      let s1 := (s.addSetting (k + 4) k (ifaceSource c.iface) (dkey idx sub) v).acceptWrite c 0 idx sub
        (s.regAt k (dkey idx sub)) v 0 (k + 4)
      { s1 with dict := { s1.dict with w1Done := dkey idx sub :: s1.dict.w1Done } }
    | _ => (s.addSetting (k + 4) k (ifaceSource c.iface) (dkey idx sub) v).acceptWrite c 0 idx sub
        (s.regAt k (dkey idx sub)) v 0 (k + 4)

/-- A write request: it is keyed, checked in the order of R467 (`extra` gives the entry's own conditions), and refused with
its status, or accepted, stored and followed by its own effect `eff`. -/
def State.dictWrite (s : State) (c : Caller) (idx sub : Nat) (data : Bytes) (extra : State → Nat → Nat)
    (eff : Nat → State → State) : State :=
  let k := s.keyEpoch
  let s := (s.keyRequest c 2 idx sub data).touchSession c
  let st := s.writeStatus c k idx sub data
  let st := if st = 0 then extra s (leNat data) else st
  if st ≠ 0 then (if s.follows && sharedEntry idx sub then s.withhold else s).reply c st 0 0
  else match entryDef idx sub with
    | none => s.reply c 2 0 0
    | some e => eff (leNat data) (s.storeWrite c k idx sub e (leNat data))

/-- An entry with no condition of its own. -/
def noExtra : State → Nat → Nat := fun _ _ => 0

/-! ### The read operation (R57) -/

/-- Status of a read by the conditions of R467 that precede the entry's own. -/
def State.readStatus (s : State) (c : Caller) (k idx sub : Nat) : Nat :=
  let a := s.addressStatus c idx sub .read
  if a ≠ 0 then a
  else match entryDef idx sub with
    | none => 2
    | some e =>
      if e.acc = .wo then 3
      else
        let se := s.sessionStatus c k idx sub false
        if se ≠ 0 then se
        else if s.serverOff k then 0x0B
        else if 0x30C0 ≤ idx ∧ idx < 0x30D4 then kindStatus idx sub 0 else 0

/-- A read request: it is keyed and checked, and answered with its status or with the value (`len` bytes), after which `eff`
clears what the read clears. -/
def State.dictRead (s : State) (c : Caller) (idx sub : Nat) (extra : State → Nat) (val : State → Nat) (len : Nat)
    (eff : State → State) : State :=
  let k := s.keyEpoch
  let s := (s.keyRequest c 1 idx sub []).touchSession c
  let st := s.readStatus c k idx sub
  let st := if st = 0 then extra s else st
  if st ≠ 0 then s.reply c st 0 0 else eff (s.reply c 0 (val s) len)

/-- A read with no condition of its own. -/
def noReadExtra : State → Nat := fun _ => 0

/-! ### Table positions (R472) and views (R58) -/

/-- Number of key fields of a table, from sub-index 06. -/
def keyFields (tbl : Nat) : Nat :=
  if tbl = 0x5200 ∨ tbl = 0x6100 then 3 else if tbl = 0x8200 ∨ tbl = 0x4101 then 2 else if tbl = 0x6200 then 6 else 1

/-- The table objects. -/
def isTable (tbl : Nat) : Bool :=
  (decide (0x3500 ≤ tbl) && decide (tbl < 0x3520)) || (decide (0x6300 ≤ tbl) && decide (tbl < 0x6318)) ||
    decide (tbl ∈ [0x4101, 0x4200, 0x5100, 0x5200, 0x5800, 0x5900, 0x5A00, 0x5B00, 0x5C00, 0x6100, 0x6200, 0x8100, 0x8200,
      0x8400])

/-- Tables whose operations take effect at once (R59). -/
def isDynamic (tbl : Nat) : Bool := decide (tbl ∈ [0x4101, 0x4200, 0x6200, 0x8400])

/-- Last sub-index of a table's view. -/
def lastField (tbl : Nat) : Nat :=
  if 0x3500 ≤ tbl ∧ tbl < 0x3520 then 9
  else if 0x6300 ≤ tbl ∧ tbl < 0x6318 then 8
  else kget (fun _ => 9) [(0x4101, 0x0A), (0x4200, 0x0A), (0x5100, 0x0A), (0x5200, 0x0A), (0x5800, 8), (0x5900, 0x0F),
    (0x5A00, 0x12), (0x5B00, 0x11), (0x5C00, 0x14), (0x6100, 0x0C), (0x6200, 0x11), (0x8100, 9), (0x8200, 9), (0x8400, 8)] tbl

/-- Capacity of a table (sub-index 04). -/
def tableCapacity (tbl : Nat) : Nat := entryDefault (dkey tbl 4)

/-- The caller's view of a table: its fields from sub-index 06. -/
def State.view (s : State) (c : Caller) (tbl : Nat) : List Nat :=
  (List.range (lastField tbl - 5)).map (fun i => s.ownVal c tbl (6 + i))

/-- Fill the caller's view from a row. -/
def State.fillView (s : State) (c : Caller) (tbl : Nat) (vals : List Nat) : State :=
  (List.range (lastField tbl - 5)).foldl (fun s i => s.setOwn c tbl (6 + i) (nth vals i 0)) s

/-- Position of a row whose index is a number of its key (Table 3.15), or none where it is a storage position. -/
def numberedPos (tbl : Nat) (vals : List Nat) : Option Nat :=
  if tbl = 0x5200 ∨ tbl = 0x5800 ∨ tbl = 0x4101 ∨ tbl = 0x6200 then none
  else if tbl = 0x6100 then
    some (if rowSub vals 6 = 0 then rowSub vals 7 * 64 + rowSub vals 8 else 4096 + rowSub vals 7 * 64 + rowSub vals 8)
  else if tbl = 0x8200 then some (if rowSub vals 6 = 0 then rowSub vals 7 else 65536 + rowSub vals 7)
  else some (rowSub vals 6)

/-- Position of the row with the same key, if any. -/
def posOfKey (tbl : Nat) (rows : List (Nat × List Nat)) (vals : List Nat) : Option Nat :=
  match numberedPos tbl vals with
  | some p => if rows.any (fun r => decide (r.1 = p)) then some p else none
  | none => (rows.find? (fun r => decide (r.2.take (keyFields tbl) = vals.take (keyFields tbl)))).map Prod.fst

/-- The lowest free storage position. -/
def freePos (rows : List (Nat × List Nat)) : Nat :=
  rows.foldl (fun a r => if r.1 = a then a + 1 else a) 0

/-- Position a new row takes. -/
def newPos (tbl : Nat) (rows : List (Nat × List Nat)) (vals : List Nat) : Nat :=
  match numberedPos tbl vals with
  | some p => p
  | none => freePos rows

/-- Lay one table operation over rows (R59): INSERT and REPLACE put the row, DELETE and CLEAR remove. -/
def applyRowOp (tbl code : Nat) (vals : List Nat) (rows : List (Nat × List Nat)) : List (Nat × List Nat) :=
  if code = 2 ∨ code = 3 then
    kins rows (match posOfKey tbl rows vals with | some p => p | none => newPos tbl rows vals) vals
  else if code = 4 then (match posOfKey tbl rows vals with | some p => kdel rows p | none => rows)
  else if code = 7 then []
  else rows

/-- The applied rows with the staged operations of the area laid over them (R59). -/
def State.stagedRows (s : State) (e tbl : Nat) : List (Nat × List Nat) :=
  s.dict.staging.recs.foldl (fun rows w => match w with
    | .rowOp t code vals => if t = tbl then applyRowOp tbl code vals rows else rows
    | _ => rows) (s.rowsAt e tbl)

/-- The row changes that turn `old` into `new`. -/
def rowDiff (old new : List (Nat × List Nat)) : List (Nat × Option (List Nat)) :=
  (old.filter (fun r => !new.any (fun x => decide (x.1 = r.1)))).map (fun r => (r.1, none)) ++
    (new.filter (fun r => !old.any (fun x => decide (x = r)))).map (fun r => (r.1, some r.2))

/-- Values and rows of the configuration with every staged record laid over it. -/
def State.regStaged (s : State) (e key : Nat) : Nat :=
  (s.dict.staging.recs.reverse.findSome? (fun w => match w with
    | .value k v => if k = key then some v else none
    | _ => none)).getD (s.regAt e key)

end Sys2Proof.Machine
end

