-- ==== Sys2Proof/Machine/PairStatus.lean ====
section
/-! DEFINITION. What the pair entries show: journal records as octets, buffer use, replay lag, readiness and the pair signals
(R299, R306, R307, R312, R313, R316, Table 12.5). -/

namespace Sys2Proof.Machine

open Sys2Proof

/-! ### Journal records as octets (Table 12.5) -/

/-- A length padded to a multiple of 4. -/
def padded4 (n : Nat) : Nat := (n + 3) / 4 * 4

/-- The flags byte of a record. -/
def recFlags (r : JRec) : Nat :=
  natOfBool r.payload.isSome + 2 * natOfBool r.relayed + 4 * natOfBool r.frerDrop + 8 * natOfBool r.frerSeq.isSome

/-- A record and its payload: a U32 length, the bytes, zeros to a multiple of 4 (R306). -/
def recBytes (r : JRec) : Bytes :=
  toBE 4 r.epoch ++ toBE 2 r.src ++ toBE 2 r.seq ++ toBE 1 r.kind ++ toBE 1 (recFlags r)
    ++ toBE 2 (r.frerSeq.getD r.arg) ++ toBE 4 r.tag
    ++ (match r.payload with
      | some p => toBE 4 p.length ++ p ++ List.replicate (padded4 p.length - p.length) 0
      | none => [])

/-- The full epoch congruent to `low` modulo 2^32 and nearest to `near` (R307). -/
def fullEpoch (low near : Nat) : Nat :=
  let d := (low + 2 ^ 32 - near % 2 ^ 32) % 2 ^ 32
  if d < 2 ^ 31 ∨ near + d < 2 ^ 32 then near + d else near + d - 2 ^ 32

/-- The record in a class J message, its epoch completed by the receiver's counter. -/
def recOfBytes (near : Nat) (b : Bytes) : JRec :=
  let fl := byteAt b 9
  let arg := beAt b 10 2
  { epoch := fullEpoch (beAt b 0 4) near, src := beAt b 4 2, seq := beAt b 6 2, kind := byteAt b 8,
    relayed := bitOf fl 1, frerDrop := bitOf fl 2, frerSeq := if bitOf fl 3 then some arg else none,
    arg := if bitOf fl 3 then 0 else arg, tag := beAt b 12 4,
    payload := if bitOf fl 0 then some (slice b 20 (beAt b 16 4)) else none }

/-- Send a journal record to the standby; records of inputs are counted (R306). -/
def State.sendRecord (s : State) (r : JRec) : State :=
  let s := s.sendMsg 1 1 0 (recBytes r)
  if r.kind < 0x0C then s.count64 0x9000 0x1F 1 else s

/-- A record of a kind without an input: mark, swap, token handover, out of step. -/
def plainRec (kind epoch arg : Nat) : JRec := ⟨epoch, 0, 0, kind, false, false, none, arg, 0, none⟩

/-! ### Handing tokens over (R314, R329) -/

/-- Hand the token of output `n` over with a record (R314, R329). -/
def State.handOver (s : State) (n : Nat) : State :=
  let s := s.sendRecord (plainRec 0x0E s.keyEpoch n)
  let s := s.setTokens (clearBitAt (s.stat 0x9000 0x15) n)
  { s with saddle := { s.saddle with handovers := s.saddle.handovers.filter (fun h => decide (h.output ≠ n)) } }

/-- Whether an output has ended what its old holder still drives: no CAN frame in progress, FX not transmitting, no pulse active. -/
def State.handable (s : State) (n : Nat) : Bool :=
  if n < 24 then !(nth s.legacy.can n ⟨[], .none, 0, 0, 0, false⟩).queue.any CanEntry.started
  else if n < 32 then true
  else if n = outFx then decide (s.stat 0x7060 0x20 ≠ 2)
  else !(nth s.time.triggers (n - 33) ⟨0, false, false, false, false, 0⟩).active || decide (s.reg (0x2210 + (n - 33)) 1 = 3)

/-- Hand over what has ended (R329). -/
def State.settleHandovers (s : State) : State :=
  (s.saddle.handovers.filter (fun h => s.handable h.output)).foldl (fun s h => s.handOver h.output) s

/-- FX hands over at the first cycle that starts after the swap point (R329). -/
def State.settleFx (s : State) (start : Nat) : State :=
  (s.saddle.handovers.filter (fun h => decide (h.output = outFx) && decide ((s.timeSet s.time.working).ns h.since ≤ start))).foldl
    (fun s h => s.handOver h.output) s

/-! ### Buffer use, lag and readiness -/

/-- Octets of the active member's journal buffer in use: records not yet sent, and class J cells not yet sent (R313). -/
def State.journalUse (s : State) : Nat :=
  s.saddle.outbox.foldl (fun a r => a + (recBytes r).length) 0 + 32 * (s.cellClass 1).out.length

/-- Octets of the standby's receive buffer in use (R313). -/
def State.inboxUse (s : State) : Nat := s.saddle.inbox.foldl (fun a h => a + (recBytes h.rec_).length) 0

/-- The replay lag (R312): of the latest epoch that this standby released, or longer while the next one waits. -/
def State.replayLag (s : State) : Nat :=
  if s.saddle.role = .standby then max (s.stat 0x9000 0x17) (s.time.orderNs - (s.saddle.released + 2) * 32)
  else s.stat 0x9000 0x17

/-- Whether the standby is ready (R312): on the standby by its lag, on the active member by the epochs it has acknowledged. -/
def State.pairReady (s : State) : Bool :=
  if s.saddle.role = .standby then decide (s.replayLag ≤ 4000)
  else decide (s.saddle.role = .active) && s.saddle.journaling && s.linkSync
    && decide (s.time.orderNs ≤ (s.saddle.acked + 2) * 32 + 4000)

/-! ### Pair signals (R299, R316, R320) -/

/-- Whether the Elnar path has been heard in the last `d` raw ticks. -/
def State.elnarHeard (s : State) (d : Nat) : Bool := match s.saddle.heardElnar with
  | some r => decide (s.time.raw < r + d)
  | none => false

/-- Roles in which a live member drives ROLE_OUT high (R316). -/
def State.roleAllowsOut (s : State) : Bool :=
  decide (s.saddle.role = .solo) || decide (s.saddle.role = .active) ||
    (decide (s.saddle.role = .standby) && decide (s.stat 0x9000 0x15 ≠ 0))

/-- Whether ROLE_OUT's hold still allows it: the member is live, or ceased to be at most 500 ns ago by a lapse (R299). -/
def State.roleHold (s : State) : Bool :=
  s.live || (match s.saddle.lapsed with
    | some r => decide (s.time.raw < r + 500) && s.saddle.enabled && s.safety.fatalRaw.isNone
    | none => false)

/-- The level of ROLE_OUT (R316): while Lowland runs, the level it drives. -/
def State.roleOutHigh (s : State) : Bool :=
  if s.power.low ∨ s.power.phase = .wake then s.saddle.roleOut else s.roleHold && s.roleAllowsOut

/-- The pair signals (`9000h.13`). -/
def State.pairSignals (s : State) : Nat :=
  if !s.saddle.enabled then 0
  else natOfBool (s.elnarHeard 2000) + 2 * natOfBool s.saddle.pinHeard + 4 * natOfBool s.saddle.roleIn
    + 8 * natOfBool s.roleOutHigh + 16 * natOfBool s.pairReady + 32 * natOfBool s.saddle.authority

end Sys2Proof.Machine
end

