-- ==== Sys2Proof/Machine/TimeFamily.lean ====
section
/-! DEFINITION. Time base, time stamps and timed I/O: the commands of the fourth chapter (R81 to R107). -/

namespace Sys2Proof.Machine

open Sys2Proof

/-! ### Corrections -/

/-- Change what sets a set's scale at raw tick `raw`, re-basing the offset so that the reading stays (R86). -/
def TimeSet.rescale (raw : Nat) (f : TimeSet → TimeSet) (ts : TimeSet) : TimeSet :=
  let n := f ts
  { n with offset := ts.q32 raw - ((raw * n.scale / 256 : Nat) : Int), given := 0 }

/-- The slew term for a slew limit in ppm: nominal ⌊L × 2^40 / 10^6⌋, reduced at the lower bound of the scale, zero when
nothing remains (R88, R89). -/
def TimeSet.slewTermFor (limit : Nat) (ts : TimeSet) : Nat :=
  if ts.slewRem = 0 then 0
  else min (limit * 2 ^ 40 / 1000000)
    (if ts.fallMode then ((ts.fallback : Int) - 1098412116149).toNat else (ts.rate + 1099511627).toNat)

/-- Bring the slew term up to date. -/
def TimeSet.reslew (limit : Nat) (ts : TimeSet) : TimeSet := { ts with slewTerm := ts.slewTermFor limit }

/-- A step of `d` in 2^-32 ns: a positive one first cancels the slew remaining, a negative one is applied or added to the
slew remaining (R88, R89). -/
def TimeSet.stepBy (backward : Bool) (d : Int) (ts : TimeSet) : TimeSet :=
  if 0 ≤ d then
    let q := d.toNat * 256
    let c := min ts.slewRem q
    { ts with slewRem := ts.slewRem - c, offset := ts.offset + (((q - c) / 256 : Nat) : Int) }
  else if backward then { ts with offset := ts.offset + d }
  else { ts with slewRem := ts.slewRem + (-d).toNat * 256 }

/-- A correction at raw tick `raw` (R84 to R89): `limit` is the slew limit and `backward` whether steps back are
permitted. -/
def TimeSet.correct (raw limit : Nat) (backward : Bool) (x : Correction) (ts : TimeSet) : TimeSet :=
  match x.kind with
  | .rate => ts.rescale raw (fun u => ({ u with rate := x.val } : TimeSet).reslew limit)
  | .fallback => ts.rescale raw (fun u => ({ u with fallback := x.val.toNat } : TimeSet).reslew limit)
  | .mode => ts.rescale raw (fun u =>
      ({ u with fallMode := decide (x.val = 1), status := if x.val = 1 then 0 else u.status } : TimeSet).reslew limit)
  | .slewLimit => ts.rescale raw (fun u => u.reslew x.val.toNat)
  | .step => (ts.stepBy backward (x.val * 65536)).rescale raw (fun u => u.reslew limit)
  | .load => (ts.stepBy backward (x.val * 2 ^ 32 - ts.q32 raw)).rescale raw (fun u => u.reslew limit)

/-! ### Triggers -/

/-- The working clock in 2^-16 ns. -/
def State.workingQ16 (s : State) : Int := (s.timeSet s.time.working).q32 s.time.raw / 65536

/-- Leading edge of pulse `k` of trigger `n` in 2^-16 ns, output delay compensation applied (R104). -/
def State.pulseEdge (s : State) (n k : Nat) : Int :=
  ((time80Ns (s.reg (0x2210 + n) 2) * 65536 + k * s.reg (0x2210 + n) 3 : Nat) : Int)
    - sgnOf 16 (s.reg 0x2200 3) * 65536

/-- Trigger `n`. -/
def State.trigger (s : State) (n : Nat) : Trigger := nth s.time.triggers n ⟨0, false, false, false, false, 0⟩

/-- Change trigger `n`. -/
def State.modTrigger (s : State) (n : Nat) (f : Trigger → Trigger) : State :=
  { s with time := { s.time with triggers := modNth s.time.triggers n f } }

/-- Whether trigger `n` owns its pin and its mode is on (R103). -/
def State.triggerOn (s : State) (n : Nat) : Bool := bitOf (s.reg 0x2200 1) n && decide (s.reg (0x2210 + n) 1 ≠ 0)

/-- The pair's side of a leading edge: a follower keeps it for its record, an active member journals it, and a shared pulse
between failure and output enable is not produced but counted (R306, R309, R325). -/
def State.pairEdge (s : State) (n pulse : Nat) : State :=
  let key := s.lastKey (0x0600 + n)
  let s := if s.saddle.role = .takeover ∧ s.trigShared n then s.count32 (0x2210 + n) 7 else s
  if s.follows then s.keepOwn key (pulseTag pulse) (.trigger n pulse)
  else s.journalInput key 0x07 n (pulseTag pulse) false none

/-- A leading edge: the pin goes active and the edge is keyed under source 0x0600 + n (R104, R106). -/
def State.leadingEdge (s : State) (n : Nat) (late : Bool) : State :=
  let x := s.trigger n
  let mode := s.reg (0x2210 + n) 1
  let edge := (s.pulseEdge n x.nextPulse / 65536).toNat
  let s := ((s.issueKey (0x0600 + n)).countSeq (0x2210 + n) 6 32).modTrigger n (fun u => { u with
    active := true, nextPulse := u.nextPulse + 1, done := decide (mode ≠ 2), running := decide (mode ≠ 1), late := late,
    edgeNs := if late then s.workingNs else edge })
  let s := s.pairEdge n x.nextPulse
  if late then (s.orStat 0x2200 4 (1 <<< n)).raiseKeyed (s.lastKey (0x0600 + n)) 0x0204 0 else s

/-- The first pulse of a periodic trigger whose leading edge lies after `now` (2^-16 ns). -/
def firstPulseAfter (start : Int) (period : Nat) (now : Int) : Nat :=
  if now < start then 0 else if period = 0 then 0 else ((now - start) / (period : Int)).toNat + 1

/-- A trigger at the commit that applies it (R105): a periodic one begins with the first pulse after the working clock; a
single or level one that is past fires at once and is late. -/
def State.armTrigger (s : State) (n : Nat) : State :=
  let s := s.modTrigger n (fun _ => ⟨0, false, false, false, false, 0⟩)
  if s.triggerOn n then
    let start := s.pulseEdge n 0
    if s.reg (0x2210 + n) 1 = 2 then
      s.modTrigger n (fun u => { u with
        nextPulse := firstPulseAfter start (s.reg (0x2210 + n) 3) s.workingQ16, running := true })
    else if start < s.workingQ16 then s.leadingEdge n true
    else s.modTrigger n (fun u => { u with running := true })
  else s

/-- What a forward step from `before` (2^-16 ns) does to trigger `n`: passed pulses are omitted, a passed single pulse or
level fires late, and a passed trailing edge is given (R105). -/
def State.stepTrigger (before : Int) (s : State) (n : Nat) : State :=
  let x := s.trigger n
  let now := s.workingQ16
  let s := if x.active ∧ s.reg (0x2210 + n) 1 ≠ 3 ∧ ((x.edgeNs + s.reg (0x2210 + n) 4 : Nat) : Int) * 65536 ≤ now
    then s.modTrigger n (fun u => { u with active := false }) else s
  if !s.triggerOn n || x.done then s
  else if s.reg (0x2210 + n) 1 = 2 then
    let next := firstPulseAfter (s.pulseEdge n 0) (s.reg (0x2210 + n) 3) now
    if x.nextPulse < next ∧ before < s.pulseEdge n x.nextPulse then
      let m := next - x.nextPulse
      let s := (List.range (min m 1)).foldl (fun s _ => s.setStat (0x2210 + n) 7 (min 0xFFFFFFFF (s.stat (0x2210 + n) 7 + m))) s
      let s := ((s.issueKey (0x0600 + n)).modTrigger n (fun u => { u with nextPulse := next })).orStat 0x2200 4 (1 <<< n)
      s.raiseKeyed (s.lastKey (0x0600 + n)) 0x0204 m
    else s
  else if s.pulseEdge n 0 ≤ now then s.leadingEdge n true else s

/-- A forward step of the working clock (R30): order time steps with it, every ordering unit suspends release for 64 ns,
determinism bit 5 is set, and triggers act on the pulses passed. -/
def State.forwardStep (s : State) (before : Int) : State :=
  let s := { s with
    time := { s.time with orderNs := max s.time.orderNs s.workingNs, forwardStep := true, stepNs := s.workingNs },
    ord := { s.ord with units := s.ord.units.map (fun (u : SortBuffer) => { u with suspend := some (s.time.raw + 64) }) } }
  (List.range 16).foldl (State.stepTrigger before) (s.noteDeterminism 5)

/-- A backward step of the working clock: order time holds still until the synchronised time passes it (R30, R46). -/
def State.backwardStep (s : State) : State :=
  if s.workingNs < s.time.orderNs then
    ({ s with time := { s.time with held := true } } : State).noteDeterminism 4
  else s

/-- What follows when the working clock's reading changed by other than its rate. -/
def State.workingChanged (s : State) (before : Int) : State :=
  if before < s.workingQ16 then s.forwardStep before
  else if s.workingQ16 < before then s.backwardStep else s

/-- Apply one due correction at the present raw tick (R85). -/
def State.applyCorrection (s : State) (x : Correction) : State :=
  let before := s.workingQ16
  let s1 := s.modSet x.set (TimeSet.correct s.time.raw (s.reg 0x2000 3) (decide (s.reg 0x2000 2 = 1)) x)
  let s2 := if (s1.timeSet x.set).slewRem = 0 then s1 else s1.orStat 0x2000 7 (2 <<< x.set)
  if x.set = s.time.working then
    match x.kind with
    | .step => s2.workingChanged before
    | .load => s2.workingChanged before
    | _ => s2
  else s2

/-- Queue a correction of set `n` under the key of the request just keyed. -/
def State.schedule (s : State) (c : Caller) (n : Nat) (kind : CorrKind) (v : Int) : State :=
  { s with time := { s.time with
    corrections := insertByKey Correction.key ⟨n, kind, v, s.lastKey (ifaceSource c.iface)⟩ s.time.corrections } }

/-- Negative steps accepted for a set and not yet applied, in 2^-16 ns (R83). -/
def State.stepsAhead (s : State) (n : Nat) : Int :=
  s.time.corrections.foldl (fun a x => if x.set = n ∧ x.kind = .step ∧ x.val < 0 then a - x.val else a) 0

/-- Whether a step is refused because it would take the set's time below zero (R83). -/
def State.stepStatus (s : State) (n : Nat) (v : Nat) : Nat :=
  let d := sgnOf 64 v
  if d < 0 ∧ s.reg 0x2000 2 = 1 ∧ (s.timeSet n).q32 s.time.raw / 65536 - s.stepsAhead n < -d then 5 else 0

/-- The request of execRateWrite. -/
def State.reqRateWrite (s : State) (c : Caller) (n : Nat) (data : Bytes) : State :=
  s.dictWrite c 0x2001 (n + 1) data noExtra
    (fun v s => s.schedule c n .rate (sgnOf 32 v))

/-- RATE_WRITE: a rate of `2001h`, applied at r0 (R84, R85). -/
def execRateWrite (t : Nat) (c : Caller) (n : Nat) (data : Bytes) (s : State) : Out :=
  happenBy c t (decide (n < 4)) s (fun s => s.reqRateWrite c n data)

/-- The request of execStepWrite. -/
def State.reqStepWrite (s : State) (c : Caller) (n : Nat) (data : Bytes) : State :=
  s.dictWrite c 0x2002 (n + 1) data (fun s v => s.stepStatus n v)
    (fun v s => s.schedule c n .step (sgnOf 64 v))

/-- STEP_WRITE: a step of `2002h.01`…`04` (R83, R85, R88). -/
def execStepWrite (t : Nat) (c : Caller) (n : Nat) (data : Bytes) (s : State) : Out :=
  happenBy c t (decide (n < 4)) s (fun s => s.reqStepWrite c n data)

/-- The request of execLoadWrite. -/
def State.reqLoadWrite (s : State) (c : Caller) (n : Nat) (data : Bytes) : State :=
  s.dictWrite c 0x2002 (n + 5) data noExtra
    (fun v s => s.schedule c n .load (time80Ns v : Int))

/-- LOAD_WRITE: a load of `2002h.05`…`08` (R85, R88). -/
def execLoadWrite (t : Nat) (c : Caller) (n : Nat) (data : Bytes) (s : State) : Out :=
  happenBy c t (decide (n < 4)) s (fun s => s.reqLoadWrite c n data)

/-- The request of execFallbackIncrementWrite. -/
def State.reqFallbackIncrementWrite (s : State) (c : Caller) (n : Nat) (data : Bytes) : State :=
  s.dictWrite c 0x2003 (n + 1) data noExtra
    (fun v s => s.schedule c n .fallback (v : Int))

/-- FALLBACK_INCREMENT_WRITE: an increment of `2003h` (R85, R87). -/
def execFallbackIncrementWrite (t : Nat) (c : Caller) (n : Nat) (data : Bytes) (s : State) : Out :=
  happenBy c t (decide (n < 4)) s (fun s => s.reqFallbackIncrementWrite c n data)

/-- Whether a correction of set `n` is due: order time has reached boundary k + 4 (R85). -/
def State.correctionDue (s : State) (n : Nat) (x : Correction) : Bool :=
  decide (x.set = n) && decide ((x.key.epoch + 4) * 32 ≤ s.time.orderNs)

/-- TIME_CORRECTION_APPLY: at a raw tick that is a multiple of 256, every due correction of the set, in order-key order. -/
def applyCorrections (n : Nat) (s : State) : State :=
  if s.time.raw % 256 = 0 then
    let due := s.time.corrections.filter (fun x => s.correctionDue n x)
    let rest := s.time.corrections.filter (fun x => !s.correctionDue n x)
    due.foldl State.applyCorrection { s with time := { s.time with corrections := rest } }
  else s

/-- TIME_CORRECTION_APPLY (R85). -/
def execTimeCorrectionApply (t n : Nat) (s : State) : Out := happen t (decide (n < 4)) s (applyCorrections n)

/-- SLEW_END: nothing remains, and at a multiple of 256 ticks the slew term returns to zero (R88). -/
def slewEnd (n : Nat) (s : State) : State :=
  if s.time.raw % 256 = 0 ∧ (s.timeSet n).slewRem = 0 then
    s.modSet n (TimeSet.rescale s.time.raw (fun u => { u with slewTerm := 0 }))
  else s

/-- SLEW_END (R88). -/
def execSlewEnd (t n : Nat) (s : State) : Out := happen t (decide (n < 4)) s (slewEnd n)

/-! ### References and holdover -/

/-- The time PLL switches to REFCLK (R82). -/
def timerefFault (s : State) : State :=
  if s.time.onRefclk then s
  else ((({ s with time := { s.time with onRefclk := true } } : State).orStat 0x2000 7 1).raiseFault 51 true).raiseEvent
    0x0810 0x0201 0

/-- TIMEREF_FAULT (R82). -/
def execTimerefFault (t : Nat) (s : State) : Out := happen t true s timerefFault

/-- The time PLL returns to TIMEREF (R82). -/
def timerefRestored (s : State) : State := ({ s with time := { s.time with onRefclk := false } } : State).clearCause 51

/-- TIMEREF_RESTORED (R82). -/
def execTimerefRestored (t : Nat) (s : State) : Out := happen t true s timerefRestored

/-- Set `n` enters holdover (R91). -/
def grandmasterLost (n : Nat) (s : State) : State :=
  if (s.timeSet n).fallMode ∨ (s.timeSet n).status ≠ 1 then s
  else
    let s := s.modSet n (fun u => { u with status := 2, holdRaw := s.time.raw, holdNs := 0 })
    if n = s.time.working then { s with time := { s.time with holdSignalled := false } } else s

/-- GRANDMASTER_LOST (R91). -/
def execGrandmasterLost (t n : Nat) (s : State) : Out := happen t (decide (n < 4)) s (grandmasterLost n)

/-- Holdover of the working clock beyond its limit: the fault unit and one event (R91). -/
def holdoverLimitExceeded (s : State) : State :=
  let ts := s.timeSet s.time.working
  let limit := s.reg 0x2004 9
  if ts.status = 2 ∧ limit ≠ 0 ∧ limit * 1000000 < s.time.raw - ts.holdRaw ∧ ¬ s.time.holdSignalled then
    (({ s with time := { s.time with holdSignalled := true } } : State).raiseFault 58 true).raiseEvent 0x0810 0x0202
      s.time.working
  else s

/-- HOLDOVER_LIMIT_EXCEEDED (R91). -/
def execHoldoverLimitExceeded (t : Nat) (s : State) : Out := happen t true s holdoverLimitExceeded

/-- A grandmaster qualifies and LP1 applies its first correction: within the step threshold by rate, else by a step (R92).
`offset` is in 2^-16 ns. -/
def holdoverEnd (n gm : Nat) (offset ratio : Int) (s : State) : State :=
  if (s.timeSet n).fallMode then s
  else
    let s := s.modSet n (fun u => { u with
      holdNs := if u.status = 2 then s.time.raw - u.holdRaw else u.holdNs, status := 1 })
    let s := if n = s.time.working then s.clearCause 58 else s
    let s := ((s.setStat (0x2100 + n) 8 gm).setStat (0x2100 + n) 9 (encSgn 64 offset)).setStat (0x2100 + n) 0x0A (encSgn 32 ratio)
    let mag := offset.natAbs / 65536
    let s := s.setStat 0xC300 (0x31 + n) (max (s.stat 0xC300 (0x31 + n)) (min mag 0xFFFFFFFE))
    if s.reg (0x2100 + n) 0x0B * 65536 < offset.natAbs then
      let s := s.issueKey 0x0302
      { s with time := { s.time with
        corrections := insertByKey Correction.key ⟨n, .step, offset, s.lastKey 0x0302⟩ s.time.corrections } }
    else s

/-- HOLDOVER_END (R92). -/
def execHoldoverEnd (t n gm : Nat) (offset ratio : Int) (s : State) : Out :=
  happen t (decide (n < 4)) s (holdoverEnd n gm offset ratio)

/-- The residence time of a regenerated Sync added to its Follow_Up, in 2^-16 ns, saturating (R94). `ratio` is the rate
ratio less one in 2^-40. -/
def syncCorrection (rxRaw txRaw : Nat) (ratio correction : Int) : Int :=
  clipInt (correction + ((txRaw : Int) - (rxRaw : Int)) * ((2 ^ 40 : Int) + ratio) / 2 ^ 24)
    (-9223372036854775808) 9223372036854775807

/-- SYNC_TX_STAMP: the Follow_Up is corrected and released (R94). -/
def execSyncTxStamp (t n port rxRaw txRaw : Nat) (ratio correction : Int) (s : State) : Out :=
  happen t (decide (n < 4) && decide (port < 28)) s (fun s => { s with time := { s.time with
    followUps := s.time.followUps ++ [⟨n, port, syncCorrection rxRaw txRaw ratio correction, true⟩] } })

/-! ### Transmit time stamps -/

/-- The time of raw tick `raw` in a stamp domain as TIME80, and the status bits of the set (Table 4.2). -/
def State.stampTime (s : State) (domain raw : Nat) : Nat × Nat :=
  if domain < 4 then
    let ts := s.timeSet domain
    (time80Of (ts.ns raw), if ts.status = 2 then 2 else if ts.status = 1 ∧ ¬ ts.fallMode then 0 else 4)
  else (time80Of raw, 0)

/-- Enter a stamp into a port's queue; a full queue discards the new entry and counts it (R98). -/
def State.pushStamp (s : State) (port : Nat) (x : TxStamp) : State :=
  if port < 28 then
    if (nth s.time.txStamps port []).length < 16 then
      { s with time := { s.time with txStamps := modNth s.time.txStamps port (fun q => q ++ [x]) } }
    else (s.count32Own (0x3140 + port) 3 (0x3140 + port) 4 1).orStat (0x3140 + port) 4 1
  else s

/-- The 16 bytes of a queue entry (Table 4.2). -/
def txStampNat (x : TxStamp) : Nat := x.tag % 65536 + x.time * 2 ^ 16 + x.domain * 2 ^ 96 + x.status * 2 ^ 104

/-- What a read of a stamp queue returns: the oldest entry, or status bit 7 (R97). -/
def txStampReply : List TxStamp → Nat
  | [] => 0x80 * 2 ^ 104
  | x :: _ => txStampNat x

/-- The request of execTxStampRead. -/
def State.reqTxStampRead (s : State) (c : Caller) (port : Nat) : State :=
  s.dictRead c (0x3140 + port) 1 noReadExtra
    (fun s => txStampReply (nth s.time.txStamps port [])) 16
    (fun s => { s with time := { s.time with txStamps := modNth s.time.txStamps port (fun q => q.drop 1) } })

/-- TX_STAMP_READ: the oldest entry is removed and returned; an empty queue returns status bit 7 (R97). -/
def execTxStampRead (t : Nat) (c : Caller) (port : Nat) (s : State) : Out :=
  happenBy c t (decide (port < 28)) s (fun s => s.reqTxStampRead c port)

/-! ### Timed I/O -/

/-- TRIGGER_LEADING_EDGE: the working clock has reached the next pulse's edge (R104). -/
def triggerLeading (n : Nat) (s : State) : State :=
  if s.triggerOn n ∧ (s.trigger n).done = false ∧ s.pulseEdge n (s.trigger n).nextPulse ≤ s.workingQ16 then
    s.leadingEdge n false
  else s

/-- TRIGGER_LEADING_EDGE (R104). -/
def execTriggerLeadingEdge (t n : Nat) (s : State) : Out := happen t (decide (n < 16)) s (triggerLeading n)

/-- TRIGGER_TRAILING_EDGE: the pulse width has passed (R104). -/
def triggerTrailing (n : Nat) (s : State) : State :=
  if (s.trigger n).active ∧ s.reg (0x2210 + n) 1 ≠ 3 ∧ (s.trigger n).edgeNs + s.reg (0x2210 + n) 4 ≤ s.workingNs then
    (s.modTrigger n (fun u => { u with active := false })).settleHandovers
  else s

/-- TRIGGER_TRAILING_EDGE (R104). -/
def execTriggerTrailingEdge (t n : Nat) (s : State) : Out := happen t (decide (n < 16)) s (triggerTrailing n)

/-- Capture input `n`. -/
def State.capture (s : State) (n : Nat) : CaptureIn := nth s.time.captures n ⟨[], none⟩

/-- Change capture input `n`. -/
def State.modCapture (s : State) (n : Nat) (f : CaptureIn → CaptureIn) : State :=
  { s with time := { s.time with captures := modNth s.time.captures n f } }

/-- A capture that found no room, or an edge merged with the one before (R107). -/
def State.captureOverflow (s : State) (n : Nat) : State := (s.count32 (0x2220 + n) 5).orStat 0x2200 4 (65536 <<< n)

/-- Whether edge select `sel` takes an edge (Table 4.6). -/
def edgeSelected (sel : Nat) (falling : Bool) : Bool := bitOf sel (if falling then 1 else 0)

/-- CAPTURE_EDGE: filter, merge, stamp, key, queue, and freeze the ledger when set so (R107). `width` is the pulse's
width in ns. -/
def captureEdge (n width : Nat) (falling : Bool) (s : State) : State :=
  if ¬ bitOf (s.reg 0x2200 2) n ∨ ¬ edgeSelected (s.reg (0x2220 + n) 1) falling ∨ width < s.reg (0x2220 + n) 2 then s
  else if s.follows then s.withhold
  else if (match (s.capture n).lastEdge with | some e => decide (s.time.raw < e + 16) | none => false) then
    s.captureOverflow n
  else
    let ts := s.timeSet s.time.working
    let stamp : Capture := ⟨s.workingNs - s.reg (0x2220 + n) 2, falling, decide (ts.status = 2),
      decide (ts.status = 0) || ts.fallMode⟩
    let s := (s.issueKey (0x0610 + n)).modCapture n (fun u => { u with lastEdge := some s.time.raw })
    let s := s.journalInput (s.lastKey (0x0610 + n)) 0x06 n 0 false
      (some (toBE 10 (time80Of stamp.ns) ++ toBE 1 (natOfBool falling)))
    let s := if (s.capture n).queue.length < 8 then s.modCapture n (fun u => { u with queue := u.queue ++ [stamp] })
      else s.captureOverflow n
    if s.reg (0x2220 + n) 6 = 1 ∧ s.journal.trigger.isNone then
      { s with journal := { s.journal with trigger := some (2, s.lastKey (0x0610 + n)) } }
    else s

/-- CAPTURE_EDGE (R107). -/
def execCaptureEdge (t n width : Nat) (falling : Bool) (s : State) : Out :=
  happen t (decide (n < 16)) s (captureEdge n width falling)

/-- The 12 bytes of a capture (Table 4.6). -/
def captureNat (x : Capture) : Nat :=
  time80Of x.ns + natOfBool x.falling * 2 ^ 80 + (natOfBool x.holdover + 2 * natOfBool x.unsync) * 2 ^ 88

/-- What a read of a capture queue returns: the oldest capture, or edge bit 7 (R107). -/
def captureReply : List Capture → Nat
  | [] => 0x80 * 2 ^ 80
  | x :: _ => captureNat x

/-- The request of execCaptureRead. -/
def State.reqCaptureRead (s : State) (c : Caller) (n : Nat) : State :=
  s.dictRead c (0x2220 + n) 3 noReadExtra
    (fun s => captureReply (s.capture n).queue) 12
    (fun s => s.modCapture n (fun u => { u with queue := u.queue.drop 1 }))

/-- CAPTURE_READ: the oldest capture is removed and returned; an empty queue returns edge bit 7 (R107). -/
def execCaptureRead (t : Nat) (c : Caller) (n : Nat) (s : State) : Out :=
  happenBy c t (decide (n < 16)) s (fun s => s.reqCaptureRead c n)

/-! ### Order time -/

/-- ORDER_TIME_RESUME: the synchronised time has passed the held order time; bit 4 stays for two boundaries (Table 2.7). -/
def orderTimeResume (s : State) : State :=
  if s.time.held ∧ s.time.orderNs ≤ s.workingNs then
    { s with time := { s.time with held := false, holdBoundary := s.time.orderNs / 32 + 2 } }
  else s

/-- ORDER_TIME_RESUME (R30). -/
def execOrderTimeResume (t : Nat) (s : State) : Out := happen t true s orderTimeResume

/-! ### Clocks -/

/-- Offset of a measured count from its nominal in ppb (R449). -/
def clockOffset (count e : Nat) : Int :=
  if e = 0 then 0 else clipInt (Int.tdiv (((count : Int) - (e : Int)) * 1000000000) (e : Int)) (-2147483647) 2147483647

/-- CLOCK_GATE_END: the offsets of Table 20.4, bit 10 of the status, and the offset of REFCLK from the grandmaster (R449 to
R451). `crystal` is the count of REFCLK cycles over 32,768 crystal cycles, when a measurement of it ended. -/
def clockGateEnd (timeref sdref pcie rc : Nat) (crystal : Option Nat) (s : State) : State :=
  let w := s.reg 0xC200 5
  let off1 := clockOffset timeref (25000 * w)
  let off2 := clockOffset sdref (156250 * w)
  let s := (((s.setStat 0xC200 0x10 (encSgn 32 off1)).setStat 0xC200 0x11 (encSgn 32 off2)).setStat 0xC200 0x12
    (encSgn 32 (clockOffset pcie (100000 * w)))).setStat 0xC200 0x13 (encSgn 32 (clockOffset rc (16000 * w)))
  let s := match crystal with
    | some c => s.setStat 0xC200 0x14 (if c = 0 then 0 else
        encSgn 32 (clipInt (Int.tdiv (((25000000 : Int) - (c : Int)) * 1000000000) (c : Int)) (-2147483647) 2147483647))
    | none => s
  let beyond := decide (390000 < off2.natAbs)
  let s := s.setStat 0xC200 2 (putBitAt (s.stat 0xC200 2) 10 beyond)
  let s := if beyond then s.orStat 0xC200 3 (1 <<< 10) else s
  let ts := s.timeSet s.time.working
  let tm := -(Int.tdiv (ts.rate * 1000000000) 1099511627776)
  let s := s.setStat 0xC200 0x15 (if ts.status = 1 ∧ ¬ ts.fallMode then
      encSgn 32 (if s.time.onRefclk then tm else tm - off1) else encSgn 32 (-2147483648))
  s.countSeq 0xC200 0x16 32

/-- CLOCK_GATE_END (R449). -/
def execClockGateEnd (t timeref sdref pcie rc : Nat) (crystal : Option Nat) (s : State) : Out :=
  happen t true s (clockGateEnd timeref sdref pcie rc crystal)

/-- CRYSTAL_START_TIMEOUT: no oscillation within 1 s (R452). -/
def crystalStartTimeout (s : State) : State :=
  if s.reg 0xC200 4 = 1 ∧ ¬ bitOf (s.stat 0xC200 2) 9 then
    (s.setStat 0xC200 2 (setBitAt (s.stat 0xC200 2) 11)).orStat 0xC200 3 (1 <<< 11)
  else s

/-- CRYSTAL_START_TIMEOUT (R452). -/
def execCrystalStartTimeout (t : Nat) (s : State) : Out := happen t true s crystalStartTimeout

end Sys2Proof.Machine
end

