-- ==== Sys2Proof/Machine/Basin.lean ====
section
/-! DEFINITION. Ports as the switch core sees them, cells, copies and admission, edited lengths, the guard band, credits
(R20 to R23, R185 to R203, R230, R239 to R241, R437). -/

namespace Sys2Proof.Machine

open Sys2Proof

/-! ### Links and rates -/

/-- Port `p`. -/
def State.port (s : State) (p : Nat) : Port := nth s.ports p Port.reset

/-- Change port `p`. -/
def State.modPort (s : State) (p : Nat) (f : Port → Port) : State := { s with ports := modNth s.ports p f }

/-- Whether port `p` is enabled, on an SP port with a node ID (R110, R120), and its home includes this member (Table 12.7). -/
def State.portEnabled (s : State) (p : Nat) : Bool :=
  decide (s.reg (0x3000 + p) 1 = 1) && (decide (28 ≤ p) || s.homeHere p) && !(isSP p && decide (s.reg (0x7080 + p - 20) 1 = 0xFF))
    && !decide (s.power.phase = .entering)

/-- When an internal port is UP (Table 19.2). -/
def State.internalUp (s : State) (p : Nat) : Bool :=
  if p = 28 then s.host.linkUp
  else if p = 29 then decide (s.stat 0xA000 1 ≠ 0)
  else if p = 30 then decide (s.reg 0x8000 1 = 1) && decide (s.stat 0x8300 1 ≠ 0)
  else decide (s.stat 0x9100 3 ≠ 0)

/-- Link state (Table 5.2): 0 DISABLED, 1 DOWN, 2 TRAINING, 3 UP, 4 SLEEP, 5 DIAGNOSTIC. -/
def State.linkState (s : State) (p : Nat) : Nat :=
  if isInternal p then (if ¬ s.portEnabled p then 0 else if s.internalUp p then 3 else 1)
  else
    let v := s.stat (0x3040 + p) 1
    if v = 5 then 5 else if ¬ s.portEnabled p then 0 else if v = 0 then 1 else v

/-- Whether port `p` is UP. -/
def State.portUp (s : State) (p : Nat) : Bool := decide (s.linkState p = 3)

/-- Speed of a mode in Mb/s (Table 5.1). -/
def modeMbps (m : Nat) : Nat :=
  if m ≤ 1 then 25000 else if m = 2 then 10000 else if m = 3 then 5000 else if m = 4 then 2500
  else if m ≤ 6 then 1000 else if m = 0x10 then 1000 else if m = 0x11 then 100 else if m = 0x20 then 10 else 0

/-- Speed of port `p` in Mb/s: its mode's, or that of Table 1.3. -/
def State.portMbps (s : State) (p : Nat) : Nat :=
  if isInternal p then nth [50000, 10000, 25000, 25000] (p - 28) 0 else modeMbps (s.reg (0x3000 + p) 2)

/-- Rate of port `p` in bit/s (R230). -/
def State.portRate (s : State) (p : Nat) : Nat := s.portMbps p * 1000000

/-- Parameter `x` of queue `q` of port `p` for key epoch `e` (Tables 8.9, 9.6). -/
def State.qparamAt (s : State) (e p q x : Nat) : Nat := s.regAt e (dkey (0x3400 + p) (q * 16 + x))

/-- The parameter for an input keyed now. -/
def State.qparam (s : State) (p q x : Nat) : Nat := s.qparamAt s.keyEpoch p q x

/-! ### Cells (R187 to R190) -/

/-- Cells of a frame of `n` bytes with its metadata (R189, R199). -/
def cellsOf (n : Nat) : Nat := (n + 32 + 127) / 128

/-- Frame banks F (R185). -/
def State.frameBanks (s : State) : Nat := s.stat 0x4000 1
/-- Table banks T. -/
def State.tableBanks (s : State) : Nat := s.stat 0x4000 2
/-- Ledger banks L. -/
def State.ledgerBanks (s : State) : Nat := s.stat 0x4000 3

/-- Whether a bank is in service: neither retiring nor retired. -/
def State.bankServes (s : State) (b : Nat) : Bool := !decide (b ∈ s.basin.retiring) && !decide (b ∈ s.basin.retired)

/-- Frame cells in service (`4000h.04`). -/
def State.cellsInService (s : State) : Nat :=
  8192 * ((List.range s.frameBanks).filter (fun b => s.bankServes b)).length

/-- Frame banks of a lane that are in service (R20). -/
def State.laneBanks (s : State) (l : Nat) : List Nat :=
  (List.range s.frameBanks).filter (fun b => decide (b % 8 = l) && s.bankServes b)

/-- Pointers of the cells that are not free: those of frames, and leaked ones. -/
def State.cellsUsed (s : State) : List Nat :=
  s.basin.frames.flatMap Frame.cells ++ s.basin.leaked.map Prod.fst

/-- Free cells (`4010h.05`). -/
def State.freeCells (s : State) : Nat :=
  s.cellsInService - (s.cellsUsed.filter (fun x => s.bankServes (x / 8192))).length

/-- The lowest free cell of a lane. -/
def laneFree (banks used : List Nat) : Option Nat :=
  ((List.range (min (8192 * banks.length) (used.length + 1))).map (fun i => nth banks (i / 8192) 0 * 8192 + i % 8192)).find?
    (fun x => decide (x ∉ used))

/-- Lane of write grant `j` of a port from epoch `e` on: two grants an epoch (R21). -/
def grantLane (p e j : Nat) : Nat := (p % 8 + 16 - (e + j / 2) % 8 - 4 * (j % 2)) % 8

/-- Cells for up to `n` writes of port `p`, one a grant, unused where the lane has no free cell (R21, R22). -/
def takeCells (banks : Nat → List Nat) (p e : Nat) : Nat → Nat → Nat → List Nat → List Nat → List Nat
  | 0, _, _, _, got => got
  | fuel + 1, j, n, used, got =>
    if n = 0 then got
    else match laneFree (banks (grantLane p e j)) used with
      | none => takeCells banks p e fuel (j + 1) n used got
      | some x => takeCells banks p e fuel (j + 1) (n - 1) (x :: used) (got ++ [x])

/-- A stored frame by its number. -/
def State.frame (s : State) (id : Nat) : Option Frame := s.basin.frames.find? (fun f => decide (f.id = id))

/-- Change a stored frame. -/
def State.modFrame (s : State) (id : Nat) (f : Frame → Frame) : State :=
  { s with basin := { s.basin with frames := modWhere (fun (x : Frame) => decide (x.id = id)) f s.basin.frames } }

/-- Remove a frame: its cells return to their free lists, or leak when its chain is corrupt (R190, R211). -/
def State.removeFrame (s : State) (id : Nat) : State :=
  let leak := match s.frame id with
    | some f => if f.corrupt then f.cells.map (fun c => (c, 0)) else []
    | none => []
  { s with basin := { s.basin with
      frames := s.basin.frames.filter (fun f => decide (f.id ≠ id)), leaked := s.basin.leaked ++ leak } }

/-- Write up to `n` more cells of a frame; those that find no free cell stay to be written. -/
def State.writeCells (s : State) (id n : Nat) : State :=
  match s.frame id with
  | none => s
  | some f =>
    let got := takeCells s.laneBanks f.port (s.time.orderNs / 32) (8 * n + 16) 0 n s.cellsUsed []
    s.modFrame id (fun f => { f with cells := f.cells ++ got, need := n - got.length })

/-- Ingress buffer occupancy of a port: bytes of frames that wait for a write grant (R124, R127). -/
def State.ingressBytes (s : State) (p : Nat) : Nat :=
  s.basin.frames.foldl (fun a f => if f.port = p then a + 128 * f.need else a) 0

/-- Frames that wait for cells take those that have become free. -/
def State.writeWaiting (s : State) : State :=
  s.basin.frames.foldl (fun s f => if f.need = 0 then s else s.writeCells f.id f.need) s

/-! ### Queues -/

/-- Transmitter of port `p`. -/
def State.ptx (s : State) (p : Nat) : PortTx := nth s.basin.tx p ⟨none, none, false, none⟩

/-- Change the transmitter of port `p`. -/
def State.modTx (s : State) (p : Nat) (f : PortTx → PortTx) : State :=
  { s with basin := { s.basin with tx := modNth s.basin.tx p f } }

/-- Whether a copy has begun: it is in transmission or preempted. -/
def PortTx.begun (x : PortTx) (id : Nat) : Bool :=
  (match x.cur with | some t => decide (t.copy.id = id) | none => false) ||
    (match x.held with | some t => decide (t.copy.id = id) | none => false)

/-- Whether a copy has begun. -/
def State.begun (s : State) (c : Copy) : Bool := (s.ptx c.port).begun c.id

/-- The copies that wait in queue `q` of port `p`, head first. -/
def State.queueOf (s : State) (p q : Nat) : List Copy :=
  s.basin.copies.filter (fun c => decide (c.port = p) && decide (c.queue = q) && !s.begun c)

/-- Cells charged to a queue (R199). -/
def State.occ (s : State) (p q : Nat) : Nat :=
  s.basin.copies.foldl (fun a c => if c.port = p ∧ c.queue = q then a + c.cells else a) 0

/-- Sum of the 256 reserves for key epoch `e`. -/
def State.reserveSum (s : State) (e : Nat) : Nat :=
  let isRes := fun (k : Nat) => decide (dkey 0x3400 0 ≤ k) && decide (k < dkey 0x3420 0) && decide (k % 16 = 8)
  let keys := distinct ((s.dict.settings.map Setting.key ++ s.dict.image.entries.map Prod.fst).filter isRes)
  (keys.foldl (fun a k => a + s.regAt e k) (64 * (256 - keys.length)))

/-- The shared pool's size (`4010h.03`). -/
def State.sharedSize (s : State) (e : Nat) : Nat := s.cellsInService - s.reserveSum e

/-- The shared pool in use: what queues hold beyond their reserves (`4010h.04`). -/
def State.sharedUsed (s : State) (e : Nat) : Nat :=
  (distinct (s.basin.copies.map (fun c => c.port * 8 + c.queue))).foldl
    (fun a k => a + (s.occ (k / 8) (k % 8) - s.qparamAt e (k / 8) (k % 8) 8)) 0

/-- Whether a copy of `n` cells and a colour is admitted to a queue (R199). -/
def State.admits (s : State) (e p q n col : Nat) : Bool :=
  let o := s.occ p q
  let rsv := s.qparamAt e p q 8
  let size := s.sharedSize e
  let cap := if col = 0 then size
    else if col = 1 then size * s.regAt e (dkey 0x4010 1) / 256
    else size * s.regAt e (dkey 0x4010 2) / 256
  decide (o + n ≤ s.qparamAt e p q 9) && decide (s.sharedUsed e + ((o + n - rsv) - (o - rsv)) ≤ cap)

/-! ### Editing (R194, R226) and the length as sent (R230) -/

/-- The VLAN entry of a VID for key epoch `e`, if it is valid (R192). -/
def State.vlan (s : State) (e vid : Nat) : Option (List Nat) :=
  match s.rowAt e 0x4200 vid with
  | some v => if bitOf (rowSub v 0x0A) 0 then some v else none
  | none => none

/-- Whether bytes carry an outer VLAN tag. -/
def outerTag (b : Bytes) : Bool := decide (beAt b 12 2 = 0x8100) || decide (beAt b 12 2 = 0x88A8)

/-- Offset of the EtherType behind at most two VLAN tags. -/
def typeOffset (b : Bytes) : Nat :=
  if outerTag b then (if beAt b 16 2 = 0x8100 ∨ beAt b 16 2 = 0x88A8 then 20 else 16) else 12

/-- Whether a copy is edited at egress: outcome 0 or 1 to ports 0…27 and 31. -/
def Frame.edited (f : Frame) (kind : CopyKind) (p : Nat) : Bool :=
  decide (kind = .plain) && decide (actOutcome f.action ≤ 1) && (decide (p ≤ 27) || decide (p = 31))

/-- VLAN editing: the outer tag is removed on an untagged port, else present with the VID (R194). -/
def editVlan (untagged : Bool) (vid cls : Nat) (b : Bytes) : Bytes :=
  if untagged then (if outerTag b then b.take 12 ++ b.drop 16 else b)
  else if outerTag b then b.take 14 ++ toBE 2 (beAt b 14 2 / 4096 * 4096 + vid) ++ b.drop 16
  else b.take 12 ++ [0x81, 0x00] ++ toBE 2 (cls * 8192 + vid) ++ b.drop 12

/-- R-TAG editing: removed where `out`, inserted with a sequence where `seq` (R226). -/
def editRtag (out : Bool) (seq : Option Nat) (b : Bytes) : Bytes :=
  let o := typeOffset b
  let b := if out ∧ beAt b o 2 = 0xF1C1 then b.take o ++ b.drop (o + 6) else b
  match seq with
  | some n => b.take o ++ [0xF1, 0xC1, 0, 0] ++ toBE 2 n ++ b.drop o
  | none => b

/-- Whether port `p` is in the untagged mask of the frame's VLAN. -/
def State.untagged (s : State) (f : Frame) (p : Nat) : Bool :=
  match s.vlan f.key.epoch f.vid with
  | some v => bitOf (rowSub v 8) p
  | none => false

/-- A frame's bytes with the editing of a port. -/
def State.editFor (s : State) (f : Frame) (p : Nat) (b : Bytes) : Bytes :=
  editRtag (bitOf f.tagOut p) (if bitOf f.tagIn p then f.seq else none) (editVlan (s.untagged f p) f.vid f.cls b)

/-- What VLAN and R-TAG editing adds to a frame's length for a port. -/
def State.editDelta (s : State) (f : Frame) (p : Nat) : Int :=
  let tagged := outerTag f.bytes
  let v : Int := if s.untagged f p then (if tagged then -4 else 0) else (if tagged then 0 else 4)
  let rt : Int := if bitOf f.tagOut p ∧ beAt f.bytes (typeOffset f.bytes) 2 = 0xF1C1 then -6 else 0
  let ri : Int := if bitOf f.tagIn p ∧ f.seq.isSome then 6 else 0
  v + rt + ri

/-- A frame of the uncontrolled port: MKA, gPTP or MAC control (R131). -/
def uncontrolled (b : Bytes) : Bool := decide (beAt b (typeOffset b) 2 ∈ [0x888E, 0x88F7, 0x8808])

/-- Whether port `p` has its SecY on. -/
def State.secyOn (s : State) (p : Nat) : Bool := decide (p < 20) && decide (s.reg (0x3100 + p) 1 = 1)

/-- What MACsec protection adds (R130). -/
def State.secDelta (s : State) (f : Frame) (p : Nat) : Nat :=
  if s.secyOn p && !uncontrolled f.bytes then (if s.reg (0x3100 + p) 8 = 1 then 32 else 24) else 0

/-- A mirror session's truncation of a length (R213). -/
def truncLen (t len : Nat) : Nat := if t = 0 then len else min len t

/-- Length of a copy as it will be sent, for a frame length (R230). -/
def State.sentLen (s : State) (f : Frame) (kind : CopyKind) (p len : Nat) : Nat :=
  let base := match kind with
    | .sample => 32 + min 128 len
    | .mirror n => truncLen (s.regAt f.key.epoch (dkey (0x4300 + n) 4)) len
    | _ => if f.edited kind p then ((len : Int) + s.editDelta f p).toNat else len
  base + s.secDelta f p

/-- Maximum frame length of a port. -/
def State.maxLen (s : State) (p : Nat) : Nat := s.reg (0x3000 + p) 3

/-- The frame length the guard band reckons with: the maximum until the end is received (R201, R239). -/
def State.guardLen (s : State) (f : Frame) : Nat := if f.complete then f.length else s.maxLen f.port

/-! ### Guard band (R239, R241) -/

/-- Transmission time in ns of `len` bytes with the queue's overhead, rounded up. -/
def State.txTime (s : State) (p q len : Nat) : Nat :=
  let bits := (8 * ((len : Int) + sgnOf 16 (s.qparam p q 3))).toNat
  let rate := s.portRate p
  if rate = 0 then 0 else (bits * 1000000000 + rate - 1) / rate

/-- Guard margin G of a port. -/
def State.margin (s : State) (p : Nat) : Nat := s.reg (0x3500 + p) 0x17

/-- Whether queue `q` is preemptable and preemption is active on port `p` (R128, R240). -/
def State.preemptable (s : State) (p q : Nat) : Bool :=
  decide (p < 20) && decide (s.stat (0x3580 + p) 7 = 1) && bitOf (s.reg (0x3580 + p) 5) q

/-- Least fragment size. -/
def State.fmin (s : State) (p : Nat) : Nat := 64 * (1 + s.reg (0x3580 + p) 4)

/-- Whether a copy of known length is too long for its queue's longest open stretch (R241). -/
def State.tooLong (s : State) (p q len : Nat) : Bool :=
  match (s.gate p).wmax q with
  | none => false
  | some w => decide (w < s.txTime p q len + s.margin p) &&
    !(s.preemptable p q && decide (2 * s.fmin p ≤ len) && decide (s.txTime p q (s.fmin p) + s.margin p ≤ w))

/-! ### Pause (R126) -/

/-- Whether queue `q` of port `p` is paused. -/
def State.paused (s : State) (p q : Nat) : Bool :=
  match nth (s.port p).pauseUntil q none with
  | some d => decide (s.time.raw < d)
  | none => false

/-- The paused priorities (`3040h+p.08`). -/
def State.pausedMask (s : State) (p : Nat) : Nat := maskOfPorts ((List.range 8).filter (fun q => s.paused p q))

/-! ### Credits (R230, R231) -/

/-- Whether a queue's shaper acts: enabled, and the port rate above the idle slope. -/
def State.shaped (s : State) (p q : Nat) : Bool :=
  decide (s.qparam p q 1 = 1) && decide (s.qparam p q 2 * 1000 < s.portRate p)

/-- The bounds of a shaped queue's credit in 2^-32 bit (R231). -/
def State.creditBounds (s : State) (p q : Nat) : Int × Int :=
  let rate := s.portRate p
  let i := s.qparam p q 2 * 1000
  let x := if s.secyOn p then 32 else 0
  let worst := (8 * ((s.maxLen p : Int) + sgnOf 16 (s.qparam p q 3) + x)).toNat
  if rate = 0 then (0, 0)
  else (((8 * s.qparam p q 4 * i * 2 ^ 32 / rate : Nat) : Int), -((worst * (rate - i) * 2 ^ 32 / rate : Nat) : Int))

/-- How a queue's credit moves from now on. -/
def State.creditMode (s : State) (p q : Nat) : CreditMode :=
  let busy := (match (s.ptx p).cur with | some t => decide (t.copy.queue = q) | none => false)
  if busy || !bitOf ((s.gate p).states s.workingNs) q || s.paused p q || !s.portUp p then .hold
  else if (s.queueOf p q).isEmpty then .toZero else .rise

/-- A queue's credit record, present while its shaper acts. -/
def State.credit (s : State) (p q : Nat) : Option Credit := kfind s.basin.credits (p * 8 + q)

/-- Bring one queue's credit record up to date: bounds, rise and mode; a shaper that starts has credit 0. -/
def State.refreshCredit (s : State) (p q : Nat) : State :=
  let k := p * 8 + q
  if s.shaped p q then
    let b := s.creditBounds p q
    let v := match s.credit p q with
      | some c => clipInt c.value b.2 b.1
      | none => 0
    let c : Credit := ⟨v, s.creditMode p q, s.qparam p q 2 * 1000 * 2 ^ 32 / 1000000000, b.1, b.2⟩
    { s with basin := { s.basin with credits := kins s.basin.credits k c } }
  else { s with basin := { s.basin with credits := kdel s.basin.credits k } }

/-- Bring a port's credit records up to date. -/
def State.refreshCredits (s : State) (p : Nat) : State :=
  (List.range 8).foldl (fun s q => s.refreshCredit p q) s

/-- Debit a credit for `len` bytes as sent. -/
def State.debit (s : State) (p q : Nat) (len : Int) : State :=
  match s.credit p q with
  | none => s
  | some c =>
    let rate := s.portRate p
    let bits := (8 * (len + sgnOf 16 (s.qparam p q 3))).toNat
    let d : Nat := if rate = 0 then 0 else bits * (rate - s.qparam p q 2 * 1000) * 2 ^ 32 / rate
    { s with basin := { s.basin with credits := kins s.basin.credits (p * 8 + q) { c with value := c.value - (d : Int) } } }

/-! ### Copies -/

/-- A not-sent entry for a copy whose stamp was requested (R97). -/
def State.notSent (s : State) (p : Nat) (stamp : Option (Nat × Nat)) : State :=
  match stamp with
  | some (tag, dom) => s.pushStamp p ⟨tag, 0, dom, 1⟩
  | none => s

/-- Count in a queue's drop counter (`3400h+p`, parameter 0x0F). -/
def State.queueDrop (s : State) (p q : Nat) : State := s.count32 (0x3400 + p) (q * 16 + 0x0F)

/-- A copy ends: its charge is released, its frame's count falls, and at zero the frame's cells are freed (R190). -/
def State.endCopy (s : State) (c : Copy) : State :=
  let s := { s with basin := { s.basin with copies := s.basin.copies.filter (fun x => decide (x.id ≠ c.id)) } }
  let s := s.modFrame c.frame (fun f => { f with copies := f.copies - 1 })
  match s.frame c.frame with
  | some f => if f.copies = 0 ∧ ¬ f.waiting then (s.removeFrame f.id).writeWaiting else s
  | none => s

/-- Remove a waiting copy: queue drop counter, not-sent entry, end. -/
def State.dropCopy (s : State) (c : Copy) : State :=
  ((s.endCopy c).queueDrop c.port c.queue).notSent c.port c.stamp

/-- Flush a waiting copy (R123). -/
def State.flushCopy (s : State) (c : Copy) : State := (s.dropCopy c).count64 (0x3080 + c.port) 0x19 1

/-- Stomp a copy that has begun (R202), or drop one that has not. -/
def State.failCopy (s : State) (c : Copy) : State :=
  if s.begun c then
    let mark := fun (t : Option TxFrame) => t.map (fun (t : TxFrame) => if t.copy.id = c.id then { t with stomp := true } else t)
    s.modTx c.port (fun x => { x with cur := mark x.cur, held := mark x.held })
  else s.dropCopy c

/-- Fail every copy of a frame. -/
def State.failFrame (s : State) (id : Nat) : State :=
  (s.basin.copies.filter (fun c => decide (c.frame = id))).foldl State.failCopy s

/-- A copy on offer to a queue. -/
structure Offer where
  port   : Nat
  queue  : Nat
  kind   : CopyKind
  colour : Nat
  deriving DecidableEq, Repr

/-- What a frame from HP or CP asks for a plain copy: launch time, and stamp tag with domain. -/
def Frame.launch (f : Frame) (kind : CopyKind) : Nat :=
  match f.origin with | some o => if kind = .plain then o.launch else 0 | none => 0

/-- The stamp request of a copy. -/
def Frame.stampReq (f : Frame) (kind : CopyKind) : Option (Nat × Nat) :=
  match f.origin with | some o => if kind = .plain ∧ o.stamp then some (o.tag, o.domain) else none | none => none

/-- Whether a launch time is too far ahead or too late at enqueue (R99, R100). -/
def State.launchLate (s : State) (e p q launch : Nat) : Bool :=
  decide (launch ≠ 0) && (decide (s.workingNs + 1000000000 < launch) ||
    (decide (s.qparamAt e p q 0x0C ≠ 0) && decide (launch + s.qparamAt e p q 0x0C < s.workingNs)))

/-- Whether a copy would be cut-through (R201). -/
def State.cutThrough (s : State) (f : Frame) (o : Offer) : Bool :=
  decide (o.kind = .plain) && bitOf (s.regAt f.key.epoch (dkey 0x4010 (0x20 + o.port))) f.cls && decide (f.port ≤ 27)
    && decide (o.port ≤ 27) && !f.reassembled && decide (s.portMbps o.port ≤ s.portMbps f.port)
    && (s.queueOf o.port o.queue).isEmpty

/-- The raw tick before which a copy does not start: 148 cycles from its header window or its release, MACsec's 16 and 12
more (R134, R242), and for a store-and-forward copy 40 from the frame's end (R243). -/
def State.readyAt (s : State) (f : Frame) (o : Offer) (cut : Bool) : Nat :=
  let a := s.time.raw + 148 + (if f.sec ≠ 0 then 16 else 0) + (if s.secDelta f o.port ≠ 0 then 12 else 0)
  if f.complete ∧ ¬ cut then max a (s.time.raw + 40) else a

/-- A copy that finds its queue closed to it at enqueue is counted and gone. -/
def State.refuseAs (s : State) (f : Frame) (o : Offer) : State := s.notSent o.port (f.stampReq o.kind)

/-- Offer a copy of a frame to a queue: flushed where the port is not UP (R123, R193), or for XP in a pair in step (R311), dropped when late (R99) or too long
(R241), refused or admitted (R199). The answer tells whether it was admitted. -/
def State.offerCopy (s : State) (f : Frame) (o : Offer) : State × Bool :=
  let e := f.key.epoch
  let p := o.port
  let q := o.queue
  let len := if f.complete then f.length else s.maxLen f.port
  if ¬ s.portUp p ∧ (s.reg (0x3000 + p) 4 = 0 ∨ (s.port p).flushing) then
    (((s.count64 (0x3080 + p) 0x19 1).queueDrop p q).refuseAs f o, false)
  else if p = 31 ∧ s.inStep then ((s.count64 (0x3080 + p) 0x19 1).refuseAs f o, false)
  else if s.launchLate e p q (f.launch o.kind) then ((s.count32 (0x3400 + p) (q * 16 + 0x0D)).refuseAs f o, false)
  else if f.complete ∧ s.tooLong p q (s.sentLen f o.kind p f.length) then
    (((s.count32 (0x3400 + p) (q * 16 + 0x0A)).queueDrop p q).refuseAs f o, false)
  else if !s.admits e p q (cellsOf len) o.colour then
    (((s.count64 0x4010 6 1).queueDrop p q).refuseAs f o, false)
  else
    let cut := s.cutThrough f o
    let c : Copy := ⟨s.basin.nextCopy, f.id, p, q, o.kind, cellsOf len, s.time.raw, cut, s.readyAt f o cut,
      f.launch o.kind, f.stampReq o.kind, o.colour⟩
    let s := { s with basin := { s.basin with copies := s.basin.copies ++ [c], nextCopy := s.basin.nextCopy + 1 } }
    ((s.modFrame f.id (fun (x : Frame) => { x with copies := x.copies + 1 })).refreshCredit p q, true)

/-! ### Capture ledger (R215, R216) -/

/-- Ledger banks in service. -/
def State.ledgerServing (s : State) : Nat :=
  ((List.range s.ledgerBanks).filter (fun i => s.bankServes (s.frameBanks + s.tableBanks + i))).length

/-- Records the ledger holds (`4400h.05`). -/
def State.ledgerCapacity (s : State) : Nat := 16384 * s.ledgerServing

/-- State of the ledger (`4400h.01`): 0 off. -/
def State.ledgerState (s : State) : Nat := if s.ledgerServing = 0 then 0 else s.stat 0x4400 1

/-- Write a ledger record on one of the epoch's 32 grants, or lose it; a triggered ledger freezes after its post-trigger
records. -/
def State.ledgerWrite (s : State) (bytes : Bytes) : State :=
  if s.ledgerState = 1 ∨ s.ledgerState = 2 then
    let e := s.time.orderNs / 32
    let used := if s.basin.ledgerEpoch = e then s.basin.ledgerUsed else 0
    if 32 ≤ used then ({ s with basin := { s.basin with ledgerEpoch := e, ledgerUsed := used } } : State).count64 0x4400 7 1
    else
      let no := s.stat 0x4400 6
      let kept := s.basin.ledger.filter (fun r => decide (no < r.number + s.ledgerCapacity))
      let left := s.basin.ledgerLeft
      let r : LedgerRec := ⟨no, bytes⟩
      let s1 := { s with basin := { s.basin with
        ledgerEpoch := e, ledgerUsed := used + 1, ledger := kept ++ [r],
        ledgerLeft := if s.ledgerState = 2 then left - 1 else left } }
      let s2 := s1.setStat 0x4400 6 ((no + 1) % 2 ^ 64)
      if s.ledgerState = 2 ∧ left ≤ 1 then s2.setStat 0x4400 1 3 else s2
  else s

/-- Trigger the ledger (R216): ignored unless it runs. -/
def State.ledgerTrigger (s : State) (cause : Nat) (key : OKey) : State :=
  if s.ledgerState = 1 then
    let n := s.reg 0x4400 4
    let s := ((s.setStat 0x4400 0x0A (okeyNat key)).setStat 0x4400 0x0B cause).setStat 0x4400 1 (if n = 0 then 3 else 2)
    { s with basin := { s.basin with ledgerLeft := n } }
  else s

/-- A ledger record (Table 8.5). -/
def ledgerBytes (f : Frame) (verdict : Nat) (judged dropped : Bool) (dest : Nat) : Bytes :=
  toLE 12 (okeyNat f.key) ++ toLE 8 f.stamp ++ toLE 1 f.port
    ++ toLE 1 (verdict + 8 * natOfBool judged + 128 * natOfBool dropped) ++ toLE 2 f.length ++ toLE 8 f.action
    ++ toLE 4 (if dropped then 0 else dest) ++ toLE 1 f.zone ++ [0] ++ slice f.bytes 0 26

end Sys2Proof.Machine
end

