-- ==== Sys2Proof/Machine/DomainOps.lean ====
section
/-! DEFINITION. Domain transfers: segments in order, one writer at a time, content that takes effect as a whole (R60). -/

namespace Sys2Proof.Machine

open Sys2Proof

/-- Largest content of a domain, from its entry's definition. -/
def domainMax (idx sub : Nat) : Nat :=
  if idx = 0x1300 then 5242880
  else if idx = 0x7060 then 1156
  else if idx = 0xB100 then 8192
  else if idx = 0xB300 then 3405
  else if idx = 0xC000 then 2048
  else if sub = 0 then 0 else 65536

/-- Content of a domain in force. -/
def State.domain (s : State) (idx sub : Nat) : Bytes := kget (fun _ => []) s.dict.domains (dkey idx sub)

/-- The open write of a caller to a domain. -/
def State.openWrite (s : State) (c : Caller) (key : Nat) : Option DomWrite :=
  s.dict.domWrites.find? (fun w => decide (w.caller = c) && decide (w.key = key))

/-- End a caller's transfer to a domain. -/
def State.dropWrite (s : State) (c : Caller) (key : Nat) : State :=
  { s with dict := { s.dict with
      domWrites := s.dict.domWrites.filter (fun w => !(decide (w.caller = c) && decide (w.key = key))) } }

/-- Whether another interface has a write to the domain open. -/
def State.domainBusy (s : State) (c : Caller) (key : Nat) : Bool :=
  s.dict.domWrites.any (fun w => decide (w.key = key) && decide (w.caller ≠ c))

/-- Kind of the change-journal record of a domain write (R67). -/
def domainKind (idx : Nat) : Nat := if idx = 0x1300 then 4 else 0

/-- Status of a segment by the conditions of R467. -/
def State.segmentStatus (s : State) (c : Caller) (k idx sub : Nat) (content : Bytes) : Nat :=
  let st := s.writeStatus c k idx sub []
  if st ≠ 0 ∧ st ≠ 0x0B then st
  else if domainMax idx sub < content.length then 4
  else if s.domainBusy c (dkey idx sub) then 9
  else st

/-- The last segment: the content takes effect, unless the entry's own conditions refuse it. -/
def State.completeDomain (s : State) (c : Caller) (k idx sub : Nat) (content : Bytes) (extra : State → Bytes → Nat)
    (eff : Bytes → State → State) (onRefuse : State → State) : State :=
  let key := dkey idx sub
  let old := s.domain idx sub
  let s := s.dropWrite c key
  let st := extra s content
  if st ≠ 0 then (onRefuse s).reply c st 0 0
  else
    let s := { s with dict := { s.dict with domains := kput (fun _ => []) s.dict.domains key content } }
    eff content (s.acceptBytes c (domainKind idx) idx sub old content 0 (k + 4))

/-- A segment of a domain write (R60): out of order, it ends the transfer. -/
def State.writeSegment (s : State) (c : Caller) (idx sub off : Nat) (data : Bytes) (last : Bool)
    (extra : State → Bytes → Nat) (eff : Bytes → State → State) (onRefuse : State → State) : State :=
  let k := s.keyEpoch
  let s := (s.keyRequest c 3 idx sub (toBE 1 (natOfBool last) ++ toBE 4 off ++ data)).touchSession c
  let key := dkey idx sub
  let sofar := match s.openWrite c key with
    | some w => w.data
    | none => []
  if off ≠ sofar.length then (s.dropWrite c key).reply c 0x0E 0 0
  else
    let content := sofar ++ data
    let st := s.segmentStatus c k idx sub content
    if st ≠ 0 then (s.dropWrite c key).reply c st 0 0
    else if last then s.completeDomain c k idx sub content extra eff onRefuse
    else
      let s := s.dropWrite c key
      let w : DomWrite := ⟨c, key, content, s.time.orderNs⟩
      ({ s with dict := { s.dict with domWrites := s.dict.domWrites ++ [w] } } : State).reply c 0 0 data.length

/-- A domain write that receives no segment for 1 s is discarded (R60). -/
def State.expireWrites (s : State) : State :=
  { s with dict := { s.dict with
      domWrites := s.dict.domWrites.filter (fun w => decide (s.time.orderNs < w.lastNs + 1000000000)) } }

/-- Open domain writes of a session that ends. -/
def State.dropSessionWrites (s : State) (n : Nat) : State :=
  { s with dict := { s.dict with domWrites := s.dict.domWrites.filter (fun w => decide (w.caller.session ≠ n)) } }

end Sys2Proof.Machine
end

