-- ==== Sys2Proof/Machine/KeyFamily.lean ====
section
/-! DEFINITION. Keys, attestation and secure boot: the commands of the fifteenth chapter (R376 to R393). -/

namespace Sys2Proof.Machine

open Sys2Proof

/-! ### Slots -/

/-- An empty slot. -/
def KeySlot.empty : KeySlot := ⟨0, 0, 0, 0, 0, 0, 0, 0⟩

/-- Slot `n`. -/
def State.slot (s : State) (n : Nat) : KeySlot := kget (fun _ => KeySlot.empty) s.keys.slots n

/-- Put slot `n`. -/
def State.setSlot (s : State) (n : Nat) (x : KeySlot) : State :=
  { s with keys := { s.keys with slots := kput (fun _ => KeySlot.empty) s.keys.slots n x } }

/-- The key of a slot's working copy: the exclusive or of its shares (R385). -/
def KeySlot.value (x : KeySlot) : Nat := x.shareA ^^^ x.shareB

/-- A slot whose working copy is `v` under a mask. -/
def KeySlot.load (x : KeySlot) (v mask : Nat) : KeySlot := { x with shareA := v ^^^ mask, shareB := mask }

/-- Whether an operation may use a slot: loaded, not sealed, the usage bit and the calling pair's bit set (R384, R392). -/
def State.slotUsable (s : State) (n usageBit pair : Nat) : Bool :=
  let x := s.slot n
  decide (n < 256) && !s.keys.sealed_ && decide (x.kind ≠ 0) && bitOf x.usage usageBit && bitOf x.pairs pair

/-- A refused key operation (`B000h.08`). -/
def State.keyRefused (s : State) : State := s.count64 0xB000 8 1

/-! ### Boot (R376 to R379) -/

/-- The first failed check of a location, 0 when accepted (R379). -/
def bootCode (revoked rollback : Nat) (h : BootHeader) : Nat :=
  if !h.flash then 1
  else if !h.fields then 2
  else if !h.root || bitOf revoked h.index then 3
  else if !h.mlDsa then 4
  else if !h.ecdsa then 5
  else if !h.body then 6
  else if h.version < rollback then 7
  else 0

/-- Extend measurement register `i` with a digest (R380). -/
def extendMr (mrs : List Nat) (i digest : Nat) : List Nat :=
  modNth mrs i (fun m => (Config.sha384 (toBE 48 m ++ toBE 48 digest)).toNat)

/-- Extend with the SHA-384 of octets. -/
def measure (mrs : List Nat) (i : Nat) (bs : Bytes) : List Nat := extendMr mrs i (Config.sha384 bs).toNat

/-- The measurements of a boot (Table 15.2): `images` are the headers of LP0, LP1, LP2, LP3 firmware and Lowland code. -/
def State.bootMeasurements (s : State) (h : BootHeader) (images : List Bytes) : List Nat :=
  let k := s.keys
  let z := List.replicate 8 0
  let m0 := measure z 0 (toLE 4 Config.bootRom.toNat ++ toLE 1 k.lifecycle ++ toLE 1 k.rollback ++ toLE 1 k.revoked)
  let m1 := measure m0 1 h.header
  let m2 := measure (measure m1 2 (nth images 0 [])) 2 (nth images 1 [])
  let m3 := measure (measure m2 3 (nth images 2 [])) 3 (nth images 3 [])
  let m4 := measure m3 4 (nth images 4 [])
  let m5 := extendMr m4 5 (beNat (toLE 48 s.dict.image.hash))
  measure m5 6 (toLE 1 k.lifecycle ++ toLE 1 (natOfBool k.unlocked) ++ toLE 4 k.unlocks)

/-- A text in ASCII. -/
def ascii (x : String) : Bytes := x.toList.map (fun ch => BitVec.ofNat 8 ch.toNat)

/-- `n` bytes of HKDF-SHA-384 (R381). -/
def hkdfBytes (ikm salt : Bytes) (info : String) (n : Nat) : Bytes := (toBE 64 (Config.hkdf ikm salt (ascii info)).toNat).take n

/-- The derived secrets of slots 0 to 4 (R381), from the measurements. -/
def derivedKey (mrs : List Nat) (slot : Nat) : Nat :=
  let mr := fun (i : Nat) => toBE 48 (nth mrs i 0)
  let uds := toBE 48 Config.uds.toNat
  let cdi0 := hkdfBytes uds (mr 0) "OVZ740 CDI0" 48
  let joined := ((List.range 6).map (fun i => mr (i + 1))).flatten
  let cdi1 := hkdfBytes cdi0 (toBE 48 (Config.sha384 joined).toNat) "OVZ740 CDI1" 48
  beNat (if slot = 0 then hkdfBytes cdi0 [] "DeviceID EC" 64
    else if slot = 1 then hkdfBytes cdi0 [] "DeviceID ML" 32
    else if slot = 2 then hkdfBytes cdi1 [] "Alias EC" 64
    else if slot = 3 then hkdfBytes cdi1 [] "Alias ML" 32
    else hkdfBytes uds [] "OVZ740 storage" 32)

/-- Metadata of the derived slots 0 to 4 (Table 15.3). -/
def derivedSlot (mrs : List Nat) (n : Nat) : KeySlot :=
  ⟨nth [3, 5, 3, 5, 2] n 0, nth [512, 512, 128, 128, 1024] n 0, 0xF, 4, 0, derivedKey mrs n, 0, 0⟩

/-- Derive the slots from `lo` up to `hi` afresh. -/
def State.deriveSlots (s : State) (lo hi : Nat) : State :=
  (List.range (hi - lo)).foldl (fun s i => s.setSlot (lo + i) (derivedSlot s.keys.mrs (lo + i))) s

/-- The working copies of the persistent slots are loaded from eMRAM (R383). -/
def State.loadPersistent (s : State) : State :=
  { s with keys := { s.keys with slots := s.keys.slots.map (fun x =>
      if bitOf x.2.flags 0 then (x.1, { x.2 with shareA := x.2.stored, shareB := 0 }) else x) } }

/-- A boot that found an accepted stage 1 at location `loc` (R376 to R381). -/
def State.bootFrom (s : State) (loc codes : Nat) (h : BootHeader) (images : List Bytes) : State :=
  let mrs := s.bootMeasurements h images
  let s := { s with keys := { s.keys with mrs := mrs, rootIndex := h.index, bootDone := true, ready := true } }
  let s := (((s.setStat 0xB300 2 loc).setStat 0xB300 3 h.version).setStat 0xB300 8 (s.stat 0xB300 7)).setStat 0xB300 7 codes
  if s.keys.lifecycle = 2 then { s with keys := { s.keys with slots := [] } }
  else (s.deriveSlots 0 5).loadPersistent

/-- BOOT: location A, else B; when both fail the ROM stops and the device waits for a reset (R376, R379). -/
def boot (a b : BootHeader) (images : List Bytes) (s : State) : State :=
  if s.keys.bootBlocked ∨ s.keys.bootDone then s
  else
    let ca := bootCode s.keys.revoked s.keys.rollback a
    let cb := bootCode s.keys.revoked s.keys.rollback b
    if ca = 0 then s.bootFrom 0 0 a images
    else if cb = 0 then s.bootFrom 1 ca b images
    else
      let s := s.setStat 0xB300 7 (ca + 16 * cb)
      { s with keys := { s.keys with bootBlocked := true } }

/-- BOOT (R376). -/
def execBoot (t : Nat) (a b : BootHeader) (images : List Bytes) (s : State) : Out := happen t true s (boot a b images)

/-- The request of execAdvanceRollback. -/
def State.reqAdvanceRollback (s : State) (c : Caller) : State :=
  s.dictWrite c 0xB300 5 [1]
    (fun s _ => if s.keys.rollback = s.stat 0xB300 3 then 0x0B else 0)
    (fun _ s => { s with keys := { s.keys with rollback := s.stat 0xB300 3 } })

/-- ADVANCE_ROLLBACK: fuses are blown until the count equals the running version (R378). -/
def execAdvanceRollback (t : Nat) (c : Caller) (s : State) : Out :=
  happenBy c t true s (fun s => s.reqAdvanceRollback c)

/-- Whether revoking a root key index is refused: the running stage 1's, or the last unrevoked (R378). -/
def State.revokeRefused (s : State) (v : Nat) : Bool :=
  decide (s.keys.rootIndex = v - 1) || bitOf s.keys.revoked (2 - v)

/-- The request of execRevokeRootKey. -/
def State.reqRevokeRootKey (s : State) (c : Caller) (v : Nat) : State :=
  s.dictWrite c 0xB300 6 (toLE 1 v)
    (fun s v => if s.revokeRefused v then 0x0B else 0)
    (fun v s => { s with keys := { s.keys with revoked := setBitAt s.keys.revoked (v - 1) } })

/-- REVOKE_ROOT_KEY (R378). -/
def execRevokeRootKey (t : Nat) (c : Caller) (v : Nat) (s : State) : Out :=
  happenBy c t true s (fun s => s.reqRevokeRootKey c v)

/-- The request of execExtendMr7. -/
def State.reqExtendMr7 (s : State) (c : Caller) (digest : Bytes) : State :=
  s.dictWrite c 0xB300 0x18 digest noExtra
    (fun _ s => { s with keys := { s.keys with mrs := extendMr s.keys.mrs 7 (beNat digest) } })

/-- EXTEND_MR7: a digest written to `B300h.18` (R380). -/
def execExtendMr7 (t : Nat) (c : Caller) (digest : Bytes) (s : State) : Out :=
  happenBy c t true s (fun s => s.reqExtendMr7 c digest)

/-! ### Debug unlock (R382) -/

/-- The verified response opens JTAG, enters MR6 and the count, and the alias keys are derived afresh. -/
def State.unlockDebug (s : State) : State :=
  let k := s.keys
  let n := k.unlocks + 1
  ({ s with keys := { k with
    unlocks := n, unlocked := true,
    mrs := measure k.mrs 6 (toLE 1 k.lifecycle ++ toLE 1 1 ++ toLE 4 n) } } : State).deriveSlots 2 4

/-- Each response consumes the challenge: a new one is drawn. -/
def State.newChallenge (s : State) : State :=
  ({ s with keys := { s.keys with challenge := s.random } } : State).drawFree

/-- The request of execDebugResponse. -/
def State.reqDebugResponse (s : State) (c : Caller) (off : Nat) (data : Bytes) (verified : Bool) : State :=
  s.writeSegment c 0xB300 0x1B off data true
    (fun s content => if content.length ≠ 3405 then 0x0E else if s.keys.lifecycle ≠ 1 then 0x0B
      else if verified then 0 else 0x0C)
    (fun _ s => s.unlockDebug.newChallenge) State.newChallenge

/-- DEBUG_RESPONSE: the last segment of a response arrives and is verified (R382). -/
def execDebugResponse (t : Nat) (c : Caller) (off : Nat) (data : Bytes) (verified : Bool) (s : State) : Out :=
  happenBy c t true s (fun s => s.reqDebugResponse c off data verified)

/-! ### Re-masking (R385) -/

/-- All ones over a share. -/
def shareOnes : Nat := 2 ^ 512 - 1

/-- Re-mask a slot with 64 random bytes: both shares are masked and inverted, and the key is never formed. -/
def KeySlot.remask (r : Nat) (x : KeySlot) : KeySlot :=
  { x with shareA := (x.shareA ^^^ r) ^^^ shareOnes, shareB := (x.shareB ^^^ r) ^^^ shareOnes }

/-- The 64 random bytes of draw `n`. -/
def maskOf (n : Nat) : Nat := (Config.freeRandom n).toNat + (Config.freeRandom (n + 1)).toNat * 2 ^ 256

/-- Re-mask every slot that no operation uses; a slot in use is deferred and counted. -/
def remaskPass (busy : List Nat) (s : State) : State :=
  let n := s.fresh
  let slots := s.keys.slots.map (fun x => if x.1 ∈ busy then x else (x.1, x.2.remask (maskOf (n + 2 * x.1))))
  let deferred := s.keys.slots.filter (fun x => decide (x.1 ∈ busy))
  let s : State := { s with keys := { s.keys with slots := slots, polarity := !s.keys.polarity } }
  let s : State := { s with fresh := n + 512 }
  (deferred.foldl (fun s _ => s.count32 0xB000 6) s).countSeq 0xB000 5 32

/-- REMASK_PASS (R385). -/
def execRemaskPass (t : Nat) (busy : List Nat) (s : State) : Out := happen t true s (remaskPass busy)

/-! ### Attestation (R386) -/

/-- The public key of a slot's kind and value (R381, R384); none for the symmetric kinds. -/
def publicKey (kind value : Nat) : Bytes :=
  if kind = 3 then toBE 97 (Config.ecPublic value).toNat
  else if kind = 5 then toBE 1952 (Config.mlPublic value).toNat
  else if kind = 4 then toBE 97 value
  else if kind = 6 then toBE 1952 value
  else []

/-- The public key of slot `n`. -/
def State.slotPublic (s : State) (n : Nat) : Bytes := publicKey (s.slot n).kind (s.slot n).value

/-- The device identity hash (`B200h.01`, R381). -/
def State.identityHash (s : State) : Nat := (Config.sha384 (s.slotPublic 0 ++ s.slotPublic 1)).toNat

/-- Two signatures over octets, ML-DSA-65 by one slot and then ECDSA by another, over their SHA-384 (Table 15.4). -/
def State.signBoth (s : State) (ml ec : Nat) (body : Bytes) : Bytes :=
  let h := toBE 48 (Config.sha384 body).toNat
  toBE 3309 (Config.signature (s.slot ml).value h).toNat ++ toBE 96 (Config.signature (s.slot ec).value h).toNat

/-- The alias certificate (`B200h.08`): the alias public keys and MR1…MR6, signed by the DeviceID keys (R386). -/
def State.aliasCert (s : State) : Bytes :=
  let body := s.slotPublic 2 ++ s.slotPublic 3 ++ ((List.range 6).map (fun i => toBE 48 (nth s.keys.mrs (i + 1) 0))).flatten
  body ++ s.signBoth 1 0 body

/-- Bytes 0…537 of the statement (Table 15.4). -/
def State.statementBody (s : State) (nonce slot : Nat) : Bytes :=
  let x := s.slot slot
  let mrs := ((List.range 8).map (fun i => toBE 48 (nth s.keys.mrs i 0))).flatten
  let pub := if x.kind = 1 ∨ x.kind = 2 ∨ x.kind = 0 then 0 else (Config.sha384 (s.slotPublic slot)).toNat
  toLE 4 0x4F564154 ++ toBE 48 s.identityHash ++ mrs ++ toLE 32 nonce ++ toLE 1 slot ++ toLE 1 x.kind
    ++ toLE 2 x.usage ++ toLE 1 (x.flags ||| 8) ++ toLE 1 x.pairs ++ toLE 8 x.counter ++ toBE 48 pub
    ++ toLE 8 s.time.orderNs

/-- The statement with its two signatures by the alias keys. -/
def State.statementBytes (s : State) (nonce slot : Nat) : Bytes :=
  let body := s.statementBody nonce slot
  body ++ s.signBoth 3 2 body

/-- The request of execGenerateStatement. -/
def State.reqGenerateStatement (s : State) (c : Caller) : State :=
  s.dictWrite c 0xB200 4 [1] (fun s _ => if s.keys.sealed_ then 0x0B else 0)
    (fun _ s => { s with keys := { s.keys with
      statement := s.statementBytes (s.ownVal c 0xB200 2) (s.ownVal c 0xB200 3) } })

/-- GENERATE_STATEMENT: a write of 0x01 to `B200h.04` (R386). -/
def execGenerateStatement (t : Nat) (c : Caller) (s : State) : Out :=
  happenBy c t true s (fun s => s.reqGenerateStatement c)

/-! ### Key updates (R387 to R390) -/

/-- Usage bits that a kind and slot may carry (R384): bits 7, 9, 10 and 11 exist only in slots 0…5. -/
def usageFits (kind usage : Nat) : Bool :=
  decide (usage &&& 0xFE80 = 0) &&
    (if kind = 1 then decide (usage &&& 0x0170 = 0)
     else if kind = 2 then decide (usage &&& 0x0130 = 0)
     else if kind = 4 ∨ kind = 6 then decide (usage &&& 0x004F = 0)
     else (decide (kind = 3) || decide (kind = 5)) && decide (usage = 0))

/-- Kind and usage that a fixed slot must keep (Table 15.3). -/
def fixedSlotFits (slot kind usage : Nat) : Bool :=
  if slot = 8 then decide (kind = 6 ∧ usage = 0x20) else if slot = 9 then decide (kind = 4 ∧ usage = 0x20)
  else if slot = 10 then decide (kind = 6 ∧ usage = 0x10) else if slot = 11 then decide (kind = 4 ∧ usage = 0x10)
  else if slot = 12 then decide (kind = 2 ∧ usage = 0x40) else true

/-- Status of an update message by the checks of Table 15.6, in their order. -/
def State.updateStatus (s : State) (m : Bytes) (signed unwraps : Bool) : Nat :=
  let type := byteAt m 5
  let slot := byteAt m 6
  let kind := byteAt m 7
  let usage := leAt m 8 2
  let w := leAt m 68 4
  let wrapped := if type = 1 then w + 16 else 0
  if leAt m 0 4 ≠ 0x4F564B55 ∨ byteAt m 4 ≠ 1 ∨ type < 1 ∨ 3 < type ∨ 15 < byteAt m 10 ∨ 1 < byteAt m 11
    ∨ m.length ≠ 84 + wrapped + 3309 + 96 ∨ (type ≠ 1 ∧ w ≠ 0) then 0x0E
  else if beAt m 20 48 ≠ s.identityHash then 0x0C
  else if !signed then 0x0C
  else if leAt m 12 8 ≤ s.keys.counter then 5
  else if slot < 8 ∨ (type = 3 ∧ kind ≠ 0) ∨ (type ≠ 3 ∧ ¬ usageFits kind usage)
    ∨ (type ≠ 3 ∧ ¬ fixedSlotFits slot kind usage) then 5
  else if type = 1 ∧ !unwraps then 0x0C
  else if s.keys.sealed_ ∨ s.stat 0xB400 1 ≠ 0 then 0x0B
  else 0

/-- The shadow content of an accepted message: the wrapped key, a generated one, or nothing for an erasure (R388, R389). -/
def State.shadowOf (s : State) (m : Bytes) (key : Nat) : KeyShadow :=
  let type := byteAt m 5
  let v := if type = 2 then s.random else key
  let flags := byteAt m 11 % 2 + (if type = 2 then 2 else 0)
  ⟨byteAt m 6, leAt m 12 8, if type = 3 then none
    else some ⟨byteAt m 7, leAt m 8 2, byteAt m 10, flags, leAt m 12 8, v, 0, if flags % 2 = 1 then v else 0⟩⟩

/-- The request of execUpdateMessage. -/
def State.reqUpdateMessage (s : State) (c : Caller) (off : Nat) (data : Bytes) (signed unwraps : Bool) (key : Nat) : State :=
  s.writeSegment c 0xB100 1 off data true
    (fun _ content => if 8192 < content.length then 4 else 0)
    (fun m s =>
      let st := s.updateStatus m signed unwraps
      let s := s.setStat 0xB100 2 st
      if st = 0 then
        ({ s with keys := { s.keys with shadow := some (s.shadowOf m key) } } : State).drawFree
      else s.count32 0xB100 4) id

/-- UPDATE_MESSAGE: the last segment arrives and the message is checked; a refusal changes no slot and no counter (R388). -/
def execUpdateMessage (t : Nat) (c : Caller) (off : Nat) (data : Bytes) (signed unwraps : Bool) (key : Nat) (s : State) : Out :=
  happenBy c t true s (fun s => s.reqUpdateMessage c off data signed unwraps key)

/-- Every security association derived from a slot is cleared (R393). -/
def State.clearSlotSas (s : State) (slot : Nat) : State :=
  { s with ports := s.ports.map (fun p => { p with sas := p.sas.filter (fun a => decide (a.slot ≠ slot)) }) }

/-- UPDATE_COMMIT: the commit record is written, the counter advances and the slot switches (R389). -/
def updateCommit (s : State) : State :=
  match s.keys.shadow with
  | none => s
  | some x =>
    let hash := (Config.sha384 (toLE 64 (match x.content with | some k => k.stored | none => 0))).toNat / 2 ^ 256
    let commits := (if s.keys.commits.length < 2 then s.keys.commits else s.keys.commits.drop 1) ++
      [⟨x.counter, x.slot, s.keys.counter % 2, hash⟩]
    let s := { s with keys := { s.keys with shadow := none, counter := x.counter, commits := commits } }
    let s := s.setStat 0xB100 5 x.slot
    match x.content with
    | some k => (s.clearSlotSas x.slot).setSlot x.slot k
    | none => (s.clearSlotSas x.slot).setSlot x.slot KeySlot.empty

/-- UPDATE_COMMIT (R389). -/
def execUpdateCommit (t : Nat) (s : State) : Out := happen t true s updateCommit

/-! ### Tamper (R391, R392) -/

/-- Every working copy is zeroised, and with it every derived association. -/
def State.zeroise (s : State) : State :=
  { s with
    keys := { s.keys with slots := s.keys.slots.map (fun x => (x.1, { x.2 with shareA := 0, shareB := 0 })) },
    ports := s.ports.map (fun p => { p with sas := [] }) }

/-- The device state an alarm is recorded with (`B400h.05` byte 9). -/
def State.tamperPhase (s : State) : Nat :=
  if !s.keys.bootDone then 0 else if s.power.low then 1 else if s.keys.shadow.isSome then 3 else 2

/-- An alarm under Lowland empties the volatile slots and slot 5, and is a wake reason. -/
def State.tamperLow (s : State) : State :=
  { s with
    keys := { s.keys with slots := s.keys.slots.filter (fun x => bitOf x.2.flags 0 && decide (x.1 ≠ 5)) },
    power := { s.power with reasons := setBitAt s.power.reasons 34 } }

/-- An alarm seals the key store. -/
def State.sealStore (s : State) : State := { s with keys := { s.keys with shadow := none, sealed_ := true } }

/-- TAMPER_ALARM: the alarm is recorded, and the response of Table 15.7 follows. -/
def tamperAlarm (n : Nat) (lasts : Bool) (s : State) : State :=
  let ph := s.tamperPhase
  let bit := 1 <<< n
  let s := ((s.setStat 0xB400 1 (if lasts then s.stat 0xB400 1 ||| bit else s.stat 0xB400 1)).orStat 0xB400 2 bit).count32
    0xB400 4
  let s := s.setStat 0xB400 5 (s.time.orderNs % 2 ^ 64 + bit * 2 ^ 64 + ph * 2 ^ 72 + natOfBool (decide (ph = 3)) * 2 ^ 80)
  if ph = 0 then { s with keys := { s.keys with bootBlocked := true } }
  else if ph = 1 then
    s.tamperLow
  else s.sealStore.zeroise.raiseFault 99 true

/-- TAMPER_ALARM (R392). -/
def execTamperAlarm (t n : Nat) (lasts : Bool) (s : State) : Out :=
  happenAny t (decide (n < 4)) s (tamperAlarm n lasts)

/-- The request of execTamperAcknowledge. -/
def State.reqTamperAcknowledge (s : State) (c : Caller) (raised : Nat) : State :=
  (s.setStat 0xB400 1 (raised % 16)).dictWrite c 0xB400 3 [1]
    (fun s _ => if s.stat 0xB400 1 ≠ 0 then 0x0B else 0)
    (fun _ s =>
      let s := { s with keys := { s.keys with sealed_ := false } }
      ((s.deriveSlots 0 5).loadPersistent).clearCause 99)

/-- TAMPER_ACKNOWLEDGE: sealing ends while no sensor is raised, and the working copies are reloaded (R392). -/
def execTamperAcknowledge (t : Nat) (c : Caller) (raised : Nat) (s : State) : Out :=
  happenBy c t true s (fun s => s.reqTamperAcknowledge c raised)

/-! ### MACsec keys (R393) -/

/-- Whether two associations are the same SA of a SecY. -/
def sameSa (a b : SecAssoc) : Bool := decide (a.tx = b.tx) && decide (a.sci = b.sci) && decide (a.an = b.an)

/-- Put an association into use on a port; a transmit SA also becomes the current one. -/
def State.installSa (s : State) (port : Nat) (a : SecAssoc) : State :=
  let s := { s with ports := modNth s.ports port (fun p => { p with
    sas := p.sas.filter (fun b => !sameSa a b && !(a.tx && b.tx)) ++ [a] }) }
  if a.tx then (s.setStat (0x3100 + port) 0x0B a.an).setStat (0x3100 + port) 0x0C a.pn else s

/-- SAK_INSTALL: LP1 has the key store place a SAK in an association, under a CAK slot with usage bit 3 for LP1. -/
def sakInstall (port slot sci an pn : Nat) (tx unwraps : Bool) (s : State) : State :=
  if s.slotUsable slot 3 1 ∧ unwraps ∧ an < 4 then s.installSa port ⟨tx, sci, an, pn, true, slot⟩ else s.keyRefused

/-- SAK_INSTALL (R393): MACsec exists on BP and EP ports. -/
def execSakInstall (t port slot sci an pn : Nat) (tx unwraps : Bool) (s : State) : Out :=
  happen t (decide (port < 20)) s (sakInstall port slot sci an pn tx unwraps)

end Sys2Proof.Machine
end

