-- ==== Sys2Proof/Machine/Legacy.lean ====
section
/-! DEFINITION. CAN controllers as Ford and the dictionary server use them: the filter sets of Narrows, bit timing, acceptance
filters and the transmit queue (R180, R181, R246 to R252). -/

namespace Sys2Proof.Machine

open Sys2Proof

/-! ### The Narrows filter sets (R180 to R182) -/

/-- Kind bit of a frame (Tables 7.6, 10.2): 0 classical data, 1 FD, 2 XL, 3 classical remote. -/
def kindBit (f : BusFrame) : Nat := if f.fmt = 0 then (if f.remote then 3 else 0) else if f.fmt = 3 then 2 else 1

/-- The identifier word that filters compare: bit 29 extended, for CAN XL the priority identifier (R180). -/
def busWord (f : BusFrame) : Nat := if f.fmt = 3 then f.ident % 2048 else f.ident % 2 ^ 30

/-- Whether an entry of a filter set matches a frame in a direction, 0 receive, 1 transmit (Table 7.6). -/
def canEntryMatches (v dir : Nat) (f : BusFrame) : Bool :=
  let lo := subBytes v 0 4
  let hi := subBytes v 4 4
  decide (bitOf lo 29 = bitOf (busWord f) 29) && decide (lo % 2 ^ 30 ≤ busWord f) && decide (busWord f ≤ hi % 2 ^ 30)
    && bitOf (subBytes v 8 1) (kindBit f) && bitOf (subBytes v 9 1) dir
    && decide (subBytes v 10 2 ≤ f.data.length) && decide (f.data.length ≤ subBytes v 12 2)

/-- Argument bytes of a CAN log event (R182). -/
def canDenyArgs (b dir reason : Nat) (f : BusFrame) : Nat :=
  leNat (toLE 1 b ++ [0xFF] ++ toLE 1 dir ++ toLE 1 reason ++ toLE 4 (busWord f))

/-- Apply a verdict without rate: permit, deny, or deny and log. -/
def State.canVerdict (s : State) (key : OKey) (b dir reason v : Nat) (f : BusFrame) : State × Bool :=
  if v = 0 then (s.count64 0x6400 0x10 1, true)
  else
    let s := s.count64 0x6400 0x11 1
    (if v = 2 then s.logDeny key (canDenyArgs b dir reason f) else s, false)

/-- Check a frame against CNb's filter set: the lowest matching entry decides, else the bus default (R180, R181, R183). -/
def State.canFilter (s : State) (key : OKey) (b dir : Nat) (f : BusFrame) : State × Bool :=
  let e := key.epoch
  let tbl := 0x6300 + b
  let dflt := s.regAt e (dkey 0x6000 (0x20 + b))
  if s.regAt e (dkey 0x6000 1) = 0 then (s, true)
  else match (s.rowsAt e tbl).find? (fun r => s.rowBad tbl r.1 || canEntryMatches (rowSub r.2 7) dir f) with
    | none => s.canVerdict key b dir 2 dflt f
    | some (i, r) =>
      if s.rowBad tbl i then (s.count64 0x6400 0x0E 1).canVerdict key b dir 2 dflt f
      else
        let s := s.bumpRow tbl i 8
        let v := rowSub r 7
        if subBytes v 18 1 % 8 ≠ 3 then s.canVerdict key b dir 7 (subBytes v 18 1 % 8) f
        else
          let x := s.takeToken (canBucket b i) (subBytes v 14 2) (subBytes v 16 2) e
          if x.2 then (x.1.count64 0x6400 0x10 1, true) else (x.1.count64 0x6400 0x12 1, false)

/-! ### Bit timing (R246) -/

/-- Whether a rate and sample point are realisable at clock `f` with `lo … hi` quanta per bit. -/
def realisable (f lo hi rate sp : Nat) : Bool :=
  match (List.range 32).find? (fun i =>
    let p := i + 1
    decide (rate ≠ 0) && decide (f % (p * rate) = 0) && decide (lo ≤ f / (p * rate)) && decide (f / (p * rate) ≤ hi)) with
  | none => false
  | some i =>
    let n := f / ((i + 1) * rate)
    let q := (n * sp + 500) / 1000
    decide (2 ≤ q) && decide (q ≤ n - 1)

/-- Whether a controller's phases are realisable at clock `f` (R246): the data phase where FD or XL is enabled. -/
def timingOk (f rate sp drate dsp formats : Nat) : Bool :=
  realisable f 8 160 rate sp && (decide (formats % 4 = 0) || realisable f 4 80 drate dsp)

/-! ### Controllers -/

/-- Controller `n`. -/
def State.can (s : State) (n : Nat) : CanCtl := nth s.legacy.can n ⟨[], .none, 0, 0, 0, false⟩

/-- Change controller `n`. -/
def State.modCan (s : State) (n : Nat) (f : CanCtl → CanCtl) : State :=
  { s with legacy := { s.legacy with can := modNth s.legacy.can n f } }

/-- Whether controller `n` is enabled for key epoch `e`. -/
def State.canOn (s : State) (e n : Nat) : Bool := decide (s.regAt e (dkey (0x7000 + n) 1) = 1)

/-- A parameter of controller `n` for key epoch `e`. -/
def State.canReg (s : State) (e n sub : Nat) : Nat := s.regAt e (dkey (0x7000 + n) sub)

/-- Arbitration value (R249). -/
def arbitration (f : BusFrame) : Nat :=
  let id := f.ident % 2 ^ 29
  if bitOf f.ident 29 then (id / 2 ^ 18) * 2 ^ 19 + 2 ^ 18 + id % 2 ^ 18 else (id % 2048) * 2 ^ 19

/-- Whether two frames have the same identifier and format. -/
def sameFrame (a b : BusFrame) : Bool :=
  decide (a.ident = b.ident) && decide (a.fmt = b.fmt) && decide (a.remote = b.remote)

/-- Put a frame into CNn's transmit queue (R250): it replaces a pending one of its identifier under last-is-best, is
discarded by a full queue, or is added; a controller that is off takes nothing (R287). The answer tells whether it was
taken. -/
def State.canQueue (s : State) (n : Nat) (key : OKey) (f : BusFrame) : State × Bool :=
  let e := key.epoch
  if !s.canOn e n then (s, false)
  else
    let q := (s.can n).queue
    let same := fun (x : CanEntry) => !x.started && sameFrame x.frame f
    if s.canReg e n 0x0D = 1 && q.any same then
      let s := s.modCan n (fun c => { c with queue := modWhere same (fun x => { x with frame := f }) c.queue })
      (s.count64 (0x7000 + n) 0x35 1, true)
    else if 32 ≤ q.length then ((s.count64 (0x7000 + n) 0x33 1).orStat (0x7000 + n) 0x24 2, false)
    else
      let x : CanEntry := ⟨f, key, s.time.raw, false⟩
      (s.modCan n (fun c => { c with queue := insertByKey CanEntry.key x c.queue }), true)

/-- Record the removal of an entry from a shared controller's queue in the input journal, keyed under the controller's
source; a standby that holds the token relays it (R252, R310): cause 0 completed, 1 aged, 2 bus-off flush. -/
def State.journalRemoval (s : State) (n cause : Nat) (x : CanEntry) : State :=
  let src := 0x0100 + n
  let what := toBE 8 x.key.epoch ++ toBE 2 x.key.src ++ toBE 2 x.key.seq ++ toBE 1 cause
  if !(s.saddle.enabled && s.drives n) then s
  else if s.saddle.role = .standby then s.sendMsg 3 2 0 (toBE 1 n ++ what)
  else (s.issueKey src).journalInput (s.nextKey src) 0x08 n 0 false (some what)

/-- Remove the waiting entries that satisfy `p`, counted as aged or flushed. -/
def State.canRemove (s : State) (n cause : Nat) (p : CanEntry → Bool) : State :=
  let gone := (s.can n).queue.filter p
  let s := s.modCan n (fun c => { c with queue := c.queue.filter (fun x => !p x) })
  (gone.foldl (fun s x => s.journalRemoval n cause x) s).count64 (0x7000 + n) 0x34 gone.length

/-- The entry that a controller offers (R249): the lowest arbitration value, the earliest among equals. -/
def offerOf (q : List CanEntry) : Option CanEntry :=
  q.foldl (fun b x => match b with
    | none => some x
    | some y => if arbitration x.frame < arbitration y.frame then some x else b) none

/-- Whether an acceptance filter matches a frame (Table 10.2). -/
def acceptMatches (v : Nat) (f : BusFrame) : Bool :=
  bitOf (subBytes v 9 1) 0 && decide (((busWord f ^^^ subBytes v 0 4) &&& subBytes v 4 4) % 2 ^ 30 = 0)
    && bitOf (subBytes v 8 1) (kindBit f)

/-- Whether acceptance filtering passes a frame (R248). -/
def State.canAccepts (s : State) (n : Nat) (f : BusFrame) : Bool :=
  match (List.range 128).find? (fun i => acceptMatches (s.reg (0x7000 + n) (0x80 + i)) f) with
  | some i => !bitOf (subBytes (s.reg (0x7000 + n) (0x80 + i)) 9 1) 1
  | none => decide (s.reg (0x7000 + n) 0x10 = 0)

/-- Offer a frame to Ford: on its way to Ford's sort buffer (R14, R17). -/
def State.offerFord (s : State) (key : OKey) (f : BusFrame) : State :=
  let x : InTransit := ⟨.ford, ⟨key, s.time.raw, .bus f⟩⟩
  { s with ord := { s.ord with transit := s.ord.transit ++ [x] } }

/-- A keyed bus frame under a given key: a CAN frame passes its filter set first (R14). -/
def State.busArrives (s : State) (key : OKey) (f : BusFrame) : State :=
  if f.kind = 1 then
    let r := s.canFilter key f.bus 0 f
    if r.2 then r.1.offerFord key f else r.1
  else s.offerFord key f

/-- A valid received frame of a bus (R244): it is keyed under its controller's source and offered; on a member that follows
its partner's journal it waits for its record. -/
def State.busKeyed (s : State) (src : Nat) (f : BusFrame) : State :=
  let key := s.nextKey src
  let s := s.issueKey src
  if s.follows then s.keepOwn key (busTag f) (.bus f)
  else (s.journalInput key (f.kind + 1) f.bus (busTag f) false none).busArrives key f

end Sys2Proof.Machine
end

