-- ==== Sys2Proof/Machine/Ford.lean ====
section
/-! DEFINITION. Ford's data: PDU definitions, routes, signals, check words, PDU states and images, output frames (R268 to R279,
R291, R292). -/

namespace Sys2Proof.Machine

open Sys2Proof

/-! ### Definitions (Table 11.2): the 64 bytes as one number, first byte lowest -/

/-- Kind: 1 CAN, 2 LIN, 3 FlexRay, 4 Ethernet container, 5 CAN in ACF. -/
def dKind (d : Nat) : Nat := subBytes d 0 1
/-- Valid. -/
def dValid (d : Nat) : Bool := bitOf d 8
/-- Transmit definition. -/
def dTx (d : Nat) : Bool := bitOf d 9
/-- Secured. -/
def dSecured (d : Nat) : Bool := bitOf d 10
/-- Length follows source. -/
def dFollows (d : Nat) : Bool := bitOf d 11
/-- ACF CAN brief. -/
def dBrief (d : Nat) : Bool := bitOf d 12
/-- Bus, template or can_bus_id. -/
def dBus (d : Nat) : Nat := subBytes d 2 1
/-- CAN format. -/
def dFmt (d : Nat) : Nat := subBytes d 3 1 % 4
/-- Extended format. -/
def dExt (d : Nat) : Bool := bitOf d 26
/-- Remote frame. -/
def dRemote (d : Nat) : Bool := bitOf d 27
/-- Identifier word. -/
def dIdent (d : Nat) : Nat := subBytes d 4 4
/-- Length in bytes. -/
def dLen (d : Nat) : Nat := subBytes d 8 2
/-- Transmit mode. -/
def dMode (d : Nat) : Nat := subBytes d 10 1
/-- Fill byte. -/
def dFill (d : Nat) : Nat := subBytes d 11 1
/-- Period in µs. -/
def dPeriod (d : Nat) : Nat := subBytes d 12 4
/-- Minimum gap in µs. -/
def dGap (d : Nat) : Nat := subBytes d 16 4
/-- Receive timeout in µs. -/
def dTimeout (d : Nat) : Nat := subBytes d 20 4
/-- First route. -/
def dFirst (d : Nat) : Nat := subBytes d 24 4
/-- Route count. -/
def dCount (d : Nat) : Nat := subBytes d 28 2
/-- Check kind: also the bytes of the check word. -/
def dCheck (d : Nat) : Nat := subBytes d 30 1
/-- Alive counter bits. -/
def dAlive (d : Nat) : Nat := subBytes d 31 1
/-- CRC polynomial. -/
def dPoly (d : Nat) : Nat := subBytes d 32 2
/-- CRC initial value. -/
def dInit (d : Nat) : Nat := subBytes d 34 2
/-- CRC final XOR. -/
def dXor (d : Nat) : Nat := subBytes d 36 2
/-- Check word offset. -/
def dCheckOff (d : Nat) : Nat := subBytes d 38 2
/-- Alive counter start bit. -/
def dAliveStart (d : Nat) : Nat := subBytes d 40 2
/-- Alive counter maximum step. -/
def dAliveStep (d : Nat) : Nat := subBytes d 42 1
/-- Data identifier. -/
def dDataId (d : Nat) : Nat := subBytes d 44 2
/-- Key slot. -/
def dKeySlot (d : Nat) : Nat := subBytes d 46 1
/-- Truncated freshness bytes. -/
def dFreshBytes (d : Nat) : Nat := subBytes d 47 1
/-- Truncated MAC bytes. -/
def dMacBytes (d : Nat) : Nat := subBytes d 48 1
/-- ACF time set. -/
def dTimeSet (d : Nat) : Nat := subBytes d 49 1
/-- Freshness identifier. -/
def dFreshId (d : Nat) : Nat := subBytes d 50 2
/-- Freshness window. -/
def dWindow (d : Nat) : Nat := subBytes d 52 4
/-- ACF hold time in µs. -/
def dHold (d : Nat) : Nat := subBytes d 56 2

/-- Epochs that a time in µs covers (R281, R286). -/
def epochsOf (us : Nat) : Nat := (us * 1000 + 31) / 32

/-- The valid definition `n` for key epoch `e`. -/
def State.pduDef (s : State) (e n : Nat) : Option Nat :=
  match s.rowAt e 0x8100 n with
  | some v => if dValid (rowSub v 7) then some (rowSub v 7) else none
  | none => none

/-- The valid definitions for key epoch `e`, ascending. -/
def State.pduDefs (s : State) (e : Nat) : List (Nat × Nat) :=
  ((s.rowsAt e 0x8100).map (fun r => (r.1, rowSub r.2 7))).filter (fun x => dValid x.2)

/-- Whether Ford takes items of key epoch `e` (`8000h.01`). -/
def State.fordOn (s : State) (e : Nat) : Bool := decide (s.regAt e (dkey 0x8000 1) = 1)

/-- Count in Ford's group. -/
def State.fordCount (s : State) (sub n : Nat) : State := s.count64 0x8300 sub n

/-! ### Bits of a PDU (R274) -/

/-- Bit `b` of a PDU. -/
def pduBit (p : Bytes) (b : Nat) : Bool := (byteAt p (b / 8)).testBit (b % 8)

/-- Set bit `b` of an image to a value. -/
def putBit (p : Bytes) (b : Nat) (v : Bool) : Bytes :=
  modNth p (b / 8) (fun x => BitVec.ofNat 8 (putBitAt x.toNat (b % 8) v))

/-- The `n` PDU bits that a little-endian signal visits, least significant first. -/
def walkLe (start n : Nat) : List Nat := (List.range n).map (fun i => start + i)

/-- The `n` PDU bits that a big-endian signal visits, most significant first. -/
def walkBe : Nat → Nat → List Nat
  | _, 0 => []
  | b, n + 1 => b :: walkBe (if b % 8 = 0 then b + 15 else b - 1) n

/-- The PDU bits of a signal, least significant first. -/
def signalBits (start n : Nat) (big : Bool) : List Nat := if big then (walkBe start n).reverse else walkLe start n

/-- A signal's raw value. -/
def getSignal (p : Bytes) (start n : Nat) (big : Bool) : Nat :=
  (signalBits start n big).reverse.foldl (fun a b => 2 * a + natOfBool (pduBit p b)) 0

/-- Put the bits of `v` at the given places, least significant first. -/
def putBits : List Nat → Nat → Bytes → Bytes
  | [], _, p => p
  | b :: bs, v, p => putBits bs (v / 2) (putBit p b (decide (v % 2 = 1)))

/-- Pack a value into an image. -/
def putSignal (p : Bytes) (start n : Nat) (big : Bool) (v : Nat) : Bytes := putBits (signalBits start n big) v p

/-! ### Routes (Tables 11.5 and 11.6): 32 bytes as one number -/

/-- Source PDU. -/
def rSource (r : Nat) : Nat := subBytes r 0 2
/-- Source start bit. -/
def rSStart (r : Nat) : Nat := subBytes r 2 2
/-- Source length; 0 makes a whole-PDU route. -/
def rSLen (r : Nat) : Nat := subBytes r 4 1
/-- Source big-endian. -/
def rSBig (r : Nat) : Bool := bitOf r 40
/-- Source signed. -/
def rSSigned (r : Nat) : Bool := bitOf r 41
/-- Target PDU. -/
def rTarget (r : Nat) : Nat := subBytes r 6 2
/-- Target start bit. -/
def rTStart (r : Nat) : Nat := subBytes r 8 2
/-- Target length. -/
def rTLen (r : Nat) : Nat := subBytes r 10 1
/-- Target big-endian; for whole-PDU routes, keep source identifier and format. -/
def rTBig (r : Nat) : Bool := bitOf r 88
/-- Target signed. -/
def rTSigned (r : Nat) : Bool := bitOf r 89
/-- Rounding mode. -/
def rRound (r : Nat) : Nat := subBytes r 11 1 / 4 % 4
/-- Clamp to attribute. -/
def rClamp (r : Nat) : Bool := bitOf r 92
/-- Map invalid value. -/
def rMap (r : Nat) : Bool := bitOf r 93
/-- Replace on timeout. -/
def rReplace (r : Nat) : Bool := bitOf r 94
/-- Factor in 2^-32. -/
def rFactor (r : Nat) : Int := sgnOf 64 (subBytes r 12 8)
/-- Offset in 2^-32. -/
def rOffset (r : Nat) : Int := sgnOf 64 (subBytes r 20 8)
/-- Attribute record, 0xFFFF for none. -/
def rAttr (r : Nat) : Nat := subBytes r 28 2
/-- Attribute minimum. -/
def aMin (a : Nat) : Int := sgnOf 64 (subBytes a 0 8)
/-- Attribute maximum. -/
def aMax (a : Nat) : Int := sgnOf 64 (subBytes a 8 8)
/-- Source invalid value. -/
def aInvalid (a : Nat) : Nat := subBytes a 16 8
/-- Replacement, as its 64 bits. -/
def aReplacement (a : Nat) : Nat := subBytes a 24 8

/-- Round the quotient `q` of `p` with fraction `fr` (R275). -/
def roundQ (mode : Nat) (p q fr : Int) : Int :=
  let half : Int := 2 ^ 31
  if mode = 0 then (if half < fr ∨ (fr = half ∧ 0 ≤ p) then q + 1 else q)
  else if mode = 1 then (if p < 0 ∧ fr ≠ 0 then q + 1 else q)
  else if mode = 3 then (if half < fr ∨ (fr = half ∧ q % 2 = 1) then q + 1 else q)
  else q

/-- Bounds of an `m`-bit value. -/
def rangeOf (m : Nat) (signed : Bool) : Int × Int :=
  if signed then (-(2 ^ (m - 1) : Nat), (2 ^ (m - 1) : Nat) - 1) else (0, (2 ^ m : Nat) - 1)

/-- What a rescaling did beside giving a value. -/
inductive Rescaled
  | plain | clamped | replaced
  deriving DecidableEq, Repr

/-- Rescale a raw value by a route and its attribute record, if any (R275). -/
def rescale (r : Nat) (a : Option Nat) (raw : Nat) : Nat × Rescaled :=
  let n := rSLen r
  let m := rTLen r
  match (if rMap r then a.filter (fun a => decide (raw = aInvalid a % 2 ^ n)) else none) with
  | some a => (aReplacement a % 2 ^ m, .replaced)
  | none =>
    let x : Int := if rSSigned r then sgnOf n raw else raw
    let p := x * rFactor r + rOffset r
    let q := p / 2 ^ 32
    let q := roundQ (rRound r) p q (p - q * 2 ^ 32)
    let b := match (if rClamp r then a else none) with
      | some a => (aMin a, aMax a)
      | none => rangeOf m (rTSigned r)
    if q < b.1 then (encSgn m b.1, .clamped) else if b.2 < q then (encSgn m b.2, .clamped) else (encSgn m q, .plain)

/-! ### Check words and authentication (R277 to R279) -/

/-- Bytes of a PDU other than those from `lo` to `lo + n - 1`. -/
def withoutBytes (p : Bytes) (lo n : Nat) : Bytes := p.take lo ++ p.drop (lo + n)

/-- Bytes of authentication at the end of a secured PDU. -/
def authBytes (d : Nat) : Nat := if dSecured d then dFreshBytes d + dMacBytes d else 0

/-- The check word of a PDU of length `len` (R277). -/
def checkWord (d len : Nat) (p : Bytes) : Nat :=
  let body := withoutBytes ((p.take len).take (len - authBytes d)) (dCheckOff d) (dCheck d)
  let w := 8 * dCheck d
  (crcMsb w (dPoly d % 2 ^ w) (dInit d % 2 ^ w) (toLE 2 (dDataId d) ++ body)) ^^^ (dXor d % 2 ^ w)

/-- Overwrite bytes of an image. -/
def putAt (p : Bytes) (off : Nat) (x : Bytes) : Bytes := p.take off ++ x ++ p.drop (off + x.length)

/-- Whether the check word of a reception is right; one that it is too short to carry is wrong. -/
def checkOk (d : Nat) (p : Bytes) : Bool :=
  decide (dCheck d = 0) ||
    (decide (dCheckOff d + dCheck d ≤ p.length) && decide (leAt p (dCheckOff d) (dCheck d) = checkWord d (dLen d) p))

/-- The truncated CMAC of a secured PDU of length `len` under freshness `v` (R278). -/
def pduMac (d len key v : Nat) (p : Bytes) : Bytes :=
  (toBE 16 (Config.cmac key (toBE 2 (dDataId d) ++ p.take (len - authBytes d) ++ toBE 8 v)).toNat).take (dMacBytes d)

/-- A freshness counter's stored bound (R280): 1,024 in a part not yet used. -/
def State.freshBound (s : State) (i : Nat) : Nat := kget (fun _ => 1024) s.ford.bounds i

/-- A freshness counter: it starts from its stored bound (R280). -/
def State.freshValue (s : State) (i : Nat) : Nat := (kfind s.ford.fresh i).getD (s.freshBound i)

/-- Set a freshness counter, raising its bound when it comes within 512 of it (R280). -/
def State.setFresh (s : State) (i v : Nat) : State :=
  let b := s.freshBound i
  let b' := if b < v + 512 then max (b + 1024) (v + 1024) else b
  { s with ford := { s.ford with
      fresh := kins s.ford.fresh i v,
      bounds := kput (fun _ => 1024) s.ford.bounds i b' } }

/-- Raises of freshness values that govern inputs of key epoch `e` take effect; a value is never lowered (R55, R280). -/
def State.applyRaises (s : State) (e : Nat) : State :=
  let due := s.ford.raises.filter (fun x => decide (x.1 ≤ e))
  due.foldl (fun s x => if s.freshValue x.2.1 < x.2.2 then s.setFresh x.2.1 x.2.2 else s)
    { s with ford := { s.ford with raises := s.ford.raises.filter (fun x => decide (e < x.1)) } }

/-- The freshness value that a receiver reconstructs (R279). -/
def freshOf (d fl carried : Nat) : Nat :=
  let f := dFreshBytes d
  if f = 0 then fl + 1
  else if 8 ≤ f then carried
  else
    let m := 2 ^ (8 * f)
    let v := fl / m * m + carried
    if v ≤ fl then v + m else v

/-- Whether Ford may use the key of a definition (R278). -/
def State.pduKeyOk (s : State) (d : Nat) : Bool :=
  !s.keys.sealed_ && decide ((s.slot (dKeySlot d)).kind ≠ 0) && bitOf (s.slot (dKeySlot d)).usage 2

/-- The value of a definition's key. -/
def State.pduKey (s : State) (d : Nat) : Nat := (s.slot (dKeySlot d)).value

/-- Step 1 of R276: a secured reception. The state after it, and whether it passes. -/
def State.authenticate (s : State) (d : Nat) (p : Bytes) : State × Bool :=
  if !dSecured d then (s, true)
  else if !s.pduKeyOk d then ((s.fordCount 0x1B 1).keyRefused, false)
  else if p.length < dLen d then (s.fordCount 0x19 1, false)
  else
    let at_ := dLen d - authBytes d
    let fl := s.freshValue (dFreshId d)
    let v := freshOf d fl (beAt p at_ (dFreshBytes d))
    if v ≤ fl ∨ dWindow d < v - fl then (s.fordCount 0x1A 1, false)
    else if slice p (at_ + dFreshBytes d) (dMacBytes d) ≠ pduMac d (dLen d) (s.pduKey d) v p then (s.fordCount 0x19 1, false)
    else (s.setFresh (dFreshId d) v, true)

/-! ### PDU state and images (R270, R289, Table 11.4) -/

/-- The state of a PDU whose definition `d` applies from epoch `c` (R270, R282, R285). -/
def PduState.fresh (d c : Nat) : PduState :=
  { defn := d, since := c, updated := c, sent := none, alive := 0, received := false, timedOut := false, changed := false,
    written := false, deferred := false, imageErr := false, acfSeq := 0, acfHeld := [], acfFrom := 0, next := c, first := true,
    length := none, source := none, lost := [] }

/-- A definition without its mode, period, minimum gap and timeout (R289). -/
def dKeep (d : Nat) : Nat := putBytes (putBytes d 10 1 0) 12 12 0

/-- A commit at epoch `c` gives a PDU the definition `d`: the image goes back to its fill, or only the times change and the
periodic phase restarts (R270, R289). The answer tells whether the image goes. -/
def PduState.adopt (x : PduState) (d c : Nat) : PduState × Bool :=
  if dKeep d = dKeep x.defn then ({ x with defn := d, since := c, next := c, lost := [] }, false)
  else (PduState.fresh d c, true)

/-- The changes of definition `n` that apply after epoch `lo` and up to `e`, earliest first. -/
def State.pduOps (s : State) (lo e n : Nat) : List (Nat × Nat) :=
  ((s.dict.rowOps.filter (fun o => decide (o.tbl = 0x8100) && decide (o.pos = n) && decide (lo < o.epoch)
    && decide (o.epoch ≤ e))).map (fun o => (o.epoch, match o.vals with | some v => rowSub v 7 | none => 0))).reverse

/-- The definition of `n` before any change of the dictionary's tables. -/
def State.pduBase (s : State) (n : Nat) : Nat :=
  match s.dict.image.rows.find? (fun r => decide (r.tbl = 0x8100) && decide (r.pos = n)) with
  | some r => rowSub r.vals 7
  | none => 0

/-- The stored state of PDU `n`, or its state from reset. -/
def State.pduStored (s : State) (n : Nat) : PduState :=
  match kfind s.ford.pdus n with
  | some x => x
  | none => PduState.fresh (s.pduBase n) 0

/-- The state of PDU `n` for key epoch `e`, and whether its image went back to the fill on the way. -/
def State.pduNow (s : State) (e n : Nat) : PduState × Bool :=
  let x := s.pduStored n
  (s.pduOps x.since e n).foldl (fun a o => let r := a.1.adopt o.2 o.1; (r.1, a.2 || r.2)) (x, false)

/-- The state of PDU `n` for key epoch `e`. -/
def State.pdu (s : State) (e n : Nat) : PduState := (s.pduNow e n).1

/-- Bring PDU `n` up to key epoch `e`. -/
def State.settlePdu (s : State) (e n : Nat) : State :=
  let r := s.pduNow e n
  { s with ford := { s.ford with
      pdus := kins s.ford.pdus n r.1,
      images := if r.2 then kdel s.ford.images n else s.ford.images,
      pulled := if r.2 then kdel s.ford.pulled n else s.ford.pulled } }

/-- Change the state of a settled PDU. -/
def State.modPdu (s : State) (n : Nat) (f : PduState → PduState) : State :=
  { s with ford := { s.ford with pdus := kins s.ford.pdus n (f (s.pduStored n)) } }

/-- The image of PDU `n`, filled until something writes it. -/
def State.image (s : State) (e n : Nat) : Bytes :=
  let r := s.pduNow e n
  let fill := List.replicate (dLen r.1.defn) (BitVec.ofNat 8 (dFill r.1.defn))
  if r.2 then fill else (kfind s.ford.images n).getD fill

/-- Set the image of a settled PDU. -/
def State.setImage (s : State) (n : Nat) (b : Bytes) : State :=
  { s with ford := { s.ford with images := kins s.ford.images n b } }

/-- The 16 bytes of a PDU state (Table 11.4). -/
def PduState.bytes (x : PduState) : Bytes :=
  let flags := natOfBool x.received + 2 * natOfBool x.timedOut + 4 * natOfBool x.changed + 8 * natOfBool x.written
    + 16 * natOfBool x.deferred + 32 * natOfBool x.imageErr
  toLE 4 x.updated ++ toLE 4 (x.sent.getD 0) ++ toLE 1 x.alive ++ toLE 1 flags ++ toLE 1 x.acfSeq
    ++ toLE 1 x.acfHeld.length ++ toLE 4 (if 3 ≤ dMode x.defn ∧ dMode x.defn ≤ 4 then x.next else 0)

/-! ### Frames that Ford builds (R271, R278, R292) -/

/-- A PDU's bytes with the fields a transmission adds: alive counter, check word, freshness and CMAC (R278). -/
def finishPdu (d len alive fresh key : Nat) (p : Bytes) : Bytes :=
  let p := if dAlive d = 0 then p else putSignal p (dAliveStart d) (dAlive d) false alive
  let p := if dCheck d = 0 then p else putAt p (dCheckOff d) (toLE (dCheck d) (checkWord d len p))
  if dSecured d then
    let p := putAt p (len - authBytes d) (toBE (dFreshBytes d) fresh)
    putAt p (len - dMacBytes d) (pduMac d len key fresh p)
  else p

/-- One's complement sum of 16-bit words, folded. -/
def inetSum (b : Bytes) : Nat :=
  let t := (List.range ((b.length + 1) / 2)).foldl (fun a i => a + beAt b (2 * i) 2) 0
  let f := fun (x : Nat) => x % 65536 + x / 65536
  65535 - f (f (f t))

/-- Fill in IPv4 length, identification and checksum at offset `o` (R271). -/
def fillIp4 (f : Bytes) (o : Nat) : Bytes :=
  let f := putAt (putAt (putAt f (o + 2) (toBE 2 (f.length - o))) (o + 4) [0, 0]) (o + 10) [0, 0]
  putAt f (o + 10) (toBE 2 (inetSum (slice f o (4 * (byteAt f o % 16)))))

/-- Fill in the UDP length and checksum at offset `u`: the checksum is 0 over IPv4 (R271). -/
def fillUdp (f : Bytes) (o u : Nat) (v6 : Bool) : Bytes :=
  let n := f.length - u
  let f := putAt (putAt f (u + 4) (toBE 2 n)) (u + 6) [0, 0]
  if v6 then
    let c := inetSum (slice f (o + 8) 32 ++ toBE 4 n ++ [0, 0, 0, 17] ++ f.drop u)
    putAt f (u + 6) (toBE 2 (if c = 0 then 0xFFFF else c))
  else f

/-- Fill in the NTSCF data length and sequence number of the header that ends at offset `h` (R271). -/
def fillNtscf (f : Bytes) (h seq : Nat) : Bytes :=
  let n := f.length - h
  let b1 := byteAt f (h - 11) / 8 * 8 + n / 256 % 8
  putAt f (h - 11) (toBE 1 b1 ++ toBE 1 (n % 256) ++ toBE 1 seq)

/-- An Ethernet frame from a header template and what follows the header (R271). -/
def buildEthernet (tmpl seq : Nat) (body : Bytes) : Bytes :=
  let h := subBytes tmpl 0 1
  let kind := subBytes tmpl 1 1 % 4
  let udp := bitOf tmpl 10
  let o := subBytes tmpl 2 1
  let f := (toLE 124 (tmpl / 2 ^ 32)).take h ++ body
  let f := if kind = 1 then fillIp4 f o
    else if kind = 2 then putAt f (o + 4) (toBE 2 (f.length - o - 40))
    else if kind = 3 then fillNtscf f h seq else f
  let f := if udp ∧ (kind = 1 ∨ kind = 2) then
      fillUdp f o (if kind = 1 then o + 4 * (byteAt f o % 16) else o + 40) (decide (kind = 2))
    else f
  f ++ List.replicate (60 - f.length) 0

/-- The header template that a definition names. -/
def State.template (s : State) (e d : Nat) : Nat := s.regAt e (dkey 0x8000 (0x40 + dBus d))

/-- The frame of a kind 4 PDU of length `len` (R271). -/
def State.containerFrame (s : State) (e d len seq : Nat) (p : Bytes) : Bytes :=
  let id := dIdent d % 65536
  buildEthernet (s.template e d) seq ((if id = 0xFFFF then [] else toBE 2 id ++ toBE 2 len) ++ p.take len)

/-- An ACF CAN or ACF CAN brief message for a source frame (R292). -/
def State.acfMessage (s : State) (d bus : Nat) (f : BusFrame) (p : Bytes) : Bytes :=
  let pad := (4 - p.length % 4) % 4
  let hdr := if dBrief d then 8 else 16
  let quads := (hdr + p.length + pad) / 4
  let kind := if dBrief d then 2 else 1
  let b2 := pad * 64 + 32 * natOfBool (!dBrief d) + 16 * natOfBool f.remote + 8 * natOfBool (bitOf f.ident 29)
    + 4 * natOfBool (decide (f.fmt = 2)) + 2 * natOfBool (decide (f.fmt ≠ 0)) + natOfBool f.esi
  let time := if dTimeSet d = 4 then f.stamp else (s.timeSet (dTimeSet d)).ns f.stamp
  toBE 2 (kind * 512 + quads) ++ toBE 1 b2 ++ toBE 1 (bus % 32) ++ (if dBrief d then [] else toBE 8 time)
    ++ toBE 4 (f.ident % 2 ^ 29) ++ p ++ List.replicate pad 0

/-- The lengths that a CAN format carries (Table 11.3). -/
def canLengthOk (fmt n : Nat) : Bool :=
  if fmt = 0 then decide (n ≤ 8)
  else if fmt = 3 then decide (1 ≤ n) && decide (n ≤ 2048)
  else decide (n ≤ 8) || decide (n ∈ [12, 16, 20, 24, 32, 48, 64])

/-- The smallest length of a CAN format that holds `n` bytes, if any. -/
def canLength (fmt n : Nat) : Option Nat :=
  if fmt = 0 ∨ fmt = 3 then (if canLengthOk fmt (max n (if fmt = 3 then 1 else 0)) then some (max n (if fmt = 3 then 1 else 0)) else none)
  else [0, 1, 2, 3, 4, 5, 6, 7, 8, 12, 16, 20, 24, 32, 48, 64].find? (fun x => decide (n ≤ x))

end Sys2Proof.Machine
end

