-- ==== Sys2Proof/Machine/Arming.lean ====
section
/-! DEFINITION. The checks of a record against every other entry and row at the apply epoch: the second group of R470. -/

namespace Sys2Proof.Machine

open Sys2Proof

/-- The configuration a check looks at: entries, tables' rows and the FlexRay domain. -/
structure Plan where
  reg  : Nat → Nat
  rows : Nat → List (Nat × List Nat)
  fx   : Bytes

/-- The applied configuration with every staged record laid over it (R470). -/
def State.plan (s : State) (e : Nat) : Plan := ⟨s.regStaged e, s.stagedRows e, s.domain 0x7060 0x10⟩

/-- A value of the planned configuration. -/
def Plan.g (c : Plan) (idx sub : Nat) : Nat := c.reg (dkey idx sub)

/-- A row of the planned configuration. -/
def Plan.row (c : Plan) (tbl pos : Nat) : Option (List Nat) := kfind (c.rows tbl) pos

/-! ### Entries -/

/-- PAUSE against PFC, and XON against XOFF (R125, R127). -/
def Plan.flowStatus (c : Plan) (p sub : Nat) : Nat :=
  let i := 0x3000 + p
  if 7 ≤ sub ∧ sub ≤ 9 then
    (if c.g i 7 % 4 ≠ 0 ∧ (c.g i 8 ≠ 0 ∨ c.g i 9 ≠ 0) then 0x0B else 0)
  else if sub = 0x0B ∨ sub = 0x0C then pick false (decide (p < 28) && decide (c.g i 0x0B ≤ c.g i 0x0C))
  else 0

/-- Equal domain numbers in two gPTP instances (Table 4.4). -/
def Plan.domainStatus (c : Plan) (n : Nat) : Nat :=
  pick false ((List.range 4).any (fun m => decide (m ≠ n) && decide (c.g (0x2100 + m) 2 = c.g (0x2100 + n) 2)))

/-- A trigger's width against its period (R104), and a shared trigger that is active low (R315). -/
def Plan.triggerStatus (c : Plan) (n : Nat) : Nat :=
  let i := 0x2210 + n
  pick false ((decide (c.g i 1 = 2) && decide (c.g i 3 < (c.g i 4 + 8) * 65536))
    || (bitOf (c.g 0x9020 (0x22 + n)) 1 && decide (c.g i 5 ≠ 0)))

/-- Highest rate of a port's kind in kb/s (R231). -/
def kindRate (p : Nat) : Nat :=
  if isBP p then 25000000 else if isEP p then 1000000 else if isSP p then 10000
  else if p = 28 then 50000000 else if p = 29 then 10000000 else 25000000

/-- The sum of every queue's reserve. -/
def Plan.reserves (c : Plan) : Nat :=
  (List.range 32).foldl (fun a p => (List.range 8).foldl (fun b q => b + c.g (0x3400 + p) (q * 16 + 8)) a) 0

/-- A queue's idleSlope, its limit against its reserve, and the sum of the reserves against half the frame cells (R200,
R231). -/
def Plan.queueStatus (c : Plan) (banks p sub : Nat) : Nat :=
  let i := 0x3400 + p
  let q := sub / 16
  if sub % 16 = 2 then pick false (decide (kindRate p ≤ c.g i sub))
  else if sub % 16 = 8 ∨ sub % 16 = 9 then
    pick false (decide (c.g i (q * 16 + 9) < c.g i (q * 16 + 8)) || decide (banks * 8192 ≤ 2 * c.reserves))
  else 0

/-- Whether node `n` is valid. -/
def Plan.nodeValid (c : Plan) (n : Nat) : Bool := bitOf (c.g 0x5000 n) 0

/-- Whether a next node names an end, a built-in header or a valid node. -/
def Plan.leadsOn (c : Plan) (n : Nat) : Bool := decide (n ≤ 2) || c.nodeValid n

/-- The nodes that a valid node may go to. -/
def nodeTargets (v : Nat) : List Nat :=
  subBytes v 10 1 :: (((List.range 4).map (nodeTransition v)).filter (fun t => bitOf t.2.2 0)).map (fun t => t.2.1)

/-- A hook against the other hooks and its start node (R141). -/
def Plan.hookStatus (c : Plan) (sub : Nat) : Nat :=
  let h := c.g 0x5000 sub
  let twin := (List.range 16).any (fun i => decide (0x10 + i ≠ sub) &&
    (let x := c.g 0x5000 (0x10 + i); bitOf x 31 && decide (x % 2 ^ 20 = h % 2 ^ 20)))
  pick false (bitOf h 31 && (twin || !c.nodeValid (fieldOf h 30 24)))

/-- A node against the nodes it names, and against the hooks and nodes that name it (R143). -/
def Plan.nodeStatus (c : Plan) (n : Nat) : Nat :=
  let v := c.g 0x5000 n
  if bitOf v 0 then pick false ((nodeTargets v).any (fun m => !c.leadsOn m))
  else
    pick false ((List.range 16).any (fun i => let h := c.g 0x5000 (0x10 + i); bitOf h 31 && decide (fieldOf h 30 24 = n))
      || (List.range 64).any (fun i => let w := c.g 0x5000 (0x40 + i); bitOf w 0 && decide (n ∈ nodeTargets w)))

/-- A CAN controller's timing (R246, R247). -/
def Plan.canStatus (c : Plan) (n : Nat) : Nat :=
  let i := 0x7000 + n
  let fmt := c.g i 2
  let d := c.g i 5
  pick false (!timingOk 80000000 (c.g i 3) (c.g i 4) d (c.g i 6) fmt
    || (bitOf fmt 1 && decide (10000000 < d) && decide (c.g i 8 = 0))
    || (decide (fmt % 4 = 1) && decide (8000000 < d)))

/-- A LIN slot entry against the channel's rate (R255). -/
def slotBad (rate v : Nat) : Bool :=
  let d := subBytes v 3 1
  let slot := subBytes v 4 4
  decide (4 < subBytes v 1 1) || decide (63 < subBytes v 0 1) || outside 1 8 d || outside 1000 1000000 slot
    || decide (slot * rate * 10 < 14 * (34 + 10 * (d + 1)) * 1000000)

/-- A LIN channel's schedules (R255). -/
def Plan.linStatus (c : Plan) (n : Nat) : Nat :=
  let i := 0x7040 + n
  pick false ((List.range 8).any (fun j =>
    let w := c.g i (0x10 + j)
    let len := w / 256 % 256
    decide (64 < len) || (decide (0 < len) && decide (192 < w % 256 + len))
      || (List.range (min len 64)).any (fun k => slotBad (c.g i 2) (c.g i (0x40 + w % 256 + k)))))

/-- A FlexRay buffer entry out of bounds (Table 10.5). -/
def fxBufferBad (b : Nat) : Bool :=
  outside 1 2047 (subBytes b 0 2) || decide (63 < subBytes b 2 1) || decide (subBytes b 3 1 ∉ [1, 2, 4, 8, 16, 32, 64])
    || decide (32 ≤ subBytes b 4 1) || decide (127 < subBytes b 5 1) || decide (8191 < subBytes b 6 2)

/-- The FlexRay configuration when the controller is enabled (R260). -/
def Plan.fxStatus (c : Plan) : Nat :=
  let n := leAt c.fx 128 4
  pick false (decide (c.g 0x7060 1 = 1) && (!Config.iso17458 (c.fx.take 128) || decide (128 < n)
    || decide (c.fx.length ≠ 132 + 8 * n) || (List.range (min n 128)).any (fun i => fxBufferBad (leAt c.fx (132 + 8 * i) 8))))

/-- The homes of the internal ports, and the CAN access controller's class (R315). -/
def Plan.homeStatus (c : Plan) (sub : Nat) : Nat :=
  if 0x40 ≤ sub ∧ sub ≤ 0x5F then
    pick false ((decide (sub = 0x5C) && decide (c.g 0x9020 sub = 0)) || (decide (0x5D ≤ sub) && decide (c.g 0x9020 sub ≠ 0)))
  else if 0x22 ≤ sub ∧ sub ≤ 0x31 then c.triggerStatus (sub - 0x22)
  else
    let n := c.g 0x1010 5
    pick false (decide (n < 24) && decide (sub = 1 + n) && !bitOf (c.g 0x9020 (1 + n)) 0)

/-! ### Gate lists (R232) -/

/-- A port's admin list while its gates are enabled. -/
def Plan.gateStatus (c : Plan) (p : Nat) : Nat :=
  let tbl := 0x3500 + p
  let len := c.g tbl 0x14
  let rows := (List.range len).map (c.row tbl)
  let ops : List Nat := rows.filterMap (fun r => r.map (fun v => rowSub v 7))
  pick false (decide (c.g tbl 0x10 ≠ 0) && (decide (len = 0) || rows.any Option.isNone
    || (decide (20 ≤ p) && ops.any (fun o => decide (o ≠ 0))) || (decide (1 ∈ ops) && decide (2 ∉ ops))))

/-! ### Stream functions and the firewall (R217, R222, R226) -/

/-- Whether a meter exists and is shared. -/
def Plan.meterShared (c : Plan) (n : Nat) : Bool :=
  match c.row 0x5B00 n with | some v => decide (rowSub v 0x0C = 0xFF) | none => false

/-- A verdict word against its meter (R222). -/
def Plan.wordBad (c : Plan) (w : Nat) : Bool := decide (w % 8 = 3) && !c.meterShared (fieldOf w 30 16)

/-- A filter against the gate and the meter that it uses (R217). -/
def Plan.filterBad (c : Plan) (v : List Nat) : Bool :=
  let f := rowSub v 7
  (bitOf f 25 && (c.row 0x5A00 (subBytes f 6 1)).isNone) || (bitOf f 26 && (c.row 0x5B00 (subBytes f 8 2)).isNone)

/-- A shared stream gate with an octet maximum or close on invalid (R222). -/
def gateShareBad (v : List Nat) : Bool :=
  decide (rowSub v 0x0E = 0xFF) && (bitOf (rowSub v 0x0D) 0
    || (List.range (min (rowSub v 0x0B) 16)).any (fun i => decide (subBytes (gateListEntry (rowSub v 0x0C) i) 5 2 ≠ 0)))

/-- Whether two FRER functions have one kind and handle, for kind 3 also one port (R226). -/
def frerTwin (a b : List Nat) : Bool :=
  decide (rowSub a 7 = rowSub b 7) && decide (rowSub a 8 = rowSub b 8)
    && (decide (rowSub a 7 ≠ 3) || decide (rowSub a 9 = rowSub b 9))

/-! ### Ford (R268, R270, R271, R273) -/

/-- A valid definition of the planned configuration, in the asked direction. -/
def Plan.pdu (c : Plan) (n : Nat) (tx : Bool) : Option Nat :=
  match c.row 0x8100 n with
  | some v => let d := rowSub v 7; if dValid d ∧ dTx d = tx then some d else none
  | none => none

/-- Whether two valid receive definitions have one match key (R269). -/
def matchTwin (a b : Nat) : Bool :=
  decide (dKind a = dKind b) && (match dKind a with
    | 1 => decide (dBus a = dBus b) && decide (dExt a = dExt b) && decide (dIdent a = dIdent b)
    | 2 => decide (dBus a = dBus b) && decide (dIdent a = dIdent b)
    | 4 => decide (dIdent a = dIdent b)
    | 5 => decide (dBus a = dBus b) && decide (dExt a = dExt b) && decide (dIdent a = dIdent b)
    | _ => false)

/-- Bytes that the transmit images take (R270). -/
def Plan.imageBytes (c : Plan) : Nat :=
  (c.rows 0x8100).foldl (fun a r =>
    let d := rowSub r.2 7
    if dValid d ∧ dTx d then a + (dLen d + 7) / 8 * 8 else a) 0

/-- Bytes of header template `t`. -/
def Plan.templateLen (c : Plan) (t : Nat) : Nat := c.g 0x8000 (0x40 + t) % 256

/-- A transmit definition that its template makes too long (Table 11.3). -/
def Plan.templateBad (c : Plan) (d : Nat) : Bool :=
  dValid d && dTx d && ((decide (dKind d = 4) && decide (1518 < c.templateLen (dBus d) + 4 + dLen d))
    || (decide (dKind d = 5) && decide (1518 < c.templateLen (dBus d) + dLen d)))

/-- Whether a definition's route range holds a route of another source. -/
def Plan.rangeBad (c : Plan) (n d : Nat) : Bool :=
  (c.rows 0x8200).any (fun r => decide (dFirst d ≤ r.1) && decide (r.1 < dFirst d + dCount d) && decide (r.1 < 65536)
    && decide (rSource (rowSub r.2 8) ≠ n))

/-- A PDU definition against the others, its template and its routes. -/
def Plan.pduStatus (c : Plan) (n : Nat) (v : List Nat) : Nat :=
  let d := rowSub v 7
  let twin := dValid d && !dTx d && (c.rows 0x8100).any (fun r => let x := rowSub r.2 7
    decide (r.1 ≠ n) && dValid x && !dTx x && matchTwin d x)
  pick false (twin || c.templateBad d || (dValid d && c.rangeBad n d))

/-- Whether a bit lies outside a PDU or in a field that Ford checks or fills. -/
def bitForbidden (d b : Nat) : Bool :=
  decide (8 * dLen d ≤ b) || (pduFields d).any (fun x => decide (x.1 ≤ b) && decide (b < x.1 + x.2))

/-- A route's attribute record against the target's range (R273). -/
def Plan.attrBad (c : Plan) (r : Nat) : Bool :=
  if rAttr r = 0xFFFF then false
  else match c.row 0x8200 (65536 + rAttr r) with
    | none => true
    | some v =>
      let a := rowSub v 8
      let lim := rangeOf (rTLen r) (rTSigned r)
      decide (0 < rSLen r) && (decide (aMin a < lim.1) || decide (lim.2 < aMin a) || decide (aMax a < lim.1)
        || decide (lim.2 < aMax a))

/-- A route against its PDUs and its attribute record (R273). -/
def Plan.routeBad (c : Plan) (r : Nat) : Bool :=
  match c.pdu (rSource r) false, c.pdu (rTarget r) true with
  | some a, some b =>
    (decide (0 < rSLen r) && ((signalBits (rSStart r) (rSLen r) (rSBig r)).any (bitForbidden a)
      || (signalBits (rTStart r) (rTLen r) (rTBig r)).any (bitForbidden b))) || c.attrBad r
  | _, _ => true

/-- Whether a route row lies in the range of a valid definition of another source. -/
def Plan.routeStray (c : Plan) (n r : Nat) : Bool :=
  (c.rows 0x8100).any (fun x => let d := rowSub x.2 7
    dValid d && decide (dFirst d ≤ n) && decide (n < dFirst d + dCount d) && decide (rSource r ≠ x.1))

/-- The routes of the planned configuration. -/
def Plan.routes (c : Plan) : List (Nat × Nat) :=
  ((c.rows 0x8200).filter (fun r => decide (r.1 < 65536))).map (fun r => (r.1, rowSub r.2 8))

/-! ### Rows and records -/

/-- A row that stands in the planned configuration. -/
def Plan.rowStatus (c : Plan) (tbl pos : Nat) (v : List Nat) : Nat :=
  if tbl = 0x5900 then pick false (c.filterBad v)
  else if tbl = 0x5A00 then pick false (gateShareBad v)
  else if tbl = 0x5C00 then pick false ((c.rows tbl).any (fun r => decide (r.1 ≠ pos) && frerTwin r.2 v))
  else if tbl = 0x6100 then pick false (c.wordBad (rowSub v 0x0A))
  else if tbl = 0x8100 then
    let st := c.pduStatus pos v
    if st ≠ 0 then st else if 1048576 < c.imageBytes then 8 else 0
  else if tbl = 0x8200 then
    (if pos < 65536 then pick false (c.routeBad (rowSub v 8) || c.routeStray pos (rowSub v 8)) else 0)
  else 0

/-- The rows that rest on the rows of a table that `p` picks. -/
def Plan.dependents (c : Plan) (tbl : Nat) (p : Nat → Bool) : Nat :=
  if 0x3500 ≤ tbl ∧ tbl < 0x3520 then c.gateStatus (tbl - 0x3500)
  else if tbl = 0x5A00 then
    pick false ((c.rows 0x5900).any (fun r => p (subBytes (rowSub r.2 7) 6 1) && c.filterBad r.2))
  else if tbl = 0x5B00 then
    pick false ((c.rows 0x5900).any (fun r => p (subBytes (rowSub r.2 7) 8 2) && c.filterBad r.2)
      || (c.rows 0x6100).any (fun r => p (fieldOf (rowSub r.2 0x0A) 30 16) && c.wordBad (rowSub r.2 0x0A)))
  else if tbl = 0x8100 then pick false (c.routes.any (fun r => (p (rSource r.2) || p (rTarget r.2)) && c.routeBad r.2))
  else if tbl = 0x8200 then
    pick false (c.routes.any (fun r => decide (rAttr r.2 ≠ 0xFFFF) && p (65536 + rAttr r.2) && c.attrBad r.2))
  else 0

/-- An entry of the planned configuration against the others; `banks` are the frame banks. -/
def Plan.entryStatus (c : Plan) (banks idx sub : Nat) : Nat :=
  if 0x3000 ≤ idx ∧ idx < 0x3020 then c.flowStatus (idx - 0x3000) sub
  else if 0x2100 ≤ idx ∧ idx < 0x2104 then (if sub = 2 then c.domainStatus (idx - 0x2100) else 0)
  else if 0x2210 ≤ idx ∧ idx < 0x2220 then c.triggerStatus (idx - 0x2210)
  else if 0x3400 ≤ idx ∧ idx < 0x3420 then c.queueStatus banks (idx - 0x3400) sub
  else if 0x3500 ≤ idx ∧ idx < 0x3520 then c.gateStatus (idx - 0x3500)
  else if idx = 0x4010 then (if sub = 1 ∨ sub = 2 then pick false (decide (c.g 0x4010 1 < c.g 0x4010 2)) else 0)
  else if idx = 0x5000 then (if sub < 0x20 then c.hookStatus sub else c.nodeStatus sub)
  else if 0x7000 ≤ idx ∧ idx < 0x7018 then (if 2 ≤ sub ∧ sub ≤ 8 then c.canStatus (idx - 0x7000) else 0)
  else if 0x7040 ≤ idx ∧ idx < 0x7048 then c.linStatus (idx - 0x7040)
  else if idx = 0x7060 then (if sub = 1 then c.fxStatus else 0)
  else if idx = 0x8000 ∧ 0x40 ≤ sub then
    pick false ((c.rows 0x8100).any (fun r => decide (dBus (rowSub r.2 7) = sub - 0x40) && c.templateBad (rowSub r.2 7)))
  else if idx = 0x1010 then
    (if sub = 5 ∧ c.g 0x1010 5 < 24 ∧ ¬ bitOf (c.g 0x9020 (1 + c.g 0x1010 5)) 0 then 5 else 0)
  else if idx = 0x9020 then c.homeStatus sub
  else if idx = 0xA300 ∧ 0x10 ≤ sub ∧ (sub % 8 = 1 ∨ sub % 8 = 2) then
    pick false (decide (c.g idx (sub / 8 * 8 + 2) ≤ c.g idx (sub / 8 * 8 + 1)))
  else 0

/-- A staged record against the planned configuration. -/
def Plan.recordStatus (c : Plan) (banks : Nat) (w : StagedWork) : Nat :=
  match w with
  | .value key _ => c.entryStatus banks (key / 256) (key % 256)
  | .rowOp tbl code vals =>
    if code = 7 then c.dependents tbl (fun _ => true)
    else
      let pos := match posOfKey tbl (c.rows tbl) vals with
        | some p => p
        | none => (numberedPos tbl vals).getD 0
      let own := if code = 4 then 0 else match c.row tbl pos with
        | some v => c.rowStatus tbl pos v
        | none => 0
      if own ≠ 0 then own else c.dependents tbl (fun n => decide (n = pos))

/-- The address a refused record is shown under (`1302h.08`): its entry, or its table's operation entry. -/
def StagedWork.address (w : StagedWork) : Nat :=
  match w with
  | .value key _ => key
  | .rowOp tbl _ _ => dkey tbl 1

/-- The first staged record, in staging order, that fails: its status and its address (R470). -/
def State.armingFault (s : State) (e : Nat) : Option (Nat × Nat) :=
  let c := s.plan e
  s.dict.staging.recs.findSome? (fun w =>
    let st := c.recordStatus s.frameBanks w
    if st = 0 then none else some (st, w.address))

/-- The staged record that gives a port a new list, if any. -/
def State.stagedList (s : State) (p : Nat) : Option StagedWork :=
  s.dict.staging.recs.find? (fun w => match w with
    | .value key _ => decide (key / 256 = 0x3500 + p) && decide (key % 256 ∈ [0x10, 0x12, 0x13, 0x14])
    | .rowOp tbl _ _ => decide (tbl = 0x3500 + p))

/-- A list of the reference port that does not start a cycle at B makes a mode 1 arm fail (R234). -/
def State.modeOneFault (s : State) (e p b : Nat) : Option (Nat × Nat) :=
  match s.stagedList p with
  | none => none
  | some w =>
    let tbl := 0x3500 + p
    let base := time80Ns (s.regStaged e (dkey tbl 0x12))
    let cycle := s.regStaged e (dkey tbl 0x13)
    if s.regStaged e (dkey tbl 0x10) ≠ 0 ∧ ((b : Int) - base) % cycle ≠ 0 then some (5, w.address) else none

end Sys2Proof.Machine
end

