-- ==== Sys2Proof/Machine/Pairing.lean ====
section
/-! DEFINITION. Roles of a pair: claims, the pairing handshake, fail notices, fencing at the edge of pairing, and the start of a
resynchronisation (R299 to R305, R318, Tables 12.2 to 12.4). -/

namespace Sys2Proof.Machine

open Sys2Proof

/-! ### Roles -/

/-- Enter a role. -/
def State.setRole (s : State) (r : Role) : State := { s with saddle := { s.saddle with role := r } }

/-- Note the levels of the pair's pins. -/
def State.seePins (s : State) (p : Pins) : State :=
  { s with saddle := { s.saddle with roleIn := p.roleIn, pinHeard := p.pin } }

/-- Whether a heartbeat has been heard on either path in the last 2 µs (R320). -/
def State.partnerHeard (s : State) : Bool := s.elnarHeard 2000 || s.saddle.pinHeard

/-- Whether a lockstep pair is in debug without the debug override of `A000h.03`, so that authority is refused (R302, R323). -/
def State.debugRefuses (s : State) : Bool :=
  (List.range 4).any (fun p => decide (s.stat (0xA010 + p) 1 = 4)) && decide (s.reg 0xA000 3 ≠ 1)

/-- Become SOLO with authority and every token (R302, R323). -/
def State.becomeSolo (s : State) : State :=
  let s := { s with saddle := { s.saddle with
      role := .solo, authority := true, journaling := false, outbox := [], resync := none, handshake := none,
      digests := [], handovers := [], swap := none, declared := none, confirmed := false } }
  (s.setTokens s.allTokens).setStat 0x9010 4 0

/-- CLAIM: a member in START hears no partner for its claim time, device 1 for five times as long (R302). -/
def claim (pins : Pins) (s : State) : State :=
  let s := s.seePins pins
  let d := s.reg 0x9000 6 * 1000 * (if s.pairId = 1 then 5 else 1)
  if s.saddle.role ≠ .start ∨ pins.roleIn ∨ pins.pin ∨ s.elnarHeard d ∨ s.time.raw < s.saddle.claimFrom + d then s
  else if s.debugRefuses then s.orStat 0x9000 0x14 2048
  else s.becomeSolo

/-- CLAIM (R302). -/
def execClaim (t : Nat) (pins : Pins) (s : State) : Out := happen t true s (claim pins)

/-! ### The fail notice (R300) -/

/-- Every shared output goes inactive, bit 7 of the heartbeat is set for 2 µs, and only a reset ends HALTED. -/
def State.failNotice (s : State) : State :=
  { s with saddle := { s.saddle with
      role := .halted, authority := false, noticeTo := s.time.raw + 2000, journaling := false, handshake := none, retryAt := none,
      resync := none, swap := none, handovers := [] } }

/-- FAIL_NOTICE: the fault collection unit has entered a fatal reaction. -/
def failNoticeNow (s : State) : State :=
  if s.saddle.enabled ∧ s.safety.fatalRaw.isSome ∧ s.saddle.role ≠ .halted then s.failNotice else s

/-- FAIL_NOTICE (R300). -/
def execFailNotice (t : Nat) (s : State) : Out := happen t true s failNoticeNow

/-! ### Liveness (R299) -/

/-- LIVENESS_LAPSE: the safety manager has not refreshed the liveness input for 100 µs, or refreshes it again. -/
def livenessLapse (lapsed : Bool) (s : State) : State :=
  let since := if lapsed then (match s.saddle.lapsed with
    | some r => some r
    | none => some s.time.raw) else none
  { s with saddle := { s.saddle with lapsed := since } }

/-- LIVENESS_LAPSE (R299). -/
def execLivenessLapse (t : Nat) (lapsed : Bool) (s : State) : Out := happen t true s (livenessLapse lapsed)

/-! ### The handshake (R303 to R305) -/

/-- The HELLO this member would send with a nonce (Table 12.3). -/
def State.helloBytes (s : State) (nonce : Nat) : Bytes :=
  toBE 1 1 ++ toBE 1 s.pairId ++ toBE 2 0x00B0 ++ toBE 4 Config.firmwareBuild.toNat ++ toBE 48 s.dict.image.hash
    ++ toBE 1 (natOfBool s.saddle.authority + 2 * natOfBool (decide (s.stat 0x9000 0x15 ≠ 0)) + 4 * natOfBool s.debugRefuses)
    ++ [0, 0, 0] ++ toBE 16 nonce ++ toBE 4 s.dict.image.seq

/-- Roles from which pairing starts (Table 12.2); a member detached by command stays out of it (R331). -/
def State.mayPair (s : State) : Bool :=
  (decide (s.saddle.role = .start) && !s.saddle.detached) || decide (s.saddle.role = .solo) || decide (s.saddle.role = .fenced)

/-- Start the handshake: HELLO goes out. -/
def State.startPairing (s : State) : State :=
  if s.mayPair && s.live && s.linkSync then
    let m := s.helloBytes (s.random % 2 ^ 128)
    let s := s.drawFree
    let s := { s with saddle := { s.saddle with
        role := .pairing, handshake := some ⟨s.time.raw, m, none, false⟩, retryAt := none } }
    s.sendMsg 2 1 0 m
  else s

/-- The end of a handshake without a pair: who held tokens is SOLO again; when neither did, the preferred member is (R305). -/
def State.leavePairing (s : State) (preferred : Bool) : State :=
  let s := { s with saddle := { s.saddle with handshake := none, claimFrom := s.time.raw } }
  if s.stat 0x9000 0x15 ≠ 0 then s.setRole .solo
  else if preferred then s.becomeSolo
  else s.setRole .start

/-- Whether this member claims after a refusal: neither held tokens and `9000h.02` names it (R305). -/
def State.claimsAfter (s : State) (theirs : Option Bytes) : Bool :=
  match theirs with
  | some h => !bitOf (byteAt h 56) 1 && decide (s.reg 0x9000 2 = s.pairId)
  | none => false

/-- A refusal: its code, bit 7 of `9000h.14` and an event; the partner learns the code when this member found it (R305). -/
def State.refusePairing (s : State) (code : Nat) (tell : Bool) : State :=
  let p := s.claimsAfter (s.saddle.handshake.bind Handshake.theirs)
  let s := if tell then s.sendMsg 2 3 0 (toBE 1 3 ++ toBE 1 s.pairId ++ toBE 2 code ++ [0]) else s
  let s := (s.setStat 0x9000 0x12 code).orStat 0x9000 0x14 128
  (s.raiseEvent 0x0F01 0x0A02 code).leavePairing p

/-- Whether this member is the authority of a pair (R304). -/
def State.choosesSelf (s : State) (mine theirs : Bytes) : Bool :=
  let hold := bitOf (byteAt mine 56) 1
  let other := bitOf (byteAt theirs 56) 1
  if hold != other then hold
  else if hold then decide (s.pairId = 0)
  else if s.reg 0x9000 2 = s.pairId then !bitOf (byteAt mine 56) 2
  else bitOf (byteAt theirs 56) 2

/-- The code that a comparison of two HELLOs gives (Table 12.4). -/
def State.helloCode (s : State) (mine theirs : Bytes) : Nat :=
  if byteAt theirs 1 = s.pairId then 2
  else if slice theirs 2 2 ≠ slice mine 2 2 then 3
  else if slice theirs 4 4 ≠ slice mine 4 4 then 4
  else if slice theirs 8 48 ≠ slice mine 8 48 then 5
  else if s.reg 0x9000 3 = 0xFF ∨ !s.slotUsable (s.reg 0x9000 3) 1 0 then 7
  else if !bitOf (byteAt mine 56) 1 ∧ !bitOf (byteAt theirs 56) 1 ∧ bitOf (byteAt mine 56) 2 ∧ bitOf (byteAt theirs 56) 2 then 8
  else 0

/-- The truncated proof of a sender over its HELLO and the receiver's (R303). -/
def State.proofOf (s : State) (sender receiver : Bytes) : Bytes :=
  toBE 16 (Config.cmac (s.slot (s.reg 0x9000 3)).value (sender ++ receiver)).toNat

/-- HELLO: the partner's HELLO is compared, and PROOF goes out or pairing is refused. An ACTIVE member whose partner has started
anew pairs again. -/
def hello (m : Bytes) (s : State) : State :=
  let s := s.consume 2 1 m
  let s := if s.saddle.role = .active then ({ s with saddle := { s.saddle with journaling := false, resync := none } } : State).setRole .solo
    else s
  let s := s.startPairing
  match s.saddle.handshake with
  | none => s
  | some h =>
    let s := { s with saddle := { s.saddle with handshake := some { h with theirs := some m } } }
    let code := s.helloCode h.mine m
    if code ≠ 0 then s.refusePairing code true
    else s.sendMsg 2 2 0 (toBE 1 2 ++ toBE 1 s.pairId ++ s.proofOf h.mine m)

/-- HELLO (R303). -/
def execHello (t : Nat) (m : Bytes) (s : State) : Out := happen t true s (hello m)

/-! ### Both ends of a new pair -/

/-- The egress queues are flushed (Table 12.9). -/
def State.flushAll (s : State) : State :=
  (s.basin.copies.filter (fun c => decide (c.port < 28) && !s.begun c)).foldl State.flushCopy s

/-- Frames that wait for a record or an ordering unit leave with what waited. -/
def State.dropWaiting (s : State) : State :=
  { s with
    basin := { s.basin with frames := s.basin.frames.filter (fun f => !f.waiting) },
    ord := { s.ord with
      transit := [],
      units := s.ord.units.map (fun (u : SortBuffer) => { u with buf := [] }) } }

/-- A member enters SYNCING: it gives its tokens up with records, discards what it took alone and sends nothing until f (R314,
R318, Table 12.9). -/
def State.enterSyncing (s : State) : State :=
  let s := if s.saddle.role = .standby then
      ((List.range outputCount).filter s.holds).foldl (fun s n => s.sendRecord (plainRec 0x0E s.keyEpoch n)) s else s
  let s := (s.setTokens 0).flushAll.dropWaiting
  { s with saddle := { s.saddle with
      role := .syncing, authority := false, handshake := none, inbox := [], own := [], mark := 0, retained := [], lagSince := none,
      caughtUp := false, declared := none, confirmed := false, swap := none, handovers := [],
      resync := some ⟨s.keyEpoch, 1, none, none⟩ } }

/-- A swap planned for a pair out of step is abandoned: status 0x000B and bit 10 (R330). -/
def State.abandonSwap (s : State) : State :=
  match s.saddle.swap with
  | none => s
  | some _ =>
    let s := ((s.setStat 0x9010 6 0x0B).setStat 0x9010 4 0).orStat 0x9000 0x14 1024
    { s with saddle := { s.saddle with swap := none } }

/-- The active member starts a resynchronisation at the present boundary; it does not journal meanwhile (R318). -/
def State.startResync (s : State) (tell : Bool) : State :=
  let s := s.abandonSwap
  let s := if tell then s.sendRecord (plainRec 0x0F s.keyEpoch 0) else s
  { s with saddle := { s.saddle with
      journaling := false, outbox := [], digests := [], resync := some ⟨s.keyEpoch, 1, none, none⟩ } }

/-- A new pair: code 0, and the interval of swaps counts from here (R304, R327). -/
def State.paired (s : State) : State :=
  let s := s.setStat 0x9000 0x12 0
  { s with saddle := { s.saddle with handshake := none, swapped := s.time.orderNs, acked := 0 } }

/-- The authority enters ACTIVE with every token and resynchronises the joiner (R304, R314). -/
def State.becomeActive (s : State) : State :=
  let s := { s.paired with saddle := { s.paired.saddle with role := .active, authority := true } }
  (s.setTokens s.allTokens).startResync false

/-- PROOF: the partner's proof is verified; the authority sends RESULT, and of two that hold tokens device 1 stops its shared
outputs at once (R303, R304). -/
def proof (m : Bytes) (s : State) : State :=
  let s := s.consume 2 2 m
  match s.saddle.handshake with
  | none => s
  | some h => match h.theirs with
    | none => s
    | some o =>
      if slice m 2 16 ≠ s.proofOf o h.mine then s.refusePairing 6 true
      else if s.choosesSelf h.mine o then
        (s.sendMsg 2 3 0 (toBE 1 3 ++ toBE 1 s.pairId ++ toBE 2 0 ++ [0])).becomeActive
      else
        let s := { s with saddle := { s.saddle with handshake := some { h with proved := true } } }
        if bitOf (byteAt h.mine 56) 1 then s.setTokens 0 else s

/-- PROOF (R303). -/
def execProof (t : Nat) (m : Bytes) (s : State) : Out := happen t true s (proof m)

/-- RESULT: the receiver becomes joiner or authority, or pairing was refused (R304, R305). -/
def result (m : Bytes) (s : State) : State :=
  let s := s.consume 2 3 m
  match s.saddle.handshake with
  | none => s
  | some h =>
    if beAt m 2 2 ≠ 0 then s.refusePairing (beAt m 2 2) false
    else if !h.proved then s
    else if byteAt m 4 = 1 then s.becomeActive
    else s.paired.enterSyncing

/-- RESULT (R304). -/
def execResult (t : Nat) (m : Bytes) (s : State) : Out := happen t true s (result m)

/-- PAIRING_TIMEOUT: 10 ms after the first HELLO the handshake is abandoned with code 9 (R303). -/
def pairingTimeout (s : State) : State :=
  match s.saddle.handshake with
  | none => s
  | some h =>
    if h.since + 10000000 ≤ s.time.raw then
      let s := s.refusePairing 9 false
      { s with saddle := { s.saddle with retryAt := some (h.since + 100000000) } }
    else s

/-- PAIRING_TIMEOUT (R303). -/
def execPairingTimeout (t : Nat) (s : State) : Out := happen t true s pairingTimeout

/-- PAIRING_RETRY: an abandoned handshake is retried every 100 ms (R303). -/
def pairingRetry (s : State) : State :=
  match s.saddle.retryAt with
  | some r => if r ≤ s.time.raw then s.startPairing else s
  | none => s

/-- PAIRING_RETRY (R303). -/
def execPairingRetry (t : Nat) (s : State) : Out := happen t true s pairingRetry

end Sys2Proof.Machine
end

