-- ==== Sys2Proof/Machine/ElnarFamily.lean ====
section
/-! DEFINITION. The commands of the Elnar link: lane frames, cells, and the partner bridge with its window and semaphores
(R333 to R354). -/

namespace Sys2Proof.Machine

open Sys2Proof

/-! ### Lane frames received (R336 to R342) -/

/-- A new candidate position (Table 13.2). -/
def State.addCandidate (s : State) (r pos : Nat) (exact_ : Bool) : State :=
  if exact_ ∧ (s.rxLane r).cands.length < 8 then
    (s.modRx r (fun x => { x with cands := x.cands ++ [(pos, 1)] })).setStat (0x9110 + r) 2 1
  else s

/-- A candidate that matched a third time becomes the alignment (R339). -/
def State.enterSync (s : State) (r pos : Nat) : State :=
  ((s.modRx r (fun _ => { RxLane.reset with pos := pos })).setStat (0x9110 + r) 2 2).clearDefect r 1

/-- LANE_FRAME_RECEIVED: the 256 bytes at bit position `pos` of lane `r`, as on the line (R336 to R341). -/
def laneFrameReceived (r pos : Nat) (line : Bytes) (s : State) : State :=
  let x := s.rxLane r
  let st := s.stat (0x9110 + r) 2
  let word := beAt line 0 6
  let exact_ := decide (word = alignWord)
  if bitOf (s.stat (0x9110 + r) 3) 0 then s
  else if st = 2 then
    if pos ≠ x.pos then s
    else
      let bad := if popCount (word ^^^ alignWord) 48 ≤ 3 then 0 else x.bad + 1
      if 4 ≤ bad then s.loseFrame r else (s.modRx r (fun x => { x with bad := bad })).alignedFrame r line
  else match x.cands.find? (fun c => decide (c.1 = pos)) with
    | none => s.addCandidate r pos exact_
    | some c =>
      if exact_ then
        (if 2 ≤ c.2 then (s.enterSync r pos).alignedFrame r line
         else s.modRx r (fun x => { x with cands := modWhere (fun y => decide (y.1 = pos)) (fun y => (y.1, y.2 + 1)) x.cands }))
      else
        let s := s.modRx r (fun x => { x with cands := x.cands.filter (fun y => decide (y.1 ≠ pos)) })
        if (s.rxLane r).cands = [] then s.setStat (0x9110 + r) 2 0 else s

/-- LANE_FRAME_RECEIVED (R339). -/
def execLaneFrameReceived (t r pos : Nat) (line : Bytes) (s : State) : Out :=
  happen t (decide (r < 4)) s (laneFrameReceived r pos line)

/-- LOS_DECLARED: no transitions; the lane hunts (R340). -/
def losDeclared (r : Nat) (s : State) : State :=
  if bitOf (s.stat (0x9110 + r) 3) 0 then s
  else (if s.stat (0x9110 + r) 2 = 2 then s.loseFrame r
    else (s.modRx r (fun _ => RxLane.reset)).setStat (0x9110 + r) 2 0).declareDefect r 0

/-- LOS_DECLARED (R340). -/
def execLosDeclared (t r : Nat) (s : State) : Out := happen t (decide (r < 4)) s (losDeclared r)

/-- LOS_CLEARED (R340). -/
def execLosCleared (t r : Nat) (s : State) : Out := happen t (decide (r < 4)) s (fun s => s.clearDefect r 0)

/-- LANE_ENTERS_USE: the conditions have held for 128 frames; the first lane restarts the link, and a
member that may pair starts to (R303, R342, R343). -/
def laneEntersUse (r : Nat) (s : State) : State :=
  if s.useConditions r ∧ 128 ≤ (s.rxLane r).good ∧ ¬ s.laneInUse r then
    let first := decide (s.stat 0x9100 4 = 0)
    let s := s.setStat 0x9100 4 (setBitAt (s.stat 0x9100 4) r)
    if first then s.linkRestart.startPairing else s
  else s

/-- LANE_ENTERS_USE (R342). -/
def execLaneEntersUse (t r : Nat) (s : State) : Out := happen t (decide (r < 4)) s (laneEntersUse r)

/-! ### Lane frames sent (R333 to R335, R344) -/

/-- Transmit lane `r`. -/
def State.txLane (s : State) (r : Nat) : TxLane := nth s.elnar.tx r ⟨0, 0, 0, [], [], 0, [], 0⟩

/-- Change transmit lane `r`. -/
def State.modTxLane (s : State) (r : Nat) (f : TxLane → TxLane) : State :=
  { s with elnar := { s.elnar with tx := modNth s.elnar.tx r f } }

/-- The code for the next frame from the fill of the lane's FIFO (R335). -/
def chooseCode (fill : Nat) (recent : List Nat) : Nat :=
  if recent.any (fun c => decide (c ≠ 0)) then 0 else if 72 ≤ fill then 1 else if fill ≤ 56 then 2 else 0

/-- The status byte of lane `r`: RDI while its receive lane is not usable, AIS while it is disabled, the lane number (R333, R341). -/
def State.statByte (s : State) (r : Nat) : Nat :=
  128 * natOfBool (!s.laneUsable r) + 64 * natOfBool (decide (s.reg (0x9110 + r) 1 ≠ 1)) + 16 * r

/-- The heartbeat byte (R299, R300). -/
def State.heartByte (s : State) (heart : Nat) : Nat := (if s.time.raw < s.saddle.noticeTo then 128 else 0) + heart % 128

/-- The frame of lane `r` before scrambling (Table 13.1): `d` its data bytes. -/
def State.buildFrame (s : State) (r code next cp heart : Nat) (d : Bytes) : Bytes :=
  let x := s.txLane r
  let trc := subBytes (s.reg 0x9120 1) (x.mfc % 16) 1
  let njo := if code = 1 then d.take 1 else [0]
  let d := if code = 1 then d.drop 1 else d
  let pjo := if code = 2 then [0] else d.take 1
  let d := if code = 2 then d else d.drop 1
  toBE 6 alignWord ++ toBE 1 trc ++ toBE 1 x.mfc ++ toBE 1 x.parity ++ toBE 1 (next * 21) ++ toBE 1 (s.heartByte heart)
    ++ toBE 1 (s.statByte r) ++ njo ++ pjo ++ toBE 1 cp ++ d.take 241

/-- The stamps of a multiframe go to the partner from the lowest lane in use (R344). -/
def State.sendStamps (s : State) (r : Nat) : State :=
  if (bitsSet (s.stat 0x9100 4) 4).head? = some r then
    s.sendMsg 2 0x20 0 (toBE 8 (s.txLane r).stamp ++ toBE 8 (s.rxLane r).stamp)
  else s

/-- LANE_FRAME_SENT: lane `r` starts a frame, its FIFO `fill` bytes full (R333 to R335). -/
def laneFrameSent (r fill : Nat) (s : State) : State :=
  if s.reg 0x9100 1 ≠ 1 ∨ s.power.low ∨ s.power.phase = .held then s
  else
    let x := s.txLane r
    let n := if x.code = 1 then 243 else if x.code = 2 then 241 else 242
    let f := fillData 9 (s.laneInUse r && decide (s.reg (0x9110 + r) 1 = 1)) n x.rest s
    let s := f.1
    let next := chooseCode fill x.recent
    let heart := if s.live then (x.heart + 1) % 128 else x.heart
    let line := lineFrame (s.buildFrame r x.code next x.rest.length heart (f.2.take n))
    let s := if x.code = 1 then s.count64 (0x9110 + r) 0x0D 1 else if x.code = 2 then s.count64 (0x9110 + r) 0x0E 1 else s
    let s := s.modTxLane r (fun x => { x with
      mfc := (x.mfc + 1) % 256, heart := heart, code := next, recent := (next :: x.recent).take 9, rest := f.2.drop n,
      parity := bip8 line, line := line, stamp := if x.mfc = 0 then s.time.raw else x.stamp })
    if x.mfc = 0 then s.sendStamps r else s

/-- LANE_FRAME_SENT (R335). -/
def execLaneFrameSent (t r fill : Nat) (s : State) : Out := happen t (decide (r < 4)) s (laneFrameSent r fill)

/-! ### Cells (R346, R347) -/

/-- CELL_GAP_TIMEOUT: the gap of class `c` stays open 2 µs after a later cell: the cells before it are lost, and with them their
message (R347). -/
def cellGapTimeout (c : Nat) (s : State) : State :=
  let x := s.cellClass c
  let dist := fun (y : Cell × Nat) => (y.1.seq + 4096 - x.rxSeq) % 4096
  match x.early with
  | [] => s
  | y :: ys =>
    let b := ys.foldl (fun a z => if dist z < dist a then z else a) y
    if !(x.early.any (fun z => decide (z.2 + 2000 ≤ s.time.raw))) then s
    else
      let s := ((s.count64 0x9100 9 (dist b)).orStat 0x9100 5 4).modClass c (fun x => { x with
        rxSeq := b.1.seq, part := [], broken := true })
      let s := if c = 3 then s.count64 0x9100 0x0C 1 else s
      drainEarly (x.early.length + 1) c s

/-- CELL_GAP_TIMEOUT (R347); the out-of-step condition of class J is Saddle's (`journalGap`). -/
def journalGap (s : State) : State :=
  if s.saddle.role = .standby then (s.sendRecord (plainRec 0x0F s.keyEpoch 0)).enterSyncing else s

/-- CELL_GAP_TIMEOUT (R347). -/
def execCellGapTimeout (t cls : Nat) (s : State) : Out :=
  happen t (decide (1 ≤ cls) && decide (cls ≤ 5)) s (fun s =>
    let s' := cellGapTimeout cls s
    if cls = 1 ∧ (s'.cellClass 1).broken ∧ s.stat 0x9100 9 ≠ s'.stat 0x9100 9 then journalGap s' else s')

/-- CREDIT_CELL_DUE (R346). -/
def creditCellDue (s : State) : State := if s.linkSync then { s with elnar := { s.elnar with credit := true } } else s

/-- CREDIT_CELL_DUE (R346). -/
def execCreditCellDue (t : Nat) (s : State) : Out := happen t true s creditCellDue

/-- PAIR_TIME_STAMPS: a multiframe's stamps, ours and the partner's, each sent and received in raw ticks: LP1 takes the mean path
delay, and on a follower disciplines set `n` by a rate write (R102, R344). -/
def pairTimeStamps (tx rx ptx prx n : Nat) (rate : Int) (s : State) : State :=
  let s := s.consume 2 0x20 (toBE 8 ptx ++ toBE 8 prx)
  let trip : Int := (((rx : Int) - tx) - ((ptx : Int) - prx)) / 2
  let s := { s with elnar := { s.elnar with delay := trip + sgnOf 32 (s.reg 0x9100 0x0B) } }
  if s.follows && s.linkSync then
    let key := s.nextKey 0x0302
    let s := s.issueKey 0x0302
    { s with time := { s.time with corrections := insertByKey Correction.key ⟨n, .rate, rate, key⟩ s.time.corrections } }
  else s

/-- PAIR_TIME_STAMPS (R344). -/
def execPairTimeStamps (t tx rx ptx prx n : Nat) (rate : Int) (s : State) : Out :=
  happen t (decide (n < 4)) s (pairTimeStamps tx rx ptx prx n rate)

/-! ### The bridge window (R348) -/

/-- A byte of the window. -/
def winRead (w : Window) (a : Nat) : Byte := kget (fun _ => 0) w a

/-- Write a byte of the window, keeping its form. -/
def winPut (w : Window) (a : Nat) (b : Byte) : Window := kput (fun _ => 0) w a b

/-- The form of the window: rising addresses, no zero byte listed. -/
def winWf (w : Window) : Bool := kwf (fun _ => (0 : Byte)) w

/-- `n` bytes from offset `a`. -/
def winSlice (w : Window) (a n : Nat) : Bytes := (List.range n).map (fun i => winRead w (a + i))

/-- Write bytes from offset `a`. -/
def winWrite : Window → Nat → Bytes → Window
  | w, _, [] => w
  | w, a, b :: bs => winWrite (winPut w a b) (a + 1) bs

/-- Whether a window access is allowed (R348). -/
def winOk (off len : Nat) : Bool :=
  decide (off % 4 = 0) && decide (len % 4 = 0) && decide (4 ≤ len) && decide (len ≤ 256) && decide (off + len ≤ 65536)

/-! ### Requests and completions (R348 to R354) -/

/-- The body of a request (Table 13.5). -/
def reqBody (q : BridgeReq) : Bytes :=
  toBE 1 q.kind ++ toBE 1 q.tag ++ toBE 1 q.init ++ [0] ++ toBE 4 q.offset ++ toBE 2 q.len ++ [0, 0] ++ toBE 8 q.issue ++ q.data

/-- The body of a completion (Table 13.5). -/
def doneBody (d : BridgeDone) : Bytes :=
  toBE 1 d.kind ++ toBE 1 d.tag ++ toBE 2 d.status ++ toBE 2 d.data.length ++ [0, 0] ++ d.data

/-- Issue a request (R350): with no free tag nothing happens; with the link out of frame it ends with 0x000D. -/
def State.issueReq (s : State) (q : BridgeReq) : State :=
  let q := { q with issue := s.time.orderNs, tag := q.tag % 256, init := q.init % 8 }
  if !s.linkSync then s.giveResult q.init ⟨q.kind + 0x80, q.tag, 0x0D, []⟩
  else if s.elnar.out.any (fun o => decide (o.req.tag = q.tag)) then s
  else
    let s := (s.count64 0x9130 3 1).sendMsg 4 q.kind 0 (reqBody q)
    let x := s.cellClass 4
    { s with elnar := { s.elnar with out := s.elnar.out ++ [⟨q, s.time.raw, x.sent + x.out.length, false⟩] } }

/-- Answer a served request. -/
def State.complete (s : State) (q : BridgeReq) (status : Nat) (data : Bytes) : State :=
  s.sendMsg 5 (q.kind + 0x80) 0 (doneBody ⟨q.kind + 0x80, q.tag, status, data⟩)

/-- Answer a request: to the partner, or to the local core. -/
def State.answer (s : State) (side : BridgeSide) (q : BridgeReq) (status : Nat) (data : Bytes) : State :=
  if side = .serve then s.complete q status data
  else s.giveResult q.init ⟨q.kind + 0x80, q.tag, status, data⟩

/-- Take a served request: it was received and is counted. -/
def State.serveReq (s : State) (q : BridgeReq) : State := (s.consume 4 q.kind (reqBody q)).count64 0x9130 4 1

/-- The octets of a bus frame as a payload: kind, bus, format and flags, identifier, stamp, fields of XL or slot, data. -/
def busBytes (f : BusFrame) : Bytes :=
  toBE 1 f.kind ++ toBE 1 f.bus ++ toBE 1 (f.fmt + 16 * natOfBool f.remote + 32 * natOfBool f.esi) ++ toBE 4 f.ident
    ++ toBE 8 f.stamp ++ toBE 8 f.xl ++ f.data

/-- The bus frame of a payload. -/
def busOfBytes (b : Bytes) : BusFrame :=
  let fl := byteAt b 2
  ⟨byteAt b 0, byteAt b 1, beAt b 3 4, fl % 16, bitOf fl 4, bitOf fl 5, beAt b 15 8, beAt b 7 8, b.drop 23⟩

/-- The payload that this member still holds for a key (R309). -/
def State.heldPayload (s : State) (key : OKey) : Option Bytes :=
  match s.basin.frames.find? (fun f => decide (f.key = key)) with
  | some f => some f.bytes
  | none =>
    let buffered := (s.ord.transit.map InTransit.inp) ++ (s.ord.units.map SortBuffer.buf).flatten
    match (buffered.find? (fun b => decide (b.key = key))).map Buffered.work with
    | some (.bus f) => some (busBytes f)
    | _ => match (s.ford.queue ++ s.ford.running.map FordRun.item).find? (fun x => decide (x.key = key)) with
      | some ⟨_, .bus f⟩ => some (busBytes f)
      | some ⟨_, .eth b _⟩ => some b
      | _ => none

/-- The key in a payload fetch. -/
def keyOfBytes (b : Bytes) : OKey := ⟨beAt b 0 8, beAt b 8 2, beAt b 10 2⟩

/-- PAYLOAD_FETCH (R309, R348). -/
def payloadFetch (side : BridgeSide) (q : BridgeReq) (s : State) : State :=
  let q := { q with kind := 2 }
  if side = .issue then s.issueReq q
  else
    let s := if side = .serve then s.serveReq q else s
    match s.heldPayload (keyOfBytes q.data) with
    | some b => s.answer side q 0 b
    | none => s.answer side q 0x0F []

/-- PAYLOAD_FETCH (R348). -/
def execPayloadFetch (t : Nat) (side : BridgeSide) (q : BridgeReq) (s : State) : Out := happen t true s (payloadFetch side q)

/-- WINDOW_READ (R348). -/
def windowRead (side : BridgeSide) (q : BridgeReq) (s : State) : State :=
  let q := { q with kind := 3 }
  if side = .issue then s.issueReq q
  else
    let s := if side = .serve then s.serveReq q else s
    if winOk q.offset q.len then s.answer side q 0 (winSlice s.elnar.window q.offset q.len) else s.answer side q 0x0E []

/-- WINDOW_READ (R348). -/
def execWindowRead (t : Nat) (side : BridgeSide) (q : BridgeReq) (s : State) : Out := happen t true s (windowRead side q)

/-- Store into the window. -/
def State.storeWindow (s : State) (q : BridgeReq) : State :=
  { s with elnar := { s.elnar with window := winWrite s.elnar.window q.offset (slice q.data 0 q.len) } }

/-- WINDOW_WRITE (R348). -/
def windowWrite (side : BridgeSide) (q : BridgeReq) (s : State) : State :=
  let q := { q with kind := 4 }
  if side = .issue then s.issueReq q
  else
    let s := if side = .serve then s.serveReq q else s
    if winOk q.offset q.len then (s.storeWindow q).answer side q 0 [] else s.answer side q 0x0E []

/-- WINDOW_WRITE (R348). -/
def execWindowWrite (t : Nat) (side : BridgeSide) (q : BridgeReq) (s : State) : Out := happen t true s (windowWrite side q)

/-- WINDOW_WRITE_POSTED: a write without completion; one that cannot be performed is reported by an orphan notice (R349, R353). -/
def windowWritePosted (side : BridgeSide) (q : BridgeReq) (s : State) : State :=
  let q := { q with kind := 5 }
  if side = .issue then s.issueReq q
  else
    let s := if side = .serve then s.serveReq q else s
    if winOk q.offset q.len then s.storeWindow q
    else if side = .serve then
      s.sendMsg 5 0x88 0 (doneBody ⟨0x88, q.tag, 0x0E, toBE 8 q.issue ++ toBE 4 q.offset⟩)
    else s.orphan q.tag q.init 0x0E q.offset s.time.orderNs

/-- WINDOW_WRITE_POSTED (R349). -/
def execWindowWritePosted (t : Nat) (side : BridgeSide) (q : BridgeReq) (s : State) : Out :=
  happen t true s (windowWritePosted side q)

/-! ### Semaphores (R351, R352) -/

/-- LOCK_ACQUIRE: the request waits for the next boundary's decision (R351). -/
def lockAcquire (side : BridgeSide) (q : BridgeReq) (s : State) : State :=
  let q := { q with kind := 6 }
  if side = .issue then s.issueReq q
  else
    let s := if side = .serve then s.serveReq q else s
    if 63 < q.offset then s.answer side q 5 []
    else { s with elnar := { s.elnar with
        acquires := s.elnar.acquires ++ [⟨q.offset, decide (side = .serve), q.init % 8, q.tag % 256⟩] } }

/-- LOCK_ACQUIRE (R351). -/
def execLockAcquire (t : Nat) (side : BridgeSide) (q : BridgeReq) (s : State) : Out := happen t true s (lockAcquire side q)

/-- The holder code of a request: 1 a local core, 2 the partner. -/
def holderCode (partner : Bool) : Nat := if partner then 2 else 1

/-- Whether a holder of a semaphore is the one who asks. -/
def Semaphore.isBy (x : Semaphore) (partner : Bool) (init : Nat) : Bool :=
  decide (x.holder = holderCode partner) && decide (x.init = init)

/-- LOCK_RELEASE (R351). -/
def lockRelease (side : BridgeSide) (q : BridgeReq) (s : State) : State :=
  let q := { q with kind := 7 }
  if side = .issue then s.issueReq q
  else
    let s := if side = .serve then s.serveReq q else s
    if 63 < q.offset then s.answer side q 5 []
    else match kfind s.elnar.sems q.offset with
      | some x =>
        if x.isBy (decide (side = .serve)) (q.init % 8) then
          ({ s with elnar := { s.elnar with sems := kdel s.elnar.sems q.offset } } : State).answer side q 0 []
        else s.answer side q 0x0B []
      | none => s.answer side q 0x0B []

/-- LOCK_RELEASE (R351). -/
def execLockRelease (t : Nat) (side : BridgeSide) (q : BridgeReq) (s : State) : Out := happen t true s (lockRelease side q)

/-- The device number of a request's member. -/
def State.acquireDevice (s : State) (a : Acquire) : Nat := if a.partner then 1 - s.pairId else s.pairId

/-- The request that a free semaphore goes to: device 0 first, then the lowest initiator (R351). -/
def State.semWinner (s : State) (l : List Acquire) : Option Acquire :=
  l.foldl (fun (b : Option Acquire) a => match b with
    | none => some a
    | some y => if s.acquireDevice a * 8 + a.init < s.acquireDevice y * 8 + y.init then some a else some y) none

/-- Answer an acquire; a refusal is a conflict (R351). -/
def State.answerAcquire (s : State) (a : Acquire) (granted : Bool) : State :=
  let q : BridgeReq := ⟨6, a.tag, a.init, a.sem, 0, 0, []⟩
  let s := if granted then s else s.count64 0x9140 2 1
  let s := if !granted && a.partner then s.count64 0x9130 0x0A 1 else s
  s.answer (if a.partner then .serve else .own) q (if granted then 0 else 9) []

/-- Decide the requests for one semaphore. -/
def State.decideSem (s : State) (n : Nat) (l : List Acquire) : State :=
  let grant : Option Acquire := match kfind s.elnar.sems n with
    | some x => l.find? (fun (a : Acquire) => x.isBy a.partner a.init)
    | none => s.semWinner l
  let s := match grant with
    | some a => { s with elnar := { s.elnar with sems := kins s.elnar.sems n ⟨holderCode a.partner, a.init, s.time.raw⟩ } }
    | none => s
  l.foldl (fun (s : State) (a : Acquire) => s.answerAcquire a (decide (some (a.partner, a.init) = grant.map (fun (g : Acquire) => (g.partner, g.init))))) s

/-- SEMAPHORE_ARBITRATE: the requests that arrived since the last boundary are decided (R351). -/
def semaphoreArbitrate (s : State) : State :=
  let l := s.elnar.acquires
  let s := { s with elnar := { s.elnar with acquires := [] } }
  (distinct (l.map Acquire.sem)).foldl (fun s n => s.decideSem n (l.filter (fun a => decide (a.sem = n)))) s

/-- SEMAPHORE_ARBITRATE (R351). -/
def execSemaphoreArbitrate (t : Nat) (s : State) : Out := happen t true s semaphoreArbitrate

/-- SEMAPHORE_EXPIRY: a grant lasts 100 µs (R351). -/
def semaphoreExpiry (n : Nat) (s : State) : State :=
  match kfind s.elnar.sems n with
  | some x => if x.since + 100000 ≤ s.time.raw then
      ({ s with elnar := { s.elnar with sems := kdel s.elnar.sems n } } : State).count64 0x9140 0x44 1
    else s
  | none => s

/-- SEMAPHORE_EXPIRY (R351). -/
def execSemaphoreExpiry (t sem : Nat) (s : State) : Out := happen t (decide (sem < 64)) s (semaphoreExpiry sem)

/-- The request of execReleaseSemaphore. -/
def State.reqReleaseSemaphore (s : State) (c : Caller) (sem : Nat) : State :=
  s.dictWrite c 0x9140 0x43 (toLE 1 sem) noExtra
    (fun v s => { s with elnar := { s.elnar with sems := kdel s.elnar.sems v } })

/-- RELEASE_SEMAPHORE: a write of its number to `9140h.43` (R352). -/
def execReleaseSemaphore (t : Nat) (c : Caller) (sem : Nat) (s : State) : Out :=
  happenBy c t true s (fun s => s.reqReleaseSemaphore c sem)

/-! ### Completions, timeouts, orphans (R350, R353) -/

/-- A payload fetch ends: its record takes the payload, or is a match miss (R309). -/
def State.fetchDone (s : State) (key : OKey) (p : Option Bytes) : State :=
  let mine := fun (h : HeldRec) => decide (recKey h.rec_ = key) && h.fetch
  if !s.saddle.inbox.any mine then s
  else
    let s := { s with saddle := { s.saddle with inbox := modWhere mine (fun (h : HeldRec) => { h with
        rec_ := { h.rec_ with payload := p }, fetch := false, lost := p.isNone }) s.saddle.inbox } }
    match p with
    | some _ => s
    | none =>
      let s := (s.count64 0x9000 0x21 1).orStat 0x9000 0x14 256
      { s with saddle := { s.saddle with forceDigest := true } }

/-- Remove an outstanding request. -/
def State.dropOutstanding (s : State) (tag : Nat) : State :=
  { s with elnar := { s.elnar with out := s.elnar.out.filter (fun o => decide (o.req.tag ≠ tag)) } }

/-- BRIDGE_COMPLETION: delivered to its initiator, or discarded when it comes after its timeout (R348, R350). -/
def bridgeCompletion (d : BridgeDone) (s : State) : State :=
  let s := s.consume 5 d.kind (doneBody d)
  match s.elnar.out.find? (fun o => decide (o.req.tag = d.tag) && decide (o.req.kind + 0x80 = d.kind)) with
  | none => s
  | some o =>
    let s := s.dropOutstanding d.tag
    if o.ended then s.count64 0x9130 6 1
    else
      let s := s.giveResult o.req.init d
      if o.req.kind = 2 then s.fetchDone (keyOfBytes o.req.data) (if d.status = 0 then some d.data else none) else s

/-- BRIDGE_COMPLETION (R348). -/
def execBridgeCompletion (t : Nat) (d : BridgeDone) (s : State) : Out := happen t true s (bridgeCompletion d)

/-- BRIDGE_TIMEOUT: a request ends with 0x000D; its tag comes free after four timeouts (R350). -/
def bridgeTimeout (tag : Nat) (s : State) : State :=
  match s.elnar.out.find? (fun o => decide (o.req.tag = tag) && decide (o.req.kind ≠ 5)) with
  | none => s
  | some o =>
    let lim := s.reg 0x9130 1 * 1000
    if o.ended then (if o.raw + 4 * lim ≤ s.time.raw then s.dropOutstanding tag else s)
    else if o.raw + lim ≤ s.time.raw then
      let s := { s with elnar := { s.elnar with
          out := modWhere (fun (x : Outstanding) => decide (x.req.tag = tag)) (fun x => { x with ended := true }) s.elnar.out } }
      let s := (s.count64 0x9130 5 1).giveResult o.req.init ⟨o.req.kind + 0x80, tag, 0x0D, []⟩
      if o.req.kind = 2 then s.fetchDone (keyOfBytes o.req.data) none else s
    else s

/-- BRIDGE_TIMEOUT (R350). -/
def execBridgeTimeout (t tag : Nat) (s : State) : Out := happen t (decide (tag < 256)) s (bridgeTimeout tag)

/-- ORPHAN_NOTICE: a posted write of ours failed (R353). -/
def orphanNotice (tag status offset issue : Nat) (s : State) : State :=
  let s := s.consume 5 0x88 (doneBody ⟨0x88, tag, status, toBE 8 issue ++ toBE 4 offset⟩)
  let init := match s.elnar.out.find? (fun o => decide (o.req.tag = tag) && decide (o.req.kind = 5)) with
    | some o => o.req.init
    | none => 0
  ((s.dropOutstanding tag).orphan tag init status offset issue)

/-- ORPHAN_NOTICE (R353). -/
def execOrphanNotice (t tag status offset issue : Nat) (s : State) : Out :=
  happen t (decide (tag < 256)) s (orphanNotice tag status offset issue)

/-- RETAINED_COPY_DISCARD: relayed frames that no record claimed within 10 µs (R347). -/
def retainedCopyDiscard (s : State) : State :=
  let old := s.saddle.retained.filter (fun x => decide (x.2.2 + 10000 ≤ s.time.raw))
  let ids := old.map (fun x => x.2.1)
  { s with
    saddle := { s.saddle with retained := s.saddle.retained.filter (fun x => decide (s.time.raw < x.2.2 + 10000)) },
    basin := { s.basin with frames := s.basin.frames.filter (fun f => !decide (f.id ∈ ids)) } }

/-- RETAINED_COPY_DISCARD (R347). -/
def execRetainedCopyDiscard (t : Nat) (s : State) : Out := happen t true s retainedCopyDiscard

end Sys2Proof.Machine
end

