-- ==== Sys2Proof/Machine/FordFamily.lean ====
section
/-! DEFINITION. Ford's work: items, routes, triggers, deadlines, processors (R24, R25, R264 to R297). -/

namespace Sys2Proof.Machine

open Sys2Proof

/-- An item in work: the state so far, the targets it has written, and the frames of kind 5 targets that it completed. -/
structure FordAcc where
  s       : State
  touched : List Nat
  frames  : List (Nat × Bytes)
  deriving DecidableEq, Repr

/-! ### Routes (R267, R275, R281, R291, R292) -/

/-- Send the messages a kind 5 PDU holds: its frame, and the state after it (R292). -/
def State.acfFlush (s : State) (e t d : Nat) : State × Bytes :=
  let x := s.pduStored t
  let b := buildEthernet (s.template e d) x.acfSeq x.acfHeld.flatten
  ((s.modPdu t (fun x => { x with acfSeq := (x.acfSeq + 1) % 256, acfHeld := [], sent := some e, changed := false })).fordCount
    0x1F 1, b)

/-- Flush into the item's frames. -/
def FordAcc.flush (a : FordAcc) (e t d : Nat) : FordAcc :=
  let r := a.s.acfFlush e t d
  { a with s := r.1, frames := a.frames ++ [(t, r.2)] }

/-- Count a route applied (`8200h.09`). -/
def FordAcc.hit (a : FordAcc) (row : Nat) : FordAcc := { a with s := a.s.bumpRow 0x8200 row 9 }

/-- A source frame's message joins a kind 5 target: the target is sent first when it would not fit, and at once when it has no
hold time (R292). -/
def FordAcc.acf (row : Nat) (a : FordAcc) (e r t d : Nat) (p : Bytes) (f : BusFrame) : FordAcc :=
  let m := a.s.acfMessage d (rTStart r % 32) f p
  if f.fmt = 3 ∨ dLen d < m.length then { a with s := a.s.fordCount 0x25 1 }
  else
    let a := a.hit row
    let held := (a.s.pduStored t).acfHeld
    let a := if held ≠ [] ∧ dLen d < held.flatten.length + m.length then a.flush e t d else a
    let a := { a with s := (a.s.modPdu t (fun x => { x with
      acfFrom := if x.acfHeld = [] then e else x.acfFrom, acfHeld := x.acfHeld ++ [m], written := true, changed := true })) }
    if dHold d = 0 then a.flush e t d else a

/-- A target image takes new content: the flags of R275. -/
def FordAcc.write (a : FordAcc) (e t : Nat) (new : Bytes) : FordAcc :=
  let changed := decide (new ≠ a.s.image e t)
  let s := (a.s.setImage t new).modPdu t (fun x => { x with written := true, changed := x.changed || changed })
  { a with s := s, touched := if t ∈ a.touched then a.touched else a.touched ++ [t] }

/-- A whole-PDU route into a target other than kind 5 (R291): the length of its frame, or none when its format cannot carry it. -/
def wholeLength (r d fmt n : Nat) : Option Nat :=
  if dFollows d then (if dKind d = 1 then canLength fmt n else some n)
  else if dKind d = 1 ∧ rTBig r ∧ ¬ canLengthOk fmt (dLen d) then none
  else some (dLen d)

/-- Apply a whole-PDU route (R291). -/
def FordAcc.whole (row : Nat) (a : FordAcc) (e r t d : Nat) (p : Bytes) (src : Option BusFrame) : FordAcc :=
  if dKind d = 5 then
    (match src with
      | some f => if f.kind = 1 ∨ f.kind = 5 then a.acf row e r t d p f else { a with s := a.s.fordCount 0x25 1 }
      | none => { a with s := a.s.fordCount 0x25 1 })
  else
    let n := min p.length (dLen d)
    let keep := if decide (dKind d = 1) && rTBig r then src.map (fun f => (f.ident, f.fmt)) else none
    let fmt := match keep with | some k => k.2 | none => dFmt d
    match wholeLength r d fmt n with
    | none => { a with s := a.s.fordCount 0x25 1 }
    | some len =>
      let new := p.take n ++ List.replicate (dLen d - n) (BitVec.ofNat 8 (dFill d))
      let a := (a.hit row).write e t new
      { a with s := a.s.modPdu t (fun x => { x with length := if dFollows d then some len else none, source := keep }) }

/-- Apply a signal route to a reception (R269, R275). -/
def FordAcc.signal (row : Nat) (a : FordAcc) (e r t : Nat) (attr : Option Nat) (p : Bytes) : FordAcc :=
  let bits := signalBits (rSStart r) (rSLen r) (rSBig r)
  if bits.any (fun b => decide (8 * p.length ≤ b)) then { a with s := a.s.fordCount 0x12 1 }
  else
    let v := rescale r attr (getSignal p (rSStart r) (rSLen r) (rSBig r))
    let a := match v.2 with
      | .plain => a
      | .clamped => { a with s := a.s.fordCount 0x1C 1 }
      | .replaced => { a with s := a.s.fordCount 0x1D 1 }
    (a.hit row).write e t (putSignal (a.s.image e t) (rTStart r) (rTLen r) (rTBig r) v.1)

/-- What applies a route: a reception's bytes and source frame, or a timeout (R281). -/
inductive RouteInput
  | data (p : Bytes) (src : Option BusFrame)
  | timeout
  deriving DecidableEq, Repr

/-- Route `row` of source `n` (R267, R273, R281, R294). -/
def FordAcc.route (e n : Nat) (inp : RouteInput) (a : FordAcc) (row : Nat) : FordAcc :=
  if a.s.rowBad 0x8200 row then { a with s := a.s.fordCount 0x26 1 }
  else match a.s.rowAt e 0x8200 row with
    | none => a
    | some v =>
      let r := rowSub v 8
      let ar := 65536 + rAttr r
      if rSource r ≠ n then a
      else if rAttr r ≠ 0xFFFF ∧ a.s.rowBad 0x8200 ar then { a with s := a.s.fordCount 0x26 1 }
      else match a.s.pduDef e (rTarget r) with
        | none => a
        | some d =>
          if !dTx d then a
          else
            let attr := if rAttr r = 0xFFFF then none else (a.s.rowAt e 0x8200 ar).map (fun v => rowSub v 8)
            let b := { a with s := a.s.settlePdu e (rTarget r) }
            match inp with
            | .data p src => if rSLen r = 0 then b.whole row e r (rTarget r) d p src else b.signal row e r (rTarget r) attr p
            | .timeout => match attr with
              | some x => if rReplace r ∧ rSLen r ≠ 0 then
                  (b.hit row).write e (rTarget r) (putSignal (b.s.image e (rTarget r)) (rTStart r) (rTLen r) (rTBig r) (aReplacement x))
                else a
              | none => a

/-- The routes of a PDU in ascending number. -/
def FordAcc.routes (a : FordAcc) (e n d : Nat) (inp : RouteInput) : FordAcc :=
  ((List.range (dCount d)).map (fun i => dFirst d + i)).foldl (FordAcc.route e n inp) a

/-! ### Receptions (R269, R276, R277, R283) -/

/-- The alive counter of a reception against the last accepted one: whether it is accepted (R277, R283). -/
def State.aliveCheck (s : State) (n d : Nat) (p : Bytes) : State × Bool :=
  let x := s.pduStored n
  let a := dAlive d
  if a = 0 then (s, true)
  else
    let v := getSignal p (dAliveStart d) a false
    let step := (v + 2 ^ a - x.alive) % 2 ^ a
    let ok := x.first || decide (step ≠ 0)
    let s := if x.first then s else if step = 0 then s.fordCount 0x17 1
      else if dAliveStep d < step then s.fordCount 0x18 1 else s
    (if ok then s.modPdu n (fun x => { x with alive := v }) else s, ok)

/-- A matched reception of PDU `n` (R276): authentication, check word, alive counter, then the routes. -/
def FordAcc.receive (a : FordAcc) (e n d : Nat) (data : Bytes) (src : Option BusFrame) : FordAcc :=
  if a.s.rowBad 0x8100 n then { a with s := a.s.fordCount 0x26 1 }
  else
    let p := data.take (dLen d)
    let r := (a.s.settlePdu e n).authenticate d p
    if !r.2 then { a with s := r.1 }
    else if !checkOk d p then { a with s := r.1.fordCount 0x16 1 }
    else
      let r := r.1.aliveCheck n d p
      if !r.2 then { a with s := r.1 }
      else
        let s := if (r.1.pduStored n).timedOut then r.1.fordCount 0x15 1 else r.1
        let s := s.modPdu n (fun x => { x with
          updated := e, received := true, timedOut := false, first := false, lost := [] })
        ({ a with s := s } : FordAcc).routes e n d (.data p src)

/-- The lowest valid receive definition that satisfies `p` (R269). -/
def State.matchRx (s : State) (e : Nat) (p : Nat → Bool) : Option (Nat × Nat) :=
  (s.pduDefs e).find? (fun x => !dTx x.2 && p x.2)

/-- Whether a definition's kind, bus and identifier match a bus frame (R269); for FlexRay the identifier is the PDU. -/
def busMatches (f : BusFrame) (d : Nat) : Bool :=
  decide (dKind d = f.kind) && decide (dBus d = f.bus) &&
    (if f.kind = 2 then decide (dIdent d % 64 = f.ident)
     else decide (dExt d = bitOf f.ident 29) &&
      (if f.fmt = 3 then decide (dIdent d % 2048 = f.ident % 2048) else decide (dIdent d % 2 ^ 29 = f.ident % 2 ^ 29)))

/-- The receive definition of a bus frame. -/
def State.matchBus (s : State) (e : Nat) (f : BusFrame) : Option (Nat × Nat) :=
  if f.kind = 3 then
    (match s.pduDef e f.ident with
      | some d => if !dTx d && decide (dKind d = 3) then some (f.ident, d) else none
      | none => none)
  else s.matchRx e (busMatches f)

/-- A bus frame is received, or counted as unmatched. -/
def FordAcc.bus (a : FordAcc) (e : Nat) (f : BusFrame) : FordAcc :=
  match a.s.matchBus e f with
  | some (n, d) => a.receive e n d (if f.remote then [] else f.data) (some f)
  | none => { a with s := a.s.fordCount 0x11 1 }

/-- Containers back to back (R272), and whether one ran past the payload. -/
def containers : Nat → Bytes → List (Nat × Bytes) × Bool
  | 0, _ => ([], false)
  | _, [] => ([], false)
  | k + 1, b =>
    let n := beAt b 2 2
    if b.length < 4 + n then ([], true)
    else
      let r := containers k (b.drop (4 + n))
      ((beAt b 0 2, (b.drop 4).take n) :: r.1, r.2)

/-- ACF messages in order, and whether one ran past the data length (R293). -/
def acfMessages : Nat → Bytes → List Bytes × Bool
  | 0, _ => ([], false)
  | _, [] => ([], false)
  | k + 1, b =>
    let n := 4 * (beAt b 0 2 % 512)
    if n = 0 ∨ b.length < n then ([], true)
    else
      let r := acfMessages k (b.drop n)
      (b.take n :: r.1, r.2)

/-- The frame that an ACF CAN or CAN brief message carries, if it is one. -/
def acfFrame (stamp : Nat) (m : Bytes) : Option BusFrame :=
  let kind := beAt m 0 2 / 512
  let hdr := if kind = 1 then 16 else 8
  if (kind = 1 ∨ kind = 2) ∧ hdr ≤ m.length then
    let f := byteAt m 2
    let id := beAt m (hdr - 4) 4 % 2 ^ 29 + (if bitOf f 3 then 2 ^ 29 else 0)
    let p := (m.drop hdr).take (m.length - hdr - f / 64)
    some ⟨5, byteAt m 3 % 32, id, if bitOf f 1 then (if bitOf f 2 then 2 else 1) else 0, bitOf f 4, bitOf f 0, 0, stamp, p⟩
  else none

/-- One ACF message: a reception, or counted (R293). -/
def FordAcc.acfIn (e stamp : Nat) (a : FordAcc) (m : Bytes) : FordAcc :=
  match acfFrame stamp m with
  | some f => a.bus e f
  | none => { a with s := a.s.fordCount 0x24 1 }

/-- Offset of the EtherType past up to two VLAN tags. -/
def fordOffset (b : Bytes) : Nat :=
  let tag := fun o => decide (beAt b o 2 = 0x8100) || decide (beAt b o 2 = 0x88A8)
  if tag 12 then (if tag 16 then 20 else 16) else 12

/-- The UDP header's offset in a frame, if it is UDP. -/
def fordUdp (b : Bytes) : Option Nat :=
  let o := fordOffset b + 2
  let u := if beAt b (o - 2) 2 = 0x0800 ∧ byteAt b (o + 9) = 17 then some (o + 4 * (byteAt b o % 16))
    else if beAt b (o - 2) 2 = 0x86DD ∧ byteAt b (o + 6) = 17 then some (o + 40) else none
  match u with
  | some u => if u + 8 ≤ b.length then some u else none
  | none => none

/-- Whether a definition is the container PDU of a port and identifier (R269). -/
def containerMatches (port id : Nat) (d : Nat) : Bool := decide (dKind d = 4) && decide (dIdent d = id + 65536 * port)

/-- One container of a UDP payload. -/
def FordAcc.container (e port : Nat) (a : FordAcc) (c : Nat × Bytes) : FordAcc :=
  match a.s.matchRx e (containerMatches port c.1) with
  | some (n, d) => a.receive e n d c.2 none
  | none => { a with s := a.s.fordCount 0x11 1 }

/-- A frame delivered to FP (R272, R293). -/
def FordAcc.ethernet (a : FordAcc) (e stamp : Nat) (b : Bytes) : FordAcc :=
  let o := fordOffset b
  if beAt b o 2 = 0x22F0 ∧ byteAt b (o + 2) = 0x82 then
    let n := beAt b (o + 3) 2 % 2048
    let r := acfMessages b.length ((b.drop (o + 14)).take n)
    let a := r.1.foldl (FordAcc.acfIn e stamp) a
    if r.2 then { a with s := a.s.fordCount 0x24 1 } else a
  else match fordUdp b with
    | none => { a with s := a.s.fordCount 0x11 1 }
    | some u =>
      let port := beAt b (u + 2) 2
      let p := (b.drop (u + 8)).take (beAt b (u + 4) 2 - 8)
      match a.s.matchRx e (containerMatches port 0xFFFF) with
      | some (n, d) => a.receive e n d p none
      | none =>
        let r := containers p.length p
        let a := r.1.foldl (FordAcc.container e port) a
        if r.2 then { a with s := a.s.fordCount 0x24 1 } else a

/-! ### Transmissions (R284 to R290) -/

/-- The key under which a deadline's events and denials are logged: its due epoch and the controller's source (R409). -/
def deadlineKey (d due : Nat) : OKey :=
  ⟨due, if dKind d = 1 then 0x0100 + dBus d else if dKind d = 2 then 0x0140 + dBus d else if dKind d = 3 then 0x0160 else 0x001E, 0⟩

/-- A committed transmission (R287). -/
def State.committed (s : State) (e t d alive fresh : Nat) (img : Bytes) : State :=
  let s := (s.setImage t img).modPdu t (fun x => { x with sent := some e, alive := alive, changed := false })
  let s := if dSecured d then s.setFresh (dFreshId d) fresh else s
  s.fordCount (if dKind d = 1 then 0x1E else 0x1F) 1

/-- Offer a CAN PDU to Narrows and to its controller's queue: whether both took it (R287). -/
def State.sendCan (s : State) (key log : OKey) (t d len : Nat) (img : Bytes) : State × Bool :=
  let x := s.pduStored t
  let id := match x.source with
    | some k => k
    | none => (dIdent d % 2 ^ 29 + (if dExt d then 2 ^ 29 else 0), dFmt d)
  let f : BusFrame := ⟨1, dBus d, id.1, id.2, dRemote d, false, if id.2 = 3 then s.freeNat else 0, 0,
    if dRemote d then [] else img.take len⟩
  let s := if id.2 = 3 then s.drawFree else s
  let r := s.canFilter log (dBus d) 1 f
  if r.2 then r.1.canQueue (dBus d) key f else r

/-- Send PDU `t` (R278, R287, R290). -/
def State.transmit (s : State) (key log : OKey) (t d : Nat) : State :=
  let e := key.epoch
  if dSecured d && !s.pduKeyOk d then (s.fordCount 0x1B 1).keyRefused
  else
    let x := s.pduStored t
    let len := x.length.getD (dLen d)
    let alive := if dAlive d = 0 then x.alive else (x.alive + 1) % 2 ^ dAlive d
    let fresh := s.freshValue (dFreshId d) + 1
    let img := finishPdu d len alive fresh (s.pduKey d) (s.image e t)
    if dKind d = 1 then
      let r := s.sendCan key log t d len img
      if r.2 then r.1.committed e t d alive fresh img else r.1.fordCount 0x21 1
    else if dKind d = 4 then
      let b := s.containerFrame e d len x.acfSeq img
      let s := s.committed e t d alive fresh img
      let s := s.modPdu t (fun x => { x with acfSeq := (x.acfSeq + 1) % 256 })
      { s with ford := { s.ford with out := s.ford.out ++ [b] } }
    else
      let s := (s.setImage t img).modPdu t (fun x => { x with alive := alive })
      let s := if dSecured d then s.setFresh (dFreshId d) fresh else s
      ({ s with ford := { s.ford with pulled := kins s.ford.pulled t (img.take len) } } : State).fordCount 0x20 1

/-- A trigger of modes 1 to 4: whether PDU `t` sends, or its send is deferred (R286). -/
def State.trigger_ (s : State) (e t d : Nat) : State × Bool :=
  let x := s.pduStored t
  match x.sent with
  | some u => if dGap d ≠ 0 ∧ e < u + epochsOf (dGap d) then
      ((s.modPdu t (fun x => { x with deferred := true })).fordCount 0x22 1, false)
    else (s, true)
  | none => (s, true)

/-- Whether a written target sends at the commit of an item (R284, R290); kind 5 sends by itself. -/
def State.wants (s : State) (e t d : Nat) : State × Bool :=
  if dKind d = 5 then (s, false)
  else if dMode d = 5 ∨ dKind d = 2 ∨ dKind d = 3 then (s, true)
  else if dMode d = 2 ∨ ((dMode d = 1 ∨ dMode d = 4) ∧ (s.pduStored t).changed) then s.trigger_ e t d
  else (s, false)

/-- The first frame that Ford routes after a warm wake gives the wake time, in µs from t = 0 (R403, `C000h.07`). -/
def State.noteRouted (s : State) : State :=
  if s.stat 0x1002 2 = 6 ∧ s.stat 0xC000 7 = 0 then s.setStat 0xC000 7 (s.time.raw / 1000) else s

/-- Hand over what an item gives target `t`: the frames it completed, and its transmission where it sends. -/
def FordAcc.commitTarget (a : FordAcc) (key : OKey) (deadline : Bool) (extra : List Nat) (s : State) (t : Nat) : State :=
  let e := key.epoch
  let s := { s with ford := { s.ford with out := s.ford.out ++ (a.frames.filter (fun f => decide (f.1 = t))).map Prod.snd } }
  match s.pduDef e t with
  | none => s
  | some d =>
    let r := if t ∈ a.touched then s.wants e t d else (s, false)
    let log := if deadline then deadlineKey d e else key
    if r.2 ∨ t ∈ extra then r.1.transmit key log t d else r.1

/-- Hand over the outputs of an item in ascending target (R267): the frames it completed, and the targets that send. -/
def FordAcc.commit (a : FordAcc) (key : OKey) (deadline : Bool) (extra : List Nat) : State :=
  let all := sortBy (fun x y => decide (x < y)) (distinct (a.touched ++ a.frames.map Prod.fst ++ extra))
  let s := if !deadline && (!a.touched.isEmpty || !a.frames.isEmpty) then a.s.noteRouted else a.s
  all.foldl (a.commitTarget key deadline extra) s

/-! ### Deadlines (R265, R281, R285, R286, R288) -/

/-- The deadlines of a PDU, as due epoch and kind, in the order of R265, those lost with a processor left out. -/
def deadlinesOf (x : PduState) : List (Nat × DeadlineKind) :=
  let d := x.defn
  let l := (if !dTx d && decide (dTimeout d ≠ 0) && !x.timedOut then
        [(max x.since (x.updated + epochsOf (dTimeout d)), DeadlineKind.timeout)] else [])
    ++ (if dTx d && x.deferred then [(max x.since (x.sent.getD 0 + epochsOf (dGap d)), .gapEnd)] else [])
    ++ (if dTx d && (decide (dMode d = 3) || decide (dMode d = 4)) then [(x.next, .periodic)] else [])
    ++ (if dTx d && decide (dKind d = 5) && decide (x.acfHeld ≠ []) then [(x.acfFrom + epochsOf (dHold d), .holdEnd)] else [])
  l.filter (fun y => decide ((y.2, y.1) ∉ x.lost))

/-- The deadlines of every definition that are due by epoch `e`, as due epoch, PDU and kind; while Ford is off only the periodic
phase runs. `bad` selects those whose definition fails its check (R294). -/
def State.dueBy (s : State) (e : Nat) (bad : Bool) : List (Nat × Nat × DeadlineKind) :=
  (((s.pduDefs e).filter (fun p => s.rowBad 0x8100 p.1 = bad)).map (fun p =>
    ((deadlinesOf (s.pdu e p.1)).filter (fun y => decide (y.1 ≤ e) && (s.fordOn e || decide (y.2 = .periodic)))).map
      (fun y => (y.1, p.1, y.2)))).flatten

/-- The items of the earliest due epoch up to `e`, in the order of R265. -/
def State.dueItems (s : State) (e : Nat) : List FordItem :=
  let l := s.dueBy e false
  match l with
  | [] => []
  | x :: _ =>
    let d := l.foldl (fun a y => min a y.1) x.1
    (l.filter (fun y => decide (y.1 = d))).map (fun y => ⟨⟨d, 0, 0⟩, .deadline y.2.1 y.2.2⟩)

/-- The next periodic deadline after one of epoch `e`, and how many the latest forward step passed (R285, R288). -/
def nextPeriodic (x : PduState) (e stepNs : Nat) : Nat × Nat :=
  let p := dPeriod x.defn * 1000
  let t0 := x.since * 32
  if p = 0 then (e + 1, 0)
  else
    let k := (e * 32 - t0) / p
    let skip := if e * 32 ≤ stepNs then (stepNs - t0) / p - k else 0
    ((t0 + (k + 1 + skip) * p + 31) / 32, skip)

/-- Advance the periodic phase of a PDU past epoch `e`. -/
def State.passPeriodic (s : State) (t e : Nat) : State :=
  let r := nextPeriodic (s.pduStored t) e s.time.stepNs
  (s.modPdu t (fun x => { x with next := r.1 })).fordCount 0x23 r.2

/-- A deadline fires (R281, R285, R286, R292). -/
def State.fire (s : State) (e t : Nat) (kind : DeadlineKind) : State :=
  match s.pduDef e t with
  | none => s
  | some d =>
    let s := s.settlePdu e t
    let key : OKey := ⟨e, 0, 0⟩
    match kind with
    | .timeout =>
      let s := (s.modPdu t (fun x => { x with timedOut := true, first := true })).fordCount 0x14 1
      let a := (⟨s, [], []⟩ : FordAcc).routes e t d .timeout
      ((a.commit key true []).raiseKeyed (deadlineKey d e) 0x0903 t).fordCount 0x13 1
    | .gapEnd =>
      let s := s.modPdu t (fun x => { x with deferred := false })
      ((⟨s, [], []⟩ : FordAcc).commit key true [t]).fordCount 0x13 1
    | .periodic =>
      let s := s.passPeriodic t e
      if !s.fordOn e then s
      else
        let r := s.trigger_ e t d
        ((⟨r.1, [], []⟩ : FordAcc).commit key true (if r.2 then [t] else [])).fordCount 0x13 1
    | .holdEnd =>
      (((⟨s, [], []⟩ : FordAcc).flush e t d).commit key true []).fordCount 0x13 1

/-- Work a dispatched item: its results commit together (R264). -/
def State.workItem (s : State) (x : FordItem) : State :=
  let e := x.key.epoch
  let s := s.applyRaises e
  match x.work with
  | .bus f => (((⟨s, [], []⟩ : FordAcc).bus e f).commit x.key false []).fordCount 0x10 1
  | .eth b stamp => (((⟨s, [], []⟩ : FordAcc).ethernet e stamp b).commit x.key false []).fordCount 0x10 1
  | .deadline t kind => s.fire e t kind
  | .due _ => s

/-! ### The work queue and the processors (R24, R266, R296, R297) -/

/-- Note the depth of the work queue (`8300h.07`). -/
def State.peakQueue (s : State) : State := s.setStat 0x8300 7 (max (s.stat 0x8300 7) s.ford.queue.length)

/-- An input released to Ford: it takes its place in the work queue, or counts while Ford is off. -/
def State.fordEnter (s : State) (key : OKey) (w : FordWork) : State :=
  if s.fordOn key.epoch then
    ({ s with ford := { s.ford with queue := insertByKey FordItem.key ⟨key, w⟩ s.ford.queue } } : State).peakQueue
  else s.fordCount 0x11 1

/-- Place a marker for the deadlines of epoch `e` before every item of that epoch. -/
def insertMarker (x : FordItem) : List FordItem → List FordItem
  | [] => [x]
  | y :: ys => if x.key.epoch ≤ y.key.epoch then x :: y :: ys else y :: insertMarker x ys

/-- Release the deadlines of the due epochs up to `e` (R265). -/
def State.releaseDeadlines (s : State) (e : Nat) : State :=
  if s.ford.nextDue ≤ e then
    { s with ford := { s.ford with
        queue := insertMarker ⟨⟨e, 0, 0⟩, .due s.ford.nextDue⟩ s.ford.queue, nextDue := e + 1 } }
  else s

/-- Processors in service. -/
def State.fordMask (s : State) : Nat := s.stat 0x8300 1

/-- The lowest-numbered idle processor in service. -/
def State.idleProc (s : State) : Option Nat :=
  firstBelow 32 (fun i => bitOf s.fordMask i && !s.ford.running.any (fun r => decide (r.proc = i)))

/-- Number of a deadline kind (Table 12.6). -/
def deadlineNum : DeadlineKind → Nat
  | .timeout => 0 | .gapEnd => 1 | .periodic => 2 | .holdEnd => 3

/-- A deadline that is lost: the periodic phase goes on, another does not fall due again (R296). -/
def State.loseDeadline (s : State) (e t : Nat) (kind : DeadlineKind) : State :=
  let s := s.settlePdu e t
  if kind = .periodic then s.passPeriodic t e else s.modPdu t (fun x => { x with lost := x.lost ++ [(kind, e)] })

/-- An item is lost on processor `n`, or with none in service: counted, its key kept, its loss journaled (R296, R297). -/
def State.loseItem (s : State) (n : Nat) (x : FordItem) : State :=
  let s := (s.fordCount 4 1).setStat 0x8300 5 (okeyNat x.key)
  match x.work with
  | .deadline t kind => (s.loseDeadline x.key.epoch t kind).journalInput ⟨x.key.epoch, 0x0400 + n, t⟩ 0x0A (deadlineNum kind) 0
      false none
  | _ => s.journalInput x.key 0x09 n 0 false none

/-- Dispatch the head of the work queue (R24): due deadlines are laid out once every earlier item has committed; with no
processor in service the head is lost. -/
def dispatchHead : Nat → State → State
  | 0, s => s
  | k + 1, s => match s.ford.queue with
    | [] => s
    | x :: rest => match x.work with
      | .due lo =>
        if s.ford.running ≠ [] then s
        else match s.dueItems x.key.epoch with
          | [] =>
            let late := ((s.dueBy x.key.epoch true).filter (fun y => decide (lo ≤ y.1))).length
            dispatchHead k (({ s with ford := { s.ford with queue := rest } } : State).fordCount 0x26 late)
          | items => dispatchHead k { s with ford := { s.ford with queue := items ++ x :: rest } }
      | _ =>
        let s1 := { s with ford := { s.ford with queue := rest } }
        if s.fordMask = 0 then dispatchHead k (s1.loseItem 0 x)
        else match s.idleProc with
          | none => s
          | some p => { s1 with ford := { s1.ford with running := s1.ford.running ++ [⟨p, x, false⟩] } }

/-- Commit finished items from the lowest key on (R24). -/
def commitRuns : List FordRun → State → State
  | [], s => s
  | r :: rs, s =>
    if r.done then commitRuns rs (({ s with ford := { s.ford with running := rs } } : State).workItem r.item) else s

/-- Commit whatever may commit. -/
def State.commitFord (s : State) : State := commitRuns s.ford.running s


/-- FORD_DISPATCH: once an entry to QUIET or SLEEP has begun, Ford takes no further item (R24, R397). -/
def fordDispatch (s : State) : State :=
  if s.power.phase = .entering then s else dispatchHead (s.ford.queue.length + 2) s

/-- FORD_DISPATCH (R24). -/
def execFordDispatch (t : Nat) (s : State) : Out := happen t true s fordDispatch

/-- FORD_ITEM_COMPLETE (R24). -/
def fordItemComplete (p : Nat) (s : State) : State :=
  ({ s with ford := { s.ford with
      running := modWhere (fun (r : FordRun) => decide (r.proc = p)) (fun r => { r with done := true }) s.ford.running } } :
    State).commitFord

/-- FORD_ITEM_COMPLETE (R24). -/
def execFordItemComplete (t proc : Nat) (s : State) : Out := happen t (decide (proc < 32)) s (fordItemComplete proc)

/-- FORD_DEADLINE: a due epoch is reached, every input of an earlier epoch has been released, and its deadlines take their place
(R265, R288). -/
def fordDeadline (due : Nat) (s : State) : State :=
  let open_ := s.ord.units.all (fun u => !decide (u.unit = .ford) ||
    (u.suspend.isNone && u.buf.all (fun b => decide (due ≤ b.key.epoch))))
  let past := if s.follows then decide (due < s.saddle.released) else decide ((due + 2) * 32 ≤ s.time.orderNs)
  if open_ ∧ past then s.releaseDeadlines due else s

/-- FORD_DEADLINE (R265). -/
def execFordDeadline (t due : Nat) (s : State) : Out := happen t true s (fordDeadline due)

/-- The fault unit and the journal hear of processors out of service (R297). -/
def State.checkProcessors (s : State) (before : Nat) : State :=
  let n := popCount s.fordMask 32
  let min_ := s.reg 0x8000 2
  let s := if n = 32 then s.clearCause 65 else s
  if n < min_ then
    (if before < min_ then s else (s.raiseFault 66 true).raiseEvent 0x0810 0x0902 n)
  else s.clearCause 66

/-- A processor goes out of service: its item is lost, it is flagged and an event is raised (R296). -/
def State.failProcessor (s : State) (n : Nat) : State :=
  let before := popCount s.fordMask 32
  let s := (s.setStat 0x8300 1 (clearBitAt s.fordMask n)).orStat 0x8300 2 (1 <<< n)
  let lost := s.ford.running.find? (fun r => decide (r.proc = n) && !r.done)
  let s := match lost with
    | some r =>
      (({ s with ford := { s.ford with running := s.ford.running.filter (fun x => decide (x ≠ r)) } } :
        State).loseItem n r.item).commitFord
    | none => s
  let args := match lost with
    | some r => okeyNat r.item.key
    | none => 0
  ((s.raiseEvent (0x0400 + n) 0x0901 args).raiseFault 65 true).checkProcessors before

/-- PROCESSOR_FAILURE (R296). -/
def execProcessorFailure (t n : Nat) (s : State) : Out :=
  happen t (decide (n < 32)) s (fun s => if bitOf s.fordMask n then s.failProcessor n else s)

/-- The known-answer test of the named processors: those that pass return to service, the others go out (R297). -/
def State.retest (s : State) (mask passed : Nat) : State :=
  let before := popCount s.fordMask 32
  let s := (s.setStat 0x8300 1 (s.fordMask ||| (mask &&& passed))).checkProcessors before
  ((bitsSet mask 32).filter (fun i => !bitOf passed i)).foldl
    (fun s i => if bitOf s.fordMask i then s.failProcessor i else s) s

/-- The request of execProcessorRetest. -/
def State.reqProcessorRetest (s : State) (c : Caller) (mask passed : Nat) : State :=
  s.dictWrite c 0x8300 3 (toLE 4 mask) noExtra (fun v s => s.retest v passed)

/-- PROCESSOR_RETEST: a write of a mask to `8300h.03` (R297). -/
def execProcessorRetest (t : Nat) (c : Caller) (mask passed : Nat) (s : State) : Out :=
  happenBy c t true s (fun s => s.reqProcessorRetest c mask passed)

end Sys2Proof.Machine
end

