-- ==== Sys2Proof/Machine/LegacyFamily.lean ====
section
/-! DEFINITION. CAN, LIN and FlexRay controllers and transceiver error pins (R244 to R262). -/

namespace Sys2Proof.Machine

open Sys2Proof

/-- Whether the bus controllers run: not in reset, while the rails come up, or under Lowland (Table 10.6). -/
def State.busesRun (s : State) : Bool := s.awake

/-! ### CAN (R244 to R253) -/

/-- Whether controller `n` is on the bus: enabled, and not in bus-off. -/
def State.canRuns (s : State) (n : Nat) : Bool :=
  s.busesRun && s.canOn s.keyEpoch n && decide ((s.can n).wait = .none) && decide (s.stat (0x7000 + n) 0x20 ≠ 4)

/-- The controller takes part in the bus: its state and error counters, frozen on a member that only listens (R252). -/
def State.canState (s : State) (n tec rec_ : Nat) : State :=
  if s.drives (outCan n) then
    ((s.setStat (0x7000 + n) 0x21 (min tec 255)).setStat (0x7000 + n) 0x22 (min rec_ 255)).setStat (0x7000 + n) 0x20
      (if 128 ≤ tec ∨ 128 ≤ rec_ then 3 else 2)
  else s.setStat (0x7000 + n) 0x20 5

/-- Whether a format is enabled on controller `n` (R247). -/
def State.formatOn (s : State) (n : Nat) (f : BusFrame) : Bool :=
  let m := s.reg (0x7000 + n) 2
  decide (f.fmt = 0) || (decide (f.fmt = 3) && bitOf m 1) || (decide (f.fmt ≠ 0) && decide (f.fmt ≠ 3) && bitOf m 0)

/-- A frame as controller `n` keeps it: its bus, and its stamp less the entered delay (R245). -/
def State.canFrame (s : State) (n : Nat) (f : BusFrame) : BusFrame :=
  { f with kind := 1, bus := n, stamp := f.stamp - s.reg (0x7000 + n) 0x14 }

/-- A frame valid under its standard: acceptance filtering, then its key and Ford (R244, R248, R252). -/
def State.canValid (s : State) (n : Nat) (f : BusFrame) : State :=
  if s.canAccepts n f then (s.count64 (0x7000 + n) 0x30 1).busKeyed (0x0100 + n) f else s.count64 (0x7000 + n) 0x31 1

/-- CAN_FRAME_RECEIVED: `fault` is 0 for a valid frame, 1 for a stuff, form or CRC error, 2 for another error; `partner` tells a
frame of the other member; `tec` and `rec_` are the counters that result. -/
def canFrameReceived (n : Nat) (f : BusFrame) (fault : Nat) (partner : Bool) (tec rec_ : Nat) (s : State) : State :=
  if !s.canRuns n then s
  else if !s.formatOn n f then s.count64 (0x7000 + n) 0x3A 1
  else
    let s := s.canState n tec rec_
    if fault = 0 then
      (if partner ∧ s.reg (0x7000 + n) 0x0F ≠ 1 then s else s.canValid n (s.canFrame n f))
    else
      let s := if s.drives (outCan n) then s.count64 (0x7000 + n) 0x37 1 else s
      if fault = 1 then s.count64 (0x7000 + n) 0x39 1 else s

/-- CAN_FRAME_RECEIVED (R244). -/
def execCanFrameReceived (t n : Nat) (f : BusFrame) (fault : Nat) (partner : Bool) (tec rec_ : Nat) (s : State) : Out :=
  happen t (decide (n < 24)) s (canFrameReceived n f fault partner tec rec_)

/-- Entries too old at their next offer (R250). -/
def State.canAged (s : State) (n : Nat) (x : CanEntry) : Bool :=
  let lim := s.reg (0x7000 + n) 0x0E
  decide (lim ≠ 0) && !x.started && decide (x.enq + lim * 1000 < s.time.raw)

/-- CAN_TRANSMIT_OFFER: aged entries leave, and the entry of the lowest arbitration value starts (R249, R250). -/
def canTransmitOffer (n : Nat) (s : State) : State :=
  if s.canRuns n ∧ s.drives (outCan n) ∧ ¬ s.handing (outCan n) ∧ ¬ (s.can n).queue.any CanEntry.started ∧ (s.power.phase ≠ .entering ∨ n < 8) then
    let s := if s.stat (0x7000 + n) 0x20 = 2 ∨ s.stat (0x7000 + n) 0x20 = 3 then s else s.setStat (0x7000 + n) 0x20 2
    let s := s.canRemove n 1 (s.canAged n)
    match offerOf (s.can n).queue with
    | none => s
    | some x => s.modCan n (fun c => { c with queue := modWhere (fun y => decide (y = x)) (fun y => { y with started := true }) c.queue })
  else s

/-- CAN_TRANSMIT_OFFER (R249). -/
def execCanTransmitOffer (t n : Nat) (s : State) : Out := happen t (decide (n < 24)) s (canTransmitOffer n)

/-- A frame completes: it leaves the queue, its removal is journaled, and with self-reception it is offered as received. -/
def State.canSent (s : State) (n : Nat) (x : CanEntry) (stamp : Nat) : State :=
  let s := s.modCan n (fun c => { c with queue := c.queue.filter (fun y => decide (y ≠ x)) })
  let s := (s.count64 (0x7000 + n) 0x32 1).journalRemoval n 0 x
  if s.reg (0x7000 + n) 0x0F = 1 then s.canValid n (s.canFrame n { x.frame with stamp := stamp }) else s

/-- A frame that Lowland sends on CNn completes: the lowest arbitration value of its queue leaves (R399). -/
def State.lowSent (s : State) (n outcome : Nat) : State :=
  let p := s.power
  if bitOf p.lowBuses n ∧ bitOf p.tokens n ∧ outcome = 0 then
    { s with power := { p with lowQueues := modNth p.lowQueues n (fun q =>
        match sortBy (fun (a b : BusFrame) => decide (arbitration a < arbitration b)) q with
        | [] => []
        | x :: _ => q.erase x) } }
  else s

/-- CAN_TRANSMIT_COMPLETE: the started frame completes (`outcome` 0), loses arbitration (1) or meets an error (2), and then
waits to be offered again (R249, R252). -/
def canTransmitComplete (n outcome stamp tec rec_ : Nat) (s : State) : State :=
  if s.power.phase = .quiet then s.lowSent n outcome
  else match (s.can n).queue.find? CanEntry.started with
  | none => s
  | some x =>
    if !s.canRuns n then s
    else
      let s := s.canState n tec rec_
      if outcome = 0 then (s.canSent n x stamp).settleHandovers
      else
        let s := s.modCan n (fun c => { c with queue := modWhere CanEntry.started (fun y => { y with started := false }) c.queue })
        (s.count64 (0x7000 + n) (if outcome = 1 then 0x38 else 0x37) 1).settleHandovers

/-- CAN_TRANSMIT_COMPLETE (R252). -/
def execCanTransmitComplete (t n outcome stamp tec rec_ : Nat) (s : State) : Out :=
  happenAny t (decide (n < 24)) s (canTransmitComplete n outcome stamp tec rec_)

/-- Recovery that the policy, or the limit of bus-offs in a second, calls for (R251). -/
def State.recovery (s : State) (n : Nat) (forced : Bool) : BusOffWait :=
  let v := s.reg (0x7000 + n) 9 % 4
  if forced ∨ v = 2 then .command else if v = 1 then .delay else .sequence

/-- BUS_OFF (R251). -/
def busOff (n : Nat) (s : State) : State :=
  if s.power.phase = .quiet then
    let p := s.power
    if bitOf p.lowBuses n ∧ bitOf p.tokens n then { s with power := { p with busOffs := min 0xFFFFFFFF (p.busOffs + 1) } } else s
  else if !s.canRuns n || !s.drives (outCan n) then s
  else
    let c := s.can n
    let sec := s.time.raw / 1000000000
    let count := if c.second = sec then c.count + 1 else 1
    let lim := s.reg (0x7000 + n) 0x0B
    let forced := c.forced || (decide (lim ≠ 0) && decide (lim ≤ count))
    let s := s.modCan n (fun c => { c with
      queue := c.queue.map (fun x => { x with started := false }), wait := s.recovery n forced, since := s.time.raw,
      second := sec, count := count, forced := forced })
    let s := (s.setStat (0x7000 + n) 0x20 4).count64 (0x7000 + n) 0x36 1
    let s := (s.raiseEvent (0x0100 + n) 0x0801 0).raiseFault (67 + n) true
    if bitOf (s.reg (0x7000 + n) 9) 7 then s.canRemove n 2 (fun _ => true) else s

/-- BUS_OFF (R251). -/
def execBusOff (t n : Nat) (s : State) : Out := happenAny t (decide (n < 24)) s (busOff n)

/-- BUS_OFF_DELAY_EXPIRED (R251). -/
def busOffDelayExpired (n : Nat) (s : State) : State :=
  if (s.can n).wait = .delay ∧ (s.can n).since + s.reg (0x7000 + n) 0x0A * 1000000 ≤ s.time.raw then
    s.modCan n (fun c => { c with wait := .sequence })
  else s

/-- BUS_OFF_DELAY_EXPIRED (R251). -/
def execBusOffDelayExpired (t n : Nat) (s : State) : Out := happen t (decide (n < 24)) s (busOffDelayExpired n)

/-- The request of execRecover. -/
def State.reqRecover (s : State) (c : Caller) (n : Nat) : State :=
  s.dictWrite c (0x7000 + n) 0x0C [1]
    (fun s _ => if s.stat (0x7000 + n) 0x20 = 4 then 0 else 0x0B)
    (fun _ s => s.modCan n (fun c => { c with wait := .sequence, forced := false }))

/-- RECOVER: a write of 0x01 to `7000h+n.0C`, refused with 0x000B outside bus-off (R251). -/
def execRecover (t : Nat) (c : Caller) (n : Nat) (s : State) : Out :=
  happenBy c t (decide (n < 24)) s (fun s => s.reqRecover c n)

/-- BUS_OFF_RECOVERED: the recovery sequence ends (R251). -/
def busOffRecovered (n : Nat) (s : State) : State :=
  if (s.can n).wait = .sequence then
    let s := s.modCan n (fun c => { c with wait := .none })
    (s.setStat (0x7000 + n) 0x20 2 |>.canState n 0 0).clearCause (67 + n)
  else s

/-- BUS_OFF_RECOVERED (R251). -/
def execBusOffRecovered (t n : Nat) (s : State) : Out := happen t (decide (n < 24)) s (busOffRecovered n)

/-! ### LIN (R254 to R258) -/

/-- Channel `n`. -/
def State.lin (s : State) (n : Nat) : LinCtl := nth s.legacy.lin n ⟨0, 0, 0, 0, none, 0, [], none, none⟩

/-- Change channel `n`. -/
def State.modLin (s : State) (n : Nat) (f : LinCtl → LinCtl) : State :=
  { s with legacy := { s.legacy with lin := modNth s.legacy.lin n f } }

/-- The slot entries of schedule `j` of channel `n` as (entry number, its 12 bytes) (R255). -/
def State.linSlots (s : State) (n j : Nat) : List (Nat × Nat) :=
  let v := s.reg (0x7040 + n) (0x10 + j)
  (List.range (v / 256)).map (fun i => (v % 256 + i, s.reg (0x7040 + n) (0x40 + (v % 256 + i))))

/-- Length of a slot in ns. -/
def slotNs (e : Nat) : Nat := subBytes e 4 4 * 1000

/-- Length of a cycle in ns. -/
def cycleNs (l : List (Nat × Nat)) : Nat := l.foldl (fun a x => a + slotNs x.2) 0

/-- Start of the `h`-th header since the base: S + m × C + O_k (R255). -/
def headerStart (base : Nat) (l : List (Nat × Nat)) (h : Nat) : Nat :=
  base + h / l.length * cycleNs l + cycleNs (l.take (h % l.length))

/-- Headers since the base that start before `now`, or at it. -/
def headersBefore (base now : Nat) (l : List (Nat × Nat)) : Nat :=
  if l = [] ∨ now < base ∨ cycleNs l = 0 then 0
  else
    let m := (now - base) / cycleNs l
    m * l.length + ((List.range l.length).filter (fun k => decide (cycleNs (l.take k) < (now - base) % cycleNs l))).length

/-- The transmit PDU of an identifier of channel `n`. -/
def State.linPdu (s : State) (n id : Nat) : Option Nat :=
  ((s.pduDefs s.keyEpoch).find? (fun x => dTx x.2 && decide (dKind x.2 = 2) && decide (dBus x.2 = n)
    && decide (dIdent x.2 % 64 = id))).map Prod.fst

/-- Whether Ford has updated a PDU since it was pulled. -/
def State.updatedPdu (s : State) (t : Option Nat) : Bool :=
  match t with
  | some t => (s.pdu s.keyEpoch t).written && (kfind s.ford.pulled t).isSome
  | none => false

/-- Pull the latest finished image of a PDU. -/
def State.pull (s : State) (t : Option Nat) : State × Option Bytes :=
  match t with
  | none => (s, none)
  | some t =>
    let s := s.settlePdu s.keyEpoch t
    match kfind s.ford.pulled t with
    | some b => (s.modPdu t (fun x => { x with written := false }), some b)
    | none => (s, none)

/-- Send a response on channel `n`, or stay silent until Ford has produced the first (R257). -/
def State.linRespond (s : State) (n id : Nat) : State :=
  let r := s.pull (s.linPdu n id)
  r.1.modLin n (fun x => { x with sent := if s.drives (outLin n) then r.2.map (fun b => (id, b)) else none })

/-- The header of slot `k` of the running schedule (R256, R257): its identifier, none for a silent sporadic slot. -/
def State.linSend (s : State) (n : Nat) (slot : Nat × Nat) : State :=
  let e := slot.2
  let kind := subBytes e 1 1
  let fid := if kind = 3 then 0x3C else if kind = 4 then 0x3D else subBytes e 0 1
  let s := s.setStat (0x7040 + n) 0x21 slot.1
  if kind = 2 ∧ ¬ s.updatedPdu (s.linPdu n fid) then s.modLin n (fun x => { x with header := none, sent := none })
  else
    let follow := (kfind (s.lin n).follow slot.1).getD []
    let id := follow.headD fid
    let s := s.modLin n (fun x => { x with
      header := some (slot.1, id), sent := none,
      follow := if follow.length ≤ 1 then kdel x.follow slot.1 else kins x.follow slot.1 follow.tail })
    if bitOf (subBytes e 2 1) 1 then s.linRespond n id else s

/-- LIN_HEADER_DUE: the working clock has reached the next header's start: it is sent, or omitted when a forward step passed it
(R255, R256). -/
def linHeaderDue (n : Nat) (s : State) : State :=
  let x := s.lin n
  let l := s.linSlots n x.sched
  if !s.busesRun ∨ x.mode ≠ 1 ∨ l = [] then s
  else
    let start := headerStart x.base l x.passed
    if s.workingNs < start then s
    else
      let s := s.modLin n (fun x => { x with passed := x.passed + 1 })
      if start < s.time.stepNs then s.count32 (0x7040 + n) 0x22
      else s.linSend n (nth l (x.passed % l.length) (0, 0))

/-- LIN_HEADER_DUE (R255). -/
def execLinHeaderDue (t n : Nat) (s : State) : Out := happen t (decide (n < 8)) s (linHeaderDue n)

/-- Associated identifiers of an event-triggered slot, lowest first. -/
def linFollow (e : Nat) : List Nat :=
  sortBy (fun a b => decide (a < b)) (((List.range 4).map (fun i => subBytes e (8 + i) 1)).filter (fun x => decide (x < 64)))

/-- A collision in an event-triggered slot: the associated identifiers follow (R256). -/
def State.linCollision (s : State) (n : Nat) : State :=
  match (s.lin n).header with
  | none => s
  | some (k, id) =>
    let e := s.reg (0x7040 + n) (0x40 + k)
    if subBytes e 1 1 = 1 ∧ id = subBytes e 0 1 ∧ (s.lin n).mode = 1 ∧ linFollow e ≠ [] then
      s.modLin n (fun x => { x with follow := kins x.follow k (linFollow e) })
    else s

/-- LIN_FRAME_RECEIVED: `fault` is 0 for a good response, 1 no response, 2 checksum, 3 framing, 4 bit error (R254). -/
def linFrameReceived (n : Nat) (f : BusFrame) (fault : Nat) (s : State) : State :=
  if !s.busesRun ∨ (s.lin n).mode = 0 then s
  else
    let own := match (s.lin n).sent with | some x => decide (x.1 = f.ident % 64) | none => false
    if fault = 0 then
      let s := (s.count64 (0x7040 + n) 0x34 1).modLin n (fun x => { x with header := none })
      if own then s
      else s.busKeyed (0x0140 + n) { f with
        kind := 2, bus := n, ident := f.ident % 64, stamp := f.stamp - s.reg (0x7040 + n) 0x0F }
    else
      let s := s.count64 (0x7040 + n) (0x2F + min fault 4) 1
      if fault = 2 ∨ fault = 3 then s.linCollision n else s

/-- LIN_FRAME_RECEIVED (R254). -/
def execLinFrameReceived (t n : Nat) (f : BusFrame) (fault : Nat) (s : State) : Out :=
  happen t (decide (n < 8)) s (linFrameReceived n f fault)

/-- LIN_SCHEDULE_CHANGE: the cycle in progress has ended, and the committed schedule runs from there (R256). -/
def linScheduleChange (n : Nat) (s : State) : State :=
  let x := s.lin n
  match x.want with
  | none => s
  | some j =>
    if s.workingNs < x.wantAt then s
    else
      (s.modLin n (fun x => { x with sched := j, base := x.wantAt, passed := 0, want := none, follow := [] })).setStat
        (0x7040 + n) 0x0D (time80Of x.wantAt)

/-- LIN_SCHEDULE_CHANGE (R256). -/
def execLinScheduleChange (t n : Nat) (s : State) : Out := happen t (decide (n < 8)) s (linScheduleChange n)

/-- LIN_HEADER_RECEIVED: a responder answers an identifier it publishes (R257). -/
def linHeaderReceived (n id : Nat) (s : State) : State :=
  if s.busesRun ∧ (s.lin n).mode = 2 ∧ bitOf (s.reg (0x7040 + n) 0x20) (id % 64) then s.linRespond n (id % 64)
  else s.modLin n (fun x => { x with sent := none })

/-- LIN_HEADER_RECEIVED (R257). -/
def execLinHeaderReceived (t n id : Nat) (s : State) : Out := happen t (decide (n < 8)) s (linHeaderReceived n id)

/-- What a commit at its apply epoch does to channel `n` (R255, R256): a channel that starts takes its base and skips headers
already past; a running one changes schedule at the end of the cycle in progress. `wasEmpty` tells whether the schedule in force
was empty. -/
def State.linCommit (s : State) (n : Nat) (wasEmpty : Bool) : State :=
  let x := s.lin n
  let mode := s.reg (0x7040 + n) 1
  let j := s.reg (0x7040 + n) 0x0B
  let now := s.workingNs
  if mode ≠ x.mode then
    let base := time80Ns (s.reg (0x7040 + n) 0x0C)
    (s.modLin n (fun _ => ⟨mode, j, base, headersBefore base now (s.linSlots n j), none, 0, [], none, none⟩)).setStat
      (0x7040 + n) 0x0D (time80Of base)
  else if mode = 1 ∧ (j ≠ x.sched ∨ (wasEmpty ∧ s.linSlots n j ≠ [])) then
    let l := s.linSlots n x.sched
    let end_ := if wasEmpty ∨ l = [] ∨ cycleNs l = 0 then now
      else if now < x.base then x.base else x.base + ((now - x.base) / cycleNs l + 1) * cycleNs l
    s.modLin n (fun x => { x with want := some j, wantAt := end_ })
  else s

/-! ### FlexRay (R259 to R261) -/

/-- Buffer entries of a FlexRay configuration, each its 8 bytes (R260). -/
def fxBuffers (c : Bytes) : List Nat := (List.range (min (leAt c 128 4) 128)).map (fun i => leAt c (132 + 8 * i) 8)

/-- Whether a buffer owns a slot in a cycle. -/
def fxOwns (b cycle : Nat) : Bool :=
  decide (subBytes b 3 1 ≠ 0) && decide (cycle % subBytes b 3 1 = subBytes b 2 1 % subBytes b 3 1)

/-- Whether FX runs with a configuration. -/
def State.fxRuns (s : State) : Bool :=
  s.busesRun && decide (s.reg 0x7060 1 = 1) && decide (s.legacy.fx.config ≠ [])

/-- The node is in the cluster: POC state, cycle counter and cycle start (R259, R261). -/
def State.fxCycle (s : State) (cycle start : Nat) : State :=
  ((s.setStat 0x7060 0x20 (if s.drives outFx then 2 else 5)).setStat 0x7060 0x21 (cycle % 64)).setStat 0x7060 0x23
    (time80Of start)

/-- Note the latest frame sent. -/
def State.fxSend (s : State) (slot : Nat) (p : Option Bytes) : State :=
  ({ s with legacy := { s.legacy with fx := { s.legacy.fx with sent := some (slot, p) } } } : State).count64 0x7060 0x32 1

/-- FLEXRAY_SLOT: an owned slot of buffer `buf` arrives in a cycle that started at `start` ns of the working clock; `room` tells
whether the minislots of the cycle reach a dynamic slot (R261). -/
def flexraySlot (buf cycle start : Nat) (room : Bool) (s : State) : State :=
  match (fxBuffers s.legacy.fx.config)[buf]? with
  | none => s
  | some b =>
    if !s.fxRuns ∨ !bitOf (subBytes b 4 1) 0 ∨ !fxOwns b cycle then s
    else
      let s := (s.settleFx start).fxCycle cycle start
      if !s.drives outFx then s
      else
        let slot := subBytes b 0 2
        let t := some (subBytes b 6 2)
        let fresh := s.updatedPdu t
        if slot ≤ leAt s.legacy.fx.config 8 4 then
          (if fresh ∨ bitOf (subBytes b 4 1) 3 then
            let r := s.pull t
            r.1.fxSend slot r.2
          else s.fxSend slot none)
        else if !fresh then s
        else if !room then s.count64 0x7060 0x37 1
        else
          let r := s.pull t
          r.1.fxSend slot r.2

/-- FLEXRAY_SLOT (R261). -/
def execFlexraySlot (t buf cycle start : Nat) (room : Bool) (s : State) : Out :=
  happen t (decide (buf < 128)) s (flexraySlot buf cycle start room)

/-- The receive buffer of a slot in a cycle on a channel. -/
def State.fxRxBuffer (s : State) (chan slot cycle : Nat) : Option Nat :=
  (fxBuffers s.legacy.fx.config).find? (fun b => !bitOf (subBytes b 4 1) 0 && bitOf (subBytes b 4 1) (1 + chan)
    && decide (subBytes b 0 2 = slot) && fxOwns b cycle)

/-- FLEXRAY_FRAME_RECEIVED: `fault` is 0 for a valid frame, 1 syntax, 2 content, 3 slot boundary violation; `syncs` the sync
frames seen (R259, R261). -/
def flexrayFrameReceived (chan slot cycle start fault syncs sof : Nat) (data : Bytes) (s : State) : State :=
  if !s.fxRuns ∨ !bitOf (s.reg 0x7060 2) chan then s
  else if fault = 1 then s.count64 0x7060 (0x33 + chan) 1
  else if fault = 2 then s.count64 0x7060 0x35 1
  else if fault ≠ 0 then s.count64 0x7060 0x36 1
  else
    let s := (((s.fxCycle cycle start).setStat 0x7060 0x22 (syncs % 256)).count64 0x7060 (0x30 + chan) 1)
    match s.fxRxBuffer chan slot cycle with
    | none => s
    | some b => s.busKeyed (0x0160 + chan) ⟨3, chan, subBytes b 6 2, 0, false, false, slot * 64 + cycle,
        sof - s.reg 0x7060 0x0E, data⟩

/-- FLEXRAY_FRAME_RECEIVED (R261). -/
def execFlexrayFrameReceived (t chan slot cycle start fault syncs sof : Nat) (data : Bytes) (s : State) : Out :=
  happen t (decide (chan < 2)) s (flexrayFrameReceived chan slot cycle start fault syncs sof data)

/-- What a commit does to FX: a controller that is enabled takes its configuration, one that is disabled returns to
configuration (R260). -/
def State.fxCommit (s : State) (before : Nat) : State :=
  let on := s.reg 0x7060 1
  if on = before then s
  else if on = 1 then
    ({ s with legacy := { s.legacy with fx := ⟨kget (fun _ => []) s.dict.domains (dkey 0x7060 0x10), none⟩ } } : State).setStat
      0x7060 0x20 1
  else s.setStat 0x7060 0x20 0

/-- What a commit does to a CAN controller: it starts or stops, or reintegrates with new timing or formats (R246). -/
def State.canCommit (s : State) (n : Nat) (before after : List Nat) : State :=
  if before = after then s
  else if after.headD 0 = 0 then
    ((s.modCan n (fun _ => ⟨[], .none, 0, 0, 0, false⟩)).setStat (0x7000 + n) 0x20 0).clearCause (67 + n)
  else if s.stat (0x7000 + n) 0x20 = 4 then s
  else s.setStat (0x7000 + n) 0x20 1

/-! ### Transceiver error outputs (R262) -/

/-- Index object and poll interval of pin `i`: 0…23 CAN, 24 and 25 FlexRay A and B. -/
def errnIndex (i : Nat) : Nat := if i < 24 then 0x7000 + i else 0x7060

/-- Poll interval of pin `i`. -/
def State.errnInterval (s : State) (i : Nat) : Nat := if i < 24 then s.reg (0x7000 + i) 0x12 else s.reg 0x7060 0x0F

/-- Two lows: the error bit, the counter and one event. -/
def State.errnEvent (s : State) (i : Nat) : State :=
  let s := s.orStat (errnIndex i) 0x24 4
  let s := if i < 24 then s.count32 (0x7000 + i) 0x26 else s.count64 0x7060 0x38 1
  s.raiseEvent (if i < 24 then 0x0100 + i else 0x0160 + (i - 24)) 0x0802 (if i < 24 then 0 else i - 23)

/-- ERRN_POLL: pin `i` is sampled low or high; two lows raise the event once, until the pin has read high for 100 ms (R262). -/
def errnPoll (i : Nat) (low : Bool) (s : State) : State :=
  let on := if i < 24 then s.canOn s.keyEpoch i else decide (s.reg 0x7060 1 = 1)
  if !(decide (s.power.phase = .run) || decide (s.power.phase = .idle)) ∨ s.errnInterval i = 0 ∨ !on then s
  else
    let x := nth s.legacy.errn i ⟨false, false, none⟩
    let since := if low then none else some (x.since.getD s.time.raw)
    let told := x.told && !(match since with | some a => decide (a + 100000000 ≤ s.time.raw) | none => false)
    let fire := low && x.low && !told
    let y : ErrPin := ⟨low, told || fire, since⟩
    let s := { s with legacy := { s.legacy with errn := modNth s.legacy.errn i (fun _ => y) } }
    if fire then s.errnEvent i else s

/-- ERRN_POLL (R262). -/
def execErrnPoll (t pin : Nat) (low : Bool) (s : State) : Out := happen t (decide (pin < 26)) s (errnPoll pin low)

end Sys2Proof.Machine
end

