-- ==== Sys2Proof/Machine/Forward.lean ====
section
/-! DEFINITION. Destinations: VLAN state, FDB lookup, learning and ageing (R192, R195 to R198). -/

namespace Sys2Proof.Machine

open Sys2Proof

/-! ### FDB (R195 to R197) -/

/-- Bucket of a MAC address and VID. -/
def fdbBucket (mac vid : Nat) : Nat := crc32 (toBE 6 mac ++ toBE 2 vid) % 8192

/-- Ageing time in units of 2^30 ns for key epoch `e` (R197). -/
def State.ageUnits (s : State) (e : Nat) : Nat := (s.regAt e (dkey 0x4100 1) * 1000000000 + 2 ^ 30 - 1) / 2 ^ 30

/-- Last-seen value of a key epoch (Table 8.3). -/
def seenUnits (e : Nat) : Nat := e / 2 ^ 25 % 2 ^ 32

/-- Whether an entry is expired for an input of key epoch `e`. -/
def State.fdbExpired (s : State) (e : Nat) (x : FdbEntry) : Bool :=
  !x.static_ && decide (s.ageUnits e ≠ 0) && decide (s.ageUnits e < (seenUnits e + 2 ^ 32 - x.seen) % 2 ^ 32)

/-- The entries present for key epoch `e`, by slot: neither expired nor deleted. -/
def State.fdbLive (s : State) (e : Nat) : List (Nat × FdbEntry) :=
  s.basin.fdb.filter (fun x => !s.fdbExpired e x.2 && !(match x.2.gone with | some g => decide (g ≤ e) | none => false))

/-- The entry of a MAC and VID. -/
def State.fdbFind (s : State) (e mac vid : Nat) : Option (Nat × FdbEntry) :=
  (s.fdbLive e).find? (fun x => decide (x.2.mac = mac) && decide (x.2.vid = vid))

/-- Lookup (R195): the destination from the visible-from epoch on, before it the previous one; a slot whose check fails
misses (R204). -/
def State.fdbLookup (s : State) (e mac vid : Nat) : Option Nat :=
  match s.fdbFind e mac vid with
  | none => none
  | some (slot, x) =>
    if (0x4101, slot) ∈ s.basin.badSlots then none
    else if x.visible ≤ e then some x.dest else x.prev

/-- The lowest free or expired slot of a bucket. -/
def State.fdbFree (s : State) (e b : Nat) : Option Nat :=
  firstBelow 8 (fun i => !(s.fdbLive e).any (fun x => decide (x.1 = b * 8 + i))) |>.map (fun i => b * 8 + i)

/-- Put an FDB entry. -/
def State.putFdb (s : State) (slot : Nat) (x : FdbEntry) : State :=
  { s with basin := { s.basin with fdb := kins s.basin.fdb slot x } }

/-- Rows of the FDB allocation (R186). -/
def State.fdbRows (s : State) : Nat := s.stat 0x4000 0x10

/-- A learning event (R196). -/
def State.learn (s : State) (e mac vid p : Nat) : State :=
  let d := 1 <<< p
  match s.fdbFind e mac vid with
  | none =>
    match s.fdbFree e (fdbBucket mac vid) with
    | none => s.count64 0x4100 3 1
    | some slot =>
      if s.fdbRows ≤ (s.fdbLive e).length then s.count64 0x4100 3 1
      else s.putFdb slot ⟨mac, vid, false, d, none, seenUnits e, e + 4, none⟩
  | some (slot, x) =>
    if x.static_ then (if x.dest = d then s else s.count64 0x4100 8 1)
    else if x.dest = d then s.putFdb slot { x with seen := seenUnits e }
    else if e < x.visible then s.count64 0x4100 3 1
    else (s.putFdb slot { x with prev := some x.dest, dest := d, visible := e + 4, seen := seenUnits e }).count64 0x4100 4 1

/-! ### Host operations on the FDB (R198) -/

/-- The learnt entry of a bucket whose last seen is oldest, the lowest slot on a tie. -/
def State.fdbOldest (s : State) (e b : Nat) : Option Nat :=
  let age := fun (x : Nat × FdbEntry) => (seenUnits e + 2 ^ 32 - x.2.seen) % 2 ^ 32
  (((s.fdbLive e).filter (fun x => decide (x.1 / 8 = b) && !x.2.static_)).foldl
    (fun (a : Option (Nat × FdbEntry)) x => match a with
      | none => some x
      | some y => if age y < age x then some x else some y) none).map Prod.fst

/-- Slot for a static entry: the entry's own, a free one while the allocation lasts, else that of the oldest learnt entry;
none when the table is full. -/
def State.fdbPlace (s : State) (e mac vid : Nat) : Option Nat :=
  match s.fdbFind e mac vid with
  | some (slot, _) => some slot
  | none =>
    let b := fdbBucket mac vid
    if (s.fdbLive e).length < s.fdbRows then
      match s.fdbFree e b with
      | some slot => some slot
      | none => s.fdbOldest e b
    else s.fdbOldest e b

/-- Create or replace a static entry, visible from epoch `v`. -/
def State.fdbSet (s : State) (e v slot mac vid dest : Nat) : State :=
  let prev := match kfind s.basin.fdb slot with
    | some x => if x.mac = mac ∧ x.vid = vid ∧ !s.fdbExpired e x then (if x.visible ≤ e then some x.dest else x.prev) else none
    | none => none
  s.putFdb slot ⟨mac, vid, true, dest, prev, seenUnits e, v, none⟩

/-! ### Destinations (R192) -/

/-- A frame's VID and destination mask; no mask when VLAN checks drop it. -/
structure Destined where
  vid   : Nat
  mask  : Nat
  drop  : Bool
  deriving DecidableEq, Repr

/-- Destinations of outcome 0 (R192). -/
def State.floodOrKnown (s : State) (e : Nat) (p : Parsed) (v : List Nat) (vid : Nat) : State × Nat :=
  let member := rowSub v 7
  let flood := member &&& rowSub v 9
  if p.broadcast then (s, flood)
  else match s.fdbLookup e p.da vid with
    | some m => (s, m &&& member)
    | none => (if p.group then s else s.count64 0x4100 5 1, flood)

/-- Send a learning event to the table engine (R192, R196). -/
def State.learnEvent (s : State) (key : OKey) (mac vid p : Nat) : State :=
  let x : InTransit := ⟨.fdb, ⟨key, s.time.raw, .learn mac vid p⟩⟩
  { s with ord := { s.ord with transit := s.ord.transit ++ [x] } }

/-- A group address: the lowest bit of its first byte is set. -/
def isGroup (mac : Nat) : Bool := bitOf (mac / 2 ^ 40) 0

/-- VID and destinations of a frame with a resolved action (R192). -/
def State.decideDest (s : State) (key : OKey) (port : Nat) (p : Parsed) (a : Nat) (bypass : Bool) : State × Destined :=
  let e := key.epoch
  let pv := s.regAt e (dkey 0x4100 (0x20 + port))
  let fromTag := p.tagged && decide (p.outerVid ≠ 0)
  let vid := if fromTag then p.outerVid else pv % 4096
  let row := s.vlan e vid
  let v := row.getD [vid, 0, 0, 0, 0]
  let accept := fieldOf pv 15 14
  let out := actOutcome a
  if !bypass && ((accept = 1 && !fromTag) || (accept = 2 && decide (p.outerVid ≠ 0))
      || (bitOf pv 13 && (row.isNone || !bitOf (rowSub v 7) port))) then
    (s.count64 0x4100 6 1, ⟨vid, 0, true⟩)
  else
    let s := if out = 0 ∧ bitOf pv 12 ∧ bitOf (rowSub v 0x0A) 1 ∧ ¬ isGroup p.sa then s.learnEvent key p.sa vid port else s
    let r : State × Nat :=
      if out = 0 then
        let x := s.floodOrKnown e p v vid
        (x.1, clearBitAt x.2 port)
      else if out = 1 then (s, 1 <<< actRedirect a)
      else if out = 3 then (s, 1 <<< 28)
      else if out = 5 then (s, 1 <<< 30)
      else (s, 1 <<< 29)
    let mask := if actHostCopy a then setBitAt r.2 28 else r.2
    if mask = 0 then (r.1.count64 0x4100 7 1, ⟨vid, 0, true⟩) else (r.1, ⟨vid, mask, false⟩)

end Sys2Proof.Machine
end

