-- ==== Sys2Proof/Machine/FramePath.lean ====
section
/-! DEFINITION. The frame path: reception, MACsec at the MAC, classification, the shared-state stages, streams, admission,
mirror, sample and ledger, and the end of a frame (R9 to R12, R109, R124, R127, R129, R131, R132, R199, R213 to R219). -/

namespace Sys2Proof.Machine

open Sys2Proof

/-! ### MACsec at reception (R131, R132) -/

/-- A receive association of a port. -/
def State.rxAssoc (s : State) (p sci an : Nat) : Option SecAssoc :=
  (s.port p).sas.find? (fun x => !x.tx && x.inUse && decide (x.sci = sci) && decide (x.an = an))

/-- Whether a PN is late under the replay window; `pn` of a receive association is one past the highest verified. -/
def State.secLate (s : State) (p : Nat) (x : SecAssoc) (pn : Nat) : Bool :=
  decide (s.reg (0x3100 + p) 4 = 1) && decide (pn + s.reg (0x3100 + p) 5 < x.pn)

/-- What MACsec does with a frame at its header: 0 none, 1 verifying, 2 failed but passed, or dropped; and the counter. -/
structure SecVerdict where
  sec   : Nat
  drop  : Bool
  count : Option Nat
  deriving DecidableEq, Repr

/-- A frame that fails verification: dropped in strict mode, passed in check and disabled mode. -/
def secFail (mode sub : Nat) : SecVerdict := ⟨2, decide (mode = 2), if mode = 0 then none else some sub⟩

/-- MACsec at the header window. -/
def State.secAtHeader (s : State) (p : Nat) (rx : FrameRx) : SecVerdict :=
  if ¬ s.secyOn p then ⟨0, false, none⟩
  else if uncontrolled rx.bytes then ⟨0, false, some 0x19⟩
  else
    let mode := s.reg (0x3100 + p) 3
    match rx.sec with
    | .none => ⟨0, decide (mode = 2), some 0x18⟩
    | .tag sci an pn => match s.rxAssoc p sci an with
      | none => secFail mode 0x17
      | some x => if s.secLate p x pn then secFail mode 0x16 else ⟨1, false, none⟩

/-- A verified frame advances its association's lowest acceptable PN. -/
def State.advancePn (s : State) (p : Nat) (rx : SecTag) : State :=
  match rx with
  | .none => s
  | .tag sci an pn =>
    let mine := fun (a : SecAssoc) => !a.tx && decide (a.sci = sci) && decide (a.an = an)
    let up := fun (a : SecAssoc) => { a with pn := max a.pn (pn + 1) }
    s.modPort p (fun (x : Port) => { x with sas := modWhere mine up x.sas })

/-! ### Back-pressure (R124, R127) -/

/-- Ingress buffer of a port in bytes (Table 5.1). -/
def State.bufferSize (_s : State) (p : Nat) : Nat := entryDefault (dkey (0x3000 + p) 0x0E)

/-- Whether port `p` generates PAUSE (bit 1 of `3000h+p.07`). -/
def State.genPause (s : State) (p : Nat) : Bool := isBP p && bitOf (s.reg (0x3000 + p) 7) 1

/-- Whether port `p` generates PFC. -/
def State.genPfc (s : State) (p : Nat) : Bool := isBP p && decide (s.reg (0x3000 + p) 9 ≠ 0)

/-- Queue a PAUSE or PFC frame with a time. -/
def State.sendPause (s : State) (p time : Nat) : State :=
  let f : MacFrame := if s.genPfc p then ⟨1, time, s.reg (0x3000 + p) 9⟩ else ⟨0, time, 0⟩
  s.modPort p (fun (x : Port) => { x with macOut := x.macOut ++ [f] })

/-- A pause quantum's duration for `n` quanta in ns: 512 bit times (R126). -/
def State.quantaNs (s : State) (p n : Nat) : Nat :=
  if s.portMbps p = 0 then 0 else n * 512 * 1000 / s.portMbps p

/-- Occupancy against XOFF and XON (R127). -/
def State.checkXoff (s : State) (p : Nat) : State :=
  if s.genPause p || s.genPfc p then
    let occ := s.ingressBytes p
    let time := s.reg (0x3000 + p) 0x0D
    if !(s.port p).xoff ∧ s.reg (0x3000 + p) 0x0B < occ then
      (s.sendPause p time).modPort p (fun (x : Port) => { x with
        xoff := true, resendAt := s.time.raw + s.quantaNs p time / 2 })
    else if (s.port p).xoff ∧ occ ≤ s.reg (0x3000 + p) 0x0C then
      (s.sendPause p 0).modPort p (fun (x : Port) => { x with xoff := false })
    else s
  else s

/-! ### Statistics -/

/-- Count a good received frame (Table 5.6). -/
def State.countReceived (s : State) (p : Nat) (bytes : Bytes) (len : Nat) : State :=
  let da := beAt bytes 0 6
  let kind := if da = 0xFFFFFFFFFFFF then 5 else if isGroup da then 4 else 3
  ((s.count64 (0x3080 + p) 1 1).count64 (0x3080 + p) 2 len).count64 (0x3080 + p) kind 1

/-! ### Mirror and sample (R213, R214) -/

/-- The mirror sessions that take a frame: named by its action, by a verdict, by ingress mask or by an admitted copy. -/
def State.mirrorsFor (s : State) (f : Frame) (named : List Nat) (admitted : Nat) : List Nat :=
  let e := f.key.epoch
  (List.range 16).filter (fun n =>
    decide (s.regAt e (dkey (0x4300 + n) 1) ≠ 0xFF) &&
      (decide (actMirror f.action = some n) || decide (n ∈ named) || bitOf (s.regAt e (dkey (0x4300 + n) 5)) f.port
        || decide (s.regAt e (dkey (0x4300 + n) 6) &&& admitted ≠ 0)))

/-- Make one mirror copy, or write a ledger record (R213). -/
def State.mirrorCopy (f : Frame) (verdict : Nat) (judged : Bool) (dest : Nat) (s : State) (n : Nat) : State :=
  let e := f.key.epoch
  let dst := s.regAt e (dkey (0x4300 + n) 1)
  if dst = 0x20 then (s.ledgerWrite (ledgerBytes f verdict judged false dest)).count64 (0x4300 + n) 7 1
  else
    let r := s.offerCopy f ⟨dst, s.regAt e (dkey (0x4300 + n) 2), .mirror n, s.regAt e (dkey (0x4300 + n) 3)⟩
    r.1.count64 (0x4300 + n) (if r.2 then 7 else 8) 1

/-- The sampler (R214). -/
def State.sampleCopy (s : State) (f : Frame) : State :=
  let e := f.key.epoch
  let n := s.regAt e (dkey 0x4310 1)
  if ¬ actSample f.action ∨ n = 0 then s
  else
    let c := kget (fun _ => 0) s.basin.samples f.port + 1
    let put := fun (v : Nat) (s : State) =>
      ({ s with basin := { s.basin with samples := kput (fun _ => 0) s.basin.samples f.port v } } : State)
    if c < n then put c s
    else
      let r := (put 0 s).offerCopy f ⟨if s.regAt e (dkey 0x4310 2) = 1 then 28 else 29, s.regAt e (dkey 0x4310 3), .sample, 2⟩
      r.1.count64 0x4310 (if r.2 then 4 else 5) 1

/-! ### The stages after classification (R12, R166, R199, R217 to R226) -/

/-- A destination port of a frame with its queue and colour. -/
structure Planned where
  port   : Nat
  queue  : Nat
  colour : Nat
  deriving DecidableEq, Repr

/-- Apply the meters of rate-limit verdicts, each once (R166, R223). -/
def State.verdictMeters (s : State) (f : Frame) (m col : Nat) (words : List Nat) : State × List (Nat × Nat × Bool) :=
  (distinct ((words.filter (fun w => decide (wordVerdict w = 3))).map (fun w => fieldOf w 30 16))).foldl
    (fun (acc : State × List (Nat × Nat × Bool)) n =>
      let r := acc.1.applyMeter f.key.epoch n m col f.port
      (if r.2.2 then r.1.count64 0x6400 4 1 else r.1, acc.2 ++ [(n, r.2.1, r.2.2)])) (s, [])

/-- The ports that a judged frame keeps, with their words: permitted ones in ascending order, and one CP copy for a
hand-to-cluster verdict (R162, R166). -/
def keptPorts (n : Narrowed) : List (Nat × Nat × Option Nat) :=
  let kept := (List.range 32).filterMap (fun p =>
    (n.groups.find? (fun g => bitOf g.1 p)).map (fun g => (p, g.2, none)))
  match n.cpQueue with
  | none => kept
  | some q => if kept.any (fun x => decide (x.1 = 29)) then kept else kept ++ [(29, 5, some q)]

/-- Drop a frame before Basin: it is forgotten, and its port's ledger record, if any, says so. -/
def State.dropFrame (s : State) (f : Frame) (n : Narrowed) : State :=
  let s := s.removeFrame f.id
  if !f.bypass && bitOf (s.regAt f.key.epoch (dkey 0x4400 0x0C)) f.port then
    s.ledgerWrite (ledgerBytes f n.verdict n.judged true 0)
  else s

/-- Offer the planned copies, then mirrors, the sample and the host copy, in that order (R199). -/
def State.makeCopies (s : State) (f : Frame) (plan : List Planned) (n : Narrowed) (named : List Nat) (hostExtra : Bool) :
    State :=
  let dest := maskOfPorts (plan.map Planned.port)
  let plain := plan.filter (fun x => !(hostExtra && decide (x.port = 28)))
  let offerOne := fun (acc : State × Nat) (x : Planned) (k : CopyKind) =>
    let r := acc.1.offerCopy f ⟨x.port, x.queue, k, x.colour⟩
    (r.1, if r.2 then setBitAt acc.2 x.port else acc.2)
  let r1 := plain.foldl (fun (acc : State × Nat) x => offerOne acc x .plain) (s, 0)
  let s2 := (r1.1.mirrorsFor f named r1.2).foldl (State.mirrorCopy f n.verdict n.judged dest) r1.1
  let s3 := s2.sampleCopy f
  let s4 := ((plan.filter (fun x => hostExtra && decide (x.port = 28))).foldl
    (fun (acc : State × Nat) x => offerOne acc x .host) (s3, 0)).1
  match s4.frame f.id with
  | none => s4
  | some g =>
    if g.copies = 0 then (s4.dropFrame f n).count64 0x4010 9 1
    else
      let s5 := s4.writeCells f.id (if f.complete then cellsOf f.length else 1)
      let s6 := if bitOf (s5.regAt f.key.epoch (dkey 0x4400 0x0C)) f.port && !f.bypass then
          s5.ledgerWrite (ledgerBytes f n.verdict n.judged false dest) else s5
      s6.checkXoff f.port

/-- Whether the actual length of a complete frame exceeds its filter's maximum SDU size (R219). -/
def State.sduLate (s : State) (f : Frame) : Bool :=
  match f.filter with
  | none => false
  | some n => match s.rowAt f.key.epoch 0x5900 n with
    | none => false
    | some v => f.complete && decide (subBytes (rowSub v 7) 4 2 ≠ 0) && decide (subBytes (rowSub v 7) 4 2 < f.length)

/-- Count a frame once as SDU failed. -/
def State.countSdu (s : State) (f : Frame) : State :=
  match f.filter with
  | none => s
  | some n => s.bumpFilter n 0x0B

/-- The FRER stage; a replayed record's decision stands (R306). -/
def State.frerDecide (s : State) (f : Frame) (rtag : Option Nat) : State × Frered :=
  let fr := s.frerStage f.key.epoch (if f.bypass then none else f.handle) f.port rtag
  match f.decided with
  | none => fr
  | some (drop, seq) => (fr.1, { fr.2 with pass := !drop, seq := if seq.isSome then seq else fr.2.seq })

/-- Stages 4 to 6 for the ports that Narrows leaves. -/
def State.streamStage (s : State) (f : Frame) (p : Parsed) (n : Narrowed) (shared : Bool) : State :=
  let e := f.key.epoch
  let kept := keptPorts n
  let hostExtra := actHostCopy f.action && decide (actOutcome f.action ≠ 3) && decide (f.dest ≠ 1 <<< 28)
  let onlyHost := fun (l : List Nat) => l.all (fun x => hostExtra && decide (x = 28))
  if onlyHost (kept.map Prod.fst) then s.dropFrame f n
  else
    let known := isInternal f.port || decide (f.length ≤ 64)
    let m := meterLength known f.length (s.regAt e (dkey (0x3000 + f.port) 3)) p
    let r := s.streamFilter e (if f.bypass then none else f.handle) f.cls m f.colour f.port
    let s := r.1
    if !r.2.pass then s.dropFrame f n
    else
      let f := { f with
        filter := r.2.filter, cls := r.2.ipv.getD f.cls, queue := r.2.ipv.getD f.queue, colour := r.2.colour }
      let vm := s.verdictMeters f m f.colour (if shared then kept.map (fun x => x.2.1) else [])
      let plan : List Planned := kept.filterMap (fun (x : Nat × Nat × Option Nat) =>
        let q := x.2.2.getD f.queue
        match (if wordVerdict x.2.1 = 3 then vm.2.find? (fun y => decide (y.1 = fieldOf x.2.1 30 16)) else none) with
        | some (_, col, drop) => if drop then none else some ⟨x.1, q, col⟩
        | none => some ⟨x.1, q, f.colour⟩)
      if onlyHost (plan.map Planned.port) then vm.1.dropFrame f n
      else
        let fr := vm.1.frerDecide f p.rtag
        let f := { f with seq := fr.2.seq, tagIn := fr.2.tagIn, tagOut := fr.2.tagOut, waiting := false }
        let s := (fr.1.modFrame f.id (fun _ => f)).journalFrer f.key (!fr.2.pass) fr.2.seq
        if !fr.2.pass ∨ f.failed then s.dropFrame f n
        else if s.sduLate f then (s.countSdu f).dropFrame f n
        else
          let named := ((kept.filter (fun x => decide (wordVerdict x.2.1 = 4))).map (fun x => fieldOf x.2.1 11 8))
          s.makeCopies f plan n named hostExtra

/-- Stages 3 to 6 (R11, R12): Narrows, streams, admission. -/
def State.stageFrame (s : State) (f : Frame) (shared : Bool) : State :=
  let p := s.parse f.key.epoch f.bytes f.length f.sec
  let r := if f.bypass then (s, ⟨[(f.dest, 0)], none, 0, false⟩)
    else s.narrowsStage f.key shared f.zone (actTrack f.action) p f.dest
  r.1.streamStage f p r.2 shared

/-- The first shared-state stage of a frame, if its action selects the shared-state path (R11, R149). -/
def State.sharedUnit (s : State) (f : Frame) : Option OrderUnit :=
  if f.bypass then none
  else if actTrack f.action then some .narrows
  else if actOutcome f.action = 5 then some .ford
  else if s.sharedMeter f.key.epoch f.cls f.handle then some .policers
  else none

/-! ### The header window (R9, R10, R11) -/

/-- Source number of a frame: its port, or for CP the cluster core that presents it (Table 2.2, R43). -/
def frameSource (p : Nat) (o : Option Origin) : Nat :=
  match o with
  | some x => if p = 29 then 0x0300 + x.core % 8 else p
  | none => p

/-- Classify a keyed frame of a port, work out its destinations and send it on the express or the shared-state path. `cport`
is the port whose record and key Watershed uses (R153). -/
def State.routeFrame (s : State) (f : Frame) (cport : Nat) : State :=
  let e := f.key.epoch
  let p := s.parse e f.bytes f.length f.sec
  let c := s.classify e cport p f.origin
  let s := s.countClass c
  if actOutcome c.action = 2 then s.removeFrame f.id
  else
    let d := s.decideDest f.key cport p c.action c.bypass
    if d.2.drop then d.1.removeFrame f.id
    else
      let f := { f with
        action := c.action, cls := c.cls, queue := c.queue, colour := c.colour, zone := c.zone, dest := d.2.mask,
        bypass := c.bypass, handle := c.handle, vid := d.2.vid, excCode := p.exc }
      let s := d.1.modFrame f.id (fun _ => f)
      match s.sharedUnit f with
      | none => s.stageFrame f false
      | some u =>
        let x : InTransit := ⟨u, ⟨f.key, s.time.raw, .frame f.id⟩⟩
        let s := s.modFrame f.id (fun _ => { f with waiting := true })
        { s with ord := { s.ord with transit := s.ord.transit ++ [x] } }

/-- A new frame record. -/
def newFrame (id : Nat) (key : OKey) (p : Nat) (rx : FrameRx) (stamp sec : Nat) (done : Bool) : Frame :=
  { id := id, key := key, stamp := stamp, port := p, bytes := rx.bytes, length := rx.length, complete := done,
    failed := false, reassembled := rx.frag, sec := sec, secTag := rx.sec, action := 0, cls := 0, queue := 0, colour := 0, zone := 0, dest := 0,
    bypass := false, handle := none, filter := none, vid := 0, excCode := 0, cells := [], need := 0, copies := 0,
    poison := false, corrupt := false, waiting := false, seq := none, tagIn := 0, tagOut := 0, origin := rx.origin,
    decided := none }

/-- Journal a keyed frame (R306): with its payload when the standby cannot have it. -/
def State.journalFrame (s : State) (f : Frame) : State :=
  let both := s.homeBoth f.port
  s.journalInput f.key (if f.port = 29 then 0x0B else 0x01) (match f.origin with | some o => o.core | none => 0)
    (if both then frameTag f.bytes else 0) false (if both ∧ f.port < 28 then none else some f.bytes)

/-- Relay a complete frame of a port homed here alone to the active member as class F cells (R310): port, stamp in this member's
working clock, bytes. -/
def State.relayFrame (s : State) (f : Frame) : State :=
  (s.sendMsg 3 1 0 (toBE 1 f.port ++ toBE 8 ((s.timeSet s.time.working).ns f.stamp) ++ f.bytes)).count64 0x9000 0x24 1

/-- A frame that a follower keyed waits for its record; one of a port homed here alone is retained and relayed (R309, R310). -/
def State.followFrame (s : State) (f : Frame) : State :=
  let s := s.modFrame f.id (fun x => { x with waiting := true })
  if s.homeBoth f.port then s.keepOwn f.key (frameTag f.bytes) (.frame f.id)
  else
    let s := { s with saddle := { s.saddle with retained := s.saddle.retained ++ [(f.key, f.id, s.time.raw)] } }
    if f.complete then s.relayFrame f else s

/-- Key a frame and put it on its path: `cport` as in `routeFrame`, `src` its source number. A follower withholds frames of its
cluster, control frames apart, and keeps the others for the journal (R47, R311). -/
def State.takeFrame (s : State) (p cport src : Nat) (rx : FrameRx) (stamp sec : Nat) (done : Bool) : State :=
  let control := uncontrolled rx.bytes
  if s.follows && decide (p = 29) && !control then s.withhold
  else
    let key := s.nextKey src
    let f := newFrame s.basin.nextId key p rx stamp sec done
    let s := s.issueKey src
    let s := { s with basin := { s.basin with frames := s.basin.frames ++ [f], nextId := s.basin.nextId + 1 } }
    let s := if done ∧ isInternal p then s.countReceived p rx.bytes rx.length else s
    if control then s.routeFrame f cport
    else if s.follows then s.followFrame f
    else (s.journalFrame f).routeFrame f cport

/-- The number of the frame received last, if it still exists. -/
def State.newest (s : State) : Option Nat :=
  let id := s.basin.nextId - 1
  (s.frame id).map Frame.id

/-- A frame with a SecTAG keeps it in mind until its end: the port notes what is being received. -/
def State.noteReceiving (s : State) (p : Nat) (frag : Bool) : State :=
  s.modPort p (fun (x : Port) => if frag then { x with assembling := s.newest } else { x with receiving := s.newest })

/-- A latency of an external PHY that the integrator enters, on BP ports only (R95). -/
def State.phyLatency (s : State) (p sub : Nat) : Int := if isBP p then sgnOf 32 (s.reg (0x2180 + p) sub) else 0

/-- The header window of a frame on port 0…27 (R9, R10, R124, R125, R131, R132). -/
def State.headerWindow (s : State) (p : Nat) (rx : FrameRx) : State :=
  let busy := if rx.frag then (s.port p).assembling.isSome else (s.port p).receiving.isSome
  if ¬ s.portUp p ∨ busy ∨ rx.length < 64 ∨ beAt rx.bytes 12 2 = 0x8808 then s
  else
    let v := s.secAtHeader p rx
    let s := match v.count with | some n => s.count64 (0x3100 + p) n 1 | none => s
    if v.drop then s.issueKey p
    else if s.bufferSize p < s.ingressBytes p + 64 then (s.count64 (0x3080 + p) 0x0A 1).issueKey p
    else
      let stamp := ((rx.sof : Int) - s.phyLatency p 6).toNat
      (s.takeFrame p p p rx stamp v.sec (decide (rx.length ≤ 64))).noteReceiving p rx.frag

/-- A frame presented at an internal port (R9, R13): whole, and keyed at once. -/
def State.presentFrame (s : State) (p : Nat) (rx : FrameRx) : State :=
  if ¬ s.portUp p then s else s.takeFrame p p (frameSource p rx.origin) rx s.time.raw 0 true

/-! ### The end of a frame (R109, R124, R129, R132, R199, R202, R219) -/

/-- Why a received frame is not good: the statistics counter, or none. -/
def State.badEnd (s : State) (p : Nat) (fin : FrameEnd) : Option Nat :=
  let n := fin.bytes.length + 4
  if n < 64 then some 8
  else if fin.rxError then some 7
  else if s.maxLen p < n then some 9
  else if !fin.fcsOk then some 6
  else none

/-- A frame fails at its end: its waiting copies are dropped, its begun ones stomped, and a frame that still waits for its
unit keeps the mark. -/
def State.failEnd (s : State) (id : Nat) : State :=
  let s := s.modFrame id (fun f => { f with complete := true, failed := true })
  s.failFrame id

/-- Charges of a frame's copies are cut to its actual cells, and store-and-forward copies wait 40 cycles more. -/
def State.settle (s : State) (id n : Nat) : State :=
  let cut := fun (c : Copy) => { c with
    cells := min c.cells n, ready := if c.cut then c.ready else max c.ready (s.time.raw + 40) }
  { s with basin := { s.basin with copies := modWhere (fun (c : Copy) => decide (c.frame = id)) cut s.basin.copies } }

/-- Drop the waiting copies that are too long for their queue now that the length is known (R241). -/
def State.dropTooLong (s : State) (f : Frame) : State :=
  (s.basin.copies.filter (fun c => decide (c.frame = f.id) && !s.begun c)).foldl (fun s c =>
    if s.tooLong c.port c.queue (s.sentLen f c.kind c.port f.length) then
      (s.dropCopy c).count32 (0x3400 + c.port) (c.queue * 16 + 0x0A)
    else s) s

/-- A good frame's end. -/
def State.goodEnd (s : State) (p : Nat) (f : Frame) (fin : FrameEnd) : State :=
  let n := fin.bytes.length + 4
  let s := s.modFrame f.id (fun (x : Frame) => { x with bytes := fin.bytes, length := n, complete := true })
  match s.frame f.id with
  | none => s
  | some f =>
    if f.waiting then
      (if s.follows && s.saddle.retained.any (fun x => decide (x.2.1 = f.id)) then s.relayFrame f else s)
    else
      let s := (s.settle f.id (cellsOf n)).writeCells f.id (cellsOf n - f.cells.length)
      if s.bufferSize p < s.ingressBytes p then ((s.count64 (0x3080 + p) 0x0A 1).failEnd f.id).checkXoff p
      else if s.sduLate f then (s.countSdu f).failEnd f.id
      else (s.dropTooLong f).checkXoff p

/-- The MACsec result at a frame's end (R132): good, and its counter. -/
def State.secAtEnd (s : State) (p : Nat) (f : Frame) (icvOk : Bool) : State × Bool :=
  if f.sec ≠ 1 then (s, true)
  else if icvOk then ((s.count64 (0x3100 + p) 0x13 1).advancePn p f.secTag, true)
  else
    let mode := s.reg (0x3100 + p) 3
    let s := s.modFrame f.id (fun (x : Frame) => { x with sec := 2 })
    if mode = 2 then (s.count64 (0x3100 + p) 0x15 1, false)
    else (if mode = 1 then s.count64 (0x3100 + p) 0x14 1 else s, true)

/-- Fail the frame being received, if there is one. -/
def State.failGiven (s : State) (cur : Option Nat) : State := match cur with
  | some id => s.failEnd id
  | none => s

/-- A whole frame ends: it is counted, judged by MACsec and carried on (R109, R132). -/
def State.wholeEnd (s : State) (p : Nat) (fin : FrameEnd) (cur : Option Nat) : State :=
  let mac := beAt fin.bytes 12 2 = 0x8808
  let s := s.countReceived p fin.bytes (fin.bytes.length + 4)
  let s := if mac ∧ beAt fin.bytes 14 2 ≠ 0x0001 ∧ beAt fin.bytes 14 2 ≠ 0x0101 then s.count64 (0x3080 + p) 0x0D 1 else s
  match cur.bind s.frame with
  | none => s
  | some f =>
    let r := s.secAtEnd p f fin.icvOk
    if r.2 then r.1.goodEnd p f fin else r.1.failEnd f.id

/-- The end of a frame whose fragments, if any, were joined: a bad one is counted and fails, a whole one goes on. -/
def State.joinedEnd (s : State) (p : Nat) (fin : FrameEnd) (cur : Option Nat) : State :=
  match s.badEnd p fin with
  | some n => (s.count64 (0x3080 + p) n 1).failGiven cur
  | none => s.wholeEnd p fin cur

/-- The end of the frame that a port was receiving, or of one that was dropped before (R109, R129). -/
def State.frameEnd (s : State) (p : Nat) (fin : FrameEnd) : State :=
  let frag := decide (fin.frags ≠ 0)
  let cur := if frag then (s.port p).assembling else (s.port p).receiving
  let s := s.modPort p (fun (x : Port) => if frag then { x with assembling := none } else { x with receiving := none })
  let s := if frag then s.count64 (0x3580 + p) 0x13 fin.frags else s
  if fin.merge = 1 then (s.count64 (0x3580 + p) 0x10 1).failGiven cur
  else if fin.merge ≥ 2 then (s.count64 (0x3580 + p) 0x11 1).failGiven cur
  else
    let s := if frag then s.count64 (0x3580 + p) 0x12 1 else s
    s.joinedEnd p fin cur

end Sys2Proof.Machine
end

