-- ==== Sys2Proof/Machine/Egress.lean ====
section
/-! DEFINITION. The egress scheduler, transmission, preemption, bank errors and retirement
(R128, R133, R202, R203, R207 to R212, R230, R237 to R241). -/

namespace Sys2Proof.Machine

open Sys2Proof

/-! ### Confirmed errors and retirement (R203, R206 to R209) -/

/-- Type of a bank by the partition (R185): 0 frame, 1 table, 2 ledger, 3 spare. -/
def State.bankType (s : State) (b : Nat) : Nat :=
  if b < s.frameBanks then 0
  else if b + 1 = s.frameBanks + s.tableBanks ∧ ¬ s.basin.spareUsed then 3
  else if b < s.frameBanks + s.tableBanks then 1 else 2

/-- Drop the frames still being received that hold a cell in a bank. -/
def State.dropReceiving (s : State) (b : Nat) : State :=
  (s.basin.frames.filter (fun f => !f.complete && f.cells.any (fun c => decide (c / 8192 = b)))).foldl
    (fun s f => (s.failEnd f.id)) s

/-- Lanes that lost their last frame bank (R207). -/
def State.checkLane (s : State) (b : Nat) : State :=
  if (s.laneBanks (b % 8)).isEmpty then
    ((s.orStat 0x4001 0x45 2).raiseEvent 0x0810 0x0602 (b % 8)).raiseFault 64 true
  else s

/-- A retired ledger bank takes its records with it (R209). -/
def State.loseRecords (s : State) (b : Nat) : State :=
  let i := ((List.range (b - s.frameBanks - s.tableBanks)).filter (fun j => s.bankServes (s.frameBanks + s.tableBanks + j))).length
  let cap := s.ledgerCapacity
  { s with basin := { s.basin with
      ledger := s.basin.ledger.filter (fun r => decide (cap = 0) || !decide (r.number % cap / 16384 = i)) } }

/-- Retire a bank (R206 to R209). -/
def State.retireBank (s : State) (b : Nat) : State :=
  if ¬ s.bankServes b then s
  else match s.bankType b with
    | 0 => (({ s with basin := { s.basin with retiring := s.basin.retiring ++ [b] } } : State).dropReceiving b).checkLane b
    | 2 =>
      let s := s.loseRecords b
      { s with basin := { s.basin with retired := s.basin.retired ++ [b] } }
    | 3 => { s with basin := { s.basin with retired := s.basin.retired ++ [b], spareUsed := true } }
    | _ =>
      if s.basin.rebuild = some b ∨ b ∈ s.basin.rebuildWait then s
      else if s.basin.rebuild.isSome then { s with basin := { s.basin with rebuildWait := s.basin.rebuildWait ++ [b] } }
      else if s.basin.spareUsed then s.orStat 0x4001 0x45 1
      else { s with basin := { s.basin with rebuild := some b } }

/-- A confirmed error of a bank (R203, R204, R206): counted, signalled, and retired at the threshold within a raw-counter
second. -/
def State.confirmError (s : State) (b : Nat) : State :=
  let sec := s.time.raw / 1000000000
  let old := kget (fun _ => 0) s.basin.second b
  let n := if old / 65536 = sec then min 255 (old % 65536 + 1) else 1
  let total := fieldOf (s.stat 0x4001 (1 + b)) 31 16
  let s := { s with basin := { s.basin with second := kput (fun _ => 0) s.basin.second b (sec * 65536 + n) } }
  let s := ((s.setStat 0x4001 (1 + b) (min 65535 (total + 1) * 65536)).count64 0x4001 0x43 1).raiseFault 63 false
  if s.reg 0x4000 5 ≤ n then s.retireBank b else s

/-- Status of a bank (`4001h.01`…`40`). -/
def State.bankStatus (s : State) (b : Nat) : Nat :=
  let st := if b ∈ s.basin.retired then 2 else if b ∈ s.basin.retiring then 1 else if s.basin.rebuild = some b then 3 else 0
  let old := kget (fun _ => 0) s.basin.second b
  let n := if old / 65536 = s.time.raw / 1000000000 then old % 65536 else 0
  s.bankType b + 4 * st + 256 * n + fieldOf (s.stat 0x4001 (1 + b)) 31 16 * 65536

/-- Banks that no frame references any longer become retired (R207). -/
def State.settleRetiring (s : State) : State :=
  let held := fun (b : Nat) => s.basin.frames.any (fun f => f.cells.any (fun c => decide (c / 8192 = b)))
  { s with basin := { s.basin with
      retiring := s.basin.retiring.filter held,
      retired := s.basin.retired ++ s.basin.retiring.filter (fun b => !held b) } }

/-! ### Heads (R99, R100, R203, R211, R212, R241) -/

/-- Whether a frame is complete and checked (R201): its end has been received and nothing failed. -/
def State.checked (s : State) (f : Frame) : Bool :=
  f.complete && !f.failed && decide ((s.port f.port).receiving ≠ some f.id) && decide ((s.port f.port).assembling ≠ some f.id)

/-- Whether a waiting copy has outstayed its queue's residence limit (R212). -/
def State.aged (s : State) (c : Copy) : Bool :=
  let lim := s.qparam c.port c.queue 0x0E
  decide (lim ≠ 0) && decide (lim * 1000 < s.time.raw - c.enq)

/-- Age a copy out. -/
def State.ageOut (s : State) (c : Copy) : State := (s.dropCopy c).count64 0x4020 6 1

/-- What removes a copy at the head of its queue: age, lateness, a poisoned or corrupt frame, or a list too short for it. -/
def State.headDrop (s : State) (c : Copy) : Option State :=
  match s.frame c.frame with
  | none => some (s.endCopy c)
  | some f =>
    let lim := s.qparam c.port c.queue 0x0C
    if s.aged c then some (s.ageOut c)
    else if c.launch ≠ 0 ∧ lim ≠ 0 ∧ c.launch + lim < s.workingNs then
      some (((s.endCopy c).count32 (0x3400 + c.port) (c.queue * 16 + 0x0D)).notSent c.port c.stamp)
    else if f.poison then some ((s.dropCopy c).count64 0x4001 0x44 1)
    else if f.corrupt then some ((s.dropCopy c).count64 0x4020 5 1)
    else if s.checked f ∧ s.tooLong c.port c.queue (s.sentLen f c.kind c.port f.length) then
      some ((s.dropCopy c).count32 (0x3400 + c.port) (c.queue * 16 + 0x0A))
    else none

/-- Drop heads until one stays. -/
def dropHeads : List Copy → State → State
  | [], s => s
  | c :: cs, s => match s.headDrop c with
    | some s' => dropHeads cs s'
    | none => s

/-- Clean the heads of a port's queues. -/
def State.cleanPort (s : State) (p : Nat) : State :=
  (List.range 8).foldl (fun s q => dropHeads (s.queueOf p q) s) s

/-! ### Eligibility (R239, R240) -/

/-- The least of two open times, none being unbounded. -/
def minTime (a b : Option Nat) : Option Nat :=
  match a, b with
  | some x, some y => some (min x y)
  | some x, none => some x
  | none, y => y

/-- Open time W of a queue now (R239): for a preemptable queue it also ends at the next hold request. -/
def State.openNow (s : State) (p q : Nat) : Option Nat :=
  let now := s.workingNs
  let w := (s.gate p).openTime q now
  if s.preemptable p q then
    minTime w (((s.gate p).untilHold now).map (fun d => d - s.reg (0x3500 + p) 0x16))
  else w

/-- Whether `need` ns lie beyond an open time. -/
def beyond (need : Nat) (w : Option Nat) : Bool := match w with | some x => decide (x < need) | none => false

/-- What the scheduler finds at a head: not eligible, held by the guard band, or eligible. -/
inductive HeadState
  | no | guard | yes
  deriving DecidableEq, Repr

/-- The head's conditions of R240 but for the busy MAC. -/
def State.headState (s : State) (p q : Nat) (c : Copy) (f : Frame) : HeadState :=
  let now := s.workingNs
  let len := s.sentLen f c.kind p (s.guardLen f)
  if (¬ c.cut ∧ ¬ s.checked f) ∨ s.time.raw < c.ready ∨ (c.launch ≠ 0 ∧ now < c.launch) ∨ s.paused p q
      ∨ ¬ bitOf ((s.gate p).states now) q then .no
  else if (match s.credit p q with | some x => decide (x.value < 0) | none => false) then .no
  else
    let need := s.txTime p q len + s.margin p
    let w := s.openNow p q
    if s.preemptable p q then
      if s.portHold p then .no
      else if beyond need w && (decide (len < 2 * s.fmin p) || beyond (s.txTime p q (s.fmin p) + s.margin p) w) then .guard
      else .yes
    else if beyond need w then .guard else .yes

/-- Whether queue `q` may take the MAC now: idle, or an express queue while a preemptable frame is in transmission; a
preempted frame keeps other preemptable frames waiting. -/
def State.macFree (s : State) (p q : Nat) : Bool :=
  let x := s.ptx p
  match x.cur with
  | none => x.held.isNone || !s.preemptable p q
  | some t => t.preempt && !s.preemptable p q && x.held.isNone

/-- The copy that wins, from queue 7 downward; guard-band deferrals are counted (R240). -/
def State.winner (p : Nat) : List Nat → State → State × Option Copy
  | [], s => (s, none)
  | q :: qs, s => match s.queueOf p q with
    | [] => State.winner p qs s
    | c :: _ => match s.frame c.frame with
      | none => State.winner p qs s
      | some f => match s.headState p q c f with
        | .no => State.winner p qs s
        | .guard => State.winner p qs (s.count64 (0x3540 + p) 0x0E 1)
        | .yes => if s.macFree p q then (s, some c) else State.winner p qs s

/-! ### Preemption (R128, R237, R240) -/

/-- Bytes of the present transmission that the line has carried by now, without preamble. -/
def State.sentBytes (s : State) (p : Nat) (t : TxFrame) : Nat :=
  t.sent + ((s.time.raw - t.since) * s.portMbps p / 8000 - 8)

/-- Preempt the frame in transmission if both parts meet the least fragment size. -/
def State.preemptNow (s : State) (p : Nat) : State × Bool :=
  match (s.ptx p).cur with
  | none => (s, false)
  | some t => match s.frame t.copy.frame with
    | none => (s, false)
    | some f =>
      let total := s.sentLen f t.copy.kind p (s.guardLen f)
      let n := s.sentBytes p t
      if t.preempt ∧ (s.ptx p).held.isNone ∧ s.fmin p ≤ n ∧ n + s.fmin p ≤ total then
        (s.modTx p (fun x => { x with cur := none, held := some { t with sent := n, frags := t.frags + 1 } }), true)
      else (s, false)

/-- A preemptable frame gives way when its gate has closed or hold calls for it (R237, R240). -/
def State.yieldTx (s : State) (p : Nat) : State :=
  match (s.ptx p).cur with
  | none => s
  | some t =>
    if t.preempt ∧ (s.portHold p ∨ ¬ bitOf ((s.gate p).states s.workingNs) t.copy.queue) then (s.preemptNow p).1 else s

/-- Resume a preempted frame: its further fragment is debited with 4 bytes and the overhead (R230). -/
def State.resumeTx (s : State) (p : Nat) : State :=
  match (s.ptx p).cur, (s.ptx p).held with
  | none, some t =>
    if s.portHold p ∨ ¬ bitOf ((s.gate p).states s.workingNs) t.copy.queue then s
    else (s.modTx p (fun x => { x with cur := some { t with since := s.time.raw }, held := none })).debit p t.copy.queue 4
  | _, _ => s

/-! ### The start of a transmission (R98, R131, R133, R203, R240) -/

/-- Largest PN of a cipher suite (R133). -/
def pnLimit (suite : Nat) : Nat := if suite = 2 then 2 ^ 64 - 1 else 2 ^ 32 - 1

/-- MACsec at the start: an uncontrolled frame is counted; a controlled one takes the next PN, or is dropped when none is
left or no transmit association is in use. The answer tells whether the frame goes. -/
def State.protect (s : State) (p : Nat) (f : Frame) : State × Bool :=
  if ¬ s.secyOn p then (s, true)
  else if uncontrolled f.bytes then (s.count64 (0x3100 + p) 0x11 1, true)
  else
    let pn := s.stat (0x3100 + p) 0x0C
    if pnLimit (s.reg (0x3100 + p) 2) < pn ∨ !(s.port p).sas.any (fun a => a.tx && a.inUse) then
      (s.count64 (0x3100 + p) 0x12 1, false)
    else
      let s := (s.setStat (0x3100 + p) 0x0C (pn + 1)).count64 (0x3100 + p) 0x10 1
      (if pn + 1 = s.reg (0x3100 + p) 9 then s.orStat (0x3040 + p) 0x0B 16 else s, true)

/-- A read of a cell that fails (R203, R207): the cell's place in the chain and whether the re-read passes. A cell of a
retiring bank never reads well. -/
def State.readFault (s : State) (f : Frame) (read : Option (Nat × Bool)) : Option (Nat × Bool) :=
  match f.cells.find? (fun c => !s.bankServes (c / 8192)) with
  | some c => some (c, false)
  | none => read.map (fun x => (nth f.cells x.1 0, x.2))

/-- The stamp of a copy that starts now (R97, R98). -/
def State.stampStart (s : State) (c : Copy) : State :=
  match c.stamp with
  | none => s
  | some (tag, dom) =>
    let t := s.stampTime dom ((s.time.raw : Int) + s.phyLatency c.port 7).toNat
    s.pushStamp c.port ⟨tag, t.1, dom, t.2⟩

/-- Put a copy on the line. -/
def State.beginTx (s : State) (p : Nat) (c : Copy) (f : Frame) : State :=
  let pre := s.preemptable p c.queue
  let len := s.sentLen f c.kind p (s.guardLen f)
  let s := ((s.stampStart c).refreshCredit p c.queue).debit p c.queue len
  s.modTx p (fun x => { x with cur := some ⟨c, 0, s.time.raw, pre, 0, false⟩ })

/-- Protect a copy's frame where MACsec calls for it, and put it on the line, or drop it (R131, R133). -/
def State.protectStart (s : State) (p : Nat) (c : Copy) (f : Frame) : State :=
  let x := s.protect p f
  if x.2 then x.1.beginTx p c f else x.1.dropCopy c

/-- Start the winning copy: preempt what is on the line, read its cells, protect it. -/
def State.startCopy (s : State) (p : Nat) (c : Copy) (read : Option (Nat × Bool)) : State :=
  match s.frame c.frame with
  | none => s
  | some f =>
    let r : State × Bool := if (s.ptx p).cur.isSome then s.preemptNow p else (s, true)
    if !r.2 then r.1
    else
      let s := r.1
      match s.readFault f read with
      | some (cell, false) =>
        let s := (s.modFrame f.id (fun (x : Frame) => { x with poison := true })).confirmError (cell / 8192)
        let s := if (s.frame f.id).isSome then (s.dropCopy c).count64 0x4001 0x44 1 else s
        (s.basin.copies.filter (fun x => decide (x.frame = f.id) && s.begun x)).foldl State.failCopy s
      | some (_, true) => (s.count64 0x4001 0x42 1).protectStart p c f
      | none => s.protectStart p c f

/-- Send a frame of the MAC's own, ahead of the queues at a frame boundary (R127, R128). -/
def State.sendMac (s : State) (p : Nat) : Option State :=
  match (s.port p).macOut with
  | [] => none
  | m :: ms =>
    if (s.ptx p).cur.isSome then none
    else
      let s := s.modPort p (fun (x : Port) => { x with macOut := ms })
      some (if m.kind = 0 then s.count64 (0x3080 + p) 0x15 1 else if m.kind = 1 then s.count64 (0x3080 + p) 0x16 1 else s)

/-- Whether the MAC can start a frame: the port is UP, an SP node has a transmit opportunity (R121), and an internal port's
far side accepts (R13). No port starts a frame after a fatal reaction (Table 14.3); the host interface takes the copies of HP by
itself (R429). -/
def State.canStart (s : State) (p : Nat) (accepts : Bool) : Bool :=
  s.safety.fatalRaw.isNone && decide (p ≠ 28) && !decide (s.saddle.role = .syncing) && s.portUp p && (!isInternal p || accepts) && (!isSP p || decide ((s.port p).burst ≠ 0))

/-- A frame of an SP node uses up part of its opportunity (R121). -/
def State.useBurst (s : State) (p : Nat) : State :=
  if isSP p then s.modPort p (fun (x : Port) => { x with burst := x.burst - 1 }) else s

/-- EGRESS_SCHEDULE: the queues of a port are evaluated (R240). -/
def egressSchedule (p : Nat) (accepts : Bool) (read : Option (Nat × Bool)) (s : State) : State :=
  let s := (s.cleanPort p).yieldTx p
  if ¬ s.canStart p accepts then s.refreshCredits p
  else match s.sendMac p with
    | some s' => s'.refreshCredits p
    | none =>
      let r := State.winner p [7, 6, 5, 4, 3, 2, 1, 0] s
      let s := match r.2 with
        | some c => (r.1.startCopy p c read).useBurst p
        | none => r.1.resumeTx p
      (s.settleRetiring).refreshCredits p

/-- EGRESS_SCHEDULE (R240). `accepts` tells whether an internal port's far side accepts the frame; `read` is a cell of the
winner's chain whose read fails, with whether its re-read passes. -/
def execEgressSchedule (t port : Nat) (accepts : Bool) (read : Option (Nat × Bool)) (s : State) : Out :=
  happen t (decide (port < 32)) s (egressSchedule port accepts read)

/-! ### The end of a transmission (R190, R202) -/

/-- The frame check sequence of bytes, right or stomped: the one's complement (R109). -/
def fcsBytes (b : Bytes) (stomp : Bool) : Bytes := toLE 4 (if stomp then crc32 b ^^^ 0xFFFFFFFF else crc32 b)

/-- The metadata of a frame (Table 8.2). -/
def metaBytes (f : Frame) : Bytes :=
  toLE 12 (okeyNat f.key) ++ toLE 8 f.stamp ++ toLE 2 f.length ++ toLE 1 f.port
    ++ toLE 1 (natOfBool f.complete + 2 * natOfBool f.failed + 4 * natOfBool f.reassembled) ++ toLE 8 f.action

/-- The bytes of a copy without FCS: edited, truncated, or a sample with its metadata (R194, R213, R214, R226). -/
def State.copyBytes (s : State) (f : Frame) (c : Copy) : Bytes :=
  match c.kind with
  | .sample => metaBytes f ++ f.bytes.take 128
  | .mirror n =>
    let t := s.regAt f.key.epoch (dkey (0x4300 + n) 4)
    if t = 0 then f.bytes else f.bytes.take (t - 4)
  | _ => if f.edited c.kind c.port then s.editFor f c.port f.bytes else f.bytes

/-- Count a transmitted frame (Table 5.6). -/
def State.countSent (s : State) (p : Nat) (bytes : Bytes) (len : Nat) : State :=
  let da := beAt bytes 0 6
  let kind := if da = 0xFFFFFFFFFFFF then 0x14 else if isGroup da then 0x13 else 0x12
  ((s.count64 (0x3080 + p) 0x10 1).count64 (0x3080 + p) 0x11 len).count64 (0x3080 + p) kind 1

/-- Counters of a copy that ends stomped (R202, R203). -/
def State.countStomp (s : State) (p : Nat) (c : Copy) (f : Frame) : State :=
  let s := s.count64 (0x3080 + p) 0x18 1
  if f.poison then (s.count64 0x4001 0x44 1).queueDrop p c.queue
  else if f.corrupt then s.count64 0x4020 5 1
  else if f.cells.any (fun x => !s.bankServes (x / 8192)) then (s.count64 0x4010 0x10 1).queueDrop p c.queue
  else s

/-- The copy on the line ends: what was sent, and whether it went well. -/
def State.finishTx (s : State) (p : Nat) : State × Option (Copy × Frame × Bytes) :=
  match (s.ptx p).cur with
  | none => (s, none)
  | some t => match s.frame t.copy.frame with
    | none => (s.modTx p (fun x => { x with cur := none }), none)
    | some f =>
      let underrun := t.copy.cut && !f.failed && !s.checked f
      let stomp := t.stomp || underrun
      let s := if underrun then s.count64 0x4010 7 1 else s
      let b := s.copyBytes f t.copy
      let n := s.sentLen f t.copy.kind p f.length
      let s := if stomp then s.countStomp p t.copy f else s.countSent p b n
      let s := if t.frags ≠ 0 then s.count64 (0x3580 + p) 0x14 (t.frags + 1) else s
      let s := s.modTx p (fun x => { x with cur := none, last := some (b ++ fcsBytes b stomp, stomp) })
      let s := s.modPort p (fun (x : Port) => { x with attempts := 0 })
      let s := ((s.endCopy t.copy).settleRetiring).refreshCredits p
      (s.checkXoff f.port, if stomp then none else some (t.copy, f, b))

/-! ### Sweeps -/

/-- RESIDENCE_SWEEP: copies past their limit leave the heads of all queues (R212). -/
def ageHeads : List Copy → State → State
  | [], s => s
  | c :: cs, s => if s.aged c then ageHeads cs (s.ageOut c) else s

/-- RESIDENCE_SWEEP (R212). -/
def residenceSweep (s : State) : State :=
  let keys := distinct (s.basin.copies.map (fun c => c.port * 8 + c.queue))
  (keys.foldl (fun s k => (ageHeads (s.queueOf (k / 8) (k % 8)) s).refreshCredit (k / 8) (k % 8)) s).settleRetiring

/-- RESIDENCE_SWEEP (R212). -/
def execResidenceSweep (t : Nat) (s : State) : Out := happen t true s residenceSweep

/-! ### Gate events (R233 to R238) -/

/-- GATE_ENTRY_CHANGE: the states follow the phase; a hold that is no longer called for ends, and a preemptable frame
whose gate has closed gives way. -/
def gateEntryChange (p : Nat) (s : State) : State :=
  let s := if (s.gate p).holdIn s.workingNs then s else s.modTx p (fun x => { x with hold := false })
  (s.yieldTx p).refreshCredits p

/-- GATE_ENTRY_CHANGE (R233). -/
def execGateEntryChange (t port : Nat) (s : State) : Out := happen t (decide (port < 32)) s (gateEntryChange port)

/-- GATE_LIST_SWITCH: at X the pending list becomes oper, on a port or, with `stream`, on a stream gate (R220, R234). -/
def gateListSwitch (stream : Bool) (n : Nat) (s : State) : State :=
  if stream then
    match kfind s.basin.streamGates n with
    | none => s
    | some x => s.setStreamGate n { x with engine := x.engine.switch s.workingNs }
  else (s.modGate n (fun g => g.switch s.workingNs)).refreshCredits n

/-- GATE_LIST_SWITCH (R234). -/
def execGateListSwitch (t : Nat) (stream : Bool) (n : Nat) (s : State) : Out :=
  happen t (decide (n < (if stream then 256 else 32))) s (gateListSwitch stream n)

/-- HOLD_REQUEST: the hold advance before a held stretch is reached while preemption is active (R237). -/
def holdRequest (p : Nat) (s : State) : State :=
  match (s.gate p).untilHold s.workingNs with
  | some d =>
    if s.stat (0x3580 + p) 7 = 1 ∧ d ≤ s.reg (0x3500 + p) 0x16 then
      (s.modTx p (fun x => { x with hold := true })).yieldTx p
    else s
  | none => s

/-- HOLD_REQUEST (R237). -/
def execHoldRequest (t port : Nat) (s : State) : Out := happen t (decide (port < 32)) s (holdRequest port)

/-- GATE_MEMORY_REWRITE: an oper entry fails parity and is counted and signalled, and with `done` it is rewritten from its
copy (R238). -/
def gateMemoryRewrite (p entry : Nat) (done : Bool) (s : State) : State :=
  if done then (s.modGate p (fun g => { g with bad := none })).refreshCredits p
  else
    let s := s.modGate p (fun g => { g with bad := some entry })
    ((s.count32 (0x3540 + p) 0x0F).raiseFault 61 false).refreshCredits p

/-- GATE_MEMORY_REWRITE (R238). -/
def execGateMemoryRewrite (t port entry : Nat) (done : Bool) (s : State) : Out :=
  happen t (decide (port < 32)) s (gateMemoryRewrite port entry done)

end Sys2Proof.Machine
end

