-- ==== Sys2Proof/Machine/PortFamily.lean ====
section
/-! DEFINITION. Ethernet ports: link states, link-down, polling, PHY control, PLCA, PAUSE and PFC, verify (R108 to R128). -/

namespace Sys2Proof.Machine

open Sys2Proof

/-! ### Link states (R110, R122, R123, Table 5.2) -/

/-- Set the link state of a port. -/
def State.setLink (s : State) (p v : Nat) : State := s.setStat (0x3040 + p) 1 v

/-- Flush every waiting copy of a port (R110, R123). -/
def State.flushPort (s : State) (p : Nat) : State :=
  ((s.basin.copies.filter (fun c => decide (c.port = p) && !s.begun c)).foldl State.flushCopy s).refreshCredits p

/-- Abort a frame in transmission, or preempted, with a stomped FCS (R122). -/
def State.abortTx (s : State) (p : Nat) (t : Option TxFrame) : State :=
  match t with
  | none => s
  | some t => ((s.endCopy t.copy).count64 (0x3080 + p) 0x17 1).notSent p t.copy.stamp

/-- Drop a frame in reception (R122). -/
def State.abortRx (s : State) (p : Nat) (id : Option Nat) : State :=
  match id with
  | none => s
  | some i => (s.failEnd i).count64 (0x3080 + p) 7 1

/-- A link-down: the five actions of R122; `forced` flushes whatever the policy says (R110, R433). -/
def State.linkDown (s : State) (p : Nat) (forced : Bool) : State :=
  let x := s.ptx p
  let s := s.modTx p (fun x => { x with cur := none, held := none, hold := false })
  let s := (s.abortTx p x.cur).abortTx p x.held
  let r := s.port p
  let s := s.modPort p (fun (x : Port) => { x with receiving := none, assembling := none })
  let s := (s.abortRx p r.receiving).abortRx p r.assembling
  let s := if p < 28 then s.setStat (0x2180 + p) 0x0A 0 else s
  let s := { s with time := { s.time with followUps := s.time.followUps.filter (fun f => decide (f.port ≠ p)) } }
  let s := ((s.countSeq (0x3040 + p) 0x0A 32).orStat (0x3040 + p) 0x0B 1).count64 (0x3080 + p) 0x20 1
  if forced ∨ s.reg (0x3000 + p) 4 = 0 then (s.modPort p (fun (x : Port) => { x with holdEnd := none })).flushPort p
  else
    (s.modPort p (fun (x : Port) => { x with
      holdEnd := some (s.time.raw + s.reg (0x3000 + p) 5 * 1000000), flushing := false })).refreshCredits p

/-- Leave UP for another state. -/
def State.leaveUp (s : State) (p next : Nat) (forced : Bool) : State :=
  if s.portUp p then (s.setLink p next).linkDown p forced else s

/-- The verify state and preemption activity that the configuration calls for (R128). -/
def State.refreshMerge (s : State) (p : Nat) : State :=
  if p < 20 then
    if s.reg (0x3580 + p) 1 = 0 then (s.setStat (0x3580 + p) 6 0).setStat (0x3580 + p) 7 0
    else if s.reg (0x3580 + p) 2 = 1 then (s.setStat (0x3580 + p) 6 5).setStat (0x3580 + p) 7 1
    else if s.stat (0x3580 + p) 6 = 5 ∨ s.stat (0x3580 + p) 6 = 0 then
      ((s.setStat (0x3580 + p) 6 1).setStat (0x3580 + p) 7 0).modPort p (fun (x : Port) => { x with verifyTries := 0 })
    else s
  else s

/-- Whether polling on a BP port leaves the link condition unmet (R112, R113). -/
def State.pollUnmet (s : State) (p : Nat) : Bool :=
  isBP p && decide (s.reg (0x30C0 + p) 3 ≠ 0) && !(s.port p).pollMet

/-- LINK_UP: the conditions have held for the debounce time (R112, R116, R120). -/
def linkUp (p : Nat) (s : State) : State :=
  if s.linkState p = 2 ∧ ¬ s.pollUnmet p then
    let s := (s.setLink p 3).count64 (0x3080 + p) 0x21 1
    let s := if isBP p then s.setStat (0x3040 + p) 4 1
      else if isEP p then s.setStat (0x30C0 + p) 0x1A 0 else s.setStat (0x7080 + p - 20) 6 1
    ((s.modPort p (fun (x : Port) => { x with holdEnd := none, flushing := false })).refreshMerge p).refreshCredits p
  else s

/-- LINK_UP (R112). -/
def execLinkUp (t port : Nat) (s : State) : Out := happen t (decide (port < 28)) s (linkUp port)

/-- PCS_LOCK_LOST: PCS lock, PHY link or PLCA beacons are lost (R112, R122). -/
def pcsLockLost (p : Nat) (s : State) : State :=
  let s := s.leaveUp p 1 false
  if isBP p then s.setStat (0x3040 + p) 4 0 else if isSP p then s.setStat (0x7080 + p - 20) 6 0 else s

/-- PCS_LOCK_LOST (R112). -/
def execPcsLockLost (t port : Nat) (s : State) : Out := happen t (decide (port < 28)) s (pcsLockLost port)

/-- SIGNAL_DETECTED: DOWN to TRAINING (Table 5.2). -/
def execSignalDetected (t port : Nat) (s : State) : Out :=
  happen t (decide (port < 28)) s (fun s => if s.linkState port = 1 then s.setLink port 2 else s)

/-- SIGNAL_LOST: TRAINING to DOWN (Table 5.2). -/
def execSignalLost (t port : Nat) (s : State) : Out :=
  happen t (decide (port < 28)) s (fun s => if s.linkState port = 2 then s.setLink port 1 else s)

/-- HOLD_TIMER_EXPIRED: the queues are flushed, and later copies on enqueue, until the port is UP (R123). -/
def holdTimerExpired (p : Nat) (s : State) : State :=
  match (s.port p).holdEnd with
  | none => s
  | some d =>
    if d ≤ s.time.raw then
      (s.modPort p (fun (x : Port) => { x with holdEnd := none, flushing := true })).flushPort p
    else s

/-- HOLD_TIMER_EXPIRED (R123). -/
def execHoldTimerExpired (t port : Nat) (s : State) : Out := happen t (decide (port < 32)) s (holdTimerExpired port)

/-! ### External PHYs (R113 to R115) -/

/-- The interval since the last poll, against the configured one (R114). -/
def State.notePoll (s : State) (p : Nat) : State :=
  let x := s.port p
  let d := s.time.raw - x.lastPoll
  let s := s.modPort p (fun (x : Port) => { x with polled := true, lastPoll := s.time.raw })
  if x.polled then
    let s := s.setStat (0x3040 + p) 7 (max d (s.stat (0x3040 + p) 7))
    if s.reg (0x30C0 + p) 8 < d then s.orStat (0x3040 + p) 0x0B 2 else s
  else s

/-- Event bits seen are kept, and an event is raised for them (R113). -/
def State.pollEvents (s : State) (p v : Nat) : State :=
  let ev := v &&& s.reg (0x30C0 + p) 7
  if ev ≠ 0 then (s.orStat (0x3040 + p) 6 ev).raiseEvent p 0x0301 v else s

/-- MDIO_POLL: the value read, or none when no PHY answers (R113). -/
def mdioPoll (p : Nat) (value : Option Nat) (s : State) : State :=
  if ¬ isBP p ∨ s.reg (0x30C0 + p) 3 = 0 then s
  else
    let s := s.notePoll p
    match value with
    | none => ((s.orStat (0x3040 + p) 0x0B 2).modPort p (fun (x : Port) => { x with pollMet := false })).leaveUp p 1 false
    | some v =>
      let met := decide (v &&& s.reg (0x30C0 + p) 5 = s.reg (0x30C0 + p) 6)
      let s := (s.setStat (0x3040 + p) 5 v).modPort p (fun (x : Port) => { x with pollMet := met })
      let s := s.pollEvents p v
      if met then s else s.leaveUp p 1 false

/-- MDIO_POLL (R113). -/
def execMdioPoll (t port : Nat) (value : Option Nat) (s : State) : Out :=
  happen t (decide (port < 8)) s (mdioPoll port (value.map (fun v => v % 65536)))

/-- A command of `30C0h+p.0B`, refused with 0x0009 while the previous access is pending (R115). -/
def State.indirect (s : State) (c : Caller) (p code : Nat) : State :=
  s.dictWrite c (0x30C0 + p) 0x0B [BitVec.ofNat 8 code] (fun s _ => if (s.port p).indirect.isSome then 9 else 0)
    (fun _ s => (s.modPort p (fun (x : Port) => { x with
      indirect := some (decide (code = 1), s.reg (0x30C0 + p) 9, s.reg (0x30C0 + p) 0x0A) })).setStat (0x30C0 + p) 0x0C 9)

/-- INDIRECT_READ (R115). -/
def execIndirectRead (t : Nat) (c : Caller) (port : Nat) (s : State) : Out :=
  happenBy c t (decide (port < 20)) s (fun s => s.indirect c port 1)

/-- INDIRECT_WRITE (R115). -/
def execIndirectWrite (t : Nat) (c : Caller) (port : Nat) (s : State) : Out :=
  happenBy c t (decide (port < 20)) s (fun s => s.indirect c port 2)

/-- Whether an indirect address is that of the polled register. -/
def State.isPolled (s : State) (p addr : Nat) : Bool :=
  let r := s.reg (0x30C0 + p) 4
  if bitOf addr 31 then decide (s.reg (0x30C0 + p) 3 = 2) && decide (addr % 2 ^ 21 = r % 2 ^ 21)
  else decide (s.reg (0x30C0 + p) 3 = 1) && decide (addr % 32 = r % 32)

/-- INDIRECT_ACCESS_DONE: status 0, and a read's value, merged into the polled events where it is the polled register. -/
def indirectAccessDone (p value : Nat) (s : State) : State :=
  match (s.port p).indirect with
  | none => s
  | some (rd, addr, _) =>
    let s := (s.modPort p (fun (x : Port) => { x with indirect := none })).setStat (0x30C0 + p) 0x0C 0
    if rd then
      let s := s.addSetting s.keyEpoch s.keyEpoch p (dkey (0x30C0 + p) 0x0A) value
      if s.isPolled p addr then s.orStat (0x3040 + p) 6 (value &&& s.reg (0x30C0 + p) 7) else s
    else s

/-- INDIRECT_ACCESS_DONE (R115). -/
def execIndirectAccessDone (t port value : Nat) (s : State) : Out :=
  happen t (decide (port < 8)) s (indirectAccessDone port (value % 65536))

/-! ### Integrated PHYs (R117 to R119) -/

/-- A low SQI sets the sticky bit and raises one event until it has been well for 100 ms (R117). -/
def State.noteSqi (s : State) (p sqi : Nat) : State :=
  let x := s.port p
  if sqi < s.reg (0x30C0 + p) 0x13 then
    let s := (s.orStat (0x3040 + p) 0x0B 8).modPort p (fun (x : Port) => { x with sqiLow := true, sqiOkSince := none })
    if x.sqiLow then s else s.raiseEvent p 0x0302 sqi
  else if x.sqiLow then
    match x.sqiOkSince with
    | none => s.modPort p (fun (x : Port) => { x with sqiOkSince := some s.time.raw })
    | some d => if d + 100000000 ≤ s.time.raw then s.modPort p (fun (x : Port) => { x with sqiLow := false, sqiOkSince := none })
      else s
  else s

/-- SQI_UPDATE: on an EP port that is UP (R117). -/
def sqiUpdate (p sqi : Nat) (s : State) : State :=
  if isEP p ∧ s.portUp p then
    let low := if (s.port p).sqiSeen then min sqi (s.stat (0x30C0 + p) 0x12) else sqi
    let s := ((s.setStat (0x30C0 + p) 0x11 sqi).setStat (0x30C0 + p) 0x12 low).modPort p
      (fun (x : Port) => { x with sqiSeen := true })
    s.noteSqi p sqi
  else s

/-- SQI_UPDATE (R117). -/
def execSqiUpdate (t port sqi : Nat) (s : State) : Out :=
  happen t (decide (port < 20)) s (sqiUpdate port (min sqi 7))

/-- The request of execTdrStart. -/
def State.reqTdrStart (s : State) (c : Caller) (port : Nat) : State :=
  s.dictWrite c (0x30C0 + port) 0x14 [0x01]
    (fun s _ => if s.linkState port ≤ 1 then 0 else 0x0B)
    (fun _ s => ((s.modPort port (fun (x : Port) => { x with prior := s.stat (0x3040 + port) 1 })).setLink port 5).setStat
      (0x30C0 + port) 0x15 1)

/-- TDR_START: only while DOWN or DISABLED (R118). -/
def execTdrStart (t : Nat) (c : Caller) (port : Nat) (s : State) : Out :=
  happenBy c t (decide (port < 20)) s (fun s => s.reqTdrStart c port)

/-- TDR_DONE: the result and distance are stored, and the port returns to its state (R118). -/
def tdrDone (p result distance : Nat) (s : State) : State :=
  if s.linkState p = 5 then
    ((s.setLink p (s.port p).prior).setStat (0x30C0 + p) 0x15 result).setStat (0x30C0 + p) 0x16
      (if result = 2 then 0 else distance % 65536)
  else s

/-- TDR_DONE (R118). -/
def execTdrDone (t port result distance : Nat) (s : State) : Out :=
  happen t (decide (port < 20)) s (tdrDone port result distance)

/-- The request of execTc10Sleep. -/
def State.reqTc10Sleep (s : State) (c : Caller) (port : Nat) : State :=
  s.dictWrite c (0x30C0 + port) 0x18 [0x01] noExtra
    (fun _ s => if s.portUp port then s.setStat (0x30C0 + port) 0x1A 1 else s)

/-- TC10_SLEEP: a sleep request goes out on a port that is UP (R119). -/
def execTc10Sleep (t : Nat) (c : Caller) (port : Nat) (s : State) : Out :=
  happenBy c t (decide (port < 20)) s (fun s => s.reqTc10Sleep c port)

/-- A sleeping port sends or receives a wake-up pulse and trains. -/
def State.wakePort (s : State) (p : Nat) : State :=
  if s.linkState p = 4 then (s.setLink p 2).setStat (0x30C0 + p) 0x1A 3 else s

/-- The request of execTc10Wake. -/
def State.reqTc10Wake (s : State) (c : Caller) (port : Nat) : State :=
  s.dictWrite c (0x30C0 + port) 0x18 [0x02] noExtra
    (fun _ s => s.wakePort port)

/-- TC10_WAKE (R119). -/
def execTc10Wake (t : Nat) (c : Caller) (port : Nat) (s : State) : Out :=
  happenBy c t (decide (port < 20)) s (fun s => s.reqTc10Wake c port)

/-- Enter SLEEP from UP: a link-down under the policy, with bit 5 (R119). -/
def State.enterPortSleep (s : State) (p : Nat) : State :=
  if isEP p ∧ s.portUp p then ((s.leaveUp p 4 false).orStat (0x3040 + p) 0x0B 32).setStat (0x30C0 + p) 0x1A 2 else s

/-- TC10_SLEEP_ACK: the partner acknowledges, or the sleep timeout passes (R119). -/
def execTc10SleepAck (t port : Nat) (s : State) : Out :=
  happen t (decide (port < 20)) s (fun s => if s.stat (0x30C0 + port) 0x1A = 1 then s.enterPortSleep port else s)

/-- PARTNER_SLEEP_REQUEST: accepted when `30C0h+p.17` is true (R119). -/
def execPartnerSleepRequest (t port : Nat) (s : State) : Out :=
  happen t (decide (port < 20)) s (fun s => if s.reg (0x30C0 + port) 0x17 = 1 then s.enterPortSleep port else s)

/-- WAKE_PULSE_RECEIVED: the port trains, and the pulse goes on to the sleeping ports of its forward mask (R119). -/
def wakePulse (p : Nat) (s : State) : State :=
  if isEP p ∧ s.linkState p = 4 then
    let s := (s.wakePort p).orStat (0x3040 + p) 0x0B 64
    (bitsSet (s.reg (0x30C0 + p) 0x19) 12).foldl (fun s n => s.wakePort (8 + n)) s
  else s

/-- WAKE_PULSE_RECEIVED (R119). -/
def execWakePulseReceived (t port : Nat) (s : State) : Out := happen t (decide (port < 20)) s (wakePulse port)

/-! ### PLCA (R120, R121) -/

/-- BEACON_TIMEOUT: a follower leaves UP (R120). -/
def beaconTimeout (p : Nat) (s : State) : State :=
  if isSP p ∧ s.portUp p ∧ s.reg (0x7080 + p - 20) 1 ≠ 0 then
    (((s.leaveUp p 1 false).count32 (0x7080 + p - 20) 7).orStat (0x3040 + p) 0x0B 4).setStat (0x7080 + p - 20) 6 0
  else s

/-- BEACON_TIMEOUT (R120). -/
def execBeaconTimeout (t port : Nat) (s : State) : Out := happen t (decide (port < 28)) s (beaconTimeout port)

/-- FOREIGN_BEACON: a coordinator counts it, raises an event and stays coordinator (R120). -/
def foreignBeacon (p : Nat) (s : State) : State :=
  if isSP p ∧ s.reg (0x7080 + p - 20) 1 = 0 then (s.count32 (0x7080 + p - 20) 7).raiseEvent p 0x0303 0 else s

/-- FOREIGN_BEACON (R120). -/
def execForeignBeacon (t port : Nat) (s : State) : Out := happen t (decide (port < 28)) s (foreignBeacon port)

/-- A collision: the frame goes back to wait, and after 16 attempts it is dropped (R121). -/
def State.collide (s : State) (p : Nat) : State :=
  let s := s.cleanPort p
  let c := match (s.ptx p).cur with
    | some t => some t.copy
    | none => (State.winner p [7, 6, 5, 4, 3, 2, 1, 0] s).2
  match c with
  | none => s
  | some c =>
    let n := (s.port p).attempts + 1
    let s := (s.modTx p (fun x => { x with cur := none })).count64 (0x3080 + p) 0x1A 1
    if 16 ≤ n then
      ((s.dropCopy c).count64 (0x3080 + p) 0x1B 1).modPort p (fun (x : Port) => { x with attempts := 0 })
    else s.modPort p (fun (x : Port) => { x with attempts := n })

/-- TRANSMIT_OPPORTUNITY: the node may send one frame and its burst, or its frame collides (R121). -/
def transmitOpportunity (p : Nat) (collision : Bool) (s : State) : State :=
  if isSP p ∧ s.portUp p then
    if collision then (s.collide p).refreshCredits p
    else egressSchedule p true none
      (s.modPort p (fun (x : Port) => { x with burst := 1 + s.reg (0x7080 + p - 20) 4 }))
  else s

/-- TRANSMIT_OPPORTUNITY (R121). -/
def execTransmitOpportunity (t port : Nat) (collision : Bool) (s : State) : Out :=
  happen t (decide (port < 28)) s (transmitOpportunity port collision)

/-! ### PAUSE and PFC (R125 to R127) -/

/-- PAUSE_RECEIVED: a timer for the whole port, or the end of one (R126). -/
def pauseReceived (p quanta : Nat) (s : State) : State :=
  let s := s.count64 (0x3080 + p) 0x0B 1
  if isBP p ∧ bitOf (s.reg (0x3000 + p) 7) 0 then
    let d := if quanta = 0 then none else some (s.time.raw + s.quantaNs p quanta)
    (s.modPort p (fun (x : Port) => { x with
      pauseUntil := List.replicate 8 d })).refreshCredits p
  else s.count64 (0x3080 + p) 0x0D 1

/-- PAUSE_RECEIVED (R126). -/
def execPauseReceived (t port quanta : Nat) (s : State) : Out :=
  happen t (decide (port < 28)) s (pauseReceived port (quanta % 65536))

/-- The pause deadline that a PFC frame gives one priority. -/
def State.pfcDeadline (s : State) (p enables : Nat) (quanta : List Nat) (q : Nat) : Option Nat :=
  let old := nth (s.port p).pauseUntil q none
  if bitOf enables q ∧ bitOf (s.reg (0x3000 + p) 8) q ∧ ¬ bitOf (s.reg (0x3000 + p) 0x0A) q then
    let n := nth quanta q 0 % 65536
    if n = 0 then none else some (s.time.raw + s.quantaNs p n)
  else old

/-- PFC_RECEIVED: timers for the enabled priorities that the port honours and does not ignore (R126). -/
def pfcReceived (p enables : Nat) (quanta : List Nat) (s : State) : State :=
  let s := s.count64 (0x3080 + p) 0x0C 1
  if isBP p ∧ s.reg (0x3000 + p) 8 ≠ 0 then
    (s.modPort p (fun (x : Port) => { x with
      pauseUntil := (List.range 8).map (s.pfcDeadline p enables quanta) })).refreshCredits p
  else s.count64 (0x3080 + p) 0x0D 1

/-- PFC_RECEIVED (R126). -/
def execPfcReceived (t port enables : Nat) (quanta : List Nat) (s : State) : Out :=
  happen t (decide (port < 28)) s (pfcReceived port enables quanta)

/-- PAUSE_TIMER_EXPIRED: the queue is eligible again (R126). -/
def pauseTimerExpired (p q : Nat) (s : State) : State :=
  match nth (s.port p).pauseUntil q none with
  | none => s
  | some d =>
    if d ≤ s.time.raw then
      (s.modPort p (fun (x : Port) => { x with
        pauseUntil := modNth x.pauseUntil q (fun _ => none) })).refreshCredits p
    else s

/-- PAUSE_TIMER_EXPIRED (R126). -/
def execPauseTimerExpired (t port prio : Nat) (s : State) : Out :=
  happen t (decide (port < 28) && decide (prio < 8)) s (pauseTimerExpired port prio)

/-- PAUSE_RESEND: the frame is sent again while the occupancy stays above XON (R127). -/
def pauseResend (p : Nat) (s : State) : State :=
  if (s.port p).xoff ∧ (s.port p).resendAt ≤ s.time.raw ∧ s.reg (0x3000 + p) 0x0C < s.ingressBytes p then
    let time := s.reg (0x3000 + p) 0x0D
    (s.sendPause p time).modPort p (fun (x : Port) => { x with resendAt := s.time.raw + s.quantaNs p time / 2 })
  else s

/-- PAUSE_RESEND (R127). -/
def execPauseResend (t port : Nat) (s : State) : Out := happen t (decide (port < 8)) s (pauseResend port)

/-! ### MAC merge (R128) -/

/-- VERIFY_ATTEMPT: a verify frame, up to three, then failure (R128). -/
def verifyAttempt (p : Nat) (s : State) : State :=
  if s.reg (0x3580 + p) 1 = 1 ∧ s.reg (0x3580 + p) 2 = 0 ∧ s.portUp p ∧ s.stat (0x3580 + p) 6 ≤ 2 then
    if (s.port p).verifyTries < 3 then
      (s.setStat (0x3580 + p) 6 2).modPort p (fun (x : Port) => { x with
        verifyTries := x.verifyTries + 1, macOut := x.macOut ++ [⟨2, 0, 0⟩] })
    else s.setStat (0x3580 + p) 6 4
  else s

/-- VERIFY_ATTEMPT (R128). -/
def execVerifyAttempt (t port : Nat) (s : State) : Out := happen t (decide (port < 20)) s (verifyAttempt port)

/-- VERIFY_RESPONSE: the exchange has succeeded, and preemption is active (R128). -/
def verifyResponse (p : Nat) (s : State) : State :=
  if s.reg (0x3580 + p) 1 = 1 ∧ s.stat (0x3580 + p) 6 = 2 then (s.setStat (0x3580 + p) 6 3).setStat (0x3580 + p) 7 1 else s

/-- VERIFY_RESPONSE (R128). -/
def execVerifyResponse (t port : Nat) (s : State) : Out := happen t (decide (port < 20)) s (verifyResponse port)

end Sys2Proof.Machine
end

