-- ==== Sys2Proof/Machine/SafetyFamily.lean ====
section
/-! DEFINITION. Safety cluster, fault collection, watchdogs, monitors, safe-state outputs and the safety SPI (R355 to R374). -/

namespace Sys2Proof.Machine

open Sys2Proof

/-! ### Lockstep pairs -/

/-- Lockstep pair `p`. -/
def State.pair (s : State) (p : Nat) : LockPair := nth s.safety.pairs p LockPair.reset

/-- Change lockstep pair `p`. -/
def State.modPair (s : State) (p : Nat) (f : LockPair → LockPair) : State :=
  { s with safety := { s.safety with pairs := modNth s.safety.pairs p f } }

/-- Set the mode of pair `p` (`A010h+p.01`) and bring the safety state up to date. -/
def State.setPairMode (s : State) (p m : Nat) : State := (s.setStat (0xA010 + p) 1 m).refreshSafety

/-- Watchdog of the second core of LP2 or LP3 (R371). -/
def secondWatchdog (p : Nat) : Nat := 2 * p - 1

/-- Start or stop the watchdog of a second core with its split (R362, R371). -/
def State.runSecondWatchdog (s : State) (p : Nat) (on : Bool) : State :=
  let w := secondWatchdog p
  { s with safety := { s.safety with
    watchdogs := modNth s.safety.watchdogs w (fun _ =>
      ⟨on && decide (s.reg 0xA300 (0x10 + 8 * w) = 1), s.time.raw, false⟩) } }

/-- Pair `p` fails: its input is set and its cores are held in reset (R360). -/
def State.failPair (s : State) (p : Nat) : State :=
  ((s.modPair p (fun u => { u with reexec := false, splitReq := false, rejoinReq := false })).setStat (0xA010 + p) 1 6).raiseFault
    (4 + p) true

/-- Store the last mismatch: order key of the occurrence, main-core pc, kind (`A010h+p.07`). -/
def State.storeMismatch (s : State) (p pc kind : Nat) : State :=
  s.setStat (0xA010 + p) 7 (okeyNat (s.lastKey 0x0800) + (pc % 2 ^ 32) * 2 ^ 96 + (kind % 256) * 2 ^ 128)

/-- A mismatch of pair `p` (R358, R360): a rollback, or failure when one is already being recovered from, a re-executed
store differs, or the second's rollbacks exceed the limit. -/
def lockstepMismatch (p pc kind : Nat) (s : State) : State :=
  let x := s.pair p
  let mode := s.pairMode p
  if mode = 1 ∨ mode = 2 ∨ mode = 5 then
    let second := s.time.raw / 1000000000
    let n := if x.second = second then x.rollbacks + 1 else 1
    if x.reexec ∨ kind = 2 ∨ kind = 3 ∨ s.reg (0xA010 + p) 3 < n then (s.failPair p).storeMismatch p pc kind
    else
      let s := s.modPair p (fun u => { u with second := second, rollbacks := n, reexec := true, reexecRaw := s.time.raw })
      ((((s.setStat (0xA010 + p) 1 2).countSeq (0xA010 + p) 6 32).raiseFault p false).storeMismatch p pc kind)
  else s

/-- A checkpoint with equal signatures: the state is shadowed, the logs restart empty, and what waited for it happens
(R356, R362, R363, R365). -/
def State.passCheckpoint (s : State) (p : Nat) (laneOk : Bool) : State :=
  let x := s.pair p
  let s := (s.modPair p (fun u => { u with
    instrs := 0, undo := 0, io := 0, checkRaw := s.time.raw, reexec := false, debug := false,
    group := (u.group + 1) % 128 })).count64 (0xA010 + p) 0x0A 1
  let s := if laneOk then s.countSeq (0xA010 + p) 9 32 else s.raiseFault (8 + p) true
  let s := s.setPairMode p 1
  if x.splitReq then
    ((s.modPair p (fun u => { u with splitReq := false })).runSecondWatchdog p true).setPairMode p 3
  else s

/-- LOCKSTEP_CHECKPOINT: the instruction interval or 5 µs has passed and the signatures are compared; a split pair's main
core rejoins at it when asked (R356, R363). -/
def lockstepCheckpoint (p instrs : Nat) (equal laneOk : Bool) (s : State) : State :=
  let x := s.pair p
  let mode := s.pairMode p
  if s.reg (0xA010 + p) 2 ≤ instrs ∨ x.checkRaw + 5000 ≤ s.time.raw then
    if mode = 1 ∨ mode = 2 ∨ mode = 5 then
      if equal then s.passCheckpoint p laneOk else lockstepMismatch p 0 1 s
    else if mode = 3 ∧ x.rejoinReq then
      ((s.modPair p (fun u => { u with rejoinReq := false, checkRaw := s.time.raw })).runSecondWatchdog p false).setPairMode p 5
    else s
  else s

/-- LOCKSTEP_CHECKPOINT (R356). -/
def execLockstepCheckpoint (t p instrs : Nat) (equal laneOk : Bool) (s : State) : Out :=
  happen t (decide (p < 4)) s (lockstepCheckpoint p instrs equal laneOk)

/-- LOCKSTEP_MISMATCH (R358). -/
def execLockstepMismatch (t p pc kind : Nat) (s : State) : Out :=
  happen t (decide (p < 4)) s (lockstepMismatch p pc kind)

/-- ROLLBACK_COMPLETE: shadow registers and undo log are restored, and re-execution starts (R358). -/
def rollbackComplete (p : Nat) (s : State) : State :=
  if s.pairMode p = 2 then s.modPair p (fun u => { u with undo := 0, reexec := true, reexecRaw := s.time.raw }) else s

/-- ROLLBACK_COMPLETE (R358). -/
def execRollbackComplete (t p : Nat) (s : State) : Out := happen t (decide (p < 4)) s (rollbackComplete p)

/-- REEXECUTION_TIMEOUT: re-execution has not reached the next checkpoint within 5 µs (R360). -/
def reexecutionTimeout (p : Nat) (s : State) : State :=
  if s.pairMode p = 2 ∧ (s.pair p).reexecRaw + 5000 ≤ s.time.raw then (s.failPair p).storeMismatch p 0 3 else s

/-- REEXECUTION_TIMEOUT (R360). -/
def execReexecutionTimeout (t p : Nat) (s : State) : Out := happen t (decide (p < 4)) s (reexecutionTimeout p)

/-- COMPARATOR_FAULT: the two comparators do not report complementary values (R365). -/
def execComparatorFault (t p : Nat) (s : State) : Out :=
  happen t (decide (p < 4)) s (fun s => s.raiseFault (8 + p) true)

/-- The request of execSplit. -/
def State.reqSplit (s : State) (c : Caller) (p : Nat) : State :=
  s.dictWrite c (0xA010 + p) 4 [1]
    (fun s _ => if s.pairMode p = 1 ∨ s.pairMode p = 2 then 0 else 0x0B)
    (fun _ s => (s.modPair p (fun u => { u with splitReq := true })).setStat (0xA010 + p) 0x0B 0)

/-- SPLIT: command 0x01 to `A010h+p.04`, done at the next equal checkpoint (R362). -/
def execSplit (t : Nat) (c : Caller) (p : Nat) (s : State) : Out :=
  happenBy c t (decide (p < 4)) s (fun s => s.reqSplit c p)

/-- The request of execRejoin. -/
def State.reqRejoin (s : State) (c : Caller) (p : Nat) : State :=
  s.dictWrite c (0xA010 + p) 4 [2]
    (fun s _ => if s.pairMode p = 3 then 0 else 0x0B)
    (fun _ s => (s.modPair p (fun u => { u with rejoinReq := true })).setStat (0xA010 + p) 0x0B 0)

/-- REJOIN: command 0x02, done at the main core's next checkpoint (R363). -/
def execRejoin (t : Nat) (c : Caller) (p : Nat) (s : State) : Out :=
  happenBy c t (decide (p < 4)) s (fun s => s.reqRejoin c p)

/-- The restart of a failed pair: its tests, and its boot in lockstep; a failed test leaves it failed (R361). -/
def State.restartPair (s : State) (p : Nat) (passed : Bool) : State :=
  if passed then
    (((s.modPair p (fun u => { u with instrs := 0, undo := 0, io := 0, checkRaw := s.time.raw, reexec := false })).clearCause
      (4 + p)).setStat (0xA010 + p) 0x0B 0).setPairMode p 1
  else s.setStat (0xA010 + p) 0x0B 0x0B

/-- The request of execRestart. -/
def State.reqRestart (s : State) (c : Caller) (p : Nat) (passed : Bool) : State :=
  s.dictWrite c (0xA010 + p) 4 [3]
    (fun s _ => if s.pairMode p = 6 then 0 else 0x0B) (fun _ s => s.restartPair p passed)

/-- RESTART: command 0x03 on a failed LP2 or LP3 (R361). -/
def execRestart (t : Nat) (c : Caller) (p : Nat) (passed : Bool) (s : State) : Out :=
  happenBy c t (decide (p < 4)) s (fun s => s.reqRestart c p passed)

/-- DEBUG_HALT: an authorised halt breaks lockstep (R364). -/
def debugHalt (p : Nat) (authorised : Bool) (s : State) : State :=
  if authorised ∧ s.pairMode p ≠ 6 then
    (((s.modPair p (fun u => { u with debug := true, reexec := false })).setPairMode p 4).raiseFault (20 + p) true).noteDeterminism 1
  else s

/-- DEBUG_HALT (R364). -/
def execDebugHalt (t p : Nat) (authenticated : Bool) (s : State) : Out :=
  happen t (decide (p < 4)) s (debugHalt p authenticated)

/-- DEBUG_RESUME: resuming rejoins the pair (R364). -/
def debugResume (p : Nat) (s : State) : State :=
  if s.pairMode p = 4 then
    ((s.modPair p (fun u => { u with checkRaw := s.time.raw })).clearCause (20 + p)).setPairMode p 5
  else s

/-- DEBUG_RESUME (R364). -/
def execDebugResume (t p : Nat) (s : State) : Out := happen t (decide (p < 4)) s (debugResume p)

/-! ### Fault collection unit -/

/-- FAULT_INPUT_RAISED: an input of Table 14.2 occurs; inputs 103 to 255 are never raised (R366, R367). -/
def execFaultInputRaised (t i : Nat) (stays : Bool) (s : State) : Out :=
  happen t (decide (i < 256)) s (fun s => if i < 103 then s.raiseFault i stays else s)

/-- The latch and the first key of an input are cleared; the safe state may end (R369). -/
def State.acknowledge (s : State) (i : Nat) : State :=
  let r := s.faultRec i
  let f := s.safety
  ({ s with safety := { f with
    latched := clearBitAt f.latched i,
    recs := kput (fun _ => ⟨0, OKey.zero, OKey.zero⟩) f.recs i { r with first := OKey.zero },
    reactions := kdel f.reactions i } } : State).refreshSafety

/-- The request of execAcknowledgeFault. -/
def State.reqAcknowledgeFault (s : State) (c : Caller) (i : Nat) : State :=
  s.dictWrite c 0xA100 3 (toLE 1 i)
    (fun s v => if bitOf s.safety.active v then 0x0B else 0) (fun v s => s.acknowledge v)

/-- ACKNOWLEDGE_FAULT: a write to `A100h.03`; an active input is refused (R369). -/
def execAcknowledgeFault (t : Nat) (c : Caller) (i : Nat) (s : State) : Out :=
  happenBy c t (decide (i < 256)) s (fun s => s.reqAcknowledgeFault c i)

/-- The 28 bytes of an input record (`A100h.21`). -/
def faultRecNat (r : FaultRec) : Nat := r.count + okeyNat r.first * 2 ^ 32 + okeyNat r.latest * 2 ^ 128

/-- The request of execInputRecordRead. -/
def State.reqInputRecordRead (s : State) (c : Caller) : State :=
  s.dictRead c 0xA100 0x21 noReadExtra
    (fun s => faultRecNat (s.faultRec (s.ownVal c 0xA100 0x20))) 28
    (fun s => { s with safety := { s.safety with
      recs := kput (fun _ => ⟨0, OKey.zero, OKey.zero⟩) s.safety.recs (s.ownVal c 0xA100 0x20)
        { s.faultRec (s.ownVal c 0xA100 0x20) with count := 0 } } })

/-- INPUT_RECORD_READ: the record selected in `A100h.20` is returned and its count cleared (R369). -/
def execInputRecordRead (t : Nat) (c : Caller) (s : State) : Out :=
  happenBy c t true s (fun s => s.reqInputRecordRead c)

/-! ### Watchdogs -/

/-- Watchdog `w`. -/
def State.watchdog (s : State) (w : Nat) : Watchdog := nth s.safety.watchdogs w ⟨false, 0, false⟩

/-- Change watchdog `w`. -/
def State.modWatchdog (s : State) (w : Nat) (f : Watchdog → Watchdog) : State :=
  { s with safety := { s.safety with watchdogs := modNth s.safety.watchdogs w f } }

/-- A violation: counted, its input raised, and the watchdog restarts expecting 0x55AA (R371). -/
def State.violateWatchdog (s : State) (w : Nat) : State :=
  ((s.modWatchdog w (fun u => { u with lastRaw := s.time.raw, nextAA := false })).count32 0xA300 (0x15 + 8 * w)).raiseFault
    (24 + w) false

/-- A service with its key right or wrong: too early or wrong is a violation (R371). -/
def State.serviceWatchdog (s : State) (w : Nat) (right : Bool) : State :=
  let x := s.watchdog w
  if !x.running then s
  else if right ∧ x.lastRaw + s.reg 0xA300 (0x11 + 8 * w) * 1000 ≤ s.time.raw then
    s.modWatchdog w (fun u => { u with lastRaw := s.time.raw, nextAA := !u.nextAA })
  else s.violateWatchdog w

/-- The key a watchdog expects: 0x55AA first, then alternately 0xAA55 and 0x55AA (R371). -/
def expectedKey (x : Watchdog) : Nat := if x.nextAA then 0xAA55 else 0x55AA

/-- The request of execWatchdogService. -/
def State.reqWatchdogService (s : State) (c : Caller) (w key : Nat) : State :=
  s.dictWrite c 0xA300 (0x13 + 8 * w) (toLE 2 key) noExtra
    (fun v s => s.serviceWatchdog w (decide (v = expectedKey (s.watchdog w))))

/-- WATCHDOG_SERVICE: a write of a key to `A300h` (R371). -/
def execWatchdogService (t : Nat) (c : Caller) (w key : Nat) (s : State) : Out :=
  happenBy c t (decide (w < 8)) s (fun s => s.reqWatchdogService c w key)

/-- WATCHDOG_TIMEOUT: no valid service within the timeout (R371). -/
def watchdogTimeout (w : Nat) (s : State) : State :=
  let x := s.watchdog w
  if x.running ∧ x.lastRaw + s.reg 0xA300 (0x12 + 8 * w) * 1000 ≤ s.time.raw then s.violateWatchdog w else s

/-- WATCHDOG_TIMEOUT (R371). -/
def execWatchdogTimeout (t w : Nat) (s : State) : Out := happen t (decide (w < 8)) s (watchdogTimeout w)

/-! ### Monitors (R372) -/

/-- Whether a supply voltage lies in its window. -/
def State.inWindow (s : State) (n mv : Nat) : Bool :=
  let w := s.reg 0xA200 (1 + n)
  decide (w % 65536 ≤ mv) && decide (mv ≤ w / 65536)

/-- SUPPLY_OUT_OF_WINDOW: a supply has stayed outside its window for the filter time (R372). -/
def execSupplyOutOfWindow (t n mv : Nat) (s : State) : Out :=
  happen t (decide (n < 10)) s (fun s => if s.inWindow n mv then s else s.raiseFault (32 + n) true)

/-- SUPPLY_IN_WINDOW: the supply has been back inside for 10 µs (R372). -/
def execSupplyInWindow (t n mv : Nat) (s : State) : Out :=
  happen t (decide (n < 10)) s (fun s => if s.inWindow n mv then s.clearCause (32 + n) else s)

/-- TEMPERATURE_LIMIT: a sensor above its limit raises its input, and 2 °C below it the input becomes inactive (R372). -/
def temperatureLimit (n : Nat) (temp : Int) (s : State) : State :=
  let limit := sgnOf 16 (s.reg 0xA200 (0x10 + n))
  if limit < temp ∧ ¬ bitOf s.safety.active (42 + n) then s.raiseFault (42 + n) true
  else if temp ≤ limit - 2 then s.clearCause (42 + n) else s

/-- TEMPERATURE_LIMIT (R372). -/
def execTemperatureLimit (t n : Nat) (temp : Int) (s : State) : Out :=
  happen t (decide (n < 8)) s (temperatureLimit n temp)

/-- The PLL lock bit of clock monitor `n`, for the PLLs among inputs 54…57 (Tables 14.2, 20.3). -/
def State.setPll (s : State) (n : Nat) (locked : Bool) : State :=
  if 4 ≤ n ∧ n < 8 then s.setStat 0xC200 1 (putBitAt (s.stat 0xC200 1) (n - 4) locked) else s

/-- CLOCK_MONITOR_FAULT: a clock is absent, off by more than 5 %, or a PLL loses lock (R372). -/
def execClockMonitorFault (t n : Nat) (s : State) : Out :=
  happen t (decide (n < 8)) s (fun s => ((s.setPll n false).orStat 0xC200 3 (1 <<< n)).raiseFault (50 + n) true)

/-- CLOCK_MONITOR_CLEARED: the clock is within tolerance again, or the PLL regains lock (R372). -/
def execClockMonitorCleared (t n : Nat) (s : State) : Out :=
  happen t (decide (n < 8)) s (fun s => (s.setPll n true).clearCause (50 + n))

/-! ### Safe-state outputs (R373) -/

/-- SAFE_TOGGLE: at a 500 µs boundary the outputs take opposite levels while the state is 1 or 2 and the safety manager has
refreshed, and are low otherwise. -/
def safeToggle (refreshed : Bool) (s : State) : State :=
  let st := s.stat 0xA000 1
  let on := (decide (st = 1) || decide (st = 2)) && refreshed && !decide (s.pairMode 0 = 4)
  let high := decide (s.time.raw / 500000 % 2 = 0)
  { s with safety := { s.safety with toggling := on, safeA := on && high, safeB := on && !high } }

/-- SAFE_TOGGLE (R373). -/
def execSafeToggle (t : Nat) (refreshed : Bool) (s : State) : Out := happen t true s (safeToggle refreshed)

/-- SAFE_REFRESH_LAPSE: no refresh for 2 ms, and the outputs stop (R373). -/
def execSafeRefreshLapse (t : Nat) (s : State) : Out :=
  happen t true s (fun s => { s with safety := { s.safety with toggling := false, safeA := false, safeB := false } })

/-! ### Safety SPI (R374) -/

/-- The CRC-8 of a safety SPI frame over its first 15 bytes. -/
def spiCrc (bs : Bytes) : Nat := (crcMsb 8 0x2F 0xFF (bs.take 15)) ^^^ 0xFF

/-- Whether a command frame is valid: length, CRC, command and reserved bytes (Table 14.5). -/
def spiValid (cmd : Nat) (f : Bytes) : Bool :=
  decide (f.length = 16) && decide (byteAt f 15 = spiCrc f) && decide (byteAt f 0 = cmd) &&
    (decide (cmd = 2) || decide (byteAt f 1 = 0)) && ((f.drop 2).take 13).all (fun b => decide (b = 0))

/-- Latched inputs whose reaction is `r`. -/
def Safety.countAt (f : Safety) (r : Nat) : Nat :=
  (f.reactions.filter (fun x => bitOf f.latched x.1 && decide (x.2 = r))).length

/-- The status frame (Table 14.5). -/
def State.spiStatusFrame (s : State) : Bytes :=
  let f := s.safety
  let low := match f.reactions.find? (fun x => bitOf f.latched x.1 && decide (3 ≤ x.2)) with
    | some x => x.1
    | none => 0xFF
  let body := toLE 1 (s.stat 0xA000 1) ++ toLE 1 (natOfBool f.toggling + 2 * natOfBool f.fatalRaw.isSome)
    ++ toBE 2 f.spiCount ++ toLE 1 f.question ++ toLE 1 (f.countAt 2) ++ toLE 1 (f.countAt 3) ++ toLE 1 (f.countAt 4)
    ++ toLE 1 low ++ List.replicate 6 0xFF
  body ++ toLE 1 (spiCrc body)

/-- A transfer of the safety SPI: a valid command is counted and acts, another is ignored and raises input 102; the next
status frame is built at its end. -/
def State.spiTransfer (s : State) (cmd : Nat) (f : Bytes) (act : State → State) : State :=
  if s.reg 0xA000 4 = 0 then s
  else
    let s := if spiValid cmd f then
        let s := act (s.countSeq 0xA000 5 32)
        { s with safety := { s.safety with spiCount := (s.safety.spiCount + 1) % 65536 } }
      else s.raiseFault 102 false
    { s with safety := { s.safety with spiStatus := s.spiStatusFrame } }

/-- READ_STATUS: command 0x00 (R374). -/
def execReadStatus (t : Nat) (frame : Bytes) (s : State) : Out :=
  happen t true s (fun s => s.spiTransfer 0 frame id)

/-- FORCE_SAFE_STATE: command 0x01 raises input 101 (R374). -/
def execForceSafeState (t : Nat) (frame : Bytes) (s : State) : Out :=
  happen t true s (fun s => s.spiTransfer 1 frame (fun s => s.raiseFault 101 false))

/-- Service of watchdog 7 by the inverted question byte; after a valid service the question is a new value that the spec
leaves open (Table 14.5). -/
def State.serviceSpi (s : State) (answer : Nat) : State :=
  let right := decide (answer = 255 - s.safety.question)
  let before := (s.watchdog 7).nextAA
  let s := s.serviceWatchdog 7 right
  if right ∧ (s.watchdog 7).nextAA ≠ before then
    ({ s with safety := { s.safety with question := s.freeNat % 256 } } : State).drawFree
  else s

/-- SERVICE_WATCHDOG_7: command 0x02 (R374). -/
def execServiceWatchdog7 (t : Nat) (frame : Bytes) (s : State) : Out :=
  happen t true s (fun s => s.spiTransfer 2 frame (fun s => s.serviceSpi (byteAt frame 1)))

end Sys2Proof.Machine
end

