-- ==== Sys2Proof/Machine/Effects.lean ====
section
/-! DEFINITION. What the units do at the apply epoch of a change (R40, R55, R64), sessions that end, and the overlay. -/

namespace Sys2Proof.Machine

open Sys2Proof

/-! ### Sessions that end (R62, R73, R440, R441) -/

/-- Discard the staging area of an owner, unless a commit is armed (R62). -/
def State.discardOf (s : State) (p : Caller → Bool) : State :=
  match s.dict.staging.state, s.dict.staging.owner with
  | .open_, some o => if p o then s.emptyStaging else s
  | _, _ => s

/-- Session `n` ends: its slot is free, its domain writes and staging are discarded. -/
def State.endSession (s : State) (n : Nat) : State :=
  ((s.modSession n (fun _ => Session.free)).dropSessionWrites n).discardOf (fun o => decide (o.session = n))

/-- Whether an open session's idle time exceeds the timeout. -/
def State.sessionIdle (s : State) (n : Nat) : Bool :=
  let x := s.session n
  decide (x.state = 2) && decide (x.idleNs + s.reg 0x1020 2 * 1000000 < s.time.orderNs)

/-- Close session `n` when it is idle for too long. -/
def State.closeIdle (s : State) (n : Nat) : State := if s.sessionIdle n then s.endSession n else s

/-! ### The overlay (R65) -/

/-- Take an overlay record; it replaces that of the same entry or row, and a CLEAR those of its table's rows. -/
def State.overlayPut (s : State) (slot bytes : Nat) (old : Nat → Bool) : State :=
  { s with dict := { s.dict with
      overlay := s.dict.overlay.filter (fun r => !(decide (r.slot = slot) || old r.slot)) ++ [⟨slot, bytes, false⟩] } }

/-- The overlay record of a row operation. -/
def State.overlayRow (s : State) (tbl code pos : Nat) : State :=
  if code = 7 then
    s.overlayPut (rkey tbl (2 ^ 31) 0) (overlayBytes 0) (fun r => decide (rkey tbl 0 0 ≤ r) && decide (r < rkey tbl (2 ^ 31) 0))
  else s.overlayPut (rkey tbl pos 0) (overlayBytes (if code = 4 then 0 else rowBytes tbl)) (fun _ => false)

/-! ### Changed entries -/

/-- What an apply epoch brings: the epoch, the time tL of R234, the entries that changed with their old values, the row
operations with their positions, and the entries written, changed or not. -/
structure Applied where
  epoch   : Nat
  tl      : Nat
  old     : List (Nat × Nat)
  ops     : List (Nat × Nat × Nat)
  written : List Nat

/-- Whether an entry changed. -/
def Applied.at_ (a : Applied) (idx sub : Nat) : Bool := a.old.any (fun x => decide (x.1 = dkey idx sub))

/-- Whether an entry of an object changed at a sub-index that `p` picks. -/
def Applied.within (a : Applied) (idx : Nat) (p : Nat → Bool) : Bool :=
  a.old.any (fun x => decide (x.1 / 256 = idx) && p (x.1 % 256))

/-- Whether any entry of an object changed. -/
def Applied.obj (a : Applied) (idx : Nat) : Bool := a.within idx (fun _ => true)

/-- The value of an entry before. -/
def Applied.before (a : Applied) (s : State) (idx sub : Nat) : Nat :=
  match kfind a.old (dkey idx sub) with
  | some v => v
  | none => s.regAt a.epoch (dkey idx sub)

/-- A port whose mode, maximum frame length, enable, home or node ID changed goes to DOWN or DISABLED and is flushed (R110,
R120, R315); `was` tells whether it was UP. -/
def State.forceDown (s : State) (p : Nat) (was : Bool) : State :=
  let s := if isInternal p then s else s.setLink p (if s.portEnabled p then 1 else 0)
  if was then s.linkDown p true else s.flushPort p

/-- What a commit does to port `p`. -/
def State.portApplied (s : State) (a : Applied) (before : State) (p : Nat) : State :=
  let down := a.within (0x3000 + p) (fun x => decide (x ∈ [1, 2, 3])) || (a.at_ 0x9020 (0x40 + p) && decide (p < 28))
    || (isSP p && a.at_ (0x7080 + p - 20) 1)
  let s := if down then s.forceDown p (before.portUp p)
    else if isInternal p ∧ before.portUp p ∧ ¬ s.portUp p then s.linkDown p false else s
  let s := if a.obj (0x3580 + p) then s.refreshMerge p else s
  if a.obj (0x3400 + p) || a.obj (0x3000 + p) || a.at_ (0x3100 + p) 1 then s.refreshCredits p else s

/-- Whether a commit loads a new admin list on port `p` (R234). -/
def Applied.loadsGates (a : Applied) (s : State) (p : Nat) : Bool :=
  let tbl := 0x3500 + p
  decide (s.regAt a.epoch (dkey tbl 0x10) = 1) &&
    (decide (dkey tbl 0x10 ∈ a.written) || a.at_ tbl 0x12 || a.at_ tbl 0x13 || a.at_ tbl 0x14
      || a.ops.any (fun o => decide (o.1 = tbl) && decide (o.2.2 < s.regAt a.epoch (dkey tbl 0x14))))

/-- What a commit does to the gates of port `p` (R234, R235). -/
def State.gatesApplied (a : Applied) (s : State) (p : Nat) : State :=
  if a.loadsGates s p then
    s.modGate p (fun g =>
      let g := if g.oper.isNone then { g with initial := s.regAt a.epoch (dkey (0x3500 + p) 0x11) } else g
      g.load (s.adminList a.epoch p) a.tl)
  else if a.at_ (0x3500 + p) 0x10 ∧ s.regAt a.epoch (dkey (0x3500 + p) 0x10) = 0 then s.modGate p GateEngine.disable
  else s

/-- What a commit does to trigger `n` (R105). -/
def State.trigApplied (a : Applied) (s : State) (n : Nat) : State :=
  let en := a.at_ 0x2200 1 && (bitOf (a.before s 0x2200 1) n != bitOf (s.reg 0x2200 1) n)
  if a.obj (0x2210 + n) || en then s.armTrigger n else s

/-- What a commit does to a CAN controller, a LIN channel and FX. -/
def State.busesApplied (s : State) (a : Applied) (before : State) : State :=
  let subs : List Nat := [1, 2, 3, 4, 5, 6, 7, 8]
  let s := (List.range 24).foldl (fun (s : State) n =>
    if a.within (0x7000 + n) (fun x => decide (1 ≤ x) && decide (x ≤ 8)) then
      s.canCommit n (subs.map (fun x => a.before s (0x7000 + n) x)) (subs.map (fun x => s.reg (0x7000 + n) x))
    else s) s
  let s := (List.range 8).foldl (fun (s : State) n =>
    if a.obj (0x7040 + n) then s.linCommit n (decide (before.linSlots n (before.lin n).sched = [])) else s) s
  if a.at_ 0x7060 1 then s.fxCommit (a.before s 0x7060 1) else s

/-- Watchdog `w` when its entries change: it starts, or stops; watchdogs 3 and 5 run only while their pair is split (R371). -/
def State.watchApplied (a : Applied) (s : State) (w : Nat) : State :=
  if a.at_ 0xA300 (0x10 + 8 * w) then
    let on := decide (s.reg 0xA300 (0x10 + 8 * w) = 1)
      && (if w = 3 then decide (s.pairMode 2 = 3) else if w = 5 then decide (s.pairMode 3 = 3) else true)
    s.modWatchdog w (fun _ => ⟨on, s.time.raw, false⟩)
  else s

/-- Another set becomes the working clock: a step by the difference of the two sets (R90, R236). -/
def State.clockApplied (a : Applied) (s : State) : State :=
  if a.at_ 0x2000 1 then
    let b := s.workingQ16
    ({ s with time := { s.time with working := s.reg 0x2000 1 } } : State).workingChanged b
  else s

/-- Buckets that a commit changes refill, the sampler's counts restart, a permission of backward steps is noted, and the
crystal is tried again (R44, R176, R214, R452). -/
def State.smallApplied (a : Applied) (s : State) : State :=
  let s := (List.range 64).foldl (fun (s : State) z => if a.at_ 0x6010 (0x40 + z) then s.refillBucket z else s) s
  let s := if a.at_ 0x6000 0x10 || a.at_ 0x6000 0x11 then s.refillBucket logBucket else s
  let s := if a.at_ 0x4310 1 then { s with basin := { s.basin with samples := [] } } else s
  let s := if a.at_ 0x2000 2 && decide (s.reg 0x2000 2 = 1) then s.noteDeterminism 3 else s
  let s := if dkey 0xC200 4 ∈ a.written then
      let v := clearBitAt (s.stat 0xC200 2) 11
      s.setStat 0xC200 2 (if s.reg 0xC200 4 = 1 then v else clearBitAt v 9)
    else s
  let s := if a.at_ 0x1020 2 then (List.range 8).foldl (fun (s : State) i => s.closeIdle (i + 1)) s else s
  if a.obj 0x9100 || a.obj 0x9110 || a.obj 0x9111 || a.obj 0x9112 || a.obj 0x9113 then
    (List.range 4).foldl State.checkUse s
  else s

/-! ### Changed rows -/

/-- Clear the counters of a row between two sub-indices. -/
def State.clearRowStats (s : State) (tbl pos lo hi : Nat) : State :=
  (List.range (hi + 1 - lo)).foldl (fun (s : State) i => s.setRowStat tbl pos (lo + i) 0) s

/-- A stream gate's row is put: its closed states end, and its list is loaded (R220, R221). -/
def State.loadStreamGate (s : State) (g tl : Nat) (v : List Nat) : State :=
  let x := (kfind s.basin.streamGates g).getD (StreamGate.fresh v)
  let e := x.engine
  let e := if e.oper.isNone then { e with initial := rowSub v 8 } else e
  let e := if rowSub v 7 = 1 then e.load (streamList v) tl else e.disable
  s.setStreamGate g ⟨e, false, false, 0, none⟩

/-- What a row that is put or removed does to the state beside the table. -/
def State.rowApplied (a : Applied) (s : State) (tbl pos : Nat) : State :=
  match s.rowAt a.epoch tbl pos with
  | some v =>
    if tbl = 0x5100 ∨ tbl = 0x5200 ∨ tbl = 0x5800 then s.setRowStat tbl pos (hitSub tbl) 0
    else if tbl = 0x5900 then s.clearRowStats tbl pos 8 0x0F
    else if tbl = 0x5A00 then s.loadStreamGate pos a.tl v
    else if tbl = 0x5B00 then
      ({ s with basin := { s.basin with meters := kins s.basin.meters pos (MeterState.full v) } } : State).clearRowStats
        tbl pos 0x0D 0x11
    else if tbl = 0x5C00 then s.setFrer pos FrerState.fresh
    else if 0x6300 ≤ tbl ∧ tbl < 0x6318 then s.refillBucket (canBucket (tbl - 0x6300) pos)
    else s
  | none =>
    let b := s.basin
    let s : State := if tbl = 0x5A00 then { s with basin := { b with streamGates := kdel b.streamGates pos } }
      else if tbl = 0x5B00 then { s with basin := { b with meters := kdel b.meters pos } }
      else if tbl = 0x5C00 then { s with basin := { b with frer := kdel b.frer pos } }
      else s
    s.clearRowStats tbl pos 7 0x14

/-- What every unit does when changes take effect. -/
def State.applied (s : State) (a : Applied) (before : State) : State :=
  let s := s.clockApplied a
  let s := a.ops.foldl (fun (s : State) o => s.rowApplied a o.1 o.2.2) s
  let s := (List.range 32).foldl (fun (s : State) p => (s.portApplied a before p).gatesApplied a p) s
  let s := (List.range 16).foldl (fun (s : State) n => s.trigApplied a n) s
  let s := s.busesApplied a before
  let s := (List.range 8).foldl (fun (s : State) w => s.watchApplied a w) s
  s.smallApplied a

/-! ### COMMIT_APPLY (R64) -/

/-- The time tL of R234: (c − 1) × 32 ns while order time runs free. -/
def State.loadTime (s : State) (c : Nat) : Nat := if s.time.held then s.workingNs else (c - 1) * 32

/-- The positions that the staged operations touch in a table: code and position of each, from the rows before and after. -/
def touched (before after : List (Nat × List Nat)) (tbl : Nat) (w : StagedWork) : List (Nat × Nat × Nat) :=
  match w with
  | .rowOp t code vals =>
    if t ≠ tbl then []
    else if code = 7 then before.map (fun r => (tbl, 7, r.1))
    else match posOfKey tbl (if code = 4 then before else after) vals with
      | some p => [(tbl, code, p)]
      | none => []
  | _ => []

/-- The table that a record concerns. -/
def StagedWork.table : StagedWork → List Nat
  | .rowOp t _ _ => [t]
  | _ => []

/-- The overlay record of a staged change. -/
def State.overlayRecord (ops : List (Nat × Nat × Nat)) (s : State) (w : StagedWork) : State :=
  match w with
  | .value key _ => s.overlayPut key w.bytes (fun _ => false)
  | .rowOp tbl code _ =>
    if code = 7 then s.overlayRow tbl 7 0
    else (ops.filter (fun o => decide (o.1 = tbl) && decide (o.2.1 = code))).foldl (fun (s : State) o =>
      s.overlayRow tbl code o.2.2) s

/-- A staged value becomes a setting of epoch `c`. -/
def State.layValue (c : Nat) (by_ : OKey) (s : State) (w : StagedWork) : State :=
  match w with
  | .value key v => s.addSetting c by_.epoch by_.src key v
  | _ => s

/-- Lay the staged records over the configuration as changes of epoch `c`: values, then the differences they make to the tables. -/
def State.layStaged (s : State) (c : Nat) (by_ : OKey) : State :=
  let tables := distinct (s.dict.staging.recs.flatMap StagedWork.table)
  let diffs := tables.flatMap (fun t => (rowDiff (s.rowsAt c t) (s.stagedRows c t)).map (fun d => (t, d)))
  let s1 := s.dict.staging.recs.foldl (State.layValue c by_) s
  diffs.foldl (fun (s : State) d => s.addRowOp c by_.epoch by_.src d.1 d.2.1 d.2.2) s1

/-- The staging area empties after a commit, which is counted and journaled (R64, R67). -/
def State.endCommit (s : State) (c : Nat) : State :=
  let owner := s.dict.staging.owner.getD ⟨.firmware, 0⟩
  let n := s.dict.staging.applied + 1
  let s := s.emptyStaging
  let s := { s with dict := { s.dict with staging := { s.dict.staging with applied := n % 2 ^ 32 } } }
  let s := if n = 2 ^ 32 then s.flagCounter 0x1302 6 1 else s
  s.journalChange owner 2 0x1301 4 [] [] c

/-- COMMIT_APPLY: order time passes boundary c − 1, and every staged record takes effect together (R64). -/
def commitApply (s : State) : State :=
  let g := s.dict.staging
  if g.state = .armed ∧ g.epoch ≤ s.keyEpoch then
    let c := g.epoch
    let keys := g.recs.filterMap (fun w => match w with | .value k _ => some k | _ => none)
    let tables := distinct (g.recs.flatMap StagedWork.table)
    let ops := tables.flatMap (fun t => g.recs.flatMap (touched (s.rowsAt c t) (s.stagedRows c t) t))
    let s1 := s.layStaged c g.armed
    let old := (keys.filter (fun k => decide (s.regAt c k ≠ s1.regAt c k))).map (fun k => (k, s.regAt c k))
    let a : Applied := ⟨c, s.loadTime c, old, ops, keys⟩
    let s2 := g.recs.foldl (State.overlayRecord ops) (s1.applied a s)
    s2.endCommit c
  else s

/-- COMMIT_APPLY (R64). -/
def execCommitApply (t : Nat) (s : State) : Out := happen t true s commitApply

end Sys2Proof.Machine
end

