-- ==== Sys2Proof/Machine/Tables.lean ====
section
/-! DEFINITION. Table objects: views, rows as operations see them, key checks and the seven operations (R58, R59, R472). -/

namespace Sys2Proof.Machine

open Sys2Proof

/-! ### Rows as an operation reads them -/

/-- The policy-matrix cell that no row replaces (R163): permit between equal zones, else deny silently. -/
def defaultCell (pos : Nat) : List Nat := [0, pos / 64, pos % 64, 0, if pos / 64 = pos % 64 then 0 else 1, 0xFFFF, 0]

/-- A MAC address between its number and its octets as a view holds them. -/
def macView (mac : Nat) : Nat := leNat (toBE 6 mac)

/-- The number of a MAC address in a view. -/
def viewMac (v : Nat) : Nat := beNat (toLE 6 v)

/-- An FDB entry as a row for key epoch `k`; its idle time in ms. -/
def fdbRow (k : Nat) (x : FdbEntry) : List Nat :=
  let units := (seenUnits k + 2 ^ 32 - x.seen) % 2 ^ 32
  [macView x.mac, x.vid, if x.visible ≤ k then x.dest else x.prev.getD 0, natOfBool x.static_,
    if x.static_ then 0 else units * 2 ^ 30 / 1000000]

/-- A session as a row for key epoch `k` (Table 7.9, R179). -/
def sessionRow (k : Nat) (x : NSession) : List Nat :=
  [x.proto, leNat (toBE 16 x.initIp), leNat (toBE 16 x.respIp), x.initPort, x.respPort, x.initZone, x.respZone, x.state,
    x.age k * 1048576 / 1000000, x.ref + (if x.refCell then 0x8000 else 0), x.frames, natOfBool x.v6]

/-- The rows of a table for inputs of key epoch `k`, without the default cells of the policy matrix. -/
def State.tableRows (s : State) (k tbl : Nat) : List (Nat × List Nat) :=
  if tbl = 0x4101 then (s.fdbLive k).map (fun x => (x.1, fdbRow k x.2))
  else if tbl = 0x6200 then (s.liveSessions k).map (fun x => (x.1, sessionRow k x.2))
  else s.rowsAt k tbl

/-- The row at a row index. -/
def State.tableAt (s : State) (k tbl pos : Nat) : Option (List Nat) :=
  match kfind (s.tableRows k tbl) pos with
  | some v => some v
  | none => if tbl = 0x6100 ∧ pos < 4096 then some (defaultCell pos) else none

/-- Whether two rows of a table have one key. -/
def sameKey (tbl : Nat) (a b : List Nat) : Bool :=
  decide (a.take (keyFields tbl) = b.take (keyFields tbl)) && (decide (tbl ≠ 0x6200) || decide (rowSub a 0x11 = rowSub b 0x11))

/-- The row with a view's key. -/
def State.tableFind (s : State) (k tbl : Nat) (vals : List Nat) : Option (Nat × List Nat) :=
  match (s.tableRows k tbl).find? (fun r => sameKey tbl r.2 vals) with
  | some r => some r
  | none =>
    if tbl = 0x6100 ∧ rowSub vals 6 = 0 ∧ rowSub vals 7 < 64 ∧ rowSub vals 8 < 64 then
      some (cellPos (rowSub vals 7) (rowSub vals 8), defaultCell (cellPos (rowSub vals 7) (rowSub vals 8)))
    else none

/-- The next occupied row above a row index. -/
def State.tableNext (s : State) (k tbl i : Nat) : Option (Nat × List Nat) :=
  if tbl = 0x6100 ∧ i + 1 < 4096 then (s.tableAt k tbl (i + 1)).map (fun v => (i + 1, v))
  else (s.tableRows k tbl).foldl (fun (a : Option (Nat × List Nat)) r =>
    if r.1 ≤ i then a else match a with
      | some b => if r.1 < b.1 then some r else a
      | none => some r) none

/-- Rows in use (sub-index 03). -/
def State.tableCount (s : State) (k tbl : Nat) : Nat :=
  if tbl = 0x6100 then 4096 + ((s.rowsAt k tbl).filter (fun r => decide (4096 ≤ r.1))).length
  else if tbl = 0x8400 then 1024
  else (s.tableRows k tbl).length

/-- Status of a stream gate (`5A00h.0F`). -/
def State.gateRowState (s : State) (k g : Nat) : Nat :=
  let x := s.streamGate k g
  let open_ := !x.closed && !x.octets && bitOf (x.at_ k).1 0
  natOfBool open_ + 2 * natOfBool x.closed + 4 * natOfBool x.octets + 8 * natOfBool x.engine.pending.isSome

/-- A read-only field of a row: hits and counts, and what the units hold for the row. -/
def State.rowField (s : State) (k tbl pos sub : Nat) (stored : Nat) : Nat :=
  if tbl = 0x4101 ∨ tbl = 0x6200 then stored
  else if tbl = 0x5A00 ∧ sub = 0x0F then s.gateRowState k pos
  else if tbl = 0x5B00 ∧ sub = 0x0D then natOfBool (match kfind s.basin.meters pos with | some m => m.allRed | none => false)
  else if tbl = 0x8100 ∧ sub = 8 then leNat (s.pdu k pos).bytes
  else if tbl = 0x8100 ∧ sub = 9 then (match s.pduDef k pos with
    | some d => if dTx d then leNat (s.image k pos) else 0
    | none => 0)
  else s.rowStat tbl pos sub

/-- Whether a field of a view is read only. -/
def fieldRo (tbl sub : Nat) : Bool := match entryDef tbl sub with | some e => decide (e.acc = .ro) | none => true

/-- Fill a caller's view from a row, and set its row index. -/
def State.showRow (s : State) (c : Caller) (k tbl pos : Nat) (vals : List Nat) : State :=
  let full := (List.range (lastField tbl - 5)).map (fun i =>
    if fieldRo tbl (6 + i) then s.rowField k tbl pos (6 + i) (nth vals i 0) else nth vals i 0)
  (s.fillView c tbl full).setOwn c tbl 5 pos

/-! ### Checks -/

/-- A row formed from a view: fields that are read only hold nothing. -/
def rowOfView (tbl : Nat) (view : List Nat) : List Nat :=
  (List.range view.length).map (fun i => if fieldRo tbl (6 + i) then 0 else nth view i 0)

/-- Status of one field of a view by the checks of its own type (R49, Table 3.1). -/
def fieldStatus (tbl sub v : Nat) : Nat := match entryDef tbl sub with
  | some e => if e.acc = .rw then (let ty := typeStatus e.ty (toLE e.ty.bytes v)
      if ty ≠ 0 then ty else chkStatus e.ty.bytes v e.chk) else 0
  | none => 0

/-- Status of a row alone: its fields and the rules between them (first group of R470). -/
def rowStatus (tbl : Nat) (vals : List Nat) : Nat :=
  let l := (List.range vals.length).map (fun i => fieldStatus tbl (6 + i) (nth vals i 0))
  let own := rowOwnStatus tbl (rowSub vals)
  if 6 ∈ l ∨ own = 6 then 6 else if l.any (fun x => decide (x ≠ 0)) ∨ own ≠ 0 then 5 else 0

/-- Rows that a table may hold beside those of `rows` (R186): whether one more fails as a full table. -/
def State.tableFull (s : State) (tbl : Nat) (rows : List (Nat × List Nat)) (vals : List Nat) : Bool :=
  if tbl = 0x6100 then decide (16384 ≤ (rows.filter (fun r => decide (4096 ≤ r.1))).length)
  else if tbl = 0x8200 then
    decide (rowSub vals 6 = 0) && decide (s.stat 0x4000 0x14 ≤ (rows.filter (fun r => decide (r.1 < 65536))).length)
  else
    let cap := tableCapacity tbl
    let cap := if tbl = 0x5800 then min cap (s.stat 0x4000 0x11) else if tbl = 0x5200 then min cap (s.stat 0x4000 0x13)
      else if tbl = 0x8100 then min cap (s.stat 0x4000 0x15) else cap
    decide (cap ≤ rows.length)

/-- The key checks of R59 against rows. -/
def State.keyStatus (s : State) (tbl code : Nat) (rows : List (Nat × List Nat)) (vals : List Nat) : Nat :=
  let here := (posOfKey tbl rows vals).isSome
  if code = 2 then (if here then 0x11 else if s.tableFull tbl rows vals then 0x10 else 0)
  else if code = 3 then (if here || (decide (tbl = 0x6100) && decide (rowSub vals 6 = 0)) then 0
    else if s.tableFull tbl rows vals then 0x10 else 0)
  else if code = 4 then (if here then 0 else 0x0F)
  else 0

/-- Operations that a table never performs (R163, R179, R280). -/
def opRefused (tbl code : Nat) (vals : List Nat) : Bool :=
  (decide (tbl = 0x6100) && decide (rowSub vals 6 = 0) && (decide (code = 2) || decide (code = 4)))
    || (decide (tbl = 0x6200) && (decide (code = 2) || decide (code = 3)))
    || (decide (tbl = 0x8400) && decide (code ≠ 3))

/-- Whether an operation changes the table. -/
def mutates (code : Nat) : Bool := decide (code ∈ [2, 3, 4, 7])

/-- A freshness value with every raise that is accepted. -/
def State.raisedValue (s : State) (i : Nat) : Nat :=
  s.ford.raises.foldl (fun a x => if x.2.1 = i then max a x.2.2 else a) (s.freshValue i)

/-- The conditions 1 to 12 of R467 for a table operation. -/
def State.opStatus (s : State) (c : Caller) (k tbl code : Nat) (vals : List Nat) : Nat :=
  let a := s.addressStatus c tbl 1 .write
  if a ≠ 0 then a
  else match entryDef tbl 1 with
    | none => 2
    | some e =>
      let se := s.sessionStatus c k tbl 1 true
      let row := if code = 2 ∨ code = 3 then rowStatus tbl vals
        else if code ∈ [1, 4] ∧ (tbl = 0x4200 ∨ tbl = 0x4101) then
          pick false (decide (fieldStatus tbl (if tbl = 0x4200 then 6 else 7) (rowSub vals (if tbl = 0x4200 then 6 else 7)) ≠ 0))
        else 0
      if se ≠ 0 then se
      else if code = 0 ∨ 7 < code then 6
      else if row ≠ 0 then row
      else if tbl = 0x8400 ∧ code = 3 ∧ rowSub vals 7 < s.raisedValue (rowSub vals 6) then 5
      else if mutates code ∧ !isDynamic tbl ∧ s.stagingBusy c then 9
      else if s.serverOff k ∨ opRefused tbl code vals then 0x0B
      else if mutates code ∧ s.lacksAuthority e then 0x0B
      else 0

/-! ### The operations -/

/-- Answer an operation: the status also stands in the caller's sub-index 02. -/
def State.opReply (s : State) (c : Caller) (tbl st : Nat) : State := (s.setOwn c tbl 2 st).reply c st 0 0

/-- Octets of a row for the hashes of the change journal: its key and value fields. -/
def rowOctets (tbl : Nat) (vals : List Nat) : Bytes :=
  (List.range vals.length).flatMap (fun i => if fieldRo tbl (6 + i) then [] else toLE (entryBytes tbl (6 + i)) (nth vals i 0))

/-- An accepted operation: status 0, its change-journal record, and its response when that is stored (R56, R67). -/
def State.opAccept (s : State) (c : Caller) (kind k tbl : Nat) (old new : Option (List Nat)) : State :=
  (s.setOwn c tbl 2 0).acceptBytes c kind tbl 1 ((old.map (rowOctets tbl)).getD []) ((new.map (rowOctets tbl)).getD []) 0 (k + 4)

/-- LOOKUP, READ_ROW and NEXT read the applied table and change the caller's view alone. -/
def State.readOp (s : State) (c : Caller) (k tbl code : Nat) (vals : List Nat) : State :=
  let i := s.ownVal c tbl 5
  let found := if code = 1 then s.tableFind k tbl vals
    else if code = 5 then (s.tableAt k tbl i).map (fun v => (i, v)) else s.tableNext k tbl i
  match found with
  | none => s.opReply c tbl (if code = 6 then 0x12 else 0x0F)
  | some (pos, v) => (s.showRow c k tbl pos v).opAccept c 0 k tbl (some v) (some v)

/-- An operation that changes a static table is staged (R59). -/
def State.stageOp (s : State) (c : Caller) (k tbl code : Nat) (vals : List Nat) : State :=
  let rows := s.stagedRows k tbl
  let st := s.keyStatus tbl code rows vals
  let w : StagedWork := .rowOp tbl code (if code = 7 then [] else vals)
  if st ≠ 0 then s.opReply c tbl st
  else if s.stagingFull w then s.opReply c tbl 8
  else
    let old := if code = 7 then none else (posOfKey tbl rows vals).bind (kfind rows)
    (s.stage c w).opAccept c 1 k tbl old (if code = 4 ∨ code = 7 then none else some vals)

/-- The VLAN table: row changes of key epoch k + 4, with their overlay records (R198). -/
def State.vlanOp (s : State) (c : Caller) (k code : Nat) (vals : List Nat) : State :=
  let tbl := 0x4200
  let src := ifaceSource c.iface
  let rows := s.rowsAt (k + 4) tbl
  let st := s.keyStatus tbl code rows vals
  let pos := rowSub vals 6
  if st ≠ 0 then s.opReply c tbl st
  else if s.overlayFree < overlayBytes (rowBytes tbl) then s.opReply c tbl 8
  else
    let s1 := if code = 7 then rows.foldl (fun (s : State) r => s.addRowOp (k + 4) k src tbl r.1 none) s
      else s.addRowOp (k + 4) k src tbl pos (if code = 4 then none else some vals)
    (s1.overlayRow tbl code pos).opAccept c 0 k tbl (if code = 7 then none else kfind rows pos)
      (if code = 4 ∨ code = 7 then none else some vals)

/-- Hide FDB entries from key epoch `e` on. -/
def State.hideFdb (s : State) (e : Nat) (p : Nat × FdbEntry → Bool) : State :=
  { s with basin := { s.basin with fdb := s.basin.fdb.map (fun x =>
      if p x ∧ x.2.gone.isNone then (x.1, { x.2 with gone := some e }) else x) } }

/-- The FDB: static entries visible from k + 4, and deletions from then on (R198). -/
def State.fdbOp (s : State) (c : Caller) (k code : Nat) (vals : List Nat) : State :=
  let tbl := 0x4101
  let mac := viewMac (rowSub vals 6)
  let vid := rowSub vals 7
  let there := s.fdbFind (k + 4) mac vid
  let old := there.map (fun x => fdbRow k x.2)
  if code = 2 ∧ there.isSome then s.opReply c tbl 0x11
  else if code = 4 ∧ there.isNone then s.opReply c tbl 0x0F
  else if code = 7 then ((s.hideFdb (k + 4) (fun _ => true)).overlayRow tbl 7 0).opAccept c 0 k tbl none none
  else if code = 4 then
    match there with
    | some (slot, _) => ((s.hideFdb (k + 4) (fun x => decide (x.1 = slot))).overlayRow tbl 4 slot).opAccept c 0 k tbl old none
    | none => s
  else match s.fdbPlace (k + 4) mac vid with
    | none => s.opReply c tbl 0x10
    | some slot =>
      if s.overlayFree < overlayBytes (rowBytes tbl) then s.opReply c tbl 8
      else ((s.fdbSet k (k + 4) slot mac vid (rowSub vals 8)).overlayRow tbl 3 slot).opAccept c 0 k tbl old (some vals)

/-- The session table: deletions from k + 4 on (R179). -/
def State.sessionOp (s : State) (c : Caller) (k code : Nat) (vals : List Nat) : State :=
  let tbl := 0x6200
  let hide := fun (p : Nat → Bool) => ({ s with narrows := { s.narrows with sessions := s.narrows.sessions.map (fun x =>
    if p x.1 ∧ x.2.gone.isNone then (x.1, { x.2 with gone := some (k + 4) }) else x) } } : State)
  if code = 7 then (hide (fun _ => true)).opAccept c 0 k tbl none none
  else match s.tableFind (k + 4) tbl vals with
    | none => s.opReply c tbl 0x0F
    | some (slot, v) => (hide (fun p => decide (p = slot))).opAccept c 0 k tbl (some v) none

/-- Freshness values: a raise that governs inputs of key epoch k + 4, its bound stored at once (R280). -/
def State.freshOp (s : State) (c : Caller) (k : Nat) (vals : List Nat) : State :=
  let tbl := 0x8400
  let i := rowSub vals 6
  let v := rowSub vals 7
  let b := s.freshBound i
  let b' := if b < v + 512 then max (b + 1024) (v + 1024) else b
  let old := s.raisedValue i
  let s : State := { s with ford := { s.ford with
    raises := s.ford.raises ++ [(k + 4, i, v)], bounds := kput (fun _ => 1024) s.ford.bounds i b' } }
  (s.setOwn c tbl 8 b').opAccept c 0 k tbl (some [i, old]) (some [i, v])

/-- A table operation on the caller's view: keyed, checked in the order of R467, and performed (R58, R59). -/
def State.tableOp (s : State) (c : Caller) (tbl code : Nat) : State :=
  let k := s.keyEpoch
  let s := (s.keyRequest c (16 + code) tbl 1 (toLE 4 (s.ownVal c tbl 5) ++
    (List.range (lastField tbl - 5)).flatMap (fun i => toLE (entryBytes tbl (6 + i)) (s.ownVal c tbl (6 + i))))).touchSession c
  let vals := rowOfView tbl (s.view c tbl)
  let st := s.opStatus c k tbl code vals
  if st ≠ 0 then (if s.follows && mutates code then s.withhold else s).opReply c tbl st
  else if !mutates code then s.readOp c k tbl code vals
  else if tbl = 0x4200 then s.vlanOp c k code vals
  else if tbl = 0x4101 then s.fdbOp c k code vals
  else if tbl = 0x6200 then s.sessionOp c k code vals
  else if tbl = 0x8400 then s.freshOp c k vals
  else s.stageOp c k tbl code vals

/-- LOOKUP (R58). -/
def execLookup (t : Nat) (c : Caller) (tbl : Nat) (s : State) : Out := happenBy c t (isTable tbl) s (fun s => s.tableOp c tbl 1)
/-- INSERT (R59). -/
def execInsert (t : Nat) (c : Caller) (tbl : Nat) (s : State) : Out := happenBy c t (isTable tbl) s (fun s => s.tableOp c tbl 2)
/-- REPLACE (R59). -/
def execReplace (t : Nat) (c : Caller) (tbl : Nat) (s : State) : Out := happenBy c t (isTable tbl) s (fun s => s.tableOp c tbl 3)
/-- DELETE (R59). -/
def execDelete (t : Nat) (c : Caller) (tbl : Nat) (s : State) : Out := happenBy c t (isTable tbl) s (fun s => s.tableOp c tbl 4)
/-- READ_ROW (R58). -/
def execReadRow (t : Nat) (c : Caller) (tbl : Nat) (s : State) : Out := happenBy c t (isTable tbl) s (fun s => s.tableOp c tbl 5)
/-- NEXT (R58). -/
def execNextRow (t : Nat) (c : Caller) (tbl : Nat) (s : State) : Out := happenBy c t (isTable tbl) s (fun s => s.tableOp c tbl 6)
/-- CLEAR (R59). -/
def execClear (t : Nat) (c : Caller) (tbl : Nat) (s : State) : Out := happenBy c t (isTable tbl) s (fun s => s.tableOp c tbl 7)

end Sys2Proof.Machine
end

