-- ==== Sys2Proof/Machine/Image.lean ====
section
/-! DEFINITION. Dictionary images: their format, their validity, upload and activation (R78 to R80, R185, R186). -/

namespace Sys2Proof.Machine

open Sys2Proof

/-! ### TLV records (Tables 3.12, 3.13) -/

/-- The TLV records before the end record, which is last: type and value, `fuel` bounding their number. -/
def tlvs : Nat → Bytes → Option (List (Nat × Bytes))
  | 0, _ => none
  | fuel + 1, b =>
    let len := leAt b 4 4
    let whole := 8 + (len + 3) / 4 * 4
    if b.length < 8 ∨ leAt b 2 2 ≠ 0 ∨ b.length < whole ∨ ((slice b (8 + len) (whole - 8 - len)).any (fun x => decide (x ≠ 0))) then none
    else if leAt b 0 2 = 0xFF then (if len = 0 ∧ b.length = 8 then some [] else none)
    else (tlvs fuel (b.drop whole)).map (fun l => (leAt b 0 2, slice b 8 len) :: l)

/-- Whether an image may carry an entry: one with a stored value, or the partition and the allocation (R185, R186). -/
def imageEntry (e : EntryDef) (idx sub : Nat) : Bool :=
  (decide (e.acc ∈ [Acc.rws, Acc.rw, Acc.w1]) && !e.perIface)
    || (decide (idx = 0x4000) && ((decide (1 ≤ sub) && decide (sub ≤ 3)) || (decide (0x10 ≤ sub) && decide (sub ≤ 0x15))))

/-- An entry record: its key and value. -/
def entryRecord (v : Bytes) : Option (Nat × Nat) :=
  let idx := leAt v 0 2
  let sub := byteAt v 2
  match entryDef idx sub with
  | none => none
  | some e =>
    if v.length < 4 ∨ byteAt v 3 ≠ 0 ∨ !imageEntry e idx sub ∨ absentSub idx sub ∨ valueStatus e idx sub (v.drop 4) ≠ 0
      ∨ kindStatus idx sub (leNat (v.drop 4)) ≠ 0 then none
    else some (dkey idx sub, leNat (v.drop 4))

/-- The fields of a stored row from sub-index 06: fields that are read only hold nothing. -/
def rowOfBytes (tbl : Nat) (b : Bytes) : List Nat :=
  ((List.range (lastField tbl - 5)).foldl (fun (a : List Nat × Nat) i =>
    if fieldRo tbl (6 + i) then (a.1 ++ [0], a.2)
    else (a.1 ++ [leAt b a.2 (entryBytes tbl (6 + i))], a.2 + entryBytes tbl (6 + i))) ([], 0)).1

/-- The key of a row for the order of an image. -/
def rowKeyOf (tbl : Nat) (v : List Nat) : List Nat :=
  if tbl = 0x4101 then [viewMac (rowSub v 6), rowSub v 7] else v.take (keyFields tbl)

/-- Lexicographic order of keys. -/
def keyBefore : List Nat → List Nat → Bool
  | a :: as, b :: bs => decide (a < b) || (decide (a = b) && keyBefore as bs)
  | _, _ => false

/-- Whether rows stand in rising key order. -/
def rowsRise (tbl : Nat) : List (List Nat) → Bool
  | a :: b :: l => keyBefore (rowKeyOf tbl a) (rowKeyOf tbl b) && rowsRise tbl (b :: l)
  | _ => true

/-- A table record: its table and rows with their positions. -/
def tableRecord (v : Bytes) : Option (Nat × List (Nat × List Nat)) :=
  let tbl := leAt v 0 2
  let n := leAt v 4 4
  let size := leAt v 8 4
  let rows := (List.range n).map (fun i => rowOfBytes tbl (slice v (12 + i * size) size))
  if !isTable tbl ∨ tbl = 0x6200 ∨ tbl = 0x8400 ∨ leAt v 2 2 ≠ 0 ∨ size ≠ rowBytes tbl ∨ v.length ≠ 12 + n * size
    ∨ tableCapacity tbl < n ∨ !rowsRise tbl rows ∨ rows.any (fun r => decide (rowStatus tbl r ≠ 0)) then none
  else some (tbl, (List.range n).zipWith (fun i r => ((numberedPos tbl r).getD i, r)) rows)

/-- The domains an image may carry. -/
def imageDomain (key : Nat) : Bool := decide (key = dkey 0x7060 0x10) || decide (key = dkey 0xC000 0x10)

/-- Take one TLV record into an image: records out of order, duplicate or of an unknown type make it invalid (R78). -/
def takeRecord (i : DictImage) (ty : Nat) (v : Bytes) : Option DictImage :=
  if ty = 1 then
    match entryRecord v with
    | some (k, x) => if i.entries.all (fun e => decide (e.1 < k)) then some { i with entries := i.entries ++ [(k, x)] } else none
    | none => none
  else if ty = 2 then
    match tableRecord v with
    | some (tbl, rows) =>
      if i.rows.all (fun (r : ImageRow) => decide (r.tbl < tbl)) then
        some { i with rows := i.rows ++ rows.map (fun r => ⟨tbl, r.1, r.2⟩) }
      else none
    | none => none
  else if ty = 3 then
    let k := dkey (leAt v 0 2) (byteAt v 2)
    if v.length < 4 ∨ byteAt v 3 ≠ 0 ∨ !imageDomain k ∨ domainMax (leAt v 0 2) (byteAt v 2) < v.length - 4
      ∨ i.domains.any (fun d => decide (d.1 = k)) then none
    else some { i with domains := i.domains ++ [(k, v.drop 4)] }
  else none

/-- The content of all records. -/
def takeRecords (l : List (Nat × Bytes)) : Option DictImage :=
  l.foldl (fun (i : Option DictImage) r => i.bind (fun i => takeRecord i r.1 r.2)) (some DictImage.none)

/-! ### Validity -/

/-- A value of an image, or its default. -/
def DictImage.value (i : DictImage) (idx sub : Nat) : Nat := kget entryDefault i.entries (dkey idx sub)

/-- The rows of a table under an image. -/
def DictImage.tableRows (i : DictImage) (tbl : Nat) : List (Nat × List Nat) :=
  (i.rows.filter (fun r => decide (r.tbl = tbl))).foldl (fun a r => kins a r.pos r.vals) (defaultRows tbl)

/-- The configuration that a commit of an image's content would give. -/
def DictImage.plan (i : DictImage) : Plan :=
  ⟨fun k => kget entryDefault i.entries k, i.tableRows, kget (fun _ => []) i.domains (dkey 0x7060 0x10)⟩

/-- Bytes of a table's row in Basin in the order of `4000h.10`…`15` (Table 8.1). -/
def basinRowBytes : List Nat := [32, 64, 48, 32, 32, 64]

/-- Whether partition and allocation are valid (R185, R186). -/
def DictImage.partitionOk (i : DictImage) : Bool :=
  let f := i.value 0x4000 1
  let t := i.value 0x4000 2
  let l := i.value 0x4000 3
  let size := ((List.range 6).zipWith (fun k b => i.value 0x4000 (0x10 + k) * b) basinRowBytes).foldl (· + ·) 524288
  decide (f % 8 = 0) && decide (8 ≤ f) && decide (f ≤ 56) && decide (4 ≤ t) && decide (l ≤ 16) && decide (f + t + l = 64)
    && decide (size ≤ (t - 1) * 1048576)

/-- Whether tables fit their allocation. -/
def DictImage.rowsFit (i : DictImage) : Bool :=
  [(0x4101, 0x10), (0x5800, 0x11), (0x5200, 0x13), (0x8100, 0x15)].all (fun x =>
    decide ((i.tableRows x.1).length ≤ i.value 0x4000 x.2))
  && decide (((i.tableRows 0x8200).filter (fun r => decide (r.1 < 65536))).length ≤ i.value 0x4000 0x14)

/-- Whether no value, row or combination would be refused by a commit of the same content (R78, R470). -/
def DictImage.consistent (i : DictImage) : Bool :=
  let c := i.plan
  let banks := i.value 0x4000 1
  i.entries.all (fun e => decide (c.entryStatus banks (e.1 / 256) (e.1 % 256) = 0))
    && i.rows.all (fun r => decide (c.rowStatus r.tbl r.pos r.vals = 0))

/-- The image that octets spell, if it is valid for this device: `signed` tells whether both signatures verify (R78 to
R80). -/
def State.imageOf (s : State) (b : Bytes) (signed : Bool) : Option DictImage :=
  let len := leAt b 8 4
  let body := b.take len
  let hash := leNat (toBE 48 (Config.sha384 body).toNat)
  if leAt b 0 4 ≠ 0x5A4F4449 ∨ leAt b 4 2 ≠ 1 ∨ leAt b 6 2 ≠ s.stat 0x1000 3 ∨ b.length ≠ len + 3453 ∨ len < 72
    ∨ leAt b 12 4 < s.dict.image.seq ∨ Config.firmwareBuild.toNat < leAt b 16 4 ∨ leAt b 24 40 ≠ 0
    ∨ leAt b len 48 ≠ hash ∨ !signed then none
  else match tlvs (len / 8) (body.drop 64) with
    | none => none
    | some l =>
      if l.length + 1 ≠ leAt b 20 4 then none
      else match takeRecords l with
        | none => none
        | some i =>
          if i.partitionOk ∧ i.rowsFit ∧ i.consistent then some { i with seq := leAt b 12 4, hash := hash } else none

/-! ### Upload and activation (R80) -/

/-- The uploaded image is verified: kept as the candidate, or discarded with event 0x0101 (R80). -/
def State.keepImage (c : Caller) (signed : Bool) (b : Bytes) (s : State) : State :=
  let s : State := { s with dict := { s.dict with domains := kput (fun _ => []) s.dict.domains (dkey 0x1300 0x10) [] } }
  match s.imageOf b signed with
  | some i => ({ s with dict := { s.dict with candidate := some ⟨i, false⟩ } } : State).setStat 0x1300 0x11 0
  | none => (s.setStat 0x1300 0x11 0x0C).raiseEvent (ifaceSource c.iface) 0x0101 0x0C

/-- A segment of an image upload; with the last one the candidate is verified (R80). -/
def State.uploadSegment (s : State) (c : Caller) (off : Nat) (data : Bytes) (last signed : Bool) : State :=
  s.writeSegment c 0x1300 0x10 off data last (fun _ _ => 0)
    (State.keepImage c signed) id

/-- IMAGE_UPLOAD: the last segment (R80). -/
def execImageUpload (t : Nat) (c : Caller) (off : Nat) (data : Bytes) (signed : Bool) (s : State) : Out :=
  happenBy c t true s (fun s => s.uploadSegment c off data true signed)

/-- A write of `1300h.12`: the valid candidate is marked for activation; its record has kind 4 (R67, R80). -/
def State.activateImage (s : State) (c : Caller) : State :=
  let k := s.keyEpoch
  let s := (s.keyRequest c 2 0x1300 0x12 [1]).touchSession c
  let st := s.writeStatus c k 0x1300 0x12 [1]
  match st, s.dict.candidate with
  | 0, some x =>
    ({ s with dict := { s.dict with candidate := some { x with marked := true } } } : State).acceptWrite c 4 0x1300 0x12 0 1 0 0
  | 0, none => s.reply c 0x0B 0 0
  | n, _ => (if s.follows then s.withhold else s).reply c n 0 0

/-- IMAGE_ACTIVATE (R80). -/
def execImageActivate (t : Nat) (c : Caller) (s : State) : Out := happenBy c t true s (fun s => s.activateImage c)

end Sys2Proof.Machine
end

