-- ==== Sys2Proof/Machine/Access.lean ====
section
/-! DEFINITION. Dictionary access: staging commands and the arming of a commit, the commands that time ends, and management
sessions (R56, R60 to R66, R71 to R73, R440, R441, R471). -/

namespace Sys2Proof.Machine

open Sys2Proof

/-! ### Staging commands (R62, R63) -/

/-- A refused write: a follower withholds it, and the caller has its status. -/
def State.refuse (s : State) (c : Caller) (st : Nat) : State := (if s.follows then s.withhold else s).reply c st 0 0

/-- DISCARD_STAGING's request (R62). -/
def State.discardStaging (s : State) (c : Caller) (data : Bytes) : State :=
  let k := s.keyEpoch
  let s := (s.keyRequest c 2 0x1300 1 data).touchSession c
  let st := s.writeStatus c k 0x1300 1 data
  let g := s.dict.staging
  if st ≠ 0 ∧ st ≠ 0x0B then s.refuse c st
  else if g.state = .armed ∨ (g.state = .open_ ∧ g.owner ≠ some c) then s.refuse c 9
  else if st ≠ 0 then s.refuse c st
  else (if g.state = .open_ then s.emptyStaging else s).acceptWrite c 0 0x1300 1 0 1 0 0

/-- DISCARD_STAGING (R62). -/
def execDiscardStaging (t : Nat) (c : Caller) (s : State) : Out := happenBy c t true s (fun s => s.discardStaging c [1])

/-- The apply epoch that a commit of key epoch `k` gets, with the boundary B of mode 1, or the status that refuses it (R63). -/
def State.commitEpoch (s : State) (c : Caller) (k : Nat) : Except Nat (Nat × Option Nat) :=
  let given := s.ownVal c 0x1301 2
  if s.ownVal c 0x1301 1 = 0 then
    if given = 0 then .ok (k + 4, none)
    else if k + 4 ≤ given ∧ given ≤ k + 33554432 then .ok (given, none)
    else .error 0x0A
  else if s.orderHeld then .error 0x0B
  else
    let g := s.gate (s.ownVal c 0x1301 3)
    match g.enabled, g.listAt s.workingNs with
    | true, some l =>
      let b := l.firstAfter ((k + 3) * 32)
      .ok ((b + 31) / 32, some b)
    | _, _ => .error 0x0B

/-- Note the result of an attempt to arm a commit (`1302h.05`, `.08`). -/
def State.commitResult (s : State) (result refused : Nat) : State :=
  { s with dict := { s.dict with staging := { s.dict.staging with result := result, refused := refused } } }

/-- The first arming check that fails at apply epoch `e`, of R470 or of R234 for mode 1. -/
def State.commitFault (s : State) (c : Caller) (e : Nat) (b : Option Nat) : Option (Nat × Nat) :=
  match s.armingFault e with
  | some x => some x
  | none => b.bind (fun b => s.modeOneFault e (s.ownVal c 0x1301 3) b)

/-- Arm the commit: its record has kind 3 (R63, R67). -/
def State.armCommit (s : State) (c : Caller) (e : Nat) (b : Option Nat) : State :=
  let key := s.lastKey (ifaceSource c.iface)
  let s := s.commitResult 0 0
  let s := { s with dict := { s.dict with staging := { s.dict.staging with
      state := .armed, owner := some c, epoch := e, gateB := b, armed := key } } }
  s.acceptWrite c 3 0x1301 4 0 1 0 e

/-- EXECUTE_COMMIT's request (R63, R467, R470); its record carries the caller's mode, epoch and port. -/
def State.executeCommit (s : State) (c : Caller) (data : Bytes) : State :=
  let k := s.keyEpoch
  let own := toLE 1 (s.ownVal c 0x1301 1) ++ toLE 8 (s.ownVal c 0x1301 2) ++ toLE 1 (s.ownVal c 0x1301 3)
  let s := (s.keyRequest c 2 0x1301 4 (data ++ own)).touchSession c
  let st := s.writeStatus c k 0x1301 4 data
  if st ≠ 0 ∧ st ≠ 0x0B then s.refuse c st
  else if s.stagingBusy c then s.refuse c 9
  else match s.commitEpoch c k with
    | .error 0x0A => (s.commitResult 0x0A 0).refuse c 0x0A
    | .error n => (if st = 0 then s.commitResult n 0 else s).refuse c n
    | .ok (e, b) =>
      if st ≠ 0 then s.refuse c st
      else match s.commitFault c e b with
        | some (n, a) => (s.commitResult n a).refuse c n
        | none => s.armCommit c e b

/-- EXECUTE_COMMIT (R63). -/
def execExecuteCommit (t : Nat) (c : Caller) (s : State) : Out := happenBy c t true s (fun s => s.executeCommit c [1])

/-! ### What time ends -/

/-- DOMAIN_WRITE_TIMEOUT (R60). -/
def execDomainWriteTimeout (t : Nat) (s : State) : Out := happen t true s State.expireWrites

/-- OVERLAY_WRITE_COMPLETE: the records of applied changes stand in eMRAM (R65). -/
def execOverlayWriteComplete (t : Nat) (s : State) : Out :=
  happen t true s (fun s =>
    { s with dict := { s.dict with overlay := s.dict.overlay.map (fun r => { r with done := true }) } })

/-- SESSION_IDLE_TIMEOUT: the session's idle time exceeds the timeout (R441). -/
def execSessionIdleTimeout (t sid : Nat) (s : State) : Out :=
  happen t (decide (1 ≤ sid) && decide (sid ≤ 8)) s (fun s => s.closeIdle sid)

/-- DAP_LOCKOUT_END: 60 s have passed since the eighth failed proof (R72). -/
def dapLockoutEnd (s : State) : State :=
  match s.access.lockout with
  | some e => if e ≤ s.time.orderNs then { s with access := { s.access with lockout := none } } else s
  | none => s

/-- DAP_LOCKOUT_END (R72). -/
def execDapLockoutEnd (t : Nat) (s : State) : Out := happen t true s dapLockoutEnd

/-- OPEN_PROOF_TIMEOUT: no valid proof within 1 s of the challenge (R72). -/
def execOpenProofTimeout (t sid : Nat) (s : State) : Out :=
  happen t (decide (1 ≤ sid) && decide (sid ≤ 8)) s (fun s =>
    let x := s.session sid
    if x.state = 1 ∧ x.dueNs < s.time.orderNs then s.modSession sid (fun _ => Session.free) else s)

/-! ### Opening a session (R72, R471) -/

/-- The lowest free session. -/
def State.freeSession (s : State) : Option Nat := ((List.range 8).map (· + 1)).find? (fun n => decide ((s.session n).state = 0))

/-- Status of an open request: the slot rule, then a free session (R72). -/
def State.openStatus (s : State) (slot : Nat) : Nat :=
  if !s.slotUsable slot 0 0 then 7 else if s.freeSession.isNone then 9 else 0

/-- Open a session as far as the challenge: its nonce, a random number of 16 bytes, is drawn. -/
def State.challenge (s : State) (n : Nat) (host : Bool) (slot ip port nc seq : Nat) : State :=
  let x : Session := ⟨1, host, slot, ip, port, s.time.orderNs, 0, nc, s.random % 2 ^ 128, s.time.orderNs + 1000000000, seq, 1, 0⟩
  (s.modSession n (fun _ => x)).drawFree

/-- The proof expected of session `n`: AES-CMAC under the slot's key over identifier, Nc and Nd (R72). -/
def State.expectedProof (s : State) (n : Nat) : Bytes :=
  let x := s.session n
  toBE 16 (Config.cmac (s.slot x.slot).value (toBE 2 n ++ toBE 16 x.nc ++ toBE 16 x.nd)).toNat

/-- Whether a proof opens session `n`: on its interface, in time, verified under a slot still usable. -/
def State.proofOk (s : State) (n : Nat) (host : Bool) (mac : Bytes) : Bool :=
  let x := s.session n
  decide (x.state = 1) && decide (x.host = host) && decide (s.time.orderNs ≤ x.dueNs) && s.slotUsable x.slot 0 0
    && decide (mac = s.expectedProof n)

/-- Open the session: its idle time starts. -/
def State.openSession (s : State) (n : Nat) : State :=
  s.modSession n (fun x => { x with state := 2, idleNs := s.time.orderNs })

/-- The key a host request is taken under. -/
def State.keyHost (s : State) : State := s.issueKey (ifaceSource .host)

/-- SESSION_OPEN over PCIe: the reply's caller names the assigned session, its value is the nonce Nd (R471). -/
def State.hostOpen (s : State) (slot : Nat) (nonce : Bytes) : State :=
  let s := s.keyHost
  let st := if nonce.length ≠ 16 then 4 else s.openStatus slot
  match st, s.freeSession with
  | 0, some n =>
    let s := s.challenge n true slot 0 0 (beNat nonce) 0
    s.reply ⟨.host, n⟩ 0 (leNat (toBE 16 (s.session n).nd)) 16
  | st, _ =>
    let s := if st = 7 then s.keyRefused else s
    s.reply ⟨.host, 0⟩ st 0 0

/-- SESSION_OPEN (R471). -/
def execSessionOpen (t slot : Nat) (nonce : Bytes) (s : State) : Out := happen t true s (fun s => s.hostOpen slot nonce)

/-- SESSION_PROOF over PCIe: the session opens, or is freed with status 0x0007 (R471). -/
def State.hostProof (s : State) (sid : Nat) (mac : Bytes) : State :=
  let s := s.keyHost
  let x := s.session sid
  let c : Caller := ⟨.host, sid⟩
  if sid = 0 ∨ 8 < sid ∨ x.state ≠ 1 ∨ !x.host then s.reply c 7 0 0
  else if s.proofOk sid true mac then (s.openSession sid).reply c 0 (s.reg 0x1020 2) 4
  else ((s.modSession sid (fun _ => Session.free)).count32 0x1020 3).reply c 7 0 0

/-- SESSION_PROOF (R471). -/
def execSessionProof (t sid : Nat) (mac : Bytes) (s : State) : Out := happen t true s (fun s => s.hostProof sid mac)

/-- SESSION_CLOSE: the response is sent, then the caller's session closes (R73, R471). -/
def State.closeOwn (s : State) (c : Caller) : State :=
  let k := s.keyEpoch
  let s := s.issueKey (ifaceSource c.iface)
  if s.sessionLive c k then ((s.touchSession c).reply c 0 0 0).endSession c.session else s.reply c 7 0 0

/-- SESSION_CLOSE (R73, R471). -/
def execSessionClose (t : Nat) (c : Caller) (s : State) : Out := happenBy c t true s (fun s => s.closeOwn c)

/-- NOP probes liveness (R68). -/
def State.nop (s : State) (c : Caller) : State :=
  let k := s.keyEpoch
  let s := s.issueKey (ifaceSource c.iface)
  if c.session ≠ 0 ∧ (c.iface = .host ∨ c.iface = .mgmt) ∧ ¬ s.sessionLive c k then s.reply c 7 0 0
  else (s.touchSession c).reply c 0 0 0

/-- NOP (R68). -/
def execNop (t : Nat) (c : Caller) (s : State) : Out := happenBy c t true s (fun s => s.nop c)

/-- A write of `1020h.06`: the named session closes after the response, a free slot is refused (R440). -/
def State.closeNamed (s : State) (c : Caller) (n : Nat) : State :=
  s.dictWrite c 0x1020 6 (toLE 1 n) (fun s v => if (s.session v).state = 0 then 0x0F else 0) (fun v s => s.endSession v)

/-- CLOSE_SESSION (R440). -/
def execCloseSession (t : Nat) (c : Caller) (n : Nat) (s : State) : Out := happenBy c t true s (fun s => s.closeNamed c n)

end Sys2Proof.Machine
end

