-- ==== Sys2Proof/Machine/BasinFamily.lean ====
section
/-! DEFINITION. Banks, audits, rewrites, the capture ledger and the slow path (R153, R154, R159, R183, R204 to R211, R216). -/

namespace Sys2Proof.Machine

open Sys2Proof

/-! ### Bank retirement (R206 to R208) -/

/-- The request of execBankRetire. -/
def State.reqBankRetire (s : State) (c : Caller) (b : Nat) : State :=
  s.dictWrite c 0x4001 0x41 (toLE 1 b) noExtra (fun v s => s.retireBank v)

/-- BANK_RETIRE: a write of a bank number to `4001h.41` (R206). -/
def execBankRetire (t : Nat) (c : Caller) (b : Nat) (s : State) : Out :=
  happenBy c t true s (fun s => s.reqBankRetire c b)

/-- FRAME_BANK_WALK_DONE: every copy that references the bank is dropped or stomped, and counted (R207). -/
def frameBankWalkDone (b : Nat) (s : State) : State :=
  if b ∈ s.basin.retiring then
    let hit := fun (c : Copy) => match s.frame c.frame with
      | some f => f.cells.any (fun x => decide (x / 8192 = b))
      | none => false
    let s := (s.basin.copies.filter hit).foldl (fun s c =>
      if s.begun c then s.failCopy c else (s.dropCopy c).count64 0x4010 0x10 1) s
    s.settleRetiring
  else s

/-- FRAME_BANK_WALK_DONE (R207). -/
def execFrameBankWalkDone (t b : Nat) (s : State) : Out := happen t (decide (b < 64)) s (frameBankWalkDone b)

/-- TABLE_BANK_REBUILD_DONE: lookups use the spare, the old bank is retired, and a bank that waited finds no spare (R208). -/
def tableBankRebuildDone (s : State) : State :=
  match s.basin.rebuild with
  | none => s
  | some b =>
    let waits := !s.basin.rebuildWait.isEmpty
    let s := { s with basin := { s.basin with
      rebuild := none, rebuildWait := [], spareUsed := true, retired := s.basin.retired ++ [b] } }
    if waits then s.orStat 0x4001 0x45 1 else s

/-- TABLE_BANK_REBUILD_DONE (R208). -/
def execTableBankRebuildDone (t : Nat) (s : State) : Out := happen t true s tableBankRebuildDone

/-! ### Table errors (R159, R183, R204 to R206) -/

/-- Mark static rows whose check fails. -/
def State.markBad (s : State) (rows : List (Nat × Nat)) : State :=
  { s with basin := { s.basin with bad := s.basin.bad ++ rows.filter (fun r => decide (r ∉ s.basin.bad)) } }

/-- TABLE_AUDIT_PASS: the entries that fail their check, static and dynamic, take their miss action until they are obtained
again (R204 to R206). -/
def tableAuditPass (static_ dynamic : List (Nat × Nat)) (s : State) : State :=
  let s := s.markBad static_
  { s with basin := { s.basin with
      badSlots := s.basin.badSlots ++ dynamic.filter (fun r => decide (r ∉ s.basin.badSlots)) } }

/-- TABLE_AUDIT_PASS (R206). -/
def execTableAuditPass (t : Nat) (static_ dynamic : List (Nat × Nat)) (s : State) : Out :=
  happen t true s (tableAuditPass static_ dynamic)

/-- STATIC_ENTRY_REWRITE: a failing entry is rewritten from the master copy; when its read-back fails, the error is
confirmed for its bank and the entry stays to be rewritten (R204). -/
def staticEntryRewrite (tbl pos bank : Nat) (good : Bool) (s : State) : State :=
  if (tbl, pos) ∈ s.basin.bad then
    if good then { s with basin := { s.basin with bad := s.basin.bad.filter (fun r => decide (r ≠ (tbl, pos))) } }
    else s.confirmError bank
  else s

/-- STATIC_ENTRY_REWRITE (R204). -/
def execStaticEntryRewrite (t tbl pos bank : Nat) (good : Bool) (s : State) : Out :=
  happen t (decide (bank < 64)) s (staticEntryRewrite tbl pos bank good)

/-- TERNARY_REWRITE: with `detected`, a ternary row fails its parity; without, it is rewritten from the master copy (R159). -/
def ternaryRewrite (row : Nat) (detected : Bool) (s : State) : State :=
  if detected then s.markBad [(0x5100, row)]
  else { s with basin := { s.basin with bad := s.basin.bad.filter (fun r => decide (r ≠ (0x5100, row))) } }

/-- TERNARY_REWRITE (R159). -/
def execTernaryRewrite (t row : Nat) (detected : Bool) (s : State) : Out :=
  happen t (decide (row < 8192)) s (ternaryRewrite row detected)

/-- A dynamic slot no longer fails. -/
def State.clearBadSlot (s : State) (tbl slot : Nat) : State :=
  { s with basin := { s.basin with badSlots := s.basin.badSlots.filter (fun r => decide (r ≠ (tbl, slot))) } }

/-- Invalidate a failed dynamic entry (R183, R205, R295): a learnt FDB entry, a session, a meter, an FRER function, a PDU's state and
image, a freshness counter. -/
def State.invalidateSlot (s : State) (tbl slot : Nat) : State :=
  let b := s.basin
  if tbl = 0x4101 then { s with basin := { b with fdb := kdel b.fdb slot } }
  else if tbl = 0x6200 then s.dropSession slot
  else if tbl = 0x5B00 then { s with basin := { b with meters := kdel b.meters slot } }
  else if tbl = 0x5C00 then { s with basin := { b with frer := kdel b.frer slot } }
  else if tbl = 0x8100 then
    let x := s.pdu s.keyEpoch slot
    let fresh : PduState := { PduState.fresh x.defn x.since with imageErr := true }
    ({ s with ford := { s.ford with
        pdus := kins s.ford.pdus slot fresh, images := kdel s.ford.images slot, pulled := kdel s.ford.pulled slot } } :
      State).fordCount 0x27 1
  else if tbl = 0x8400 then { s with ford := { s.ford with fresh := kdel s.ford.fresh slot } }
  else s

/-- DYNAMIC_ENTRY_FETCH: a failed entry is good again when the partner's copy came in time, else it is invalidated (R205). -/
def dynamicEntryFetch (tbl slot : Nat) (fetched : Bool) (s : State) : State :=
  if (tbl, slot) ∈ s.basin.badSlots then
    let s' := s.clearBadSlot tbl slot
    if fetched && s.internalUp 31 then s' else s'.invalidateSlot tbl slot
  else s

/-- DYNAMIC_ENTRY_FETCH (R205). -/
def execDynamicEntryFetch (t tbl pos : Nat) (fetched : Bool) (s : State) : Out :=
  happen t true s (dynamicEntryFetch tbl pos fetched)

/-- SESSION_REFETCH_COMPLETE: the slot is good again when the pair is in SYNC and the fetch completed, else its session is
gone (R183). -/
def sessionRefetchComplete (slot : Nat) (fetched : Bool) (s : State) : State :=
  if (0x6200, slot) ∈ s.basin.badSlots then
    let s' := s.clearBadSlot 0x6200 slot
    if fetched && s.internalUp 31 then s' else s'.dropSession slot
  else s

/-- SESSION_REFETCH_COMPLETE (R183). -/
def execSessionRefetchComplete (t slot : Nat) (fetched : Bool) (s : State) : Out :=
  happen t true s (sessionRefetchComplete slot fetched)

/-! ### The free-list auditor (R210, R211) -/

/-- One cell of a pass that no chain and no free list holds: its strikes rise, and at two it is reclaimed. -/
def State.strikeCell (s : State) (x : Nat × Nat) : State :=
  if 1 ≤ x.2 then
    let s := (s.count64 0x4020 3 1).setStat 0x4020 4 x.1
    s.raiseEvent (0x0500 + x.1 / 8192) 0x0601 x.1
  else { s with basin := { s.basin with leaked := s.basin.leaked ++ [(x.1, x.2 + 1)] } }

/-- A frame whose chain or count fails its walk: every copy is dropped or stomped (R211). -/
def State.corruptFrame (s : State) (id : Nat) : State :=
  let s := s.modFrame id (fun (f : Frame) => { f with corrupt := true })
  (s.basin.copies.filter (fun c => decide (c.frame = id))).foldl (fun s c =>
    if s.begun c then s.failCopy c else (s.dropCopy c).count64 0x4020 5 1) s

/-- FREELIST_AUDIT_PASS: `lost` are cells that have left their chain and free list since the last pass, `corrupt` the frames
whose walk fails (R210, R211). -/
def freelistAuditPass (lost corrupt : List Nat) (s : State) : State :=
  let fresh := (distinct lost).filter (fun x => decide (x / 8192 < s.frameBanks) && s.bankServes (x / 8192) && decide (x ∉ s.cellsUsed))
  let cells := s.basin.leaked ++ fresh.map (fun x => (x, 0))
  let s := { s with basin := { s.basin with leaked := [] } }
  let s := cells.foldl State.strikeCell s
  ((corrupt.foldl State.corruptFrame s).countSeq 0x4020 2 32).writeWaiting

/-- FREELIST_AUDIT_PASS (R210). -/
def execFreelistAuditPass (t : Nat) (lost corrupt : List Nat) (s : State) : Out :=
  happen t true s (freelistAuditPass lost corrupt)

/-! ### Capture ledger (R216) -/

/-- LEDGER_TRIGGER: the trigger that a committed event or a capture edge left is taken. -/
def ledgerTriggerNow (s : State) : State :=
  match s.journal.trigger with
  | none => s
  | some (cause, key) => ({ s with journal := { s.journal with trigger := none } } : State).ledgerTrigger cause key

/-- LEDGER_TRIGGER (R216). -/
def execLedgerTrigger (t : Nat) (s : State) : Out := happen t true s ledgerTriggerNow

/-- Command 0x01: all records are discarded and the ledger runs (R216). -/
def ledgerRestart (s : State) : State :=
  if s.ledgerServing = 0 then s
  else
    let s : State := { s with basin := { s.basin with ledger := [], ledgerLeft := 0 } }
    ({ s with journal := { s.journal with trigger := none } } : State).setStat 0x4400 1 1

/-- The request of execLedgerRestart. -/
def State.reqLedgerRestart (s : State) (c : Caller) : State :=
  s.dictWrite c 0x4400 2 [0x01] noExtra (fun _ s => ledgerRestart s)

/-- LEDGER_RESTART (R216). -/
def execLedgerRestart (t : Nat) (c : Caller) (s : State) : Out :=
  happenBy c t true s (fun s => s.reqLedgerRestart c)

/-- The request of execLedgerFreeze. -/
def State.reqLedgerFreeze (s : State) (c : Caller) : State :=
  s.dictWrite c 0x4400 2 [0x02] noExtra
    (fun _ s => s.ledgerTrigger 3 (s.lastKey (ifaceSource c.iface)))

/-- LEDGER_FREEZE: command 0x02 triggers the ledger (R216). -/
def execLedgerFreeze (t : Nat) (c : Caller) (s : State) : Out :=
  happenBy c t true s (fun s => s.reqLedgerFreeze c)

/-! ### Reassembly and the slow path (R153, R154) -/

/-- What a fragment carries: the datagram it belongs to, its offset, whether more follow, the headers and the data. -/
structure FragInfo where
  flow   : Nat
  off    : Nat
  more   : Bool
  header : Bytes
  data   : Bytes
  deriving DecidableEq, Repr

/-- The Fragment header of an IPv6 datagram: the place of the next-header byte that names it, and its own. -/
def findFrag6 (b : Bytes) : Nat → Nat → Nat → Option (Nat × Nat)
  | 0, _, _ => none
  | fuel + 1, nhPos, h =>
    let nh := byteAt b nhPos
    if nh = 44 then some (nhPos, h)
    else if nh = 0 ∨ nh = 43 ∨ nh = 60 then findFrag6 b fuel h (h + (byteAt b (h + 1) + 1) * 8)
    else if nh = 51 then findFrag6 b fuel h (h + (byteAt b (h + 1) + 2) * 4)
    else none

/-- The fragment of a parsed frame. -/
def fragInfo (p : Parsed) (b : Bytes) : Option FragInfo :=
  match p.ipOff with
  | none => none
  | some h =>
    if p.v6 then
      match findFrag6 b 6 (h + 6) (h + 40) with
      | none => none
      | some (pos, fo) => some ⟨leNat (slice b (h + 8) 32 ++ slice b (fo + 4) 4 ++ [1]), beAt b (fo + 2) 2 / 8 * 8,
          bitOf (byteAt b (fo + 3)) 0, b.take pos ++ slice b fo 1 ++ (b.take fo).drop (pos + 1),
          slice b (fo + 8) (h + p.ipLen - (fo + 8))⟩
    else
      let w := beAt b (h + 6) 2
      some ⟨leNat (slice b (h + 12) 8 ++ slice b (h + 4) 2 ++ slice b (h + 9) 1), w % 8192 * 8, bitOf w 13,
        b.take (h + 20), slice b (h + 20) (p.ipLen - 20)⟩

/-- Bytes of a datagram's fragments so far. -/
def Datagram.held (d : Datagram) : Nat := d.parts.foldl (fun a x => a + x.2.length) 0

/-- Whether every byte of a datagram has been received. -/
def Datagram.whole (d : Datagram) : Bool := match d.total with | some n => decide (d.held = n) | none => false

/-- Whether a fragment overlaps what is held. -/
def Datagram.overlaps (d : Datagram) (off n : Nat) : Bool :=
  d.parts.any (fun x => decide (x.1 < off + n) && decide (off < x.1 + x.2.length))

/-- Take a fragment into its datagram: 256 at a time, at most 9,216 bytes, no overlaps; each discard is counted once. -/
def State.takeFragment (s : State) (port : Nat) (x : FragInfo) : State :=
  let mine := fun (d : Datagram) => decide (d.port = port) && decide (d.flow = x.flow)
  let put := fun (s : State) (d : Datagram) =>
    let tooBig := decide (9216 < x.off + x.data.length) ||
      (match d.total with | some n => decide (n < x.off + x.data.length) | none => false)
    if d.overlaps x.off x.data.length || tooBig then s.count64 0x5400 0x16 1
    else
      let up : Datagram := { d with
        parts := insertSorted (fun a b => decide (a.1 < b.1)) (x.off, x.data) d.parts,
        total := if x.more then d.total else some (x.off + x.data.length) }
      { s with basin := { s.basin with datagrams := s.basin.datagrams ++ [up] } }
  match takeFirst mine s.basin.datagrams with
  | some (d, rest) => put { s with basin := { s.basin with datagrams := rest } } d
  | none =>
    if 256 ≤ s.basin.datagrams.length then s.count64 0x5400 0x16 1
    else put s ⟨port, x.flow, s.time.raw, x.header, [], none⟩

/-- SLOW_PATH_FRAME: LP0 takes a frame of CP queue 1: a fragment is reassembled; any other is recorded and goes to its
handler, or is discarded where no partition registers one (R153, R154). -/
def slowPathFrame (handled : Bool) (s : State) : State :=
  match s.basin.cluster with
  | [] => s
  | f :: rest =>
    let s := { s with basin := { s.basin with cluster := rest } }
    let p := s.parse f.key.epoch f.bytes (f.bytes.length + 4) 0
    match (if f.exc = 0 ∧ p.isFragment then fragInfo p f.bytes else none) with
    | some x => s.takeFragment f.port x
    | none =>
      let s := s.raiseKeyed f.key 0x0401 (f.exc + 256 * leNat (slice f.bytes 0 15))
      if handled then s else s.count64 0x5400 0x1A 1

/-- SLOW_PATH_FRAME (R154). -/
def execSlowPathFrame (t : Nat) (handled : Bool) (s : State) : Out := happen t true s (slowPathFrame handled)

/-- FRAGMENT_REASSEMBLY_TIMEOUT: datagrams not whole within `5300h.23` are discarded (R153). -/
def reassemblyTimeout (s : State) : State :=
  let late := fun (d : Datagram) => !d.whole && decide (d.since + s.reg 0x5300 0x23 * 1000000 ≤ s.time.raw)
  let n := (s.basin.datagrams.filter late).length
  ({ s with basin := { s.basin with datagrams := s.basin.datagrams.filter (fun d => !late d) } } : State).count64 0x5400 0x16 n

/-- FRAGMENT_REASSEMBLY_TIMEOUT (R153). -/
def execFragmentReassemblyTimeout (t : Nat) (s : State) : Out := happen t true s reassemblyTimeout

/-- Sum of 16-bit words with end-around carry, complemented. -/
def ipChecksum (b : Bytes) : Nat :=
  let sum := (List.range (b.length / 2)).foldl (fun a i => a + beAt b (2 * i) 2) 0
  let f := sum % 65536 + sum / 65536
  65535 - (f % 65536 + f / 65536)

/-- The whole datagram as one frame without FCS: its header with the fragment fields cleared, then its data. -/
def Datagram.frame (d : Datagram) (h : Nat) (v6 : Bool) : Bytes :=
  let data := d.parts.flatMap Prod.snd
  let eth := d.header.take h
  let ip := d.header.drop h
  let ip := if v6 then ip.take 4 ++ toBE 2 (ip.length - 40 + data.length) ++ ip.drop 6
    else
      let z := ip.take 2 ++ toBE 2 (20 + data.length) ++ slice ip 4 2 ++ [0, 0] ++ slice ip 8 2 ++ [0, 0] ++ slice ip 12 8
      z.take 10 ++ toBE 2 (ipChecksum z) ++ z.drop 12
  let b := eth ++ ip ++ data
  b ++ List.replicate (60 - b.length) 0

/-- DATAGRAM_REINJECT: a whole datagram enters on CP under a key of the LP0 core, classified as its original port's (R153). -/
def datagramReinject (s : State) : State :=
  match (if s.portUp 29 then takeFirst Datagram.whole s.basin.datagrams else none) with
  | none => s
  | some (d, rest) =>
    let s := ({ s with basin := { s.basin with datagrams := rest } } : State).count64 0x5400 0x15 1
    let o := typeOffset d.header
    let b := d.frame (o + 2) (decide (beAt d.header o 2 = 0x86DD))
    s.takeFrame 29 d.port 0x0300 ⟨b, b.length + 4, s.time.raw, .none, false, none⟩ s.time.raw 0 true

/-- DATAGRAM_REINJECT (R153). -/
def execDatagramReinject (t : Nat) (s : State) : Out := happen t true s datagramReinject

end Sys2Proof.Machine
end

