-- ==== Sys2Proof/Machine/JournalFamily.lean ====
section
/-! DEFINITION. Event journal, counter snapshots, checkpoint images and measurements (R409 to R422). -/

namespace Sys2Proof.Machine

open Sys2Proof

/-! ### Events -/

/-- Whether a code is listed in Table 17.2. -/
def listedCode (code : Nat) : Bool :=
  decide (code ∈ [0x0101, 0x0102, 0x0103, 0x0201, 0x0202, 0x0203, 0x0204, 0x0301, 0x0302, 0x0303, 0x0401, 0x0501, 0x0601,
    0x0602, 0x0801, 0x0802, 0x0901, 0x0902, 0x0903, 0x0A01, 0x0A02, 0x0A03, 0x0A04, 0x0B01, 0x0B02, 0x0E01, 0x0F01,
    0x0F02]) || (decide (0x0C00 ≤ code) && decide (code < 0x0D00))

/-- JOURNAL_EVENT_RAISED: an event enters the reorder buffer; class 0x0C is raised only at reaction 1 or higher, which is
its first argument byte, and gives its severity (R410, R415). -/
def journalEventRaised (ev : RaisedEvent) (s : State) : State :=
  if !listedCode ev.code then s
  else if 0x0C00 ≤ ev.code ∧ ev.code < 0x0D00 then
    if ev.args % 256 = 0 then s
    else s.arriveEvent (mkEvent ev.key ev.ns ev.code (if ev.args % 256 = 1 then 1 else 3) ev.args)
  else s.arriveEvent (mkEvent ev.key ev.ns ev.code (eventSeverity ev.code) ev.args)

/-- JOURNAL_EVENT_RAISED (R410). -/
def execJournalEventRaised (t : Nat) (ev : RaisedEvent) (s : State) : Out := happen t true s (journalEventRaised ev)

/-- JOURNAL_COMMIT: every event whose hold has ended is committed, in order-key order (R410). -/
def journalCommit (s : State) : State :=
  let due := s.journal.reorder.takeWhile (fun ev => decide ((ev.key.epoch + 512) * 32 ≤ s.time.orderNs))
  let rest := s.journal.reorder.dropWhile (fun ev => decide ((ev.key.epoch + 512) * 32 ≤ s.time.orderNs))
  due.foldl State.commitEvent { s with journal := { s.journal with reorder := rest } }

/-- JOURNAL_COMMIT (R410). -/
def execJournalCommit (t : Nat) (s : State) : Out := happen t true s journalCommit

/-- PERSISTENT_JOURNAL_WRITE: the oldest entry that waits is written; a repeat updates its copy's count (R414). -/
def persistentJournalWrite (s : State) : State :=
  match s.journal.toPersist with
  | [] => s
  | e :: rest =>
    let j := { s.journal with toPersist := rest }
    if j.persistent.any (fun x => decide (x.ev = e.ev)) then
      let p := modWhere (fun (x : JEntry) => decide (x.ev = e.ev)) (fun x => { x with count := e.count }) j.persistent
      { s with journal := { j with persistent := p } }
    else
      let kept := if j.persistent.length < 512 then j.persistent else j.persistent.drop 1
      let no := (j.persistNo + 1) % 2 ^ 32
      { s with journal := { j with persistNo := no, persistent := kept ++ [{ e with number := no }] } }

/-- PERSISTENT_JOURNAL_WRITE (R414). -/
def execPersistentJournalWrite (t : Nat) (s : State) : Out := happen t true s persistentJournalWrite

/-- The newest journal number given, 0 when none (R411). -/
def Journal.newest (j : Journal) : Nat :=
  match j.held.reverse with
  | e :: _ => e.number
  | [] => 0

/-- The oldest journal number held, 0 when none. -/
def Journal.oldest (j : Journal) : Nat :=
  match j.held with
  | e :: _ => e.number
  | [] => 0

/-- How far below the newest number a number lies. -/
def Journal.age (j : Journal) (n : Nat) : Nat := (j.newest + 2 ^ 32 - n % 2 ^ 32) % 2 ^ 32

/-- JOURNAL_ACKNOWLEDGE: every held entry up to and including `n` is read (R411). -/
def acknowledgeJournal (n : Nat) (s : State) : State :=
  { s with journal := { s.journal with
    held := s.journal.held.map (fun (e : JEntry) => if s.journal.age n ≤ s.journal.age e.number then { e with acked := true } else e) } }

/-- The request of execJournalAcknowledge. -/
def State.reqJournalAcknowledge (s : State) (c : Caller) (n : Nat) : State :=
  s.dictWrite c 0x1200 3 (toLE 4 n)
    (fun s v => if s.journal.held ≠ [] ∧ s.journal.age v ≤ s.journal.age s.journal.oldest then 0 else 5)
    (fun v s => acknowledgeJournal v s)

/-- JOURNAL_ACKNOWLEDGE: a number newer than the newest or older than the oldest held is refused (R411). -/
def execJournalAcknowledge (t : Nat) (c : Caller) (n : Nat) (s : State) : Out :=
  happenBy c t true s (fun s => s.reqJournalAcknowledge c n)

/-! ### Snapshots (R417) -/

/-- The snapshot groups of Table 17.5, as first and last sub-index of the group that holds a counter. -/
def groupRange (idx sub : Nat) : Option (Nat × Nat) :=
  if 0x3080 ≤ idx ∧ idx < 0x30A0 then
    if 1 ≤ sub ∧ sub ≤ 0x0D then some (1, 0x0D)
    else if 0x10 ≤ sub ∧ sub ≤ 0x1B then some (0x10, 0x1B)
    else if 0x20 ≤ sub ∧ sub ≤ 0x21 then some (0x20, 0x21) else none
  else if 0x3100 ≤ idx ∧ idx < 0x3114 ∧ 0x10 ≤ sub ∧ sub ≤ 0x19 then some (0x10, 0x19)
  else if 0x3580 ≤ idx ∧ idx < 0x3594 ∧ 0x10 ≤ sub ∧ sub ≤ 0x14 then some (0x10, 0x14)
  else if idx = 0x5400 ∧ 1 ≤ sub ∧ sub ≤ 0x1A then some (1, 0x1A)
  else if idx = 0x6400 ∧ 1 ≤ sub ∧ sub ≤ 0x13 then some (1, 0x13)
  else if 0x7000 ≤ idx ∧ idx < 0x7018 ∧ 0x30 ≤ sub ∧ sub ≤ 0x3A then some (0x30, 0x3A)
  else if 0x7040 ≤ idx ∧ idx < 0x7048 ∧ 0x30 ≤ sub ∧ sub ≤ 0x34 then some (0x30, 0x34)
  else if idx = 0x7060 ∧ 0x30 ≤ sub ∧ sub ≤ 0x38 then some (0x30, 0x38)
  else if idx = 0x8300 ∧ 0x10 ≤ sub ∧ sub ≤ 0x27 then some (0x10, 0x27)
  else none

/-- The members of a counter's group; a counter outside every group is its own. -/
def groupMembers (idx sub : Nat) : List Nat :=
  match groupRange idx sub with
  | some (lo, hi) => (List.range (hi + 1 - lo)).map (fun i => dkey idx (lo + i))
  | none => [dkey idx sub]

/-- The group's name: the key of its first member. -/
def groupName (idx sub : Nat) : Nat :=
  match groupRange idx sub with
  | some (lo, _) => dkey idx lo
  | none => dkey idx sub

/-- A caller's snapshot of a group, if it holds one. -/
def State.snapshot (s : State) (c : Caller) (g : Nat) : Option Snapshot :=
  s.journal.snapshots.find? (fun x => decide (x.caller = c) && decide (x.group = g))

/-- Whether a caller's snapshot still holds a counter that it has not read. -/
def State.snapHolds (s : State) (c : Caller) (idx sub : Nat) : Bool :=
  match s.snapshot c (groupName idx sub) with
  | some x => x.vals.any (fun v => decide (v.1 = dkey idx sub))
  | none => false

/-- The value a read of a counter returns: the snapshot's, or the counter's own when a new snapshot is taken. -/
def State.groupValue (s : State) (c : Caller) (idx sub : Nat) : Nat :=
  match s.snapshot c (groupName idx sub) with
  | some x => match x.vals.find? (fun v => decide (v.1 = dkey idx sub)) with
    | some v => v.2
    | none => s.stat idx sub
  | none => s.stat idx sub

/-- What a read of a counter leaves: the member is consumed; a new snapshot copies and clears every member (R417). -/
def State.groupConsume (s : State) (c : Caller) (idx sub : Nat) : State :=
  let g := groupName idx sub
  let others := s.journal.snapshots.filter (fun x => !(decide (x.caller = c) && decide (x.group = g)))
  let vals := match s.snapHolds c idx sub, s.snapshot c g with
    | true, some x => x.vals
    | _, _ => (groupMembers idx sub).map (fun k => (k, kget entryDefault s.dict.stat k))
  let s1 := if s.snapHolds c idx sub then s
    else (groupMembers idx sub).foldl (fun s k => s.setStat (k / 256) (k % 256) 0) s
  { s1 with journal := { s1.journal with
    snapshots := others ++ [⟨c, g, vals.filter (fun v => decide (v.1 ≠ dkey idx sub))⟩] } }

/-- COUNTER_GROUP_READ's request; a follower clears only what is its own (R57). -/
def State.reqCounterGroupRead (s : State) (c : Caller) (idx sub : Nat) : State :=
  s.dictRead c idx sub (fun _ => if (groupRange idx sub).isSome then 0 else 2)
    (fun s => s.groupValue c idx sub) 8
    (fun s => if s.follows && sharedEntry idx sub then s else s.groupConsume c idx sub)

/-- COUNTER_GROUP_READ: a read of a member of a snapshot group (R417). -/
def execCounterGroupRead (t : Nat) (c : Caller) (idx sub : Nat) (s : State) : Out :=
  happenBy c t true s (fun s => s.reqCounterGroupRead c idx sub)

/-! ### Checkpoint images (R42, R418) -/

/-- Counters that are covered at checkpoints (Table 17.5). -/
def coveredCounter (idx sub : Nat) : Bool :=
  if 0x3080 ≤ idx ∧ idx < 0x30A0 then (decide (1 ≤ sub) && decide (sub ≤ 5)) || decide (sub = 8) || decide (sub = 9)
  else if idx = 0x5400 then decide (1 ≤ sub) && decide (sub ≤ 0x1A)
  else if idx = 0x6400 then decide (1 ≤ sub) && decide (sub ≤ 0x13) && decide (sub ≠ 0x0E)
  else if idx = 0x8300 then decide (0x10 ≤ sub) && decide (sub ≤ 0x25)
  else if 0x2210 ≤ idx ∧ idx < 0x2220 then decide (sub = 6)
  else false

/-- Tables whose hit counters are in the image. -/
def hitTable (tbl : Nat) : Bool :=
  decide (tbl ∈ [0x5100, 0x5200, 0x5800, 0x6100, 0x8200]) || (decide (0x6300 ≤ tbl) && decide (tbl < 0x6318))

/-- Take the covered counters into the checkpoint image at boundary `c`; the counters keep running. -/
def State.takeImage (s : State) (c : Nat) : State :=
  { s with journal := { s.journal with
    imageAt := c,
    image := s.dict.stat.filter (fun x => coveredCounter (x.1 / 256) (x.1 % 256)),
    imageRows := s.dict.rowStat.filter (fun x => hitTable (x.1 / 2 ^ 40)) } }

/-- The request of execSnapshotRequest. -/
def State.reqSnapshotRequest (s : State) (c : Caller) (boundary : Nat) : State :=
  s.dictWrite c 0x1200 0x10 (toLE 8 boundary)
    (fun s v => if s.journal.request.isSome then 9 else if v < s.keyEpoch + 4 then 0x0A else 0)
    (fun v s => { s with journal := { s.journal with request := some v } })

/-- SNAPSHOT_REQUEST: a write of a boundary to `1200h.10` (R418). -/
def execSnapshotRequest (t : Nat) (c : Caller) (boundary : Nat) (s : State) : Out :=
  happenBy c t true s (fun s => s.reqSnapshotRequest c boundary)

/-- SNAPSHOT_IMAGE: the requested boundary has passed (R418). -/
def snapshotImage (s : State) : State :=
  match s.journal.request with
  | some c =>
    if c * 32 ≤ s.time.orderNs then
      ({ s with journal := { s.journal with request := none } } : State).takeImage c
    else s
  | none => s

/-- SNAPSHOT_IMAGE (R418). -/
def execSnapshotImage (t : Nat) (s : State) : Out := happen t true s snapshotImage

/-! ### Measurements -/

/-- MEASUREMENT_REFRESH: the means of the last 1 ms, temperatures in 1/16 °C and supplies in mV, and the peak (R419). -/
def measurementRefresh (temps : List Int) (mvs : List Nat) (s : State) : State :=
  let s := (List.range 8).foldl (fun s k => s.setStat 0xC300 (1 + k) (encSgn 16 (nth temps k 0))) s
  let peak := temps.take 8 |>.foldl (fun a x => max a x) (sgnOf 16 (s.stat 0xC300 9))
  let s := s.setStat 0xC300 9 (encSgn 16 peak)
  (List.range 10).foldl (fun s k => s.setStat 0xC300 (0x10 + k) (nth mvs k 0)) s

/-- MEASUREMENT_REFRESH (R419). -/
def execMeasurementRefresh (t : Nat) (temps : List Int) (mvs : List Nat) (s : State) : Out :=
  happen t true s (measurementRefresh temps mvs)

/-- The ageing margin for a degradation in ppm (R420). -/
def ageingMargin (d lim : Nat) : Nat := 1000 - 1000 * d / lim

/-- The temperature band of an hour's mean in 1/16 °C; a value on a boundary belongs to the higher band (R420). -/
def temperatureBand (mean : Int) : Nat :=
  if mean < 0 then 0 else if mean < 40 * 16 then 1 else if mean < 70 * 16 then 2 else if mean < 90 * 16 then 3
  else if mean < 105 * 16 then 4 else if mean < 115 * 16 then 5 else 6

/-- One ageing monitor's measurement; its first margin below the threshold raises event 0x0E01 once (R420). -/
def ageMonitor (s : State) (k d : Nat) : State :=
  let m := ageingMargin d (Config.ageLimit k).toNat
  let s := s.setStat 0xC300 (0x20 + k) m
  if m < s.reg 0xC300 0x30 ∧ k ∉ s.journal.aged then
    ({ s with journal := { s.journal with aged := k :: s.journal.aged } } : State).raiseEvent 0x0810 0x0E01 (k + m * 65536)
  else s

/-- AGEING_MEASUREMENT: margins, and an hour added to the total and to its band (R420). -/
def ageingMeasurement (ppms : List Nat) (mean : Int) (s : State) : State :=
  let s := (List.range 8).foldl (fun s k => ageMonitor s k (nth ppms k 0)) s
  (s.count32 0xC300 0x28).count32 0xC300 (0x29 + temperatureBand mean)

/-- AGEING_MEASUREMENT (R420). -/
def execAgeingMeasurement (t : Nat) (ppms : List Nat) (mean : Int) (s : State) : Out :=
  happen t true s (ageingMeasurement ppms mean)

/-- BUS_LOAD_UPDATE: per mille of the last 100 ms during which the bus was busy (`busy` in ns), 0 while the controller is
off (R421). -/
def execBusLoadUpdate (t n busy : Nat) (s : State) : Out :=
  happen t (decide (n < 24)) s (fun s =>
    s.setStat (0x7000 + n) 0x25 (if s.stat (0x7000 + n) 0x20 = 0 then 0 else busy * 1000 / 100000000))

/-- A bit error rate in 10^-12, truncated and saturating (R421); over no bits at all the spec states no rate. -/
def bitErrorRate (errs bits : Nat) : Nat :=
  if bits = 0 then (Config.rateOverNothing errs).toNat else min 0xFFFFFFFF (errs * 10 ^ 12 / bits)

/-- BER_UPDATE: BER of BP0…BP7 while UP, and of Elnar lanes 0…3 while in use (R421). -/
def berUpdate (errs bits : List Nat) (s : State) : State :=
  (List.range 12).foldl (fun s k =>
    let live := if k < 8 then decide (s.stat (0x3040 + k) 1 = 3) else bitOf (s.stat 0x9100 4) (k - 8)
    s.setStat 0xC300 (0x40 + k) (if live then bitErrorRate (nth errs k 0) (nth bits k 0) else 0)) s

/-- BER_UPDATE (R421). -/
def execBerUpdate (t : Nat) (errs bits : List Nat) (s : State) : Out := happen t true s (berUpdate errs bits)

end Sys2Proof.Machine
end

