-- ==== Sys2Proof/Machine/Digest.lean ====
section
/-! DEFINITION. State digests of a pair (R317, Table 12.8). The spec fixes the sum, the CRC and the row identifier; how a row is
stored as octets is the model's own layout. -/

namespace Sys2Proof.Machine

open Sys2Proof

/-- CRC-64 of R317. -/
def crc64 (b : Bytes) : Nat := crcMsb 64 0x42F0E1EBA9EA3693 0 b

/-- Numbers as octets, 8 each. -/
def numsBytes (l : List Nat) : Bytes := l.flatMap (toBE 8)

/-- The value of a domain from its rows, each a row identifier and its octets. -/
def digestOf (domain : Nat) (rows : List (Nat × Bytes)) : Nat :=
  rows.foldl (fun a r => (a + crc64 (toBE 1 domain ++ toBE 4 r.1 ++ r.2)) % 2 ^ 64) 0

/-- An order key as octets on the line (R34). -/
def keyBytes (k : OKey) : Bytes := toBE 8 k.epoch ++ toBE 2 k.src ++ toBE 2 k.seq

/-- A session as octets. -/
def sessionBytes (x : NSession) : Bytes :=
  toBE 16 x.initIp ++ toBE 16 x.respIp ++ numsBytes [natOfBool x.v6, x.proto, x.initPort, x.respPort, x.initZone, x.respZone,
    x.state, x.last, natOfBool x.refCell, x.ref, natOfBool x.window, natOfBool x.initFin, natOfBool x.respFin, x.initEnd,
    x.respEnd, x.initWin, x.respWin, x.frames, x.created]

/-- Rows of domain 0 at epoch `e`: sessions not expired, buckets. -/
def State.digestNarrows (s : State) (e : Nat) : List (Nat × Bytes) :=
  (s.liveSessions e).map (fun x => (x.1, sessionBytes x.2)) ++
    s.narrows.buckets.map (fun x => (2 ^ 31 + x.1, numsBytes [x.2.tokens, x.2.last]))

/-- Rows of domain 1: FDB entries not expired, VLAN rows. -/
def State.digestFdb (s : State) (e : Nat) : List (Nat × Bytes) :=
  (s.fdbLive e).map (fun x => (x.1, numsBytes [x.2.mac, x.2.vid, natOfBool x.2.static_, x.2.dest, x.2.seen])) ++
    (s.rowsAt e 0x4200).map (fun r => (2 ^ 31 + r.1, numsBytes r.2))

/-- A PDU's state as octets. -/
def pduBytes (x : PduState) : Bytes :=
  numsBytes [x.updated, x.sent.getD 0, natOfBool x.sent.isSome, x.alive, natOfBool x.received, natOfBool x.timedOut,
    natOfBool x.deferred, x.acfSeq, x.next, natOfBool x.first] ++ x.acfHeld.flatten

/-- Rows of domain 2: PDU states, images, freshness values. -/
def State.digestFord (s : State) : List (Nat × Bytes) :=
  s.ford.pdus.map (fun x => (x.1, pduBytes x.2)) ++ s.ford.images.map (fun x => (2 ^ 30 + x.1, x.2)) ++
    s.ford.fresh.map (fun x => (2 ^ 31 + x.1, numsBytes [x.2]))

/-- Rows of domain 3: shared meters. -/
def State.digestMeters (s : State) (e : Nat) : List (Nat × Bytes) :=
  (s.basin.meters.filter (fun x => decide (rowSub ((s.rowAt e 0x5B00 x.1).getD []) 0x0C = 0xFF))).map
    (fun x => (x.1, numsBytes [x.2.ctok, x.2.etok, x.2.last, natOfBool x.2.allRed]))

/-- Rows of domain 4: the counters of the checkpoint image. -/
def State.digestCounters (s : State) : List (Nat × Bytes) :=
  s.journal.image.map (fun x => (x.1, numsBytes [x.2])) ++ s.journal.imageRows.map (fun x => (x.1 % 2 ^ 32, numsBytes [x.1, x.2]))

/-- Rows of domain 5: image hash, changes applied since, the count of commits. -/
def State.digestConfig (s : State) (e : Nat) : List (Nat × Bytes) :=
  [(0, toBE 48 s.dict.image.hash), (1, numsBytes [s.dict.staging.applied])] ++
    (s.dict.settings.filter (fun x => decide (x.epoch ≤ e))).map (fun x => (x.key, numsBytes [x.epoch] ++ toBE 64 x.val)) ++
    (s.dict.rowOps.filter (fun x => decide (x.epoch ≤ e))).map
      (fun x => (x.tbl * 65536 + x.pos % 65536, numsBytes (x.epoch :: x.vals.getD [])))

/-- A staging record as octets. -/
def stagedBytesOf : StagedWork → Bytes
  | .value k v => numsBytes [k] ++ toBE 64 v
  | .rowOp t c vals => numsBytes (t :: c :: vals)

/-- Rows of domain 6: the staging area and an armed commit. -/
def State.digestStaging (s : State) : List (Nat × Bytes) :=
  let g := s.dict.staging
  let head := numsBytes [match g.state with | .empty => 0 | .open_ => 1 | .armed => 2, g.epoch]
  if g.state = .empty then [] else
    (2 ^ 31, head) :: (List.range g.recs.length).map (fun i => (i, stagedBytesOf (nth g.recs i (.value 0 0))))

/-- Rows of domain 7: the transmit queues of all CAN controllers. -/
def State.digestCan (s : State) : List (Nat × Bytes) :=
  (List.range 24).flatMap (fun n =>
    let q := (s.can n).queue
    (List.range q.length).map (fun i => (n * 64 + i, match q[i]? with
      | some x => keyBytes x.key ++ toBE 4 x.frame.ident ++ toBE 1 x.frame.fmt ++ x.frame.data
      | none => [])))

/-- The eight values of this member at checkpoint `c`. -/
def State.digestsAt (s : State) (c : Nat) : List Nat :=
  [digestOf 0 (s.digestNarrows c), digestOf 1 (s.digestFdb c), digestOf 2 s.digestFord, digestOf 3 (s.digestMeters c),
   digestOf 4 s.digestCounters, digestOf 5 (s.digestConfig c), digestOf 6 s.digestStaging, digestOf 7 s.digestCan]

/-- The body of a digest message: the checkpoint and the eight values. -/
def digestBytes (c : Nat) (l : List Nat) : Bytes := toBE 8 c ++ numsBytes l

/-- At a checkpoint while in step: the active member keeps its values, the standby sends its own (R317). -/
def State.takeDigest (s : State) (c : Nat) : State :=
  if !s.inStep then s
  else
    let d := s.digestsAt c
    let s := { s with saddle := { s.saddle with forceDigest := false } }
    if s.saddle.role = .standby then s.sendMsg 2 0x10 0 (digestBytes c d)
    else { s with saddle := { s.saddle with digests := s.saddle.digests ++ [(c, d)] } }

end Sys2Proof.Machine
end

