-- ==== Sys2Proof/Machine/Ordering.lean ====
section
/-! DEFINITION. The ordering units: arrival in a sort buffer, release at the horizon, late inputs, holds and suspensions, and
checkpoints (R18, R30, R32, R36, R38, R42, R45, R46, R306, R307). -/

namespace Sys2Proof.Machine

open Sys2Proof

/-- Number of an ordering unit. -/
def unitNum : OrderUnit → Nat
  | .narrows => 0 | .ford => 1 | .policers => 2 | .commit => 3 | .fdb => 4 | .saddle => 5

/-- An ordering unit's sort buffer. -/
def State.orderUnit (s : State) (u : OrderUnit) : SortBuffer := nth s.ord.units (unitNum u) ⟨u, [], 0, none⟩

/-- Change an ordering unit. -/
def State.modUnit (s : State) (u : OrderUnit) (f : SortBuffer → SortBuffer) : State :=
  { s with ord := { s.ord with units := modNth s.ord.units (unitNum u) f } }

/-- What a released input does: a frame takes its shared-state stages, an address is learnt, a bus frame enters Ford's queue. -/
def State.runWork (s : State) (key : OKey) (w : Work) : State :=
  match w with
  | .frame id => match s.frame id with
    | some f => s.stageFrame f true
    | none => s
  | .learn mac vid p => s.learn key.epoch mac vid p
  | .bus f => s.fordEnter key (.bus f)

/-- A late input's work: a bus frame goes behind what Ford has been given already (R45). -/
def State.runLate (s : State) (key : OKey) (w : Work) : State :=
  match w with
  | .bus f =>
    if s.fordOn key.epoch then
      ({ s with ford := { s.ford with queue := s.ford.queue ++ [⟨key, .bus f⟩] } } : State).peakQueue
    else s.fordCount 0x11 1
  | _ => s.runWork key w

/-- A late input is noted (R45): counted, its key stored, signalled, and in a pair the next digest is brought forward. -/
def State.noteLate (s : State) (key : OKey) : State :=
  let s := (s.count32Own 0x2005 3 0x2005 4 96).setStat 0x2005 4
    (okeyNat key + 2 ^ 96 * natOfBool (bitOf (s.stat 0x2005 4) 96 || decide (0xFFFFFFFE ≤ s.stat 0x2005 3)))
  let s := (s.noteDeterminism 0).raiseFault 59 false
  if s.inStep then { s with saddle := { s.saddle with forceDigest := true } } else s

/-- Whether two buffered inputs are one. -/
def sameInput (u : OrderUnit) (key : OKey) (x : InTransit) : Bool := decide (x.unit = u) && decide (x.inp.key = key)

/-- Hold back a sender whose unit is full (R38). -/
def State.holdBack (s : State) (u : OrderUnit) (key : OKey) : State :=
  if s.ord.heldBack.any (fun x => decide (x.queue = unitNum u) && decide (x.key = key)) then s
  else { s with ord := { s.ord with heldBack := s.ord.heldBack ++ [⟨unitNum u, key, s.time.raw, false⟩] } }

/-- A sender is no longer held back. -/
def State.letGo (s : State) (u : OrderUnit) (key : OKey) : State :=
  { s with ord := { s.ord with
      heldBack := s.ord.heldBack.filter (fun x => !(decide (x.queue = unitNum u) && decide (x.key = key))) } }

/-- An input reaches its unit (R36, R38, R45). -/
def State.arriveAt (s : State) (u : OrderUnit) (key : OKey) : State :=
  match takeFirst (sameInput u key) s.ord.transit with
  | none => s
  | some (x, rest) =>
    let b := s.orderUnit u
    let taken := ({ s with ord := { s.ord with transit := rest } } : State).letGo u key
    if key.epoch < b.released ∧ ¬ s.time.held then (taken.runLate key x.inp.work).noteLate key
    else if 256 ≤ b.buf.length then s.holdBack u key
    else taken.modUnit u (fun y => { y with buf := insertByKey Buffered.key { x.inp with at_ := s.time.raw } y.buf })

/-- SORT_BUFFER_ARRIVAL (R36): on a follower the journal orders its inputs instead (R47). -/
def sortBufferArrival (u : OrderUnit) (key : OKey) (s : State) : State := if s.follows then s else s.arriveAt u key

/-- SORT_BUFFER_ARRIVAL (R36). -/
def execSortBufferArrival (t : Nat) (u : OrderUnit) (key : OKey) (s : State) : Out :=
  happen t true s (sortBufferArrival u key)

/-! ### Release (R36) -/

/-- Release buffered inputs in order: Ford takes an input only while its queue has room, and the deadlines of an epoch come
before the inputs of that epoch (R24, R265). The inputs that stay are answered too. -/
def releaseAll (u : OrderUnit) : List Buffered → State → State × List Buffered
  | [], s => (s, [])
  | b :: bs, s =>
    if u = .ford ∧ 1024 ≤ s.ford.queue.length then (s, b :: bs)
    else
      let s := if u = .ford then s.releaseDeadlines b.key.epoch else s
      releaseAll u bs (s.runWork b.key b.work)

/-- Release what unit `u` holds of key epochs up to `e`. -/
def State.releaseUnit (s : State) (u : OrderUnit) (e : Nat) : State :=
  let b := s.orderUnit u
  let due := b.buf.filter (fun x => decide (x.key.epoch ≤ e))
  let later := b.buf.filter (fun x => !decide (x.key.epoch ≤ e))
  let r := releaseAll u due (s.modUnit u (fun y => { y with buf := later }))
  match r.2 with
  | [] =>
    let s := r.1.modUnit u (fun y => { y with released := max y.released (e + 1) })
    if u = .ford then s.releaseDeadlines e else s
  | x :: xs => r.1.modUnit u (fun y => { y with buf := (x :: xs) ++ y.buf, released := max y.released x.key.epoch })

/-- Saddle releases the records of key epochs up to `e` to the standby, and the mark (R306, R307). A resynchronisation that
has chosen its final boundary f holds what belongs to f and later (Table 12.9). -/
def State.releaseJournal (s : State) (e : Nat) : State :=
  let ready := decide (s.saddle.role = .active) && (match s.saddle.resync.bind Resync.final with
    | some f => decide (e < f)
    | none => true)
  if !ready then s
  else
    let due := s.saddle.outbox.filter (fun r => decide (r.epoch ≤ e))
    let s := { s with saddle := { s.saddle with outbox := s.saddle.outbox.filter (fun r => !decide (r.epoch ≤ e)) } }
    let s := due.foldl State.sendRecord s
    let s := s.modUnit .saddle (fun y => { y with released := max y.released (e + 1) })
    if s.saddle.journaling then s.sendRecord (plainRec 0x0C e 0) else s

/-- ORDERING_RELEASE: order time has reached boundary e + 2 (R36); a follower releases by its partner's journal. -/
def orderingRelease (u : OrderUnit) (e : Nat) (s : State) : State :=
  let b := s.orderUnit u
  if s.time.orderNs < (e + 2) * 32 ∨ e < b.released ∨ b.suspend.isSome ∨ s.follows then s
  else if u = .saddle then s.releaseJournal e else s.releaseUnit u e

/-- ORDERING_RELEASE (R36). -/
def execOrderingRelease (t : Nat) (u : OrderUnit) (e : Nat) (s : State) : Out := happen t true s (orderingRelease u e)

/-- HELD_ORDER_RELEASE: while order time is held, inputs go 64 ns after they arrived, those ready together in order-key
order (R46). -/
def heldOrderRelease (u : OrderUnit) (s : State) : State :=
  if !s.orderHeld ∨ s.follows then s
  else
    let b := s.orderUnit u
    let due := b.buf.filter (fun x => decide (x.at_ + 64 ≤ s.time.raw))
    let later := b.buf.filter (fun x => !decide (x.at_ + 64 ≤ s.time.raw))
    let r := releaseAll u due (s.modUnit u (fun y => { y with buf := later }))
    r.1.modUnit u (fun y => { y with buf := r.2 ++ y.buf })

/-- HELD_ORDER_RELEASE (R46). -/
def execHeldOrderRelease (t : Nat) (u : OrderUnit) (s : State) : Out := happen t true s (heldOrderRelease u)

/-- STEP_SUSPEND_END: 64 ns after a step notice, the unit releases what is pending in order-key order (R30). -/
def stepSuspendEnd (u : OrderUnit) (s : State) : State :=
  match (s.orderUnit u).suspend with
  | none => s
  | some r =>
    if s.time.raw < r then s
    else
      let s := s.modUnit u (fun y => { y with suspend := none })
      let n := s.time.orderNs / 32
      if n < 2 then s else orderingRelease u (n - 2) s

/-- STEP_SUSPEND_END (R30). -/
def execStepSuspendEnd (t : Nat) (u : OrderUnit) (s : State) : Out := happen t true s (stepSuspendEnd u)

/-! ### Waits (R18, R32, R38) -/

/-- SOURCE_KEY_LIMIT_WAIT_END: the next boundary passes, and the inputs of a source that waited for it are keyed (R32). -/
def keyLimitWaitEnd (src : Nat) (s : State) : State :=
  { s with ord := { s.ord with
      waits := s.ord.waits.filter (fun k => !(decide (k.src = src) && decide (k.epoch ≤ s.keyEpoch))) } }

/-- SOURCE_KEY_LIMIT_WAIT_END (R32). -/
def execSourceKeyLimitWaitEnd (t source : Nat) (s : State) : Out := happen t true s (keyLimitWaitEnd source)

/-- SENDER_RESUME: a full queue has room again, and the senders it held back go on in the order in which they waited (R18). -/
def senderResume (u : OrderUnit) (s : State) : State :=
  (s.ord.heldBack.filter (fun x => decide (x.queue = unitNum u))).foldl (fun s x => s.arriveAt u x.key) s

/-- SENDER_RESUME (R18). -/
def execSenderResume (t : Nat) (u : OrderUnit) (s : State) : Out := happen t true s (senderResume u)

/-- DCQ_WAIT_TIMEOUT: a sender has waited more than 10 µs, and the fault collection unit is told once (R18). -/
def dcqWaitTimeout (u : OrderUnit) (s : State) : State :=
  let late := fun (x : HeldSender) => decide (x.queue = unitNum u) && !x.told && decide (x.since + 10000 < s.time.raw)
  if s.ord.heldBack.any late then
    ({ s with ord := { s.ord with heldBack := modWhere late (fun x => { x with told := true }) s.ord.heldBack } } : State).raiseFault
      60 false
  else s

/-- DCQ_WAIT_TIMEOUT (R18). -/
def execDcqWaitTimeout (t : Nat) (u : OrderUnit) (s : State) : Out := happen t true s (dcqWaitTimeout u)

/-! ### Checkpoints (R42, R317) -/

/-- Whether every input of key epochs below `c` has been released. -/
def State.passed (s : State) (c : Nat) : Bool :=
  if s.follows then decide (c ≤ s.saddle.released) else decide ((c + 1) * 32 ≤ s.time.orderNs)

/-- CHECKPOINT: the next boundary that is a multiple of 65,536 has passed: covered counters go into the image, determinism bit
5 ends, and the members of a pair compute their digests (R42, R44, R317). -/
def checkpoint (s : State) : State :=
  let c := (s.ord.lastCheck / 65536 + 1) * 65536
  if !s.passed c then s
  else
    let s := s.takeImage c
    let s := { s with
      time := { s.time with forwardStep := false },
      ord := { s.ord with lastCheck := c } }
    s.takeDigest c

/-- CHECKPOINT (R42). -/
def execCheckpoint (t : Nat) (s : State) : Out := happen t true s checkpoint

end Sys2Proof.Machine
end

