-- ==== Sys2Proof/Machine/FrameFamily.lean ====
section
/-! DEFINITION. The commands of a frame's way through the device: header window, end of reception, end of transmission, launch
times (R9, R99, R100, R190, R199). -/

namespace Sys2Proof.Machine

open Sys2Proof

/-- A frame of Ford waits at FP: the oldest is presented there (R13). -/
def State.presentFord (s : State) (rx : FrameRx) : State :=
  match s.ford.out with
  | [] => s
  | b :: rest =>
    if ¬ s.portUp 30 then s
    else
      let s : State := { s with ford := { s.ford with out := rest } }
      s.presentFrame 30 { rx with bytes := b, length := b.length + 4, origin := none }

/-- FRAME_HEADER_WINDOW: on ports 0…27 the header window ends; at HP, CP, FP and XP a frame is presented (R9). A frame at XP
came as a class F message. -/
def frameHeaderWindow (p : Nat) (rx : FrameRx) (s : State) : State :=
  if p < 28 then s.headerWindow p rx
  else if p = 30 then s.presentFord rx
  else (if p = 31 then s.consume 3 0 rx.bytes else s).presentFrame p rx

/-- FRAME_HEADER_WINDOW (R9). -/
def execFrameHeaderWindow (t port : Nat) (rx : FrameRx) (s : State) : Out :=
  happen t (decide (port < 32)) s (frameHeaderWindow port rx)

/-- FRAME_END_RECEIVED: a frame presented at an internal port is whole already (R199). -/
def frameEndReceived (p : Nat) (fin : FrameEnd) (s : State) : State := if p < 28 then s.frameEnd p fin else s

/-- FRAME_END_RECEIVED (R199). -/
def execFrameEndReceived (t port : Nat) (fin : FrameEnd) (s : State) : Out :=
  happen t (decide (port < 32)) s (frameEndReceived port fin)

/-- What the far side of CP, FP and XP does with a copy: the cluster keeps frames of CP queue 1, Ford takes an item, the Elnar
link carries a class F message (R13, R153, R264, R345). -/
def State.deliver (s : State) (p : Nat) (c : Copy) (f : Frame) (b : Bytes) : State :=
  if p = 29 ∧ c.queue = 1 then
    { s with basin := { s.basin with cluster := s.basin.cluster ++ [⟨c.queue, f.key, f.stamp, f.port, f.excCode, b⟩] } }
  else if p = 30 then s.fordEnter f.key (.eth b f.stamp)
  else if p = 31 then s.sendMsg 3 0 0 b
  else s

/-- FRAME_TRANSMIT_END: the copy on the line has been sent or consumed; its charge and, with the last copy, its cells are free
(R190). -/
def frameTransmitEnd (p : Nat) (s : State) : State :=
  let r := s.finishTx p
  match r.2 with
  | none => r.1
  | some (c, f, b) => r.1.deliver p c f b

/-- FRAME_TRANSMIT_END (R190). -/
def execFrameTransmitEnd (t port : Nat) (s : State) : Out := happen t (decide (port < 32)) s (frameTransmitEnd port)

/-- LAUNCH_TIME_REACHED: the head of a queue becomes eligible when its launch time is reached; its queue's credit follows (R99,
R230). -/
def launchTimeReached (p q : Nat) (s : State) : State :=
  match s.queueOf p q with
  | [] => s
  | c :: _ => if c.launch ≠ 0 ∧ c.launch ≤ s.workingNs then s.refreshCredit p q else s

/-- LAUNCH_TIME_REACHED (R99). -/
def execLaunchTimeReached (t port queue : Nat) (s : State) : Out :=
  happen t (decide (port < 32) && decide (queue < 8)) s (launchTimeReached port queue)

/-- LATE_LIMIT_EXPIRED: a head not started by its launch time plus the late limit is dropped and counted (R100). -/
def lateLimitExpired (p q : Nat) (s : State) : State :=
  ((dropHeads (s.queueOf p q) s).refreshCredit p q).settleRetiring

/-- LATE_LIMIT_EXPIRED (R100). -/
def execLateLimitExpired (t port queue : Nat) (s : State) : Out :=
  happen t (decide (port < 32) && decide (queue < 8)) s (lateLimitExpired port queue)

end Sys2Proof.Machine
end

