-- ==== Sys2Proof/Machine/PowerFamily.lean ====
section
/-! DEFINITION. Power states, wake-up, reset and the end of the start-up self-test (R394 to R406, R469). -/

namespace Sys2Proof.Machine

open Sys2Proof

/-! ### Reset (R50, R405, Table 16.8) -/

/-- The image in force after a reset of a cause: a candidate marked for activation becomes active at a power-on or warm
reset (R80). -/
def State.nextImage (s : State) (cause : Nat) : DictImage :=
  match s.dict.candidate with
  | some x => if x.marked ∧ cause ≠ 6 then x.image else s.dict.image
  | none => s.dict.image

/-- The candidate left after a reset. -/
def State.nextCandidate (s : State) (cause : Nat) : Option Candidate :=
  match s.dict.candidate with
  | some x => if x.marked ∧ cause ≠ 6 then none else some x
  | none => none

/-- Status entries kept over a reset or set by it: causes, the partition the image fixes, the wake record, the PAIR_ID strap,
the boot records and the ageing totals in eMRAM (Table 16.8, R185, R186, R420). -/
def State.keptStats (s : State) (cause : Nat) (img : DictImage) : List (Nat × Nat) :=
  let power := decide (cause = 0)
  let put := fun (l : List (Nat × Nat)) (k v : Nat) => kput entryDefault l k v
  let same := fun (l : List (Nat × Nat)) (idx sub : Nat) => put l (dkey idx sub) (s.stat idx sub)
  let l := put [] (dkey 0x1002 2) cause
  let l := put l (dkey 0x1002 4) (if power then 0 else (s.stat 0x1002 4 + 1) % 2 ^ 32)
  let l := if power then l else same l 0x9000 0x11
  let l := if power then l else same (same (same (same (same l 0xC100 2) 0xC100 7) 0xC100 8) 0xC100 9) 0xC000 9
  let l := same (same (same (same l 0xB300 2) 0xB300 3) 0xB300 7) 0xB300 8
  let l := (List.range 8).foldl (fun l k => same l 0xC300 (0x28 + k)) l
  ([1, 2, 3, 0x10, 0x11, 0x12, 0x13, 0x14, 0x15] : List Nat).foldl (fun l x => put l (dkey 0x4000 x) (img.value 0x4000 x)) l

/-- The key store after a reset: eMRAM and fuses stay, working copies and measurements are cleared (R380, R383). -/
def State.resetKeys (s : State) : KeyStore :=
  let k := s.keys
  { KeyStore.reset with
    slots := (k.slots.filter (fun x => bitOf x.2.flags 0)).map (fun x => (x.1, { x.2 with shareA := 0, shareB := 0 })),
    commits := k.commits, counter := k.counter, rollback := k.rollback, revoked := k.revoked, lifecycle := k.lifecycle,
    unlocks := k.unlocks }

/-- The block after a reset of a cause (Table 16.8): everything is cleared but eMRAM and fuses, and over a warm reset
Lowland's wake record and the strap. -/
def State.resetWith (s : State) (cause : Nat) : State :=
  let img := s.nextImage cause
  let on := decide (kget entryDefault img.entries (dkey 0x9000 1) = 1)
  { State.reset with
    dict := { Dict.reset with
      image := img, candidate := s.nextCandidate cause, changes := s.dict.changes, changeNo := s.dict.changeNo,
      changeWrap := s.dict.changeWrap, overlay := s.dict.overlay, stat := s.keptStats cause img, domains := img.domains,
      w1Done := if cause = 0 then [] else s.dict.w1Done },
    journal := { Journal.reset with persistent := s.journal.persistent, persistNo := s.journal.persistNo },
    keys := s.resetKeys,
    saddle := { Saddle.reset with enabled := on, role := if on then .start else .disabled },
    ford := { Ford.reset with bounds := s.ford.bounds, fresh := s.ford.bounds },
    fresh := s.fresh,
    pending := s.pending }

/-- Reset is asserted and holds the device. -/
def State.holdReset (s : State) (cause : Nat) : State :=
  let s := s.resetWith cause
  { s with power := { s.power with phase := .held } }

/-- POWER_ON_RESET: a rail leaves its window, or PORn is low (R405). -/
def execPowerOnReset (t : Nat) (s : State) : Out :=
  .next ((if s.power.phase = .held then s else s.advance t).holdReset 0)

/-- WARM_RESET_PIN: WARM_RSTn has been low for 1 µs (R405). -/
def warmResetPin (s : State) : State := s.holdReset 1

/-- WARM_RESET_PIN (R405). -/
def execWarmResetPin (t : Nat) (s : State) : Out := happenAny t true s warmResetPin

/-- RESET_RELEASE: the strap is sampled and a cold boot begins; or a warm reset that a command requested follows, once its
response has been sent and 1 ms has passed (R298, R405, R406). -/
def resetRelease (t : Nat) (strap : Bool) (s : State) : State :=
  if s.power.phase = .held then
    let s := s.setStat 0x9000 0x11 (natOfBool strap)
    { s with power := { s.power with phase := .coldBoot } }
  else match s.power.resetDue with
    | some (due, cause) =>
      if due ≤ t ∧ s.dict.awaiting = [] then (s.advance t).resetWith cause else s.advance t
    | none => s.advance t

/-- RESET_RELEASE (R405). -/
def execResetRelease (t : Nat) (strap : Bool) (s : State) : Out := .next (resetRelease t strap s)

/-- The cause that a reset command of an interface records (Table 16.8). -/
def commandCause : Iface → Nat
  | .mgmt => 3 | .partner => 4 | _ => 2

/-- A write of `1002h.01`: a warm reset follows 1 ms after the response (R406). -/
def State.resetCommand (s : State) (c : Caller) (data : Bytes) : State :=
  s.dictWrite c 0x1002 1 data noExtra (fun _ s =>
    { s with power := { s.power with resetDue := some (s.time.raw + 1000000, commandCause c.iface) } })

/-- RESET_COMMAND (R406). -/
def execResetCommand (t : Nat) (c : Caller) (s : State) : Out := happenBy c t true s (fun s => s.resetCommand c [1])

/-- FATAL_RESET_HOLD_END: the hold time of a fatal reaction passes, and a warm reset follows when it is enabled
(Table 14.3, R367). -/
def fatalResetHoldEnd (s : State) : State :=
  match s.safety.fatalRaw with
  | some r =>
    if s.reg 0xA100 5 = 1 ∧ r + s.reg 0xA100 6 * 1000000 ≤ s.time.raw then
      let input := match s.safety.reactions.find? (fun x => decide (4 ≤ x.2)) with
        | some x => x.1
        | none => 0
      (s.resetWith 5).setStat 0x1002 3 input
    else s
  | none => s

/-- FATAL_RESET_HOLD_END (R367). -/
def execFatalResetHoldEnd (t : Nat) (s : State) : Out := happen t true s fatalResetHoldEnd

/-! ### The end of the self-test -/

/-- A row of the image for `4101h` becomes a static FDB entry. -/
def State.placeImageRow (s : State) (r : ImageRow) : State :=
  let mac := viewMac (rowSub r.vals 6)
  match s.fdbPlace s.keyEpoch mac (rowSub r.vals 7) with
  | some slot => s.fdbSet s.keyEpoch s.keyEpoch slot mac (rowSub r.vals 7) (rowSub r.vals 8)
  | none => s

/-- The image is applied and every table loaded: each unit takes the entries and rows that the image gives
(Tables 16.6, 16.7). -/
def State.applyImage (s : State) : State :=
  let img := s.dict.image
  let old := (img.entries.filter (fun x => decide (x.2 ≠ entryDefault x.1))).map (fun x => (x.1, entryDefault x.1))
  let a : Applied := ⟨s.keyEpoch, s.workingNs, old, img.rows.map (fun r => (r.tbl, 3, r.pos)), img.entries.map Prod.fst⟩
  let s := s.applied a s
  ((img.rows.filter (fun r => decide (r.tbl = 0x4101))).foldl State.placeImageRow s).noteOut

/-- Act on the self-test: parts that passed as bits of `A000h.02`, processors and banks that failed as bits; which
comparator fails is told by bits 8…11 and which TCM by 12…15 of `results` (R469). -/
def State.testResults (s : State) (results procs banks : Nat) : State :=
  let s := s.setStat 0xA000 2 (results % 128)
  let each := fun (s : State) (bad : Nat → Bool) (f : State → Nat → State) (n : Nat) =>
    ((List.range n).filter bad).foldl f s
  let s := each s (fun p => !bitOf results p) (fun s p => (s.setPairMode p 6).raiseFault (4 + p) true) 4
  let s := each s (fun p => bitOf results (8 + p)) (fun s p => s.raiseFault (8 + p) true) 4
  let s := each s (fun p => bitOf results (12 + p)) (fun s p => s.raiseFault (12 + p) true) 4
  let s := each s (fun n => bitOf procs n) State.failProcessor 32
  each s (fun b => bitOf banks b) (fun s b => (s.raiseFault 63 false).retireBank b) 64

/-- The device runs; the self-test's failure is kept. -/
def State.endTest (s : State) (bad : Bool) : State :=
  { s with safety := { s.safety with testFailed := bad }, power := { s.power with phase := .run } }

/-- SELF_TEST_END: its results act, the safety state is set, the image is applied, and the device runs (R404, R469). -/
def selfTestEnd (results procs banks : Nat) (s : State) : State :=
  if s.stat 0xA000 1 = 0 ∧ (s.power.phase = .coldBoot ∨ s.power.phase = .warmBoot) then
    let s := s.testResults results procs banks
    let bad := !bitOf results 5 || !bitOf results 6
    (((s.endTest bad).setStat 0xA000 1 1).refreshSafety).applyImage
  else s

/-- SELF_TEST_END (R469). -/
def execSelfTestEnd (t results procs banks : Nat) (s : State) : Out := happen t true s (selfTestEnd results procs banks)

/-! ### Power commands (R395, R396) -/

/-- Whether the device may enter IDLE (Table 16.2). -/
def State.mayIdle (s : State) : Bool :=
  decide (s.reg 0x9000 1 = 0) && (List.range 28).all (fun p => decide (s.linkState p ∈ [0, 1, 4])) &&
    (List.range 24).all (fun n => decide (s.reg (0x7000 + n) 1 = 0)) &&
    (List.range 8).all (fun n => decide (s.reg (0x7040 + n) 1 = 0)) && decide (s.reg 0x7060 1 = 0) &&
    decide (s.reg 0x2200 1 = 0) && decide (s.reg 0x2200 2 = 0)

/-- Status of a power command by its own condition (Table 16.2). -/
def State.powerStatus (s : State) (v : Nat) : Nat :=
  if v = 1 then (if s.mayIdle then 0 else 0x0B)
  else if v = 2 then (if s.power.phase = .idle then 0 else 0x0B)
  else if s.dict.staging.state = .empty ∧ s.dict.domWrites = [] ∧ s.keys.shadow.isNone then 0 else 9

/-- Port `p` is disabled at the entry to a low-power state, and flushed as under R110. -/
def State.disablePort (s : State) (p : Nat) : State :=
  let was := s.portUp p
  let s := s.setLink p 0
  if was then s.linkDown p true else s.flushPort p

/-- The entry to QUIET or SLEEP begins (R397). -/
def State.beginEntry (s : State) (toSleep : Bool) (e : Nat) : State :=
  let s := { s with power := { s.power with
      phase := .entering, toSleep := toSleep, entryEpoch := e, entryRaw := s.time.raw, reasons := 0, first := none } }
  (List.range 28).foldl State.disablePort s

/-- The effect of an accepted power command. -/
def State.powerEffect (s : State) (k v : Nat) : State :=
  let s := s.setStat 0xC000 3 0
  if v = 1 then { s with power := { s.power with phase := .idle } }
  else if v = 2 then { s with power := { s.power with phase := .run } }
  else s.beginEntry (decide (v = 4)) (k + 4)

/-- A write of `C000h.01` (R395): busy precedes what the present state does not allow (R467). -/
def State.powerCommand (s : State) (c : Caller) (data : Bytes) : State :=
  let k := s.keyEpoch
  let s := (s.keyRequest c 2 0xC000 1 data).touchSession c
  let st := s.writeStatus c k 0xC000 1 data
  let own := s.powerStatus (leNat data)
  let st := if st ≠ 0 ∧ (st ≠ 0x0B ∨ own ≠ 9) then st else own
  if st = 0 then (s.acceptWrite c 0 0xC000 1 0 (leNat data) 0 0).powerEffect k (leNat data)
  else if st = 3 ∨ st = 7 then s.refuse c st
  else (s.setStat 0xC000 3 st).refuse c st

/-- ENTER_IDLE (R395). -/
def execEnterIdle (t : Nat) (c : Caller) (s : State) : Out := happenBy c t true s (fun s => s.powerCommand c [1])
/-- RETURN_TO_RUN (R395). -/
def execReturnToRun (t : Nat) (c : Caller) (s : State) : Out := happenBy c t true s (fun s => s.powerCommand c [2])
/-- ENTER_QUIET (R397). -/
def execEnterQuiet (t : Nat) (c : Caller) (s : State) : Out := happenBy c t true s (fun s => s.powerCommand c [3])
/-- ENTER_SLEEP (R397). -/
def execEnterSleep (t : Nat) (c : Caller) (s : State) : Out := happenBy c t true s (fun s => s.powerCommand c [4])

/-- Whether something returns the device from IDLE: a port that trains, an enabled WAKE pin, an armed commit (R396). -/
def State.idleWakes (s : State) (pin : Option Nat) : Bool :=
  (List.range 28).any (fun p => decide (s.linkState p = 2) || decide (s.linkState p = 3)) ||
    decide (s.dict.staging.state = .armed) ||
    (match pin with | some n => decide (n < 4) && bitOf (s.reg 0xC100 1) n | none => false)

/-- IDLE_WAKE_EVENT (R396). -/
def idleWakeEvent (pin : Option Nat) (s : State) : State :=
  if s.power.phase = .idle ∧ s.idleWakes pin then { s with power := { s.power with phase := .run } } else s

/-- IDLE_WAKE_EVENT (R396). -/
def execIdleWakeEvent (t : Nat) (pin : Option Nat) (s : State) : Out := happen t true s (idleWakeEvent pin)

/-! ### QUIET and SLEEP (R397 to R401) -/

/-- A quiet route entry (Table 16.4). -/
def quietRoutes (b : Bytes) : List Nat :=
  ((List.range (b.length / 8)).map (fun i => leAt b (8 * i) 8)).filter (fun v => bitOf v 48)

/-- Source controller of a route. -/
def routeSource (v : Nat) : Nat := fieldOf v 39 32
/-- Targets of a route, its source left out. -/
def routeTargets (v : Nat) : Nat := clearBitAt (fieldOf v 47 40) (routeSource v)

/-- Whether controller `n` runs under Lowland: enabled, with a quiet route, its timing realisable at 16 MHz and its data
phase at most 2 Mb/s (R19, R246). -/
def State.lowTiming (s : State) (n : Nat) : Bool :=
  let r := fun sub => s.reg (0x7000 + n) sub
  timingOk 16000000 (r 3) (r 4) (r 5) (r 6) (r 2) && (decide (r 2 % 4 = 0) || decide (r 5 ≤ 2000000))

/-- Whether controller `n` has a quiet route. -/
def hasRoute (routes : List Nat) (n : Nat) : Bool :=
  routes.any (fun v => decide (routeSource v = n) || bitOf (routeTargets v) n)

/-- CNn passes to Lowland: its pending entries are discarded and counted (R397). -/
def State.toLowland (s : State) (n : Nat) : State :=
  let k := (s.can n).queue.length
  (s.modCan n (fun c => { c with queue := [] })).count64 (0x7000 + n) 0x34 k

/-- Slot 5, generated from random numbers at each entry (R383). -/
def State.newWarmKey (s : State) : State :=
  let v := (Config.freeRandom s.fresh).toNat
  let m := (Config.freeRandom (s.fresh + 1)).toNat
  (s.drawFree.drawFree).setSlot 5 ((⟨2, 2048, 0xF, 2, 0, 0, 0, 0⟩ : KeySlot).load v m)

/-- A wake starts: PWR_REQ and, in a pair, ROLE_OUT go high (R401, R403). -/
def State.startWake (s : State) : State :=
  { s with
    power := { s.power with phase := .wake, pwrReq := true, railsFrom := s.time.raw },
    saddle := { s.saddle with roleOut := s.saddle.enabled } }

/-- QUIET or SLEEP begins: Lowland holds the routes, the controllers it runs and those it may transmit on (R397). -/
def State.enterLow (s : State) (roleIn : Bool) (table : Bytes) (run mayTx : List Nat) : State :=
  { s with
    power := { s.power with
      phase := if s.power.toSleep then .sleep else .quiet, pwrReq := false, roleRef := roleIn, routes := table,
      lowQueues := s.power.lowQueues.map (fun _ => []), lowBuses := maskOfPorts run, tokens := maskOfPorts mayTx,
      routed := 0, discarded := 0, busOffs := 0 },
    saddle := { s.saddle with roleOut := s.saddle.enabled && !s.power.toSleep && decide (mayTx ≠ []) } }

/-- LOW_POWER_ENTRY_COMPLETE: controllers pass to Lowland, slot 5 is regenerated, PWR_REQ falls; a source that fired
meanwhile wakes the device at once (R397). -/
def lowPowerEntryComplete (roleIn : Bool) (s : State) : State :=
  if s.power.phase ≠ .entering then s
  else
    let table := s.domain 0xC000 0x10
    let routes := quietRoutes table
    let mine := (List.range 8).filter (fun n => !s.power.toSleep && hasRoute routes n && s.canOn s.keyEpoch n)
    let run := mine.filter s.lowTiming
    let s := (mine.filter (fun n => !s.lowTiming n)).foldl (fun (s : State) n => s.orStat (0x7000 + n) 0x24 1) s
    let s := (run.foldl State.toLowland s).newWarmKey
    let s := s.setStat 0xC100 7 (natOfBool (bitOf (s.stat 0xC200 2) 9))
    let mayTx := run.filter (fun n => !s.saddle.enabled || s.holds (outCan n))
    let s := s.enterLow roleIn table run mayTx
    if s.power.first.isSome then s.startWake else s

/-- LOW_POWER_ENTRY_COMPLETE (R397). -/
def execLowPowerEntryComplete (t : Nat) (roleIn : Bool) (s : State) : Out :=
  happen t true s (lowPowerEntryComplete roleIn)

/-- A wake source fires: it is recorded, and starts a wake in QUIET or SLEEP (R397, R400). -/
def State.fireWake (s : State) (n : Nat) : State :=
  let p := s.power
  let s := { s with power := { p with reasons := setBitAt p.reasons n, first := match p.first with | some m => some m | none => some n } }
  if s.power.low then s.startWake else s

/-- Whether source `n` can fire: enabled, in a state that watches it, the timer when it is set (Table 16.5). -/
def State.mayFire (s : State) (n : Nat) : Bool :=
  let ph := s.power.phase
  bitOf (s.reg 0xC100 1) n && decide (n ≤ 33) &&
    (decide (ph ∈ [PowerPhase.entering, .quiet, .sleep, .wake])) &&
    !(decide (4 ≤ n) && decide (n ≤ 11) && decide (ph = .quiet)) &&
    (decide (n ≠ 32) || decide (s.reg 0xC100 6 ≠ 0)) &&
    (decide (n ≠ 33) || (s.saddle.enabled && !s.power.toSleep))

/-- WAKE_SOURCE (R400). -/
def execWakeSource (t n : Nat) (s : State) : Out :=
  happenAny t (decide (n ≤ 33)) s (fun s => if s.mayFire n then s.fireWake n else s)

/-- Copy a frame into the Lowland queue of controller `n`: a full queue discards it (R399). -/
def State.lowQueue (f : BusFrame) (s : State) (n : Nat) : State :=
  let p := s.power
  if 8 ≤ (nth p.lowQueues n []).length then { s with power := { p with discarded := min 0xFFFFFFFF (p.discarded + 1) } }
  else { s with power := { p with lowQueues := modNth p.lowQueues n (fun q => q ++ [{ f with bus := n }]) } }

/-- QUIET_ROUTE: the first matching entry decides; its targets that run under Lowland take copies, and its wake flag wakes
the device when the controller's source is enabled (R399, R400). -/
def quietRoute (f : BusFrame) (s : State) : State :=
  let p := s.power
  if p.phase ≠ .quiet ∨ !bitOf p.lowBuses f.bus ∨ f.fmt = 3 then s
  else match (quietRoutes p.routes).find? (fun v => decide (routeSource v = f.bus) && decide (fieldOf v 29 0 = f.ident % 2 ^ 30)) with
    | none => s
    | some v =>
      let s : State := { s with power := { p with routed := min 0xFFFFFFFF (p.routed + 1) } }
      let s := (bitsSet (routeTargets v &&& p.lowBuses) 8).foldl (State.lowQueue f) s
      if bitOf v 49 ∧ bitOf (s.reg 0xC100 1) (4 + f.bus) then s.fireWake (4 + f.bus) else s

/-- QUIET_ROUTE (R399). -/
def execQuietRoute (t : Nat) (f : BusFrame) (s : State) : Out := happenAny t (decide (f.bus < 8)) s (quietRoute f)

/-! ### Warm wake (R402, R403) -/

/-- What the device shows of its low-power period after the wake (R399, R400). -/
def State.wakeRecord (before : State) (s : State) : State :=
  let p := before.power
  let left := (p.lowQueues.map List.length).foldl (· + ·) 0
  let s := ((s.setStat 0xC100 2 p.reasons).setStat 0xC100 9 (p.first.getD 0xFF)).setStat 0xC100 8
    ((before.time.raw - p.entryRaw) / 1000000)
  let s := ((s.setStat 0xC000 0x11 p.routed).setStat 0xC000 0x12 (min 0xFFFFFFFF (p.discarded + left))).setStat 0xC000 0x13 p.busOffs
  (List.range 8).foldl (fun (s : State) n => s.orStat (0x7000 + n) 0x24 (before.stat (0x7000 + n) 0x24 % 2)) s

/-- RAILS_GOOD: slot 5 and the warm image's MAC decide between a warm wake, whose measurements are those of the last boot,
and a cold boot (R402, R403). -/
def railsGood (macOk : Bool) (s : State) : State :=
  if s.power.phase ≠ .wake then s
  else
    let code := if (s.slot 5).kind = 0 then 1 else if !macOk then 2 else 0
    let n := State.wakeRecord s ((s.resetWith (if code = 0 then 6 else 7)).setStat 0xC000 9 code)
    let n : State := { n with saddle := { n.saddle with roleOut := false } }
    if code ≠ 0 then n
    else
      let n : State := { n with
        power := { n.power with phase := .warmBoot },
        keys := { n.keys with mrs := modNth s.keys.mrs 7 (fun _ => 0), rootIndex := s.keys.rootIndex, ready := true, bootDone := true } }
      (n.deriveSlots 0 5).loadPersistent

/-- RAILS_GOOD (R403). -/
def execRailsGood (t : Nat) (macOk : Bool) (s : State) : Out := happenAny t true s (railsGood macOk)

/-- RAILS_TIMEOUT: Lowland drives PWR_REQ low and returns to the state it left (R403). -/
def railsTimeout (s : State) : State :=
  if s.power.phase = .wake ∧ s.power.railsFrom + 20000000 ≤ s.time.raw then
    let s := s.setStat 0xC000 9 3
    { s with power := { s.power with phase := if s.power.toSleep then .sleep else .quiet, pwrReq := false } }
  else s

/-- RAILS_TIMEOUT (R403). -/
def execRailsTimeout (t : Nat) (s : State) : Out := happenAny t true s railsTimeout

end Sys2Proof.Machine
end

