-- ==== Sys2Proof/Machine/Status.lean ====
section
/-! DEFINITION. What a read returns: the entries whose value the state computes, and the reads that have a condition of their
own (R57, R435 to R452). -/

namespace Sys2Proof.Machine

open Sys2Proof

/-- The bits of determinism status whose condition lasts (Table 2.7); bit 0 is sticky only. -/
def State.determinism (s : State) : Nat :=
  let debug := (List.range 4).any (fun p => decide (s.pairMode p = 4) || (s.pair p).debug)
  2 * natOfBool debug + 4 * natOfBool (bitOf (s.stat 0x1001 0x10) 2)
    + 8 * s.reg 0x2000 2 + 16 * natOfBool s.orderHeld + 32 * natOfBool s.time.forwardStep

/-- State of set `n` as `2004h` shows it: 0 in fall-back mode. -/
def State.setState (s : State) (n : Nat) : Nat := if (s.timeSet n).fallMode then 0 else (s.timeSet n).status

/-- Number of a power state (`C000h.02`). -/
def powerNum : PowerPhase → Nat
  | .coldBoot => 0 | .held => 0 | .run => 1 | .idle => 2 | .entering => 3 | .quiet => 3 | .sleep => 3 | .wake => 4
  | .warmBoot => 4

/-- Number of a role state (Table 12.2). -/
def roleNum : Role → Nat
  | .start => 0 | .solo => 1 | .pairing => 2 | .syncing => 3 | .standby => 4 | .active => 5 | .takeover => 6
  | .fenced => 7 | .halted => 8 | .disabled => 9

/-- The device summary `1001h.01` (R439). -/
def State.summary (s : State) : Nat :=
  let st := s.stat 0xA000 1
  let w := s.setState s.time.working
  natOfBool (decide (st ≠ 0)) + 2 * natOfBool (decide (st = 2)) + 4 * natOfBool (decide (st = 3))
    + 8 * natOfBool (s.keys.sealed_)
    + 16 * natOfBool (decide (s.saddle.role ∈ [Role.syncing, .standby, .active, .takeover]))
    + 32 * natOfBool s.saddle.authority + 64 * natOfBool (decide (s.power.phase = .idle))
    + 128 * natOfBool (decide (w = 1)) + 256 * natOfBool (decide (w = 2))
    + 512 * natOfBool (decide (s.determinism ≠ 0)) + 1024 * natOfBool (s.safety.latchedAt 2)

/-- The 32 bytes of a journal entry (Table 17.1). -/
def jentryNat (e : JEntry) : Nat :=
  e.ev.ns % 2 ^ 64 + e.ev.key.src * 2 ^ 64 + e.ev.key.seq * 2 ^ 80 + e.ev.code * 2 ^ 96
    + (e.count + e.ev.sev * 4096 + natOfBool e.ooo * 16384) * 2 ^ 112 + (e.ev.args % 2 ^ 128) * 2 ^ 128

/-- The first 60 bytes of a change-journal record (Table 3.6). -/
def changeBody (r : ChangeRec) : Bytes :=
  toLE 8 r.orderNs ++ toLE 1 (ifaceNum r.caller.iface) ++ toLE 1 r.kind ++ toLE 2 r.caller.session ++ toLE 2 r.idx
    ++ toLE 1 r.sub ++ toLE 1 (natOfBool r.wrap) ++ (toBE 48 (Config.sha384 r.oldVal).toNat).take 16
    ++ (toBE 48 (Config.sha384 r.newVal).toNat).take 16 ++ toLE 8 r.epoch ++ toLE 4 r.number

/-- A change-journal record with its CRC-32. -/
def changeNat (r : ChangeRec) : Nat := leNat (changeBody r ++ toLE 4 (crc32 (changeBody r)))

/-- The record of session `n` (Table 19.7). -/
def State.sessionNat (s : State) (n : Nat) : Nat :=
  let x := s.session n
  if x.state = 0 then 0
  else leNat (toLE 1 x.state ++ toLE 1 (if x.host then 0 else 1) ++ toLE 1 x.slot ++ [0] ++ toLE 16 x.ip ++ toLE 2 x.port
    ++ [0, 0] ++ toLE 4 ((s.time.orderNs - x.idleNs) / 1000000) ++ toLE 4 x.requests)

/-- The time of a set as 12 bytes (`2000h.10`…`13`). -/
def State.setTimeNat (s : State) (n : Nat) : Nat :=
  time80Of ((s.timeSet n).ns s.time.raw) + (s.timeSet n).frac s.time.raw * 2 ^ 80

/-- Trigger status (`2210h+n.08`). -/
def State.triggerStatus (s : State) (n : Nat) : Nat :=
  let x := s.trigger n
  natOfBool x.running + 2 * natOfBool x.late
    + 4 * natOfBool (x.running && decide (x.nextPulse = 0) && decide (s.workingQ16 < s.pulseEdge n 0))

/-- Watchdog status (`A300h.14` + 8w). -/
def State.watchdogStatus (s : State) (w : Nat) : Nat :=
  let x := s.watchdog w
  natOfBool x.running + 2 * natOfBool x.nextAA
    + 4 * natOfBool (x.running && decide (x.lastRaw + s.reg 0xA300 (0x11 + 8 * w) * 1000 ≤ s.time.raw))

/-- Image value selected in `1200h.13` (R418): a covered counter, or the hits of the row at the caller's row index. -/
def State.imageValue (s : State) (c : Caller) : Nat :=
  let sel := s.ownVal c 0x1200 0x13
  if hitTable (sel / 256) then kget (fun _ => 0) s.journal.imageRows (rkey (sel / 256) (s.ownVal c (sel / 256) 5) (sel % 256))
  else kget (fun _ => 0) s.journal.image sel

/-- The entries of 1000h to 2FFFh whose value the state computes. -/
def State.computedLow (s : State) (c : Caller) (idx sub : Nat) : Option Nat :=
  if idx = 0x1001 then
    (match sub with
      | 1 => some s.summary
      | 3 => some s.dict.image.seq
      | 4 => some s.dict.image.hash
      | 5 => some (match s.dict.candidate with | none => 0 | some x => if x.marked then 2 else 1)
      | 6 => some (match s.dict.candidate with | none => 0 | some x => x.image.seq)
      | 0x10 => some s.determinism
      | _ => none)
  else if idx = 0x1020 then
    if sub = 1 then some (s.access.sessions.filter (fun x => decide (x.state = 2))).length
    else if sub = 5 then some (match s.access.lockout with
      | some e => (e - s.time.orderNs + 999999) / 1000000
      | none => 0)
    else if 0x10 ≤ sub ∧ sub ≤ 0x17 then some (s.sessionNat (sub - 0x0F))
    else none
  else if idx = 0x1030 then
    (match sub with
      | 1 => some s.dict.changeNo
      | 3 => (s.dict.changes.find? (fun r => decide (r.number = s.ownVal c 0x1030 2))).map changeNat
      | 4 => some s.dict.changes.length
      | _ => none)
  else if idx = 0x1200 then
    (match sub with
      | 1 => some (s.journal.unread 3)
      | 2 => some s.journal.newest
      | 4 => some s.journal.oldest
      | 0x11 => some (natOfBool s.journal.request.isSome)
      | 0x12 => some s.journal.imageAt
      | 0x14 => some (s.imageValue c)
      | 0x20 => some s.journal.persistNo
      | 0x22 => (s.journal.persistent.find? (fun e => decide (e.number = s.ownVal c 0x1200 0x21))).map jentryNat
      | _ => none)
  else if idx = 0x1201 ∧ sub = 2 then
    (s.journal.held.find? (fun e => decide (e.number = s.ownVal c 0x1201 1))).map jentryNat
  else if idx = 0x1300 ∧ sub = 0x11 then some (s.stat 0x1300 0x11)
  else if idx = 0x1302 then
    let g := s.dict.staging
    (match sub with
      | 1 => some (match g.state with | .empty => 0 | .open_ => 1 | .armed => 2)
      | 2 => some (match g.owner with | some o => ifaceSource o.iface | none => 0)
      | 3 => some g.recs.length
      | 4 => some g.epoch
      | 5 => some g.result
      | 6 => some g.applied
      | 7 => some s.overlayFree
      | 8 => some g.refused
      | _ => none)
  else if idx = 0x2000 then
    if sub = 5 then some (s.time.raw % 2 ^ 64)
    else if sub = 6 then some (natOfBool s.time.onRefclk + (List.range 4).foldl (fun a n =>
      a + (2 <<< n) * natOfBool (decide ((s.timeSet n).slewRem ≠ 0) || decide ((s.timeSet n).slewTerm ≠ 0))) 0)
    else if 0x10 ≤ sub ∧ sub ≤ 0x13 then some (s.setTimeNat (sub - 0x10))
    else none
  else if idx = 0x2001 ∧ 1 ≤ sub ∧ sub ≤ 4 then some (encSgn 32 (s.timeSet (sub - 1)).rate)
  else if idx = 0x2002 ∧ 9 ≤ sub ∧ sub ≤ 0x0C then some ((s.timeSet (sub - 9)).slewRem / 2 ^ 24)
  else if idx = 0x2003 ∧ 1 ≤ sub ∧ sub ≤ 4 then some (s.timeSet (sub - 1)).fallback
  else if idx = 0x2004 ∧ 1 ≤ sub ∧ sub ≤ 4 then some (s.setState (sub - 1))
  else if idx = 0x2004 ∧ 5 ≤ sub ∧ sub ≤ 8 then
    let ts := s.timeSet (sub - 5)
    some (if ts.status = 2 then s.time.raw - ts.holdRaw else ts.holdNs)
  else if idx = 0x2005 ∧ sub = 1 then some (s.time.orderNs % 2 ^ 64)
  else if idx = 0x2005 ∧ sub = 2 then some (s.time.orderNs / 32)
  else if 0x2210 ≤ idx ∧ idx < 0x2220 ∧ sub = 8 then some (s.triggerStatus (idx - 0x2210))
  else if 0x2220 ≤ idx ∧ idx < 0x2230 ∧ sub = 4 then some (s.capture (idx - 0x2220)).queue.length
  else none

/-- The entries of A000h to CFFFh whose value the state computes. -/
def State.computedHigh (s : State) (idx sub : Nat) : Option Nat :=
  if idx = 0xA100 then
    (match sub with
      | 1 => some s.safety.active
      | 2 => some s.safety.latched
      | 4 => some (s.safety.reactions.foldl (fun a x => if bitOf s.safety.latched x.1 then max a x.2 else a) 0)
      | _ => none)
  else if idx = 0xA200 ∧ sub = 0x20 then some (fieldOf s.safety.active 57 32)
  else if idx = 0xA300 ∧ 0x10 ≤ sub ∧ sub % 8 = 4 then some (s.watchdogStatus ((sub - 0x10) / 8))
  else if idx = 0xC200 ∧ sub = 2 then
    some (s.stat 0xC200 2 / 512 * 512 + 256 * natOfBool s.time.onRefclk + fieldOf s.safety.active 57 50)
  else if idx = 0xC300 ∧ 0x31 ≤ sub ∧ sub ≤ 0x34 then
    some (if s.setState (sub - 0x31) = 1 then s.stat 0xC300 sub else 0xFFFFFFFF)
  else none

end Sys2Proof.Machine
end

