-- ==== Sys2Proof/Machine/Reads.lean ====
section
/-! DEFINITION. The read of any entry: its value, and what the read clears (R57, R97, R417, R448). -/

namespace Sys2Proof.Machine

open Sys2Proof

/-! ### Values that the state computes: ports, queues, Basin, buses, Ford, the pair and the link -/

/-- Link status `3040h+p`. -/
def State.linkValue (s : State) (p sub : Nat) : Option Nat :=
  match sub with
  | 1 => some (s.linkState p)
  | 2 => some (if s.portUp p then s.portMbps p else 0)
  | 3 => some (natOfBool (isBP p && s.portUp p && decide (s.reg (0x3000 + p) 2 = 1)))
  | 4 => some (natOfBool (isBP p && s.portUp p))
  | 8 => some (s.pausedMask p)
  | 9 => some (match (s.port p).holdEnd with
    | some e => (e - s.time.raw + 999999) / 1000000
    | none => 0)
  | _ => none

/-- Queue parameters that show state (`3400h+p`). -/
def State.queueValue (s : State) (p sub : Nat) : Option Nat :=
  let q := sub / 16
  match sub % 16 with
  | 5 => some (match s.credit p q with | some x => encSgn 64 x.value | none => 0)
  | 6 => some (encSgn 64 (s.creditBounds p q).1)
  | 7 => some (encSgn 64 (s.creditBounds p q).2)
  | 0x0B => some (s.queueOf p q).length
  | _ => none

/-- An oper entry as 8 bytes (`3540h+p.0B`). -/
def gateEntryNat (e : GateEntry) : Nat := e.op + e.states * 256 + e.ns * 2 ^ 32

/-- The oper list of a gate engine (`3540h+p`). -/
def State.gateValue (s : State) (c : Caller) (p sub : Nat) : Option Nat :=
  let g := s.gate p
  let now := s.workingNs
  let l := g.listAt now
  let waits := g.pending.filter (fun x => decide (now < x.2))
  let switched := natOfBool (g.pending.isSome && waits.isNone)
  match sub with
  | 1 => some (natOfBool l.isSome)
  | 2 => some (match l with | some x => time80Of x.base | none => 0)
  | 3 => some (match l with | some x => x.cycle | none => 0)
  | 4 => some (match l with | some x => x.entries.length | none => 0)
  | 5 => some (match g.entry now with | some (i, _) => i | none => 0)
  | 6 => some (match l with
    | some x => time80Of ((x.base : Int) + x.cycleNo now * x.cycle).toNat
    | none => 0)
  | 7 => some (natOfBool waits.isSome)
  | 8 => some (match waits with | some (_, x) => time80Of x | none => 0)
  | 9 => some ((g.switches + switched) % 2 ^ 32)
  | 0x0B => some (match l with
    | some x => match x.entries[s.ownVal c (0x3540 + p) 0x0A]? with
      | some e => gateEntryNat e
      | none => 0
    | none => 0)
  | 0x0C => some (g.states now)
  | 0x0D => some (natOfBool (s.portHold p))
  | _ => none

/-- Ports and queues (3000h to 3FFFh). -/
def State.portValue (s : State) (c : Caller) (idx sub : Nat) : Option Nat :=
  if 0x3040 ≤ idx ∧ idx < 0x3060 then s.linkValue (idx - 0x3040) sub
  else if 0x3100 ≤ idx ∧ idx < 0x3114 then
    let sas := (s.port (idx - 0x3100)).sas
    if sub = 0x0B then some (match sas.find? (fun a => a.tx && a.inUse) with | some a => a.an | none => 0)
    else if sub = 0x0D then some (distinct ((sas.filter (fun a => !a.tx && a.inUse)).map SecAssoc.sci)).length
    else none
  else if 0x3140 ≤ idx ∧ idx < 0x315C ∧ sub = 2 then some (nth s.time.txStamps (idx - 0x3140) []).length
  else if 0x3400 ≤ idx ∧ idx < 0x3420 then s.queueValue (idx - 0x3400) sub
  else if 0x3540 ≤ idx ∧ idx < 0x3560 then s.gateValue c (idx - 0x3540) sub
  else none

/-- The record of the capture ledger that a caller has selected (`4400h.08`). -/
def State.ledgerRecord (s : State) (c : Caller) : Nat :=
  match s.basin.ledger.find? (fun r => decide (r.number = s.ownVal c 0x4400 8)) with
  | some r => leNat r.bytes
  | none => 0

/-- Basin and the switch core (4000h to 4FFFh). -/
def State.basinValue (s : State) (c : Caller) (idx sub : Nat) : Option Nat :=
  let k := s.keyEpoch
  if idx = 0x4000 ∧ sub = 4 then some s.cellsInService
  else if idx = 0x4001 ∧ 1 ≤ sub ∧ sub ≤ 0x40 then some (s.bankStatus (sub - 1))
  else if idx = 0x4010 then
    (match sub with
      | 3 => some (s.sharedSize k)
      | 4 => some (s.sharedUsed k)
      | 5 => some s.freeCells
      | _ => none)
  else if idx = 0x4100 ∧ sub = 2 then some ((s.fdbLive k).filter (fun x => !x.2.static_)).length
  else if idx = 0x4400 then
    (match sub with
      | 1 => some s.ledgerState
      | 5 => some s.ledgerCapacity
      | 9 => some (s.ledgerRecord c)
      | _ => none)
  else none

/-- A semaphore's entry (`9140h.03` + n). -/
def State.semValue (s : State) (n : Nat) : Nat := match kfind s.elnar.sems n with
  | some x => x.holder + 256 * x.init
  | none => 0

/-- Receive stamps of the lanes in use. -/
def State.laneStamps (s : State) : List Nat := ((List.range 4).filter s.laneInUse).map (fun r => (s.rxLane r).stamp)

/-- Buses, Ford, the pair and the link (7000h to 9FFFh). -/
def State.pairValue (s : State) (idx sub : Nat) : Option Nat :=
  if 0x7000 ≤ idx ∧ idx < 0x7018 ∧ sub = 0x23 then some (s.can (idx - 0x7000)).queue.length
  else if idx = 0x8000 ∧ sub = 3 then
    some (⟨s.regAt s.keyEpoch, s.rowsAt s.keyEpoch, []⟩ : Plan).imageBytes
  else if idx = 0x8300 ∧ sub = 6 then some s.ford.queue.length
  else if idx = 0x9000 then
    (match sub with
      | 0x10 => some (roleNum s.saddle.role)
      | 0x13 => some s.pairSignals
      | 0x17 => some s.replayLag
      | 0x23 => some (if s.saddle.role = .standby then s.inboxUse else s.journalUse)
      | _ => none)
  else if idx = 0x9010 ∧ sub = 4 then some (match s.saddle.swap with | some w => time80Of w.pointNs | none => 0)
  else if idx = 0x9100 ∧ sub = 0x0A then
    some (match s.laneStamps with
      | [] => 0
      | x :: xs => xs.foldl max x - xs.foldl min x)
  else if idx = 0x9130 ∧ sub = 2 then some (s.elnar.out.filter (fun o => !o.ended)).length
  else if idx = 0x9140 ∧ 3 ≤ sub ∧ sub ≤ 0x42 then some (s.semValue (sub - 3))
  else none

/-- Information on the selected slot (`B000h.03`). -/
def State.slotInfo (s : State) (c : Caller) : Nat :=
  let x := s.slot (s.ownVal c 0xB000 2)
  if x.kind = 0 then 0
  else x.kind + (x.flags ||| 8) * 256 + x.usage * 2 ^ 16 + x.pairs * 2 ^ 32 + x.counter * 2 ^ 64

/-- Keys, boot and power (B000h to CFFFh). -/
def State.keyValue (s : State) (c : Caller) (idx sub : Nat) : Option Nat :=
  let k := s.keys
  if idx = 0xB000 then
    (match sub with
      | 1 => some (k.slots.filter (fun x => decide (x.2.kind ≠ 0))).length
      | 3 => some (s.slotInfo c)
      | 7 => some (natOfBool k.ready + 2 * natOfBool k.sealed_)
      | _ => none)
  else if idx = 0xB100 ∧ sub = 3 then some k.counter
  else if idx = 0xB200 then
    (match sub with
      | 1 => some (leNat (toBE 48 s.identityHash))
      | 6 => some (leNat (s.slotPublic 0))
      | _ => none)
  else if idx = 0xB300 then
    if sub = 1 then some k.lifecycle
    else if sub = 4 then some k.rollback
    else if 0x10 ≤ sub ∧ sub ≤ 0x17 then some (leNat (toBE 48 (nth k.mrs (sub - 0x10) 0)))
    else if sub = 0x19 then some k.revoked
    else if sub = 0x1A then some k.challenge
    else none
  else if idx = 0xC000 ∧ sub = 2 then some (powerNum s.power.phase)
  else none

/-! ### Any value -/

/-- The first of two values that is given. -/
def orElse (a b : Option Nat) : Option Nat := match a with
  | some x => some x
  | none => b

/-- The value that the state computes for an entry, if it does. -/
def State.computed (s : State) (c : Caller) (idx sub : Nat) : Option Nat :=
  if isTable idx ∧ sub = 3 then some (s.tableCount s.keyEpoch idx)
  else if idx < 0x3000 then s.computedLow c idx sub
  else if idx < 0x4000 then s.portValue c idx sub
  else if idx < 0x5000 then s.basinValue c idx sub
  else if idx < 0xA000 then s.pairValue idx sub
  else orElse (s.computedHigh idx sub) (s.keyValue c idx sub)

/-- The value of an entry for a read keyed now (R57): computed, the caller's own, the configuration that governs, or the status. -/
def State.entryValue (s : State) (c : Caller) (idx sub : Nat) : Nat :=
  match s.computed c idx sub with
  | some v => v
  | none => match entryDef idx sub with
    | none => 0
    | some e =>
      if e.perIface then s.ownVal c idx sub
      else match e.acc with
        | .co => entryDefault (dkey idx sub)
        | .ro => s.stat idx sub
        | .rc => s.stat idx sub
        | _ => s.reg idx sub

/-- Octets of a domain or of an entry longer than 1,024 bytes (R60, R448). -/
def State.longValue (s : State) (c : Caller) (idx sub : Nat) : Bytes :=
  if idx = 0xB200 ∧ sub = 5 then s.keys.statement
  else if idx = 0xB200 ∧ sub = 7 then s.slotPublic 1
  else if idx = 0xB200 ∧ sub = 8 then s.aliasCert
  else match entryDef idx sub with
    | some e => if e.ty = .dom then s.domain idx sub else toLE e.ty.bytes (s.entryValue c idx sub)
    | none => []

/-- Whether an entry is a domain, or longer than 1,024 bytes. -/
def isLong (idx sub : Nat) : Bool := match entryDef idx sub with
  | some e => decide (e.ty = .dom) || decide (1024 < e.ty.bytes)
  | none => false

/-- Bytes of a value in the octets it takes: a string has no more than its own. -/
def valueLen (idx sub v : Nat) : Nat := match entryDef idx sub with
  | some e => match e.ty with
    | .str n => ((List.range (n + 1)).find? (fun i => decide (v < 256 ^ i))).getD n
    | ty => ty.bytes
  | none => 0

/-! ### Reads -/

/-- What a read of an RC entry leaves: the entry at its default, the minimum SQI at the present one (R117); a follower clears
only what is its own (R57). -/
def State.clearRead (s : State) (idx sub : Nat) : State :=
  match entryDef idx sub with
  | none => s
  | some e =>
    if e.acc ≠ .rc ∨ (s.follows ∧ ¬ e.perMember) then s
    else if 0x30C0 ≤ idx ∧ idx < 0x30D4 ∧ sub = 0x12 then s.setStat idx sub (s.stat idx 0x11)
    else s.setStat idx sub (entryDefault (dkey idx sub))

/-- The sub-index of a table's hit counter. -/
def hitEntry (tbl : Nat) : Nat :=
  if tbl = 0x6100 then 0x0C else if tbl = 0x8200 then 9 else if tbl = 0x5100 ∨ tbl = 0x5200 then 0x0A else 8

/-- Whether the latest checkpoint image holds the counter a caller has selected in `1200h.13` (R418). -/
def State.imageHolds (s : State) (c : Caller) : Bool :=
  let sel := s.ownVal c 0x1200 0x13
  decide (s.journal.imageAt ≠ 0)
    && (if hitTable (sel / 256) then decide (sel % 256 = hitEntry (sel / 256)) else coveredCounter (sel / 256) (sel % 256))

/-- Status of a read that selects a record by the caller's own number: 0x000F for one that is not held (R215, R411, R418,
R442), 0x000B for the ledger while it has no memory (R215). -/
def State.recordStatus (s : State) (c : Caller) (idx sub : Nat) : Nat :=
  let held := fun (b : Bool) => if b then 0 else 0x0F
  if idx = 0x1030 ∧ sub = 3 then held (s.dict.changes.any (fun r => decide (r.number = s.ownVal c 0x1030 2)))
  else if idx = 0x1200 ∧ sub = 0x14 then held (s.imageHolds c)
  else if idx = 0x1200 ∧ sub = 0x22 then
    held (s.journal.persistent.any (fun e => decide (e.number = s.ownVal c 0x1200 0x21)))
  else if idx = 0x1201 ∧ sub = 2 then held (s.journal.held.any (fun e => decide (e.number = s.ownVal c 0x1201 1)))
  else if idx = 0x4400 ∧ sub = 9 then
    if s.ledgerServing = 0 then 0x0B
    else held (s.basin.ledger.any (fun r => decide (r.number = s.ownVal c 0x4400 8)))
  else 0

/-- READ of an entry (R57): the queues, snapshot groups and records that a read consumes are read by their own rules. -/
def State.readEntry (s : State) (c : Caller) (idx sub : Nat) : State :=
  if 0x3140 ≤ idx ∧ idx < 0x315C ∧ sub = 1 then s.reqTxStampRead c (idx - 0x3140)
  else if 0x2220 ≤ idx ∧ idx < 0x2230 ∧ sub = 3 then s.reqCaptureRead c (idx - 0x2220)
  else if idx = 0xA100 ∧ sub = 0x21 then s.reqInputRecordRead c
  else if (groupRange idx sub).isSome then s.reqCounterGroupRead c idx sub
  else
    let v := fun (s : State) => s.entryValue c idx sub
    s.dictRead c idx sub (fun s => if isLong idx sub then 4 else s.recordStatus c idx sub) v (valueLen idx sub (s.entryValue c idx sub))
      (fun s => s.clearRead idx sub)

/-- Whole read of a long entry: over SDO and in pointer mode over PCIe (R448). -/
def State.readLong (s : State) (c : Caller) (idx sub : Nat) : State :=
  s.dictRead c idx sub noReadExtra (fun s => leNat (s.longValue c idx sub)) (s.longValue c idx sub).length
    (fun s => s.clearRead idx sub)

/-- The read that a caller's later segments return bytes of. -/
def State.openRead (s : State) (c : Caller) (key : Nat) : Option DomRead :=
  s.dict.domReads.find? (fun r => decide (r.caller = c) && decide (r.key = key))

/-- Keep a caller's read of an entry for its later segments. -/
def State.keepRead (s : State) (c : Caller) (key v : Nat) : State :=
  { s with dict := { s.dict with
      domReads := s.dict.domReads.filter (fun r => !(decide (r.caller = c) && decide (r.key = key))) ++ [⟨c, key, v⟩] } }

/-- READ_SEG (R60, R448): offset 0 reads the entry anew, later segments return bytes of that same read; a segment out of range
is refused, and so is a segment of an entry of a fixed length of at most 1,024 bytes. -/
def State.readSegment (s : State) (c : Caller) (idx sub off len : Nat) : State :=
  let key := dkey idx sub
  let n := (s.longValue c idx sub).length
  let fresh := fun (s : State) => leNat (s.longValue c idx sub)
  let whole := fun (s : State) => if off = 0 then fresh s else match s.openRead c key with
    | some r => r.value
    | none => fresh s
  let extra := fun (_ : State) => if !isLong idx sub then 4 else if n < off + len then 0x0E else 0
  s.dictRead c idx sub extra (fun s => subBytes (whole s) off len) len (fun s' => s'.keepRead c key (whole s))

/-- READ: a caller on PCIe in pointer mode reads a long entry whole by its ring entry; here it is refused with 0x0004 (R448). -/
def execRead (t : Nat) (c : Caller) (idx sub : Nat) (s : State) : Out := happenBy c t true s (fun s => s.readEntry c idx sub)

/-- READ_SEG (R448). -/
def execReadSeg (t : Nat) (c : Caller) (idx sub off len : Nat) (s : State) : Out :=
  happenBy c t true s (fun s => s.readSegment c idx sub off len)

end Sys2Proof.Machine
end

