-- ==== Sys2Proof/Machine/Writes.lean ====
section
/-! DEFINITION. Writes of any entry and of any domain, as a dictionary interface carries them: an entry whose write commands
something is written by its own rule (R55, R60, R61). A check that only an outside verdict settles takes a free value here. -/

namespace Sys2Proof.Machine

open Sys2Proof

/-- A write with no condition and no effect of its own. -/
def State.writePlain (s : State) (c : Caller) (idx sub : Nat) (data : Bytes) : State :=
  s.dictWrite c idx sub data noExtra (fun _ s => s)

/-- A yes or no that the spec leaves to a test or a verification: the next free value. -/
def State.freeBit (s : State) : Bool := decide (s.freeNat % 2 = 1)

/-- 512 bits left open: the key that a wrapped key unwraps to, in the eight free values after the next. -/
def State.freeKey (s : State) : Nat :=
  (List.range 8).foldl (fun a i => a * 2 ^ 64 + (Config.freeValue (s.fresh + 1 + i)).toNat) 0

/-- The corrections that a write of `2000h.04` queues: every set whose bit changes (R85, R87). -/
def State.scheduleModes (s : State) (c : Caller) (was v : Nat) : State :=
  ((List.range 4).filter (fun n => bitOf was n != bitOf v n)).foldl
    (fun s n => s.schedule c n .mode (natOfBool (bitOf v n) : Int)) s

/-- Writes of the system, staging and journal objects. -/
def State.writeSystem (s : State) (c : Caller) (idx sub : Nat) (data : Bytes) : State :=
  let one := decide (data = [1])
  if idx = 0x1002 ∧ sub = 1 then s.resetCommand c data
  else if idx = 0x1020 ∧ sub = 6 then s.closeNamed c (leNat data)
  else if idx = 0x1200 ∧ sub = 3 then s.reqJournalAcknowledge c (leNat data)
  else if idx = 0x1200 ∧ sub = 0x10 then s.reqSnapshotRequest c (leNat data)
  else if idx = 0x1300 ∧ sub = 1 then s.discardStaging c data
  else if idx = 0x1300 ∧ sub = 0x12 ∧ one then s.activateImage c
  else if idx = 0x1301 ∧ sub = 4 then s.executeCommit c data
  else s.writePlain c idx sub data

/-- Writes of the time base. -/
def State.writeTime (s : State) (c : Caller) (idx sub : Nat) (data : Bytes) : State :=
  if idx = 0x2000 ∧ sub = 3 then
    s.dictWrite c idx sub data noExtra (fun v s =>
      (List.range 4).foldl (fun s n => s.schedule c n .slewLimit (v : Int)) s)
  else if idx = 0x2000 ∧ sub = 4 then
    let was := s.reg 0x2000 4
    s.dictWrite c idx sub data noExtra (fun v s => s.scheduleModes c was v)
  else if idx = 0x2001 ∧ 1 ≤ sub ∧ sub ≤ 4 then s.reqRateWrite c (sub - 1) data
  else if idx = 0x2002 ∧ 1 ≤ sub ∧ sub ≤ 4 then s.reqStepWrite c (sub - 1) data
  else if idx = 0x2002 ∧ 5 ≤ sub ∧ sub ≤ 8 then s.reqLoadWrite c (sub - 5) data
  else if idx = 0x2003 ∧ 1 ≤ sub ∧ sub ≤ 4 then s.reqFallbackIncrementWrite c (sub - 1) data
  else s.writePlain c idx sub data

/-- Writes of the PHY objects. -/
def State.writePhy (s : State) (c : Caller) (p sub : Nat) (data : Bytes) : State :=
  let v := leNat data
  if sub = 0x0B ∧ (data = [1] ∨ data = [2]) then s.indirect c p v
  else if sub = 0x14 ∧ data = [1] then s.reqTdrStart c p
  else if sub = 0x18 ∧ data = [1] then s.reqTc10Sleep c p
  else if sub = 0x18 ∧ data = [2] then s.reqTc10Wake c p
  else s.writePlain c (0x30C0 + p) sub data

/-- Writes of Basin, the controllers, Ford and the Elnar link. -/
def State.writeMiddle (s : State) (c : Caller) (idx sub : Nat) (data : Bytes) : State :=
  let v := leNat data
  if idx = 0x4001 ∧ sub = 0x41 ∧ data.length = 1 then s.reqBankRetire c v
  else if idx = 0x4400 ∧ sub = 2 ∧ data = [1] then s.reqLedgerRestart c
  else if idx = 0x4400 ∧ sub = 2 ∧ data = [2] then s.reqLedgerFreeze c
  else if 0x7000 ≤ idx ∧ idx < 0x7018 ∧ sub = 0x0C ∧ data = [1] then s.reqRecover c (idx - 0x7000)
  else if idx = 0x8300 ∧ sub = 3 ∧ data.length = 4 then
    ((s.drawFree).reqProcessorRetest c v (s.freeNat % 2 ^ 32))
  else if idx = 0x9140 ∧ sub = 0x43 ∧ data.length = 1 then s.reqReleaseSemaphore c v
  else s.writePlain c idx sub data

/-- Writes of the safety cluster. -/
def State.writeSafety (s : State) (c : Caller) (idx sub : Nat) (data : Bytes) : State :=
  let v := leNat data
  if 0xA010 ≤ idx ∧ idx < 0xA014 ∧ sub = 4 ∧ data = [1] then s.reqSplit c (idx - 0xA010)
  else if 0xA010 ≤ idx ∧ idx < 0xA014 ∧ sub = 4 ∧ data = [2] then s.reqRejoin c (idx - 0xA010)
  else if 0xA010 ≤ idx ∧ idx < 0xA014 ∧ sub = 4 ∧ data = [3] then s.drawFree.reqRestart c (idx - 0xA010) s.freeBit
  else if idx = 0xA100 ∧ sub = 3 ∧ data.length = 1 then s.reqAcknowledgeFault c v
  else if idx = 0xA300 ∧ 0x10 ≤ sub ∧ sub < 0x50 ∧ sub % 8 = 3 ∧ data.length = 2 then
    s.reqWatchdogService c ((sub - 0x13) / 8) v
  else s.writePlain c idx sub data

/-- Writes of keys, boot and power. -/
def State.writeHigh (s : State) (c : Caller) (idx sub : Nat) (data : Bytes) : State :=
  let one := decide (data = [1])
  if idx = 0xB200 ∧ sub = 4 ∧ one then s.reqGenerateStatement c
  else if idx = 0xB300 ∧ sub = 5 ∧ one then s.reqAdvanceRollback c
  else if idx = 0xB300 ∧ sub = 6 ∧ data.length = 1 then s.reqRevokeRootKey c (leNat data)
  else if idx = 0xB300 ∧ sub = 0x18 then s.reqExtendMr7 c data
  else if idx = 0xB400 ∧ sub = 3 ∧ one then s.drawFree.reqTamperAcknowledge c (s.freeNat % 16)
  else if idx = 0xC000 ∧ sub = 1 then s.powerCommand c data
  else s.writePlain c idx sub data

/-- A write of any entry but the role command: an operation of a table, a command, or a stored value. -/
def State.writeEntry (s : State) (c : Caller) (idx sub : Nat) (data : Bytes) : State :=
  if isTable idx ∧ sub = 1 ∧ data.length = 1 then s.tableOp c idx (leNat data)
  else if idx < 0x2000 then s.writeSystem c idx sub data
  else if idx < 0x3000 then s.writeTime c idx sub data
  else if 0x30C0 ≤ idx ∧ idx < 0x30D4 then s.writePhy c (idx - 0x30C0) sub data
  else if idx < 0xA000 then s.writeMiddle c idx sub data
  else if idx < 0xB000 then s.writeSafety c idx sub data
  else s.writeHigh c idx sub data

/-! ### Domains -/

/-- Whether a quiet route entry has a reserved bit set or a source above 7 (Table 16.4). -/
def badRoute (v : Nat) : Bool :=
  decide (fieldOf v 31 30 ≠ 0) || decide (7 < fieldOf v 39 32) || decide (fieldOf v 63 50 ≠ 0)

/-- Status of a quiet route table (R398). -/
def routesStatus (b : Bytes) : Nat :=
  if b.length % 8 ≠ 0 then 0x0E
  else if (List.range (b.length / 8)).any (fun i => badRoute (leAt b (8 * i) 8)) then 6 else 0

/-- WRITE_SEG of any domain (R60): the last segment of an image, a key update or a debug response is acted upon, and the verdicts
of its signatures are free values here. -/
def State.writeSeg (s : State) (c : Caller) (idx sub off : Nat) (data : Bytes) (last : Bool) : State :=
  if idx = 0x1300 ∧ sub = 0x10 then s.drawFree.uploadSegment c off data last s.freeBit
  else if idx = 0xB100 ∧ sub = 1 ∧ last then
    let r : State := { s with fresh := s.fresh + 9 }
    r.reqUpdateMessage c off data s.freeBit (bitOf s.freeNat 1) s.freeKey
  else if idx = 0xB300 ∧ sub = 0x1B ∧ last then s.drawFree.reqDebugResponse c off data s.freeBit
  else if idx = 0xC000 ∧ sub = 0x10 then s.writeSegment c idx sub off data last (fun _ b => routesStatus b) (fun _ s => s) id
  else s.writeSegment c idx sub off data last (fun _ _ => 0) (fun _ s => s) id

/-- WRITE_SEG (R60). -/
def execWriteSeg (t : Nat) (c : Caller) (idx sub off : Nat) (data : Bytes) (last : Bool) (s : State) : Out :=
  happenBy c t true s (fun s => s.writeSeg c idx sub off data last)

end Sys2Proof.Machine
end

