-- ==== Sys2Proof/Machine/Replay.lean ====
section
/-! DEFINITION. The standby: records received, own inputs that they claim, payload fetches, acknowledgements, and the replay of an
epoch in order-key order (R47, R306 to R313). -/

namespace Sys2Proof.Machine

open Sys2Proof

/-! ### Own inputs (R309, R310) -/

/-- Whether a record's input is one that the standby has itself. -/
def claimsOwn (r : JRec) : Bool := r.payload.isNone && (decide (r.kind = 1) || decide (r.kind ∈ [2, 3, 4, 7]))

/-- Whether a record can be replayed: it needs no input of its own, or has it, or has been given up. -/
def HeldRec.satisfied (h : HeldRec) : Bool := !claimsOwn h.rec_ || h.own.isSome || h.lost

/-- The match tag of frame number `id`. -/
def State.tagOfFrame (s : State) (id : Nat) : Option Nat := (s.frame id).map (fun f => frameTag f.bytes)

/-- A record takes the earliest own input of its source with its tag; a relayed one its retained copy (R309, R310). -/
def State.claimOne (s : State) (h : HeldRec) : State × HeldRec :=
  if h.satisfied then (s, h)
  else if h.rec_.relayed then
    match takeFirst (fun x => decide (x.1.src = h.rec_.src) && decide (s.tagOfFrame x.2.1 = some h.rec_.tag)) s.saddle.retained with
    | some (x, rest) => ({ s with saddle := { s.saddle with retained := rest } }, { h with own := some (.frame x.2.1) })
    | none => (s, h)
  else
    match takeFirst (fun (x : Unclaimed) => decide (x.key.src = h.rec_.src) && decide (x.tag = h.rec_.tag)) s.saddle.own with
    | some (x, rest) => ({ s with saddle := { s.saddle with own := rest } }, { h with own := some x.inp })
    | none => (s, h)

/-- Every record that waits for an own input takes one. -/
def State.matchOwn (s : State) : State :=
  let r := s.saddle.inbox.foldl (fun (a : State × List HeldRec) h =>
    let y := a.1.claimOne h
    (y.1, a.2 ++ [y.2])) (s, [])
  { r.1 with saddle := { r.1.saddle with inbox := r.2 } }

/-! ### The replay of an input (R308) -/

/-- A caller's interface from its number. -/
def ifaceOfNum (n : Nat) : Iface :=
  if n = 0 then .host else if n = 1 then .mgmt else if n = 2 then .can else if n = 3 then .partner else .firmware

/-- The member as it was when it keyed a request: at the request's epoch, with the caller's session as it was, alone. -/
def State.actAs (s : State) (key : OKey) (c : Caller) (u : Session) : State :=
  { s with
    time := { s.time with orderNs := key.epoch * 32 },
    ord := { s.ord with sources := kput (fun _ => SourceKeys.none) s.ord.sources key.src ⟨key.seq, key.epoch, 0⟩ },
    access := { s.access with sessions := if c.session = 0 then s.access.sessions else modNth s.access.sessions (c.session - 1) (fun _ => u) },
    saddle := { s.saddle with role := .solo, authority := true } }

/-- The member's own time, keys, sessions, role and responses stand again after a replay that led to `r`. -/
def State.actEnd (s r : State) : State :=
  { r with
    time := { r.time with orderNs := s.time.orderNs },
    ord := { r.ord with sources := s.ord.sources },
    access := { r.access with sessions := s.access.sessions },
    saddle := { r.saddle with role := s.saddle.role, authority := s.saddle.authority },
    dict := { r.dict with awaiting := s.dict.awaiting, replies := s.dict.replies } }

/-- Run a request as the active member did: at its key, with authority, and with its session as it was there. No reply is
given here. -/
def State.replayAs (s : State) (key : OKey) (c : Caller) (live : Bool) (f : State → State) : State :=
  let u : Session := { Session.free with state := if live then 2 else 0, host := decide (c.iface = .host), idleNs := key.epoch * 32 }
  s.actEnd (f (s.actAs key c u))

/-- The caller's view as the record carries it: the row index, then the fields. -/
def State.viewFrom (s : State) (c : Caller) (tbl : Nat) (b : Bytes) : State :=
  let s := s.setOwn c tbl 5 (leAt b 0 4)
  ((List.range (lastField tbl - 5)).foldl (fun (a : State × Nat) i =>
    let n := entryBytes tbl (6 + i)
    (a.1.setOwn c tbl (6 + i) (leAt b a.2 n), a.2 + n)) (s, 4)).1

/-- A journaled dictionary request (R306): a read, a write, a domain segment or a table operation on a shared entry. -/
def State.replayRequest (s : State) (key : OKey) (arg : Nat) (p : Bytes) : State :=
  let op := byteAt p 0
  let sub := byteAt p 1
  let idx := beAt p 2 2
  let c : Caller := ⟨ifaceOfNum arg, byteAt p 4 % 128⟩
  let d := p.drop 5
  s.replayAs key c (bitOf (byteAt p 4) 7) (fun s =>
    if op = 1 then s.readEntry c idx sub
    else if op = 2 ∧ idx = 0x1301 ∧ sub = 4 then
      (((s.setOwn c idx 1 (leAt d 1 1)).setOwn c idx 2 (leAt d 2 8)).setOwn c idx 3 (leAt d 10 1)).executeCommit c (d.take 1)
    else if op = 2 then s.writeEntry c idx sub d
    else if op = 3 then s.writeSeg c idx sub (beAt d 1 4) (d.drop 5) (decide (byteAt d 0 = 1))
    else (s.viewFrom c idx d).tableOp c idx (op - 16))

/-- What replays put on its way to an ordering unit runs at once: the journal has ordered it (R47). -/
def State.flushTransit (s : State) : State :=
  let run := fun (s : State) =>
    s.ord.transit.foldl (fun s x => s.runWork x.inp.key x.inp.work) ({ s with ord := { s.ord with transit := [] } } : State)
  run (run s)

/-- Port of a frame's source: the cores of the cluster present at CP (Table 2.2). -/
def portOfSource (src : Nat) : Nat := if src < 32 then src else 29

/-- A frame takes its record's key and FRER decision and goes on as on the active member. -/
def State.replayFrame (s : State) (r : JRec) (id : Nat) : State :=
  match s.frame id with
  | none => s
  | some f =>
    let f := { f with key := recKey r, waiting := false, decided := some (r.frerDrop, r.frerSeq) }
    ((s.modFrame id (fun _ => f)).routeFrame f f.port).flushTransit

/-- A frame that came as payload. -/
def State.payloadFrame (s : State) (r : JRec) (b : Bytes) : State :=
  let p := portOfSource r.src
  let rx : FrameRx := ⟨b, b.length + 4, s.time.raw, .none, false, none⟩
  let f := newFrame s.basin.nextId (recKey r) p rx s.time.raw 0 true
  let s := { s with basin := { s.basin with frames := s.basin.frames ++ [f], nextId := s.basin.nextId + 1 } }
  s.replayFrame r f.id

/-- A removal from a CAN transmit queue (R252): key of the item, cause. -/
def State.replayRemoval (s : State) (n : Nat) (p : Bytes) : State :=
  let key := keyOfBytes p
  s.modCan n (fun c => { c with queue := c.queue.filter (fun x => !decide (x.key = key)) })

/-- The kind of deadline that a number names (Table 12.6). -/
def deadlineOf (n : Nat) : DeadlineKind := if n = 0 then .timeout else if n = 1 then .gapEnd else if n = 2 then .periodic else .holdEnd

/-- A Ford item or deadline that the active member lost is discarded here as well (R296). -/
def State.replayLoss (s : State) (r : JRec) : State :=
  if r.kind = 9 then
    { s with ford := { s.ford with queue := s.ford.queue.filter (fun x => !decide (x.key = recKey r)) } }
  else s.loseDeadline r.epoch r.seq (deadlineOf r.arg)

/-- Process an input exactly as the active member did (R308). An input whose payload could not be had is dropped before
Watershed (R309); capture edges and trigger edges change no shared state. -/
def State.replayRec (s : State) (h : HeldRec) : State :=
  let r := h.rec_
  let s := s.count64 0x9000 0x1F 1
  if h.lost then s
  else match r.kind, h.own, r.payload with
    | 1, some (.frame id), _ => s.replayFrame r id
    | 1, none, some b => s.payloadFrame r b
    | 0x0B, _, some b => s.payloadFrame r b
    | 5, _, some b => s.replayRequest (recKey r) r.arg b
    | 8, _, some b => s.replayRemoval r.arg b
    | 9, _, _ => s.replayLoss r
    | 0x0A, _, _ => s.replayLoss r
    | _, some (.bus f), _ => (s.busArrives (recKey r) f).flushTransit
    | k, none, some b => if k ∈ [2, 3, 4] then (s.busArrives (recKey r) (busOfBytes b)).flushTransit else s
    | _, _, _ => s

/-- Replay records in order; an epoch's deadlines come before its inputs (R265). -/
def State.replayAll (s : State) (l : List HeldRec) : State :=
  l.foldl (fun s h => (s.releaseDeadlines h.rec_.epoch).replayRec h) s

/-! ### Records and marks (R307, R308) -/

/-- The member that receives a token handover drives the output (R329). -/
def State.gainToken (s : State) (n : Nat) : State := s.setTokens (setBitAt (s.stat 0x9000 0x15) n)

/-- The standby is out of step: it says so with a record and enters SYNCING; `bit` is its sticky bit (R312, R313). -/
def State.fallOut (s : State) (bit : Nat) : State :=
  ((s.orStat 0x9000 0x14 bit).sendRecord (plainRec 0x0F s.keyEpoch 0)).enterSyncing

/-- A record of an input is kept in order-key order; a loss of an epoch already released is acted upon at once. -/
def State.keepRecord (s : State) (r : JRec) : State :=
  if r.epoch < s.saddle.released ∧ s.saddle.role ≠ .syncing then
    (if r.kind = 9 ∨ r.kind = 0x0A then s.replayLoss r else s)
  else
    let h : HeldRec := ⟨r, s.time.raw, none, false, false⟩
    let s := { s with saddle := { s.saddle with inbox := insertByKey (fun (h : HeldRec) => recKey h.rec_) h s.saddle.inbox } }
    if 262144 < s.inboxUse ∧ s.saddle.role = .standby then s.fallOut 64 else s.matchOwn

/-- JOURNAL_RECORD: a class J message of the partner arrives (R307, R308). Marks, swaps and token handovers act at once. -/
def journalRecord (m : Bytes) (s : State) : State :=
  let s := s.consume 1 1 m
  let r := recOfBytes s.keyEpoch m
  if r.kind = 0x0E then s.gainToken r.arg
  else if !decide (s.saddle.role = .standby) && !decide (s.saddle.role = .syncing) then s
  else if r.kind = 0x0C then { s with saddle := { s.saddle with mark := max s.saddle.mark r.epoch } }
  else if r.kind = 0x0D then { s with saddle := { s.saddle with swap := some ⟨r.epoch * 32, r.epoch⟩ } }
  else if r.kind = 0x0F then (if s.saddle.role = .standby then s.enterSyncing else s)
  else s.keepRecord r

/-- JOURNAL_RECORD (R308). -/
def execJournalRecord (t : Nat) (m : Bytes) (s : State) : Out := happen t true s (journalRecord m)

/-- The highest epoch for which this standby holds every record and payload (R307). -/
def State.completeEpoch (s : State) : Nat :=
  (s.saddle.inbox.filter (fun h => !h.satisfied)).foldl (fun a h => min a (h.rec_.epoch - 1)) s.saddle.mark

/-- JOURNAL_ACK: the standby returns its highest complete epoch as a class C message, or the active member takes one (R307). -/
def journalAck (recv : Option Nat) (s : State) : State :=
  match recv with
  | none =>
    if s.saddle.role = .standby then
      let s := s.matchOwn
      s.sendMsg 5 0x40 0 (toBE 8 s.completeEpoch)
    else s
  | some e =>
    let s := s.consume 5 0x40 (toBE 8 e)
    if s.saddle.role = .active then { s with saddle := { s.saddle with acked := max s.saddle.acked e } } else s

/-- JOURNAL_ACK (R307). -/
def execJournalAck (t : Nat) (recv : Option Nat) (s : State) : Out := happen t true s (journalAck recv)

/-- Note the replay lag of epoch `e`, and since when it is above the limit (R312). -/
def State.noteLag (s : State) (e : Nat) : State :=
  let lag := s.time.orderNs - (e + 2) * 32
  let s := (s.setStat 0x9000 0x17 lag).setStat 0x9000 0x18 (max (s.stat 0x9000 0x18) lag)
  let since := if s.reg 0x9000 5 * 1000 < lag then some (s.saddle.lagSince.getD s.time.raw) else none
  { s with saddle := { s.saddle with lagSince := since } }

/-- STANDBY_EPOCH_RELEASE: the mark for `e`, what every record of `e` needs, and boundary e + 2 by its own order time (R308). -/
def standbyEpochRelease (e : Nat) (s : State) : State :=
  let s := s.matchOwn
  let due := s.saddle.inbox.filter (fun h => decide (h.rec_.epoch ≤ e))
  let role := decide (s.saddle.role = .standby) || (decide (s.saddle.role = .takeover) && !s.saddle.caughtUp)
  if !role ∨ e < s.saddle.released ∨ s.saddle.mark < e ∨ due.any (fun h => !h.satisfied) ∨ s.time.orderNs < (e + 2) * 32 then s
  else
    let s := { s with saddle := { s.saddle with inbox := s.saddle.inbox.filter (fun h => !decide (h.rec_.epoch ≤ e)) } }
    let s := (s.replayAll due).releaseDeadlines e
    ({ s with saddle := { s.saddle with released := e + 1 } } : State).noteLag e

/-- STANDBY_EPOCH_RELEASE (R308). -/
def execStandbyEpochRelease (t e : Nat) (s : State) : Out := happen t true s (standbyEpochRelease e)

/-! ### Windows (R309) -/

/-- The lowest bridge tag that no request has. -/
def State.freeTag (s : State) : Option Nat :=
  (List.range 256).find? (fun n => !s.elnar.out.any (fun o => decide (o.req.tag = n)))

/-- Fetch the payload of a record over the bridge; with the link out of frame it cannot be had (R309). -/
def State.fetchPayload (s : State) (key : OKey) : State :=
  let mine := fun (h : HeldRec) => decide (recKey h.rec_ = key) && !h.satisfied
  let mark := fun (h : HeldRec) => { h with fetch := true }
  let s := { s with saddle := { s.saddle with inbox := modWhere mine mark s.saddle.inbox } }
  let s := s.count64 0x9000 0x20 1
  match s.freeTag with
  | some n => if s.linkSync then s.issueReq ⟨2, n, 7, 0, 0, 0, keyBytes key⟩ else s.fetchDone key none
  | none => s.fetchDone key none

/-- MATCH_WINDOW_EXPIRED: no own copy has come within the match window after the record (R309). -/
def matchWindowExpired (key : OKey) (s : State) : State :=
  let s := s.matchOwn
  let late := fun (h : HeldRec) => decide (recKey h.rec_ = key) && !h.satisfied && !h.fetch
    && decide (h.at_ + s.reg 0x9000 4 ≤ s.time.raw)
  if s.saddle.inbox.any late then s.fetchPayload key else s

/-- MATCH_WINDOW_EXPIRED (R309). -/
def execMatchWindowExpired (t : Nat) (key : OKey) (s : State) : Out := happen t true s (matchWindowExpired key)

/-- Discard own inputs that satisfy `p`: counted, their frames gone (R309). -/
def State.discardOwn (s : State) (p : Unclaimed → Bool) : State :=
  let gone := s.saddle.own.filter p
  let ids := gone.filterMap (fun x => match x.inp with
    | .frame id => some id
    | _ => none)
  ({ s with
    saddle := { s.saddle with own := s.saddle.own.filter (fun x => !p x) },
    basin := { s.basin with frames := s.basin.frames.filter (fun f => !decide (f.id ∈ ids)) } } : State).count64 0x9000 0x22
      gone.length

/-- UNCLAIMED_INPUT_DISCARD: own inputs that no record claimed by the mark for their epoch and the match window (R309). -/
def unclaimedInputDiscard (s : State) : State :=
  if s.follows then
    s.matchOwn.discardOwn (fun x => decide (x.key.epoch ≤ s.saddle.mark) && decide (x.at_ + s.reg 0x9000 4 ≤ s.time.raw))
  else s

/-- UNCLAIMED_INPUT_DISCARD (R309). -/
def execUnclaimedInputDiscard (t : Nat) (s : State) : Out := happen t true s unclaimedInputDiscard

/-! ### Relayed inputs on the active member (R310) -/

/-- A stamp in the partner's working clock as a raw tick of this member's counter, through its own working clock. -/
def State.rawOfNs (s : State) (ns : Nat) : Nat :=
  let sc := (s.timeSet s.time.working).scale
  (((s.time.raw : Int) + ((ns : Int) - (s.workingNs : Int)) * 2 ^ 40 / (max sc 1 : Int))).toNat

/-- A frame received on a port homed on the standby is presented at XP: keyed under the port's source, journaled with the relayed
flag, and processed. -/
def State.relayIn (s : State) (m : Bytes) : State :=
  let p := byteAt m 0
  let b := m.drop 9
  let raw := s.rawOfNs (beAt m 1 8)
  let key := s.nextKey p
  let f := newFrame s.basin.nextId key p ⟨b, b.length + 4, raw, .none, false, none⟩ raw 0 true
  let s := (s.issueKey p).count64 0x9000 0x24 1
  let s := { s with basin := { s.basin with frames := s.basin.frames ++ [f], nextId := s.basin.nextId + 1 } }
  (s.journalInput key 1 0 (frameTag b) true none).routeFrame f p

/-- A removal that the standby made from a queue it owns: keyed on arrival under the controller's source, journaled, and made here. -/
def State.removalIn (s : State) (m : Bytes) : State :=
  let n := byteAt m 0
  let src := 0x0100 + n
  let key := s.nextKey src
  ((s.issueKey src).journalInput key 8 n 0 true (some (m.drop 1))).replayRemoval n (m.drop 1)

/-- RELAYED_FRAME: a class F message of kind 1, a frame, or of kind 2, a removal, arrives (R310). -/
def relayedFrame (kind : Nat) (m : Bytes) (s : State) : State :=
  let s := s.consume 3 kind m
  if s.saddle.role ≠ .active then s
  else if kind = 1 ∧ byteAt m 0 < 28 then s.relayIn m
  else if kind = 2 ∧ byteAt m 0 < 24 then s.removalIn m
  else s

/-- RELAYED_FRAME (R310). -/
def execRelayedFrame (t kind : Nat) (m : Bytes) (s : State) : Out := happen t true s (relayedFrame kind m)

/-! ### Out of step (R312, R313) -/

/-- Whether the lag has been above the limit for 1 ms. -/
def State.lagTooLong (s : State) : Bool :=
  let lim := s.reg 0x9000 5 * 1000
  (match s.saddle.lagSince with
    | some r => decide (r + 1000000 ≤ s.time.raw) && decide (lim < s.replayLag)
    | none => false) || decide (lim + 1000000 ≤ s.replayLag)

/-- LAG_LIMIT_EXCEEDED (R312). -/
def lagLimitExceeded (s : State) : State :=
  if s.saddle.role = .standby ∧ s.lagTooLong then s.fallOut 32 else s

/-- LAG_LIMIT_EXCEEDED (R312). -/
def execLagLimitExceeded (t : Nat) (s : State) : Out := happen t true s lagLimitExceeded

/-- JOURNAL_OVERFLOW: more than 384 KiB wait in the active member's buffer: it says so and stops journaling; the standby's buffer
of 256 KiB overflowing has the same effect (R313). -/
def journalOverflow (s : State) : State :=
  if s.saddle.role = .active ∧ s.saddle.journaling ∧ 393216 < s.journalUse then
    let s := (s.orStat 0x9000 0x14 64).sendRecord (plainRec 0x0F s.keyEpoch 0)
    { s.abandonSwap with saddle := { s.abandonSwap.saddle with journaling := false, outbox := [], digests := [], resync := none } }
  else if s.saddle.role = .standby ∧ 262144 < s.inboxUse then s.fallOut 64
  else s

/-- JOURNAL_OVERFLOW (R313). -/
def execJournalOverflow (t : Nat) (s : State) : Out := happen t true s journalOverflow

end Sys2Proof.Machine
end

