-- ==== Sys2Proof/Machine/SaddleFamily.lean ====
section
/-! DEFINITION. Failure detection, takeover, resynchronisation and scheduled swaps of a pair (R314 to R331). -/

namespace Sys2Proof.Machine

open Sys2Proof

/-! ### Failure detection (R316, R320 to R322) -/

/-- Whether two frames in a row of some lane carried the fail notice (R320). -/
def State.failNoticed (s : State) : Bool := (List.range 4).any (fun r => s.laneInUse r && decide (2 ≤ (s.rxLane r).notices))

/-- Roles that watch a partner. -/
def State.paired? (s : State) : Bool :=
  decide (s.saddle.role = .active) || decide (s.saddle.role = .standby) || decide (s.saddle.role = .syncing)

/-- PARTNER_DECLARED_FAILED: neither path heard for 2 µs, or a fail notice (R320). -/
def partnerDeclaredFailed (pins : Pins) (s : State) : State :=
  let s := s.seePins pins
  if s.paired? ∧ s.saddle.declared.isNone ∧ (!s.partnerHeard ∨ s.failNoticed) then
    let s := (s.orStat 0x9000 0x14 256).raiseFault 98 false
    { s with saddle := { s.saddle with declared := some s.time.raw, confirmed := false } }
  else s

/-- PARTNER_DECLARED_FAILED (R320). -/
def execPartnerDeclaredFailed (t : Nat) (pins : Pins) (s : State) : Out := happen t true s (partnerDeclaredFailed pins)

/-- HEARTBEAT_PATH_LOST: one path has gone 2 µs unheard while the other is heard (R321). -/
def heartbeatPathLost (elnar : Bool) (pins : Pins) (s : State) : State :=
  let s := s.seePins pins
  let lost := if elnar then !s.elnarHeard 2000 && pins.pin else s.elnarHeard 2000 && !pins.pin
  if s.paired? ∧ lost then
    ((s.orStat 0x9000 0x14 (if elnar then 1 else 2)).raiseEvent 0x0F01 0x0A03 (if elnar then 0 else 1)).raiseFault
      (if elnar then 95 else 96) false
  else s

/-- HEARTBEAT_PATH_LOST (R321). -/
def execHeartbeatPathLost (t : Nat) (elnar : Bool) (pins : Pins) (s : State) : Out :=
  happen t true s (heartbeatPathLost elnar pins)

/-- The level of ROLE_IN that the partner's state implies (R316): an active partner drives it high, and a standby does while it
holds a token. -/
def State.expectedRoleIn (s : State) : Bool :=
  if s.saddle.role = .active then s.saddle.journaling && decide (s.stat 0x9000 0x15 ≠ s.allTokens) else true

/-- ROLE_LINE_MISMATCH: ROLE_IN has differed for 10 µs (R316). -/
def roleLineMismatch (pins : Pins) (s : State) : State :=
  let s := s.seePins pins
  if s.paired? ∧ pins.roleIn ≠ s.expectedRoleIn then
    ((s.orStat 0x9000 0x14 8).raiseEvent 0x0F01 0x0A04 0).raiseFault 97 false
  else s

/-- ROLE_LINE_MISMATCH (R316). -/
def execRoleLineMismatch (t : Nat) (pins : Pins) (s : State) : Out := happen t true s (roleLineMismatch pins)

/-- A member that is fenced stops every output, and ROLE_OUT goes low (R322). -/
def State.enterFenced (s : State) : State :=
  let s := ((s.setTokens 0).orStat 0x9000 0x14 4).dropWaiting
  { s with saddle := { s.saddle with
      role := .fenced, authority := false, inbox := [], own := [], retained := [], resync := none, swap := none, handovers := [],
      declared := none, confirmed := false, caughtUp := false } }

/-- Whether a member that is not the authority is fenced (R322): both paths silent, or the link out of frame, while ROLE_IN is
high or the pin path is heard; during a confirmation, any heartbeat or ROLE_IN high. -/
def State.fenceDue (s : State) : Bool :=
  if s.saddle.declared.isSome then !s.saddle.confirmed && (s.partnerHeard || s.saddle.roleIn)
  else (!s.partnerHeard && s.saddle.roleIn) ||
    (!s.linkSync && !s.elnarHeard 2000 && (s.saddle.pinHeard || s.saddle.roleIn))

/-- FENCE (R322): of an authority, a heartbeat during the confirmation only ends the declaration (R323). -/
def fence (pins : Pins) (s : State) : State :=
  let s := s.seePins pins
  if !s.fenceDue then s
  else if s.saddle.role = .standby ∨ s.saddle.role = .syncing then s.enterFenced
  else if s.saddle.role = .active ∧ s.saddle.declared.isSome then
    { s with saddle := { s.saddle with declared := none } }
  else s

/-- FENCE (R322). -/
def execFence (t : Nat) (pins : Pins) (s : State) : Out := happen t true s (fence pins)

/-! ### Takeover (R323, R319) -/

/-- TAKEOVER_CONFIRMED: for 1 µs ROLE_IN has been low and no heartbeat was heard; a standby enters TAKEOVER (R323). -/
def takeoverConfirmed (pins : Pins) (s : State) : State :=
  let s := s.seePins pins
  match s.saddle.declared with
  | none => s
  | some d =>
    let quiet := match s.saddle.heardElnar with
      | some r => decide (r ≤ d)
      | none => true
    if s.time.raw < d + 1000 ∨ pins.roleIn ∨ pins.pin ∨ !quiet ∨ s.saddle.confirmed then s
    else
      let s := { s with saddle := { s.saddle with confirmed := true } }
      if s.saddle.role = .standby then { s with saddle := { s.saddle with role := .takeover, caughtUp := false } } else s

/-- TAKEOVER_CONFIRMED (R323). -/
def execTakeoverConfirmed (t : Nat) (pins : Pins) (s : State) : Out := happen t true s (takeoverConfirmed pins)

/-- An own input is ordered by this member under a key: journaled, and offered. -/
def State.orderOwn (s : State) (key : OKey) (x : Unclaimed) : State :=
  match x.inp with
  | .frame id => match s.frame id with
    | none => s
    | some f =>
      let f := { f with key := key, waiting := false }
      ((s.modFrame id (fun _ => f)).journalFrame f).routeFrame f f.port
  | .bus f => (s.journalInput key (f.kind + 1) f.bus (busTag f) false none).busArrives key f
  | .trigger n _ => s.journalInput key 7 n x.tag false none

/-- A relayed frame not yet journaled is keyed here, under the source of its port (R323). -/
def State.orderRetained (s : State) (x : OKey × Nat × Nat) : State :=
  match s.frame x.2.1 with
  | none => s
  | some f =>
    let key := s.nextKey f.port
    let f := { f with key := key, waiting := false }
    (((s.issueKey f.port).modFrame f.id (fun _ => f)).journalFrame f).routeFrame f f.port

/-- From epoch `e` on this member's own keys order its inputs: its unclaimed inputs, then its relayed frames. -/
def State.ownFrom (s : State) (e : Nat) (keyOf : Unclaimed → OKey) : State :=
  let own := s.saddle.own
  let kept := s.saddle.retained
  let s : State := { s with saddle := { s.saddle with own := [], retained := [] } }
  let s : State := { s with
    ord := { s.ord with units := s.ord.units.map (fun (u : SortBuffer) => { u with released := max u.released e }) } }
  let s := own.foldl (fun s x => s.orderOwn (keyOf x) x) s
  kept.foldl State.orderRetained s

/-- CATCH_UP_DONE: every record up to the last mark has been replayed; own inputs after the mark are ordered (R323, R325). -/
def catchUpDone (s : State) : State :=
  let m := s.saddle.mark
  if s.saddle.role ≠ .takeover ∨ s.saddle.caughtUp ∨ s.saddle.released ≤ m then s
  else
    let s := s.discardOwn (fun x => decide (x.key.epoch ≤ m))
    let s := { s with saddle := { s.saddle with inbox := [], caughtUp := true } }
    s.ownFrom (m + 1) Unclaimed.key

/-- CATCH_UP_DONE (R323). -/
def execCatchUpDone (t : Nat) (s : State) : Out := happen t true s catchUpDone

/-- Output enable: authority, every token, SOLO, and a safety-severity event with the time since detection (R323). -/
def State.enableOutputs (s : State) : State :=
  if s.debugRefuses then s.orStat 0x9000 0x14 2048
  else
    let d := s.time.raw - s.saddle.declared.getD s.time.raw
    let s := ((s.becomeSolo.setStat 0x9000 0x1A d).countSeq 0x9000 0x19 32).raiseEvent 0x0F01 0x0A01 (d % 2 ^ 32)
    { s with saddle := { s.saddle with mark := 0, acked := 0, lagSince := none } }

/-- OUTPUT_ENABLE: a standby after its catch-up, an authority after confirmation (R323). -/
def outputEnable (s : State) : State :=
  if (s.saddle.role = .takeover ∧ s.saddle.caughtUp) ∨ (s.saddle.role = .active ∧ s.saddle.confirmed) then s.enableOutputs
  else s

/-- OUTPUT_ENABLE (R323). -/
def execOutputEnable (t : Nat) (s : State) : Out := happen t true s outputEnable

/-- Every covered table is as at reset, loaded from the active image (R319). -/
def State.reloadCovered (s : State) : State :=
  let e := s.keyEpoch
  let s : State := { s with narrows := .reset }
  let s : State := { s with ford := { Ford.reset with bounds := s.ford.bounds, nextDue := e } }
  let s : State := { s with basin := { s.basin with fdb := [], meters := [], frer := [], streamGates := [] } }
  let s : State := { s with dict := { s.dict with settings := [], rowOps := [], staging := .reset } }
  let s : State := { s with legacy := { s.legacy with can := s.legacy.can.map (fun (c : CanCtl) => { c with queue := [] }) } }
  s.applyImage

/-- Own inputs, relayed frames and records are dropped, and every unit takes up at epoch `e`. -/
def State.forgetOwn (s : State) (e : Nat) : State :=
  { s with
    saddle := { s.saddle with own := [], retained := [], inbox := [] },
    ord := { s.ord with units := s.ord.units.map (fun (u : SortBuffer) => { u with released := max u.released e }) } }

/-- SYNCING_RELOAD: the active member fails during SYNCING; the partial state is discarded and outputs are enabled (R319). -/
def syncingReload (s : State) : State :=
  if s.saddle.role = .syncing ∧ s.saddle.confirmed then
    let e := s.keyEpoch
    let s := s.reloadCovered
    (s.forgetOwn e).enableOutputs
  else s

/-- SYNCING_RELOAD (R319). -/
def execSyncingReload (t : Nat) (s : State) : Out := happen t true s syncingReload

/-- ROLE_IN_RELEASED: ROLE_IN has been low for 1 µs while the partner is out of step: its tokens are taken; unless it is being
resynchronised over a link in SYNC, this member is SOLO (R314, R322, Table 12.2). -/
def roleInReleased (pins : Pins) (s : State) : State :=
  let s := s.seePins pins
  if s.saddle.role ≠ .active ∨ pins.roleIn ∨ s.saddle.journaling then s
  else if s.linkSync ∧ s.saddle.resync.isSome then s.setTokens s.allTokens
  else s.enableOutputs

/-- ROLE_IN_RELEASED (R322). -/
def execRoleInReleased (t : Nat) (pins : Pins) (s : State) : Out := happen t true s (roleInReleased pins)

/-! ### Digests and resynchronisation (R317, R318) -/

/-- Domains in which two lists of values differ. -/
def digestMask (a b : List Nat) : Nat := maskOfPorts ((List.range 8).filter (fun i => decide (nth a i 0 ≠ nth b i 0)))

/-- DIGEST_COMPARE: the standby's values of checkpoint c arrive (R317). -/
def digestCompare (m : Bytes) (s : State) : State :=
  let s := s.consume 2 0x10 m
  let c := beAt m 0 8
  let theirs := (List.range 8).map (fun i => beAt m (8 + 8 * i) 8)
  match s.saddle.digests.find? (fun x => decide (x.1 = c)) with
  | none => s
  | some x =>
    let s := { s with saddle := { s.saddle with digests := s.saddle.digests.filter (fun y => decide (c < y.1)) } }
    let s := s.countSeq 0x9000 0x1C 32
    let mask := digestMask x.2 theirs
    if mask = 0 then s
    else
      let s := ((s.count32 0x9000 0x1D).setStat 0x9000 0x1E (c % 2 ^ 64 + mask * 2 ^ 64)).orStat 0x9000 0x14 16
      if s.saddle.role = .active ∧ s.saddle.journaling then s.startResync true else s

/-- DIGEST_COMPARE (R317). -/
def execDigestCompare (t : Nat) (m : Bytes) (s : State) : Out := happen t true s (digestCompare m)

/-- RESYNC_START: an out-of-step record of the partner arrives; or the active member, after an overflow, finds its buffer
below 64 KiB (R313, R318). -/
def resyncStart (m : Option Bytes) (s : State) : State :=
  match m with
  | some b =>
    let s := s.consume 1 1 b
    if byteAt b 8 ≠ 0x0F then s
    else if s.saddle.role = .standby then s.enterSyncing
    else if s.saddle.role = .active then s.startResync false
    else s
  | none =>
    if s.saddle.role = .active ∧ !s.saddle.journaling ∧ s.saddle.resync.isNone ∧ s.journalUse < 65536 then s.startResync false else s

/-- RESYNC_START (R318). -/
def execResyncStart (t : Nat) (m : Option Bytes) (s : State) : Out := happen t true s (resyncStart m)

/-- RESYNC_PASS_DONE: `marked` bytes changed during the pass: at most 64 KiB end at the next boundary f, after pass 4 more abandon
the resynchronisation (Table 12.9). -/
def resyncPassDone (marked : Nat) (s : State) : State :=
  match s.saddle.resync with
  | none => s
  | some r =>
    if s.saddle.role ≠ .active ∨ r.final.isSome ∨ r.again.isSome then s
    else if marked ≤ 65536 then
      { s with saddle := { s.saddle with resync := some { r with final := some (s.keyEpoch + 1) } } }
    else if 4 ≤ r.pass then
      let s := s.orStat 0x9000 0x14 512
      { s with saddle := { s.saddle with resync := some { r with again := some (s.time.raw + 10000000) } } }
    else { s with saddle := { s.saddle with resync := some { r with pass := r.pass + 1 } } }

/-- RESYNC_PASS_DONE (R318). -/
def execResyncPassDone (t marked : Nat) (s : State) : Out := happen t true s (resyncPassDone marked)

/-- RESYNC_FINAL: at boundary f the final blocks go out, and journaling resumes from key epoch f (Table 12.9). -/
def resyncFinal (s : State) : State :=
  match s.saddle.resync.bind Resync.final with
  | none => s
  | some f =>
    if s.saddle.role ≠ .active ∨ s.time.orderNs < f * 32 then s
    else
      let s := (s.sendMsg 2 0x12 0 (toBE 8 f)).countSeq 0x9000 0x1B 32
      ({ s with saddle := { s.saddle with journaling := true, resync := none, acked := f - 1 } } : State).endOut

/-- RESYNC_FINAL (R318). -/
def execResyncFinal (t : Nat) (s : State) : Out := happen t true s resyncFinal

/-- Take over the covered state that the resynchronisation copied. -/
def State.applyCovered (s : State) (v : Machine.Covered) : State :=
  let keep := fun (l : List (Nat × Nat)) => l.filter (fun x => !coveredCounter (x.1 / 256) (x.1 % 256))
  let stat := v.counters.foldl (fun l x => kput entryDefault l x.1 x.2) (keep s.dict.stat)
  { s with
    narrows := v.narrows,
    basin := { s.basin with fdb := v.fdb, meters := v.meters, frer := v.frer },
    ford := { s.ford with pdus := v.pdus, images := v.images, fresh := v.fresh, queue := [], running := [] },
    dict := { s.dict with
      settings := v.settings, rowOps := v.rowOps, overlay := v.overlay, staging := v.staging, stat := stat, rowStat := v.rowStat },
    legacy := { s.legacy with can := (List.range s.legacy.can.length).map (fun n => ({ s.can n with queue := nth v.canQueues n [] } : CanCtl)) } }

/-- The member is STANDBY from boundary `f` on, with the records that follow it. -/
def State.standbyFrom (s : State) (f : Nat) (inbox : List HeldRec) : State :=
  { s with
    ford := { s.ford with nextDue := f },
    ord := { s.ord with lastCheck := f / 65536 * 65536 },
    saddle := { s.saddle with
      role := .standby, resync := none, released := f, mark := max s.saddle.mark (f - 1), inbox := inbox } }

/-- RESYNC_COMPLETE: the standby has the final blocks as at f, replays from f and enters STANDBY (Table 12.9). -/
def resyncComplete (f : Nat) (v : Machine.Covered) (s : State) : State :=
  if s.saddle.role ≠ .syncing then s
  else
    let s := ((s.consume 2 0x12 (toBE 8 f)).applyCovered v).countSeq 0x9000 0x1B 32
    let inbox := s.saddle.inbox.filter (fun h => decide (f ≤ h.rec_.epoch))
    (s.standbyFrom f inbox).endOut

/-- RESYNC_COMPLETE (R318). -/
def execResyncComplete (t f : Nat) (cov : Machine.Covered) (s : State) : Out := happen t true s (resyncComplete f cov)

/-- RESYNC_RESTART: 10 ms after it was abandoned a resynchronisation starts again (R318). -/
def resyncRestart (s : State) : State :=
  match s.saddle.resync.bind Resync.again with
  | some r => if s.saddle.role = .active ∧ r ≤ s.time.raw then s.startResync true else s
  | none => s

/-- RESYNC_RESTART (R318). -/
def execResyncRestart (t : Nat) (s : State) : Out := happen t true s resyncRestart

/-! ### Scheduled swaps (R327 to R330) -/

/-- The swap point: the first cycle boundary of the reference port's gate list at least 200 µs away, or the first such multiple of
1 ms (R327). -/
def State.swapPoint (s : State) : Nat :=
  let from_ := s.workingNs + 200000
  let g := s.gate (s.reg 0x9010 3)
  match g.enabled, g.listAt s.workingNs with
  | true, some l => l.firstAfter (from_ - 1)
  | _, _ => (from_ + 999999) / 1000000 * 1000000

/-- Plan a swap: its record goes out at once (R327). -/
def State.planSwap (s : State) : State :=
  let b := s.swapPoint
  let e := (b + 31) / 32
  let s := (s.sendRecord (plainRec 0x0D e 0)).setStat 0x9010 4 (time80Of b)
  { s with saddle := { s.saddle with swap := some ⟨b, e⟩ } }

/-- SWAP_PLAN: the interval since the previous swap or pairing has passed, and the standby is ready (R327). -/
def swapPlan (s : State) : State :=
  if s.saddle.role = .active ∧ s.saddle.journaling ∧ s.reg 0x9010 1 = 1 ∧ s.pairReady ∧ s.saddle.swap.isNone
      ∧ s.saddle.swapped + s.reg 0x9010 2 * 1000000000 ≤ s.time.orderNs then s.planSwap else s

/-- SWAP_PLAN (R327). -/
def execSwapPlan (t : Nat) (s : State) : Out := happen t true s swapPlan

/-- Everything below epoch `e` runs: what is on its way arrives, and every unit releases (R328). -/
def State.flushUnits (s : State) (e : Nat) : State :=
  let s := s.ord.transit.foldl (fun s x => s.arriveAt x.unit x.inp.key) s
  ([OrderUnit.narrows, .ford, .policers, .commit, .fdb].foldl (fun s u => s.releaseUnit u (e - 1)) s).releaseJournal (e - 1)

/-- What both members note of a completed swap (R327, R329). -/
def State.swapDone (s : State) : State :=
  let s := ((s.setStat 0x9010 4 0).setStat 0x9010 6 0).countSeq 0x9010 5 32
  { s with saddle := { s.saddle with swap := none, swapped := s.time.orderNs } }

/-- The old authority: it ends epoch b − 1, follows the new journal, and hands over the class S outputs as they end (R328, R329). -/
def State.giveAuthority (s : State) (b : Nat) : State :=
  let s := s.flushUnits b
  let outs := (List.range outputCount).filter (fun n => s.holds n && s.outShared n && s.classS n)
  let s := { s with saddle := { s.saddle with
      role := .standby, authority := false, journaling := false, outbox := [], inbox := [], own := [], digests := [],
      mark := b - 1, released := b, lagSince := none, handovers := outs.map (fun n => ⟨n, s.time.raw⟩) } }
  s.swapDone.settleHandovers

/-- The new authority: its own inputs are ordered from b on; one of b − 2 or b − 1 that no record claimed is journaled with its
epoch raised to b (R328). -/
def State.takeAuthority (s : State) (b : Nat) : State :=
  let s := s.matchOwn.discardOwn (fun x => decide (x.key.epoch + 2 < b))
  let s := { s with saddle := { s.saddle with
      role := .active, authority := true, journaling := true, outbox := [], inbox := [], acked := b - 1, lagSince := none } }
  (s.ownFrom b (fun x => { x.key with epoch := max x.key.epoch b })).swapDone

/-- SWAP_POINT: apply epoch b is reached (R328); the new authority has first replayed through b − 1. -/
def swapPointReached (s : State) : State :=
  match s.saddle.swap with
  | none => s
  | some w =>
    if s.time.orderNs < w.epoch * 32 then s
    else if s.saddle.role = .active then s.giveAuthority w.epoch
    else if s.saddle.role = .standby ∧ w.epoch ≤ s.saddle.released then s.takeAuthority w.epoch
    else s

/-- SWAP_POINT (R328). -/
def execSwapPoint (t : Nat) (s : State) : Out := happen t true s swapPointReached

/-- TOKEN_HANDOVER: the record arrives, and the new holder drives the output (R329). -/
def tokenHandover (m : Bytes) (s : State) : State :=
  let s := s.consume 1 1 m
  let n := beAt m 10 2
  if byteAt m 8 = 0x0E ∧ n < outputCount then s.gainToken n else s

/-- TOKEN_HANDOVER (R329). -/
def execTokenHandover (t : Nat) (m : Bytes) (s : State) : Out := happen t true s (tokenHandover m)

/-- HANDOVER_TIMEOUT: a CAN frame unfinished after `9010h.07` stays pending for the new holder (R329). -/
def handoverTimeout (n : Nat) (s : State) : State :=
  match s.saddle.handovers.find? (fun h => decide (h.output = n)) with
  | none => s
  | some h =>
    if s.handable n then s.handOver n
    else if n < 24 ∧ h.since + s.reg 0x9010 7 * 1000000 ≤ s.time.raw then
      (s.modCan n (fun c => { c with queue := c.queue.map (fun x => { x with started := false }) })).handOver n
    else s

/-- HANDOVER_TIMEOUT (R329). -/
def execHandoverTimeout (t n : Nat) (s : State) : Out := happen t (decide (n < 49)) s (handoverTimeout n)

/-- Whether B is no longer a cycle boundary of the reference port's list (R330). -/
def State.boundaryLost (s : State) (w : Swap) : Bool :=
  let g := s.gate (s.reg 0x9010 3)
  match g.enabled, g.listAt w.pointNs with
  | true, some l => decide (w.pointNs < l.base) || decide ((w.pointNs - l.base) % l.cycle ≠ 0)
  | _, _ => decide (w.pointNs % 1000000 ≠ 0)

/-- SWAP_ABANDON: the standby is not ready at B − 10 µs, or B is no longer a cycle boundary (R330). -/
def swapAbandon (s : State) : State :=
  match s.saddle.swap with
  | none => s
  | some w =>
    let early := decide (s.time.orderNs < w.epoch * 32)
    let unready := decide (w.pointNs ≤ s.workingNs + 10000) && !s.pairReady
    if early ∧ (unready ∨ (s.saddle.role = .active ∧ s.boundaryLost w)) then s.abandonSwap else s

/-- SWAP_ABANDON (R330). -/
def execSwapAbandon (t : Nat) (s : State) : Out := happen t true s swapAbandon

/-! ### Role commands (R331) -/

/-- Status of a role command by the member's own state. -/
def State.roleStatus (s : State) (v : Nat) : Nat :=
  let r := s.saddle.role
  let ok := if v = 1 then decide (r = .active) && s.pairReady
    else if v = 2 then decide (r = .standby) || decide (r = .syncing)
    else if v = 3 then decide (r = .start) && s.saddle.detached
    else if v = 4 then decide (r = .active)
    else s.saddle.enabled && !decide (r = .halted)
  if ok then 0 else 0x0B

/-- Detach: tokens are handed over, the partner learns that this member is out of step, and START stays out of pairing. -/
def State.detach (s : State) : State :=
  let s := ((List.range outputCount).filter s.holds).foldl (fun s n => s.sendRecord (plainRec 0x0E s.keyEpoch n)) s
  let s := ((s.sendRecord (plainRec 0x0F s.keyEpoch 0)).setTokens 0).dropWaiting
  { s with saddle := { s.saddle with
      role := .start, detached := true, resync := none, inbox := [], own := [], retained := [], swap := none, handovers := [],
      claimFrom := s.time.raw } }

/-- The effect of an accepted role command. -/
def State.roleEffect (s : State) (v : Nat) : State :=
  if v = 1 then (if s.saddle.swap.isNone then s.planSwap else s)
  else if v = 2 then s.detach
  else if v = 3 then ({ s with saddle := { s.saddle with detached := false } } : State).startPairing
  else if v = 4 then s.startResync true
  else s.failNotice

/-- A write of `9001h.01`: its result also stands in `9001h.02` (R331). -/
def State.roleCommand (s : State) (c : Caller) (data : Bytes) : State :=
  let k := s.keyEpoch
  let s := (s.keyRequest c 2 0x9001 1 data).touchSession c
  let st := s.writeStatus c k 0x9001 1 data
  let st := if st = 0 then s.roleStatus (leNat data) else st
  if st = 3 ∨ st = 7 then s.refuse c st
  else if st ≠ 0 then (s.setStat 0x9001 2 st).refuse c st
  else ((s.setStat 0x9001 2 0).acceptWrite c 0 0x9001 1 0 (leNat data) 0 0).roleEffect (leNat data)

/-- PLAN_SWAP_NOW (R331). -/
def execPlanSwapNow (t : Nat) (c : Caller) (s : State) : Out := happenBy c t true s (fun s => s.roleCommand c [1])
/-- DETACH (R331). -/
def execDetach (t : Nat) (c : Caller) (s : State) : Out := happenBy c t true s (fun s => s.roleCommand c [2])
/-- ALLOW_PAIRING (R331). -/
def execAllowPairing (t : Nat) (c : Caller) (s : State) : Out := happenBy c t true s (fun s => s.roleCommand c [3])
/-- RESYNCHRONISE (R331). -/
def execResynchronise (t : Nat) (c : Caller) (s : State) : Out := happenBy c t true s (fun s => s.roleCommand c [4])
/-- FAIL_NOTICE_COMMAND (R331). -/
def execFailNoticeCommand (t : Nat) (c : Caller) (s : State) : Out := happenBy c t true s (fun s => s.roleCommand c [5])

end Sys2Proof.Machine
end

