-- ==== Sys2Proof/Machine/Serve.lean ====
section
/-! DEFINITION. The dictionary server as its interfaces use it: one operation and what it gives back, the responses that wait for
their writes (R56), the Dictionary Access Protocol (R71 to R74), CAN SDO access (R75, R76) and the partner's requests (R77). -/

namespace Sys2Proof.Machine

open Sys2Proof

/-! ### One operation -/

/-- A request refused for its length before it is journaled: the conditions of R467 that precede the length come first. -/
def State.refuseLength (s : State) (c : Caller) (idx sub : Nat) (write : Bool) : State :=
  let k := s.keyEpoch
  let s := (s.issueKey (ifaceSource c.iface)).touchSession c
  let st := if write then s.writeStatus c k idx sub [] else s.readStatus c k idx sub
  s.reply c (if st = 1 ∨ st = 2 ∨ st = 3 ∨ st = 7 then st else 4) 0 0

/-- A WRITE of any entry: a domain is written by segments, and the role command has its own effect (R60, R331). -/
def State.writeAny (s : State) (c : Caller) (idx sub : Nat) (data : Bytes) : State :=
  if idx = 0x9001 ∧ sub = 1 then s.roleCommand c data
  else match entryDef idx sub with
    | some e => if e.ty = .dom then s.refuseLength c idx sub true else s.writeEntry c idx sub data
    | none => s.writeEntry c idx sub data

/-- WRITE (R55). -/
def execWrite (t : Nat) (c : Caller) (idx sub : Nat) (data : Bytes) (s : State) : Out :=
  happenBy c t true s (fun s => s.writeAny c idx sub data)

/-- What an operation gave: the caller its response names, its status, the value with its length, and for an accepted write the
key epoch whose record the response waits for. -/
structure OpDone where
  caller : Caller
  status : Nat
  value  : Nat
  len    : Nat
  epoch  : Option Nat
  deriving DecidableEq, Repr

/-- An operation that was refused before it reached the dictionary. -/
def OpDone.refused (c : Caller) (st : Nat) : OpDone := ⟨c, st, 0, 0, none⟩

/-- The octets an operation read. -/
def OpDone.data (d : OpDone) : Bytes := toLE d.len d.value

/-- Replies of other interfaces. -/
def State.forgetReply (s : State) (i : Iface) : State :=
  { s with dict := { s.dict with replies := s.dict.replies.filter (fun r => decide (r.caller.iface ≠ i)) } }

/-- Run one operation of a caller and take its response: that of an accepted write waits, any other is there at once. -/
def State.runOp (s : State) (c : Caller) (f : State → State) : State × OpDone :=
  let s0 := s.forgetReply c.iface
  let n := s0.dict.awaiting.length
  let s1 := f s0
  match s1.dict.awaiting.drop n with
  | a :: _ =>
    let s2 : State := { s1 with dict := { s1.dict with awaiting := s1.dict.awaiting.take n } }
    (s2.forgetReply c.iface, ⟨a.caller, 0, a.value, 0, some a.epoch⟩)
  | [] => match s1.dict.replies.find? (fun r => decide (r.caller.iface = c.iface)) with
    | some r => (s1.forgetReply c.iface, ⟨r.caller, r.status, r.value, r.len, none⟩)
    | none => (s1, .refused c 0x0B)

/-! ### Responses (R56) -/

/-- Note `n` completions of a vector under a moderation register: it is sent when the frame count is reached, at once when both
fields are zero (R430). -/
def State.moderate (s : State) (v md : Nat) : State :=
  let cnt := md % 65536
  let us := md / 65536
  let old := kget (fun _ => (⟨0, 0⟩ : VectorMod)) s.host.mods v
  let now : VectorMod := ⟨old.count + 1, if old.count = 0 then s.time.raw else old.since⟩
  let put := fun (x : VectorMod) (s : State) =>
    ({ s with host := { s.host with mods := kput (fun _ => (⟨0, 0⟩ : VectorMod)) s.host.mods v x } } : State)
  if (cnt = 0 ∧ us = 0) ∨ (cnt ≠ 0 ∧ cnt ≤ now.count) then (put ⟨0, 0⟩ s).signalVector v else put now s

/-- Octets the device writes to host memory. -/
def State.hostWrite (s : State) (addr : Nat) (data : Bytes) : State :=
  { s with host := { s.host with writes := s.host.writes ++ [⟨addr, data⟩] } }

/-- Write a response entry: its data first, then the entry; DRS_TAIL advances, then DRQ_HEAD (R425, R431). -/
def State.ringOut (s : State) (entry : Bytes) (data : Option (Nat × Bytes)) : State :=
  let s := match data with
    | some (a, b) => s.hostWrite a b
    | none => s
  let s := s.hostWrite (s.host.drsBase + 32 * s.host.drsTail) entry
  ({ s with host := { s.host with
    drsTail := (s.host.drsTail + 1) % s.host.drsSize,
    drqHead := (s.host.drqHead + 1) % s.host.drqSize } } : State).moderate 0 s.host.drMod

/-- Send a response by what carries it; only an active member, or one that stands alone, sends SDO frames (R76). -/
def State.emit (s : State) (a : Awaiting) : State :=
  match a.carry with
  | .reply => s.reply a.caller 0 a.value 0
  | .dap d => { s with access := { s.access with dapOut := s.access.dapOut ++ [d] } }
  | .ring e d => s.ringOut e d
  | .sdo f => if s.follows then s else { s with access := { s.access with sdoOut := s.access.sdoOut ++ [f] } }
  | .bridge d => s.sendMsg 5 d.kind 0 (doneBody d)

/-- Whether an earlier response of an interface waits. -/
def State.waitsOn (s : State) (i : Iface) : Bool := s.dict.awaiting.any (fun a => decide (a.caller.iface = i))

/-- Give a response: at once when it waits for no write and for no earlier response of its interface, else in its turn. -/
def State.respond (s : State) (c : Caller) (epoch : Option Nat) (carry : Carry) : State :=
  let a : Awaiting := ⟨c, 0, epoch.getD 0, carry⟩
  if epoch.isNone ∧ ¬ s.waitsOn c.iface then s.emit a
  else { s with dict := { s.dict with awaiting := s.dict.awaiting ++ [a] } }

/-- Whether the record of a waiting response is stored, and on an active device acknowledged by the partner (R56). -/
def State.responseReady (s : State) (a : Awaiting) : Bool :=
  decide (a.epoch = 0) || !s.journals a.epoch || decide (a.epoch ≤ s.saddle.acked)

/-- The first response that is the first of its interface and ready, with the others. -/
def State.takeReady (s : State) (before : List Iface) : List Awaiting → Option (Awaiting × List Awaiting)
  | [] => none
  | a :: rest =>
    if a.caller.iface ∉ before ∧ s.responseReady a then some (a, rest)
    else match State.takeReady s (a.caller.iface :: before) rest with
      | some (x, r) => some (x, a :: r)
      | none => none

/-- Send what waits only for its turn behind the responses of its interface just sent. -/
def sendFollowing (i : Iface) : Nat → State → State
  | 0, s => s
  | k + 1, s => match takeFirst (fun (a : Awaiting) => decide (a.caller.iface = i)) s.dict.awaiting with
    | some (a, rest) =>
      if a.epoch = 0 then
        let r : State := { s with dict := { s.dict with awaiting := rest } }
        sendFollowing i k (r.emit a)
      else s
    | none => s

/-- WRITE_RESPONSE: the record is stored and acknowledged, and the response is sent (R56). -/
def writeResponse (s : State) : State :=
  match s.takeReady [] s.dict.awaiting with
  | none => s
  | some (a, rest) =>
    let r : State := { s with dict := { s.dict with awaiting := rest } }
    sendFollowing a.caller.iface rest.length (r.emit a)

/-- WRITE_RESPONSE (R56). -/
def execWriteResponse (t : Nat) (s : State) : Out := happen t true s writeResponse

/-! ### Operation records (Table 3.11) -/

/-- Execute an operation record: only bit 1 of its flags is defined, and sessions are not opened by records (R68, R74). -/
def State.runRecord (s : State) (c : Caller) (r : OpRecord) : State × OpDone :=
  if clearBitAt r.flags 1 ≠ 0 then (s, .refused c 6)
  else if r.op = 1 then s.runOp c (fun s => s.readEntry c r.idx r.sub)
  else if r.op = 2 then s.runOp c (fun s => s.writeAny c r.idx r.sub r.data)
  else if r.op = 3 then s.runOp c (fun s => s.readSegment c r.idx r.sub r.off r.len)
  else if r.op = 4 then s.runOp c (fun s => s.writeSeg c r.idx r.sub r.off r.data (bitOf r.flags 1))
  else if r.op = 7 then s.runOp c (fun s => s.closeOwn c)
  else if r.op = 8 then s.runOp c (fun s => s.nop c)
  else (s, .refused c 6)

/-- Octets filled with zeros to a multiple of 4. -/
def pad4 (b : Bytes) : Bytes := b ++ List.replicate ((4 - b.length % 4) % 4) 0

/-- A record in octets: the header, and the data it carries. -/
def recordBytes (r : OpRecord) (status len : Nat) (data : Bytes) : Bytes :=
  toBE 1 r.op ++ toBE 1 r.tag ++ toBE 1 r.sub ++ toBE 1 r.flags ++ toBE 2 r.idx ++ toBE 2 status ++ toBE 4 r.off
    ++ toBE 2 len ++ pad4 data

/-- The records of a payload, at most 16: none in place of one that runs past it. READ and READ_SEG carry no data. -/
def recordsOf : Nat → Bytes → List (Option OpRecord)
  | _, [] => []
  | 0, _ => [none]
  | k + 1, b =>
    let op := byteAt b 0
    let len := beAt b 12 2
    let n := if op = 1 ∨ op = 3 then 0 else len
    if b.length < 14 ∨ 1024 < len ∨ b.length < 14 + n then [none]
    else some ⟨op, byteAt b 1, byteAt b 2, byteAt b 3, beAt b 4 2, beAt b 8 4, slice b 14 n, len⟩
      :: recordsOf k (b.drop (14 + padded4 n))

/-- The later of two write epochs. -/
def laterEpoch (a b : Option Nat) : Option Nat :=
  match a, b with
  | some x, some y => some (max x y)
  | some x, none => some x
  | none, y => y

/-- Execute the records of a datagram in order, gathering the response; a malformed one ends it with 0x000E (R74). -/
def runRecords (c : Caller) (b : Bytes) : List (Option OpRecord) → State → Bytes → Option Nat → State × Bytes × Option Nat
  | [], s, out, e => (s, out, e)
  | none :: _, s, out, e =>
    (s, out ++ recordBytes ⟨byteAt b 0, byteAt b 1, byteAt b 2, byteAt b 3, beAt b 4 2, beAt b 8 4, [], 0⟩ 0x0E 0 [], e)
  | some r :: rest, s, out, e =>
    let n := if r.op = 1 ∨ r.op = 3 then 0 else r.len
    let x := s.runRecord c r
    runRecords c (b.drop (14 + padded4 n)) rest x.1 (out ++ recordBytes r x.2.status x.2.data.length x.2.data)
      (laterEpoch e x.2.epoch)

/-! ### The Dictionary Access Protocol (R71 to R74) -/

/-- A datagram is dropped without reply and counted (`1020h.04`). -/
def State.dropDatagram (s : State) : State := s.count64 0x1020 4 1

/-- Whether a sequence number was seen before or lies 64 or more below the highest (R73). -/
def Session.stale (x : Session) (seq : Nat) : Bool :=
  decide (seq + 64 ≤ x.seqHigh) || (decide (seq ≤ x.seqHigh) && bitOf x.seen (x.seqHigh - seq))

/-- Note a sequence number: `seen` holds those of the 64 up to the highest. -/
def Session.noteSeq (x : Session) (seq : Nat) : Session :=
  if x.seqHigh < seq then { x with seqHigh := seq, seen := (x.seen * 2 ^ min (seq - x.seqHigh) 64 + 1) % 2 ^ 64 }
  else { x with seen := setBitAt x.seen (x.seqHigh - seq) }

/-- Send a datagram of session `n` under its next sequence number. -/
def State.sendDap (s : State) (n kind : Nat) (payload : Bytes) (epoch : Option Nat) : State :=
  let q := (s.session n).txSeq
  (s.modSession n (fun x => { x with txSeq := q + 1 })).respond ⟨.mgmt, n⟩ epoch (.dap ⟨kind, n, q, payload⟩)

/-- Whether a datagram comes from session `n`'s peer, in sequence. -/
def State.fromPeer (s : State) (n : Nat) (d : DapDatagram) : Bool :=
  let x := s.session n
  decide (1 ≤ n) && decide (n ≤ 8) && !x.host && decide (x.ip = d.ip) && decide (x.port = d.port) && !x.stale d.seq

/-- A request datagram: authenticated, its records executed, and one response sent (R73, R74). It counts as one request. -/
def State.dapRequest (s : State) (d : DapDatagram) : State :=
  let n := d.sid
  let c : Caller := ⟨.mgmt, n⟩
  if !(s.fromPeer n d && d.tagOk && s.sessionLive c s.keyEpoch) then s.dropDatagram
  else
    let s := (s.modSession n (fun x => x.noteSeq d.seq)).touchSession c
    let x := s.session n
    let r := runRecords c d.plain (recordsOf 16 d.plain) s [] none
    let s := if (r.1.session n).state = 2 then r.1.modSession n (fun y => { y with requests := x.requests }) else r.1
    let s := s.modSession n (fun y => if y.state = 2 then { y with txSeq := x.txSeq + 1 } else y)
    s.respond c r.2.2 (.dap ⟨2, n, x.txSeq, r.2.1⟩)

/-- An open request: a challenge, or a refusal with its status (R72). During the lockout the status is not stated: a free value. -/
def State.dapOpen (s : State) (d : DapDatagram) : State :=
  let slot := byteAt d.plain 0
  let locked := s.access.lockout.any (fun e => decide (s.time.orderNs < e))
  let st := if locked then s.freeNat % 65536 else if d.plain.length < 20 then 0x0E else s.openStatus slot
  let refuse := fun (s : State) => s.respond ⟨.mgmt, 0⟩ none (.dap ⟨7, 0, 1, toBE 2 st⟩)
  if locked then refuse s.drawFree
  else match st, s.freeSession with
    | 0, some n =>
      let s := s.challenge n false slot d.ip d.port (beAt d.plain 4 16) d.seq
      s.sendDap n 4 (toBE 16 (s.session n).nd) none
    | _, _ => refuse (if st = 7 then s.keyRefused else s)

/-- A failed proof: counted, and the eighth within 60 s starts the lockout and raises event 0x0102 (R72). -/
def State.proofFailed (s : State) : State :=
  let now := s.time.orderNs
  let times := s.access.failTimes.filter (fun x => decide (now < x + 60000000000)) ++ [now]
  let s := s.count32 0x1020 3
  if 8 ≤ times.length then
    let r : State := { s with access := { s.access with failTimes := [], lockout := some (now + 60000000000) } }
    r.raiseEvent 0x0210 0x0102 0
  else { s with access := { s.access with failTimes := times } }

/-- An open proof: accepted with the idle timeout, or the session is freed without a reply (R72). -/
def State.dapProof (s : State) (d : DapDatagram) : State :=
  let n := d.sid
  if !(s.fromPeer n d && decide ((s.session n).state = 1)) then s.dropDatagram
  else if s.proofOk n false (d.plain.take 16) ∧ d.plain.length = 16 then
    ((s.modSession n (fun x => x.noteSeq d.seq)).openSession n).sendDap n 6 (toBE 4 (s.reg 0x1020 2)) none
  else (s.modSession n (fun _ => Session.free)).proofFailed

/-- A datagram at the DAP port: the header is checked (R71), and the kinds that a device sends are dropped. -/
def State.dapReceive (s : State) (d : DapDatagram) : State :=
  if d.magic ≠ 0x4F56 ∨ d.version ≠ 1 ∨ 1280 < d.len ∨ d.kind = 0 ∨ 7 < d.kind then s.dropDatagram
  else if d.kind = 1 then s.dapRequest d
  else if d.kind = 3 then s.dapOpen d
  else if d.kind = 5 then s.dapProof d
  else s

/-- DAP_REQUEST (R74). -/
def execDapRequest (t : Nat) (d : DapDatagram) (s : State) : Out := happen t true s (fun s => s.dapReceive d)

/-- OPEN_REQUEST (R72). -/
def execOpenRequest (t : Nat) (d : DapDatagram) (s : State) : Out := happen t true s (fun s => s.dapReceive d)

/-- OPEN_PROOF (R72). -/
def execOpenProof (t : Nat) (d : DapDatagram) (s : State) : Out := happen t true s (fun s => s.dapReceive d)

/-! ### CAN SDO (R75, R76) -/

/-- The SDO abort code of a status (Table 3.8). -/
def sdoAbort (st : Nat) : Nat :=
  nth [0, 0x06020000, 0x06090011, 0x06010000, 0x06070010, 0x06090030, 0x06090030, 0x08000020, 0x05040005, 0x08000021, 0x08000020,
    0x08000022, 0x08000020, 0x08000000, 0x05040001, 0x08000024, 0x05040005, 0x08000020, 0x08000024] st 0x08000000

/-- The caller of the CAN interface. -/
def canCaller : Caller := ⟨.can, 0⟩

/-- Set the open transfer. -/
def State.setSdo (s : State) (x : Option SdoTransfer) : State := { s with access := { s.access with sdo := x } }

/-- Send an SDO frame. -/
def State.sendSdo (s : State) (epoch : Option Nat) (frame : Bytes) : State := s.respond canCaller epoch (.sdo frame)

/-- An abort frame. -/
def abortFrame (idx sub code : Nat) : Bytes := toLE 1 0x80 ++ toLE 2 idx ++ toLE 1 sub ++ toLE 4 code

/-- Abort with a code; the open transfer ends. -/
def State.abortSdo (s : State) (idx sub code : Nat) : State := (s.setSdo none).sendSdo none (abortFrame idx sub code)

/-- Write a downloaded value: a domain as a transfer of one segment. -/
def State.sdoWrite (s : State) (idx sub : Nat) (data : Bytes) : State × OpDone :=
  s.runOp canCaller (fun s => match entryDef idx sub with
    | some e => if e.ty = .dom then s.writeSeg canCaller idx sub 0 data true else s.writeAny canCaller idx sub data
    | none => s.writeAny canCaller idx sub data)

/-- The end of a download: its confirmation, or the abort of its status. -/
def State.sdoStored (s : State) (idx sub : Nat) (data ok : Bytes) : State :=
  let r := (s.setSdo none).sdoWrite idx sub data
  if r.2.status = 0 then r.1.sendSdo r.2.epoch ok else r.1.abortSdo idx sub (sdoAbort r.2.status)

/-- Initiate a download: expedited, or segmented. -/
def State.sdoDownload (s : State) (f : Bytes) : State :=
  let b := byteAt f 0
  let idx := leAt f 1 2
  let sub := byteAt f 3
  let ok := toLE 1 0x60 ++ slice f 1 3 ++ List.replicate 4 0
  if bitOf b 1 then
    let n := if bitOf b 0 then 4 - fieldOf b 3 2 else min 4 (entryBytes idx sub)
    s.sdoStored idx sub (slice f 4 n) ok
  else (s.setSdo (some ⟨true, idx, sub, [], 0, false, s.time.orderNs⟩)).sendSdo none ok

/-- Initiate an upload: the entry is read once, and sent expedited or by segments. -/
def State.sdoUpload (s : State) (f : Bytes) : State :=
  let idx := leAt f 1 2
  let sub := byteAt f 3
  let r := (s.setSdo none).runOp canCaller (fun s =>
    if isLong idx sub then s.readLong canCaller idx sub else s.readEntry canCaller idx sub)
  let d := r.2.data
  if r.2.status ≠ 0 then r.1.abortSdo idx sub (sdoAbort r.2.status)
  else if 1 ≤ d.length ∧ d.length ≤ 4 then
    r.1.sendSdo none (toLE 1 (0x43 + 4 * (4 - d.length)) ++ slice f 1 3 ++ (d ++ List.replicate (4 - d.length) 0))
  else (r.1.setSdo (some ⟨false, idx, sub, d, 0, false, s.time.orderNs⟩)).sendSdo none
    (toLE 1 0x41 ++ slice f 1 3 ++ toLE 4 d.length)

/-- A download segment. -/
def State.sdoDownSegment (s : State) (x : SdoTransfer) (f : Bytes) : State :=
  let b := byteAt f 0
  let data := x.data ++ slice f 1 (7 - fieldOf b 3 1)
  let ok := toLE 1 (0x20 + 16 * natOfBool x.toggle) ++ List.replicate 7 0
  if bitOf b 0 then s.sdoStored x.idx x.sub data ok
  else (s.setSdo (some { x with data := data, toggle := !x.toggle, lastNs := s.time.orderNs })).sendSdo none ok

/-- An upload segment. -/
def State.sdoUpSegment (s : State) (x : SdoTransfer) : State :=
  let d := slice x.data x.off (min 7 (x.data.length - x.off))
  let last := decide (x.data.length ≤ x.off + 7)
  let frame := toLE 1 (16 * natOfBool x.toggle + 2 * (7 - d.length) + natOfBool last) ++ d ++ List.replicate (7 - d.length) 0
  let next : Option SdoTransfer :=
    if last then none else some { x with off := x.off + 7, toggle := !x.toggle, lastNs := s.time.orderNs }
  (s.setSdo next).sendSdo none frame

/-- A step of a transfer: segments need their transfer open and their toggle bit; block transfer is refused (R75). -/
def State.sdoFrame (s : State) (f : Bytes) : State :=
  let cs := byteAt f 0 / 32
  if cs = 1 then (s.setSdo none).sdoDownload f
  else if cs = 2 then s.sdoUpload f
  else if cs = 4 then s.setSdo none
  else match s.access.sdo with
    | some x =>
      if cs = 0 ∧ x.download ∨ cs = 3 ∧ ¬ x.download then
        if bitOf (byteAt f 0) 4 = x.toggle then (if x.download then s.sdoDownSegment x f else s.sdoUpSegment x)
        else s.abortSdo x.idx x.sub 0x05030000
      else s.abortSdo (leAt f 1 2) (byteAt f 3) 0x05040001
    | none => s.abortSdo (leAt f 1 2) (byteAt f 3) 0x05040001

/-- SDO_REQUEST: a frame of 8 bytes with the request identifier on the selected controller; a follower leaves the bus to the
active device and takes the request from the journal (R75, R76). -/
def execSdoRequest (t bus ident : Nat) (data : Bytes) (s : State) : Out :=
  happen t (decide (bus < 24)) s (fun s =>
    if s.reg 0x1010 5 = bus ∧ ident = s.reg 0x1010 7 % 2048 ∧ data.length = 8 ∧ ¬ s.follows then s.sdoFrame data else s)

/-- SDO_SEGMENT_TIMEOUT: no segment came in time (R76). -/
def sdoTimeout (s : State) : State :=
  match s.access.sdo with
  | none => s
  | some x => if x.lastNs + s.reg 0x1010 9 * 1000000 ≤ s.time.orderNs then s.abortSdo x.idx x.sub 0x05040000 else s

/-- SDO_SEGMENT_TIMEOUT (R76). -/
def execSdoSegmentTimeout (t : Nat) (s : State) : Out := happen t true s sdoTimeout

/-! ### The partner (R77) -/

/-- The octets of an operation record as a request carries it. -/
def requestBytes (r : OpRecord) : Bytes := recordBytes r 0 r.len r.data

/-- PARTNER_REQUEST: the first request of class T that waits is this record; it is served while paired (R77, R349). -/
def partnerRequest (r : OpRecord) (s : State) : State :=
  match s.elnar.received.find? (fun m => decide (m.cls = 4)) with
  | none => s
  | some m =>
    if m.kind ≠ 1 ∨ m.body.drop 20 ≠ requestBytes r then s
    else
      let tag := byteAt m.body 1
      let s := (s.consume 4 1 m.body).count64 0x9130 4 1
      let c : Caller := ⟨.partner, 0⟩
      if !s.servesPartner then s.respond c none (.bridge ⟨0x81, tag, 0x0D, []⟩)
      else
        let x := s.runRecord c r
        x.1.respond c x.2.epoch (.bridge ⟨0x81, tag, x.2.status, x.2.data⟩)

/-- PARTNER_REQUEST (R77). -/
def execPartnerRequest (t : Nat) (r : OpRecord) (s : State) : Out := happen t true s (partnerRequest r)

end Sys2Proof.Machine
end

