-- ==== Sys2Proof/Machine/HostRing.lean ====
section
/-! DEFINITION. The registers of the host interface and the dictionary rings (R69, R70, R424 to R426, R430, R471). -/

namespace Sys2Proof.Machine

open Sys2Proof

/-! ### Registers (R424, Tables 18.1, 18.2) -/

/-- The rings that have a BASE, a SIZE and an index the host writes. -/
inductive HostRing
  | drq | drs | tx (n : Nat) | rx (n : Nat)
  deriving DecidableEq, Repr

/-- The registers that the host may write. -/
inductive HostReg
  | base (r : HostRing) | size (r : HostRing) | index (r : HostRing) | ctrl (r : HostRing) | mod (r : HostRing)
  | headWb (r : HostRing) | rxmap (q n : Nat) | vector (w n : Nat)
  deriving DecidableEq, Repr

/-- The block of a transmit or receive ring. -/
def State.ring (s : State) (rx : Bool) (n : Nat) : Ring := nth (if rx then s.host.rx else s.host.tx) n Ring.reset

/-- Change the block of a transmit or receive ring. -/
def State.modRing (s : State) (rx : Bool) (n : Nat) (f : Ring → Ring) : State :=
  if rx then { s with host := { s.host with rx := modNth s.host.rx n f } }
  else { s with host := { s.host with tx := modNth s.host.tx n f } }

/-- Whether a ring is enabled. -/
def State.ringEnabled (s : State) : HostRing → Bool
  | .drq => bitOf s.host.drCtrl 0
  | .drs => bitOf s.host.drCtrl 0
  | .tx n => bitOf (s.ring false n).ctrl 0
  | .rx n => bitOf (s.ring true n).ctrl 0

/-- SIZE of a ring. -/
def State.ringSize (s : State) : HostRing → Nat
  | .drq => s.host.drqSize
  | .drs => s.host.drsSize
  | .tx n => (s.ring false n).size
  | .rx n => (s.ring true n).size

/-- A 64-bit register as it stands. -/
def State.wideValue (s : State) : HostReg → Nat
  | .base .drq => s.host.drqBase
  | .base .drs => s.host.drsBase
  | .base (.tx n) => (s.ring false n).base
  | .base (.rx n) => (s.ring true n).base
  | .headWb (.tx n) => (s.ring false n).headWb
  | .headWb (.rx n) => (s.ring true n).headWb
  | _ => 0

/-- The writable registers of BAR0. -/
def bar0Reg (off : Nat) : Option HostReg :=
  if off = 0x08 then some (.base .drq) else if off = 0x10 then some (.size .drq) else if off = 0x14 then some (.index .drq)
  else if off = 0x20 then some (.base .drs) else if off = 0x28 then some (.size .drs) else if off = 0x2C then some (.index .drs)
  else if off = 0x34 then some (.ctrl .drq) else if off = 0x3C then some (.mod .drq) else none

/-- The writable registers of a ring block of BAR2. -/
def blockReg (r : HostRing) (off : Nat) : Option HostReg :=
  if off = 0 then some (.base r) else if off = 8 then some (.size r) else if off = 0x0C then some (.index r)
  else if off = 0x14 then some (.ctrl r) else if off = 0x18 then some (.mod r) else if off = 0x20 then some (.headWb r) else none

/-- The register at an offset of a BAR, for an access of `width` bytes where the registers there are narrower. -/
def barReg (bar off width : Nat) : Option HostReg :=
  if bar = 0 then bar0Reg off
  else if bar = 2 then
    if off < 0x400 then blockReg (.tx (off / 64)) (off % 64)
    else if 0x800 ≤ off ∧ off < 0xC00 then blockReg (.rx ((off - 0x800) / 64)) (off % 64)
    else if 0x1000 ≤ off ∧ off + width ≤ 0x1008 then some (.rxmap (off - 0x1000) width)
    else none
  else if bar = 4 ∧ off + width ≤ 0x400 then some (.vector (off / 4) (width / 4))
  else none

/-- Whether a register is of 64 bits. -/
def HostReg.wide : HostReg → Bool
  | .base _ => true
  | .headWb _ => true
  | _ => false

/-- Whether a register takes accesses of either width. -/
def HostReg.anyWidth : HostReg → Bool
  | .rxmap _ _ => true
  | .vector _ _ => true
  | _ => false

/-- What an access reaches: a whole register, or a half of one of 64 bits. -/
inductive HostAccess
  | whole (r : HostReg) | low (r : HostReg) | high (r : HostReg)
  deriving DecidableEq, Repr

/-- What an access reaches, if anything: aligned, of 4 or 8 bytes, and of the register's width (R424, R426). -/
def hostAccess (bar off width : Nat) : Option HostAccess :=
  if (width ≠ 4 ∧ width ≠ 8) ∨ off % width ≠ 0 then none
  else match barReg bar off width with
    | some r =>
      if r.anyWidth then some (.whole r)
      else if r.wide then some (if width = 8 then .whole r else .low r)
      else if width = 4 then some (.whole r) else none
    | none => match barReg bar (off - 4) width with
      | some r => if width = 4 ∧ r.wide ∧ 4 ≤ off then some (.high r) else none
      | none => none

/-- The register of an access. -/
def HostAccess.reg : HostAccess → HostReg
  | .whole r => r
  | .low r => r
  | .high r => r

/-- Bits of a value that are reserved in a register. -/
def HostReg.reserved (v : Nat) : HostReg → Bool
  | .ctrl .drq => decide (1 < v)
  | .ctrl .drs => decide (1 < v)
  | .ctrl _ => decide (v % 256 / 2 ≠ 0) || decide (v / 4096 ≠ 0)
  | .rxmap _ n => (List.range n).any (fun i => decide (64 ≤ v / 256 ^ i % 256))
  | _ => false

/-- Whether a write to a register is invalid: BASE or SIZE of an enabled ring, an index at SIZE or above, a reserved bit (R426). -/
def State.badValue (s : State) (v : Nat) (r : HostReg) : Bool :=
  r.reserved v || (match r with
    | .base k => s.ringEnabled k
    | .size k => s.ringEnabled k
    | .index k => decide (s.ringSize k ≤ v)
    | _ => false)

/-- Whether a posted write is invalid (R426). -/
def State.badWrite (s : State) (bar off width v : Nat) : Bool :=
  match hostAccess bar off width with
  | none => true
  | some a => s.badValue v a.reg

/-- An invalid write is dropped and counted, and raises event 0x0103 with its offset and BAR (R426). -/
def State.refuseWrite (s : State) (bar off : Nat) : State :=
  let n := s.host.invalidWr
  let r : State := { s with host := { s.host with invalidWr := if n = 0xFFFFFFFF then n else n + 1 } }
  r.raiseEvent 0x0200 0x0103 (off % 2 ^ 48 + bar * 2 ^ 56)

/-- Write words of the vector table: bit 0 of a vector's fourth word masks it, and a pending vector is sent when its mask goes. -/
def writeVectors (w : Nat) : Nat → Nat → State → State
  | 0, _, s => s
  | k + 1, v, s =>
    let word := v % 2 ^ 32
    let n := w / 4
    let s :=
      if w % 4 ≠ 3 then
        ({ s with host := { s.host with msix := kput (fun _ => 0) s.host.msix w word } } : State)
      else if bitOf word 0 then ({ s with host := { s.host with masked := setBitAt s.host.masked n } } : State)
      else
        let pend := bitOf s.host.pba n
        let r : State := { s with host := { s.host with masked := clearBitAt s.host.masked n, pba := clearBitAt s.host.pba n } }
        if pend then r.signalVector n else r
    writeVectors (w + 1) k (v / 2 ^ 32) s

/-- Write ring map bytes from queue `q` (Table 18.2). -/
def writeMap (q : Nat) : Nat → Nat → List Nat → List Nat
  | 0, _, m => m
  | k + 1, v, m => writeMap (q + 1) k (v / 256) (modNth m q (fun _ => v % 256))

/-- Store a valid value in a register of its own kind; indices and enables have their own operations. -/
def State.setReg (s : State) (v : Nat) : HostReg → State
  | .base .drq => { s with host := { s.host with drqBase := v } }
  | .base .drs => { s with host := { s.host with drsBase := v } }
  | .base (.tx n) => s.modRing false n (fun x => { x with base := v })
  | .base (.rx n) => s.modRing true n (fun x => { x with base := v })
  | .size .drq => { s with host := { s.host with drqSize := v } }
  | .size .drs => { s with host := { s.host with drsSize := v } }
  | .size (.tx n) => s.modRing false n (fun x => { x with size := v })
  | .size (.rx n) => s.modRing true n (fun x => { x with size := v })
  | .mod (.tx n) => s.modRing false n (fun x => { x with mod := v })
  | .mod (.rx n) => s.modRing true n (fun x => { x with mod := v })
  | .mod _ => { s with host := { s.host with drMod := v } }
  | .headWb (.tx n) => s.modRing false n (fun x => { x with headWb := v })
  | .headWb (.rx n) => s.modRing true n (fun x => { x with headWb := v })
  | .rxmap q n => { s with host := { s.host with rxmap := writeMap q n v s.host.rxmap } }
  | .vector w n => writeVectors w n v s
  | _ => s

/-- Whether a register's writes have rows of their own: indices and enables. -/
def HostReg.ownRow : HostReg → Bool
  | .index _ => true
  | .ctrl _ => true
  | _ => false

/-- A valid write of a register without a row of its own; the halves of a 64-bit register take effect with the high one. -/
def State.registerWrite (s : State) (bar off v : Nat) (a : HostAccess) : State :=
  let drop : State := { s with host := { s.host with half := none } }
  if a.reg.ownRow then s
  else match a with
    | .whole r => drop.setReg v r
    | .low _ => { s with host := { s.host with half := some (bar, off, v % 2 ^ 32) } }
    | .high r =>
      let lo := match s.host.half with
        | some (b, o, x) => if b = bar ∧ o + 4 = off then x else s.wideValue r % 2 ^ 32
        | none => s.wideValue r % 2 ^ 32
      drop.setReg (lo + v % 2 ^ 32 * 2 ^ 32) r

/-- A posted write of a register (R424, R426). -/
def State.postedWrite (s : State) (bar off width v : Nat) : State :=
  if !s.host.linkUp then s
  else match hostAccess bar off width with
    | none => s.refuseWrite bar off
    | some a => if s.badValue v a.reg then s.refuseWrite bar off else s.registerWrite bar off v a

/-- PCIE_REGISTER_WRITE (R424). -/
def execPcieRegisterWrite (t bar off width v : Nat) (s : State) : Out :=
  happen t true s (fun s => s.postedWrite bar off width v)

/-- INVALID_POSTED_WRITE: the write breaks R426. -/
def invalidPosted (bar off width v : Nat) (s : State) : State :=
  if s.host.linkUp ∧ s.badWrite bar off width v then s.refuseWrite bar off else s

/-- INVALID_POSTED_WRITE (R426). -/
def execInvalidPostedWrite (t bar off width v : Nat) (s : State) : Out := happen t true s (invalidPosted bar off width v)

/-! ### Requests of the dictionary ring (R69, R70, R471) -/

/-- Data of a request: what its host address holds, or its inline bytes; longer than inline data goes without pointer mode, it is
of no length. -/
def ringPayload (r : RingEntry) : Bytes :=
  let len := leAt r.bytes 8 4
  if bitOf (byteAt r.bytes 5) 0 then (r.data.getD []).take len
  else if 16 < len then [] else slice r.bytes 16 len

/-- A read of a value: whole and long in pointer mode, else one of at most 16 bytes (R70, R448). -/
def State.ringRead (s : State) (c : Caller) (idx sub : Nat) (ptr : Bool) : State :=
  if ptr then (if isLong idx sub then s.readLong c idx sub else s.readEntry c idx sub)
  else if isLong idx sub ∨ 16 < valueLen idx sub (s.entryValue c idx sub) then
    s.refuseLength c idx sub false
  else s.readEntry c idx sub

/-- A segment of a domain read. -/
def State.ringReadSeg (s : State) (c : Caller) (idx sub off len : Nat) (ptr : Bool) : State :=
  if !ptr ∧ 16 < len then s.refuseLength c idx sub false else s.readSegment c idx sub off len

/-- A segment of a domain write; one of more than 16 bytes needs pointer mode. -/
def State.ringWriteSeg (s : State) (c : Caller) (idx sub off len : Nat) (ptr : Bool) (data : Bytes) (last : Bool) : State :=
  if !ptr ∧ 16 < len then s.refuseLength c idx sub true
  else s.writeSeg c idx sub off data last

/-- Whether a tag is that of a response still to come (R69). -/
def State.tagBusy (s : State) (tag : Nat) : Bool := s.dict.awaiting.any (fun a => match a.carry with
  | .ring e _ => decide (byteAt e 1 = tag)
  | _ => false)

/-- Execute a request entry (R68, R69, R471). -/
def State.ringExec (s : State) (r : RingEntry) : State × OpDone :=
  let b := r.bytes
  let op := byteAt b 0
  let idx := leAt b 2 2
  let sub := byteAt b 4
  let flags := byteAt b 5
  let ptr := bitOf flags 0
  let last := bitOf flags 1
  let c : Caller := ⟨.host, leAt b 6 2⟩
  let len := leAt b 8 4
  let off := leAt b 12 4
  if s.tagBusy (byteAt b 1) ∨ 65536 < len then (s, .refused c 0x0E)
  else if 4 ≤ flags ∨ op = 0 ∨ 8 < op ∨ (ptr ∧ leAt b 24 8 ≠ 0) then (s, .refused c 6)
  else if op = 1 then s.runOp c (fun s => s.ringRead c idx sub ptr)
  else if op = 2 then s.runOp c (fun s => s.writeAny c idx sub (ringPayload r))
  else if op = 3 then s.runOp c (fun s => s.ringReadSeg c idx sub off len ptr)
  else if op = 4 then s.runOp c (fun s => s.ringWriteSeg c idx sub off len ptr (ringPayload r) last)
  else if op = 5 then s.runOp ⟨.host, 0⟩ (fun s => s.hostOpen sub (if len = 16 then (ringPayload r) else []))
  else if op = 6 then s.runOp c (fun s => s.hostProof c.session (if len = 16 then (ringPayload r) else []))
  else if op = 7 then s.runOp c (fun s => s.closeOwn c)
  else s.runOp c (fun s => s.nop c)

/-- The response entry of a request, and the data for its host address (Table 3.9). -/
def ringResponse (r : RingEntry) (d : OpDone) : Bytes × Option (Nat × Bytes) :=
  let b := r.bytes
  let write := byteAt b 0 = 2 ∨ byteAt b 0 = 4
  let ptr := bitOf (byteAt b 5) 0
  let name := if byteAt b 0 = 5 ∧ d.status = 0 then toLE 2 d.caller.session else slice b 2 2
  let len := if d.status ≠ 0 then 0 else if write then leAt b 8 4 else d.len
  let inl := if ptr then List.replicate 16 0 else (d.data ++ List.replicate 16 0).take 16
  (slice b 0 2 ++ name ++ slice b 4 2 ++ toLE 2 d.status ++ toLE 4 len ++ slice b 12 4 ++ inl,
    if ptr ∧ d.data ≠ [] then some (leAt b 16 8, d.data) else none)

/-- Responses of the ring that wait. -/
def State.ringWaiting (s : State) : Nat := (s.dict.awaiting.filter (fun a => match a.carry with
  | .ring _ _ => true
  | _ => false)).length

/-- Free entries of the response ring. -/
def State.responseRoom (s : State) : Nat := (s.host.drsHead + s.host.drsSize - 1 - s.host.drsTail) % s.host.drsSize

/-- Whether a request whose write data could not be read by DMA: the ring halts. -/
def ringUnread (r : RingEntry) : Bool :=
  bitOf (byteAt r.bytes 5) 0 && decide (byteAt r.bytes 0 = 2 ∨ byteAt r.bytes 0 = 4) && r.data.isNone

/-- Serve request entries in order while the ring runs and a response entry is free (R425). -/
def serveRing : Nat → State → State
  | 0, s => s
  | k + 1, s => match s.host.requests with
    | [] => s
    | r :: rest =>
      if s.host.drStatus ≠ 1 ∨ s.host.drsSize = 0 ∨ s.responseRoom ≤ s.ringWaiting then s
      else
        let s : State := { s with host := { s.host with requests := rest } }
        if ringUnread r then { s with host := { s.host with drStatus := 3 } }
        else
          let x := s.ringExec r
          let e := ringResponse r x.2
          serveRing k (x.1.respond ⟨.host, x.2.caller.session⟩ x.2.epoch (.ring e.1 e.2))

/-- Serve what waits. -/
def State.serveRings (s : State) : State := serveRing s.host.requests.length s

/-- DRQ_TAIL_WRITE: `entries` are those the write covers, as read by DMA; where they are too few the read of the next failed, and the
rings halt (R425). -/
def drqTail (v : Nat) (entries : List RingEntry) (s : State) : State :=
  if !s.host.linkUp then s
  else if s.badValue v (.index .drq) then s.refuseWrite 0 0x14
  else
    let n := (v + s.host.drqSize - s.host.drqTail) % s.host.drqSize
    let r : State := { s with host := { s.host with drqTail := v } }
    if r.host.drStatus ≠ 1 then r
    else
      let r : State := { r with host := { r.host with requests := r.host.requests ++ entries.take n } }
      let r := r.serveRings
      if entries.length < n then { r with host := { r.host with drStatus := 3 } } else r

/-- DRQ_TAIL_WRITE (R425). -/
def execDrqTailWrite (t v : Nat) (entries : List RingEntry) (s : State) : Out := happen t true s (drqTail v entries)

/-- DRS_HEAD_WRITE: space is free, and acceptance resumes (R425). -/
def drsHead (v : Nat) (s : State) : State :=
  if !s.host.linkUp then s
  else if s.badValue v (.index .drs) then s.refuseWrite 0 0x2C
  else
    let r : State := { s with host := { s.host with drsHead := v } }
    r.serveRings

/-- DRS_HEAD_WRITE (R425). -/
def execDrsHeadWrite (t v : Nat) (s : State) : Out := happen t true s (drsHead v)

/-! ### Enabling rings (R424) -/

/-- Responses that wait for the dictionary ring are dropped with it. -/
def State.dropResponses (s : State) : State :=
  { s with dict := { s.dict with awaiting := s.dict.awaiting.filter (fun a => match a.carry with
    | .ring _ _ => false
    | _ => true) } }

/-- Write DR_CTRL: enabling sets the indices to 0; disabling stops the rings, and what they held is dropped. -/
def State.enableDict (s : State) (v : Nat) : State :=
  if v = 1 ∧ ¬ bitOf s.host.drCtrl 0 then
    { s with host := { s.host with
        drCtrl := v, drStatus := 1, drqTail := 0, drqHead := 0, drsHead := 0, drsTail := 0, requests := [] } }
  else if v = 0 then
    ({ s with host := { s.host with drCtrl := v, drStatus := 0, requests := [] } } : State).dropResponses
  else s

/-- Write CTRL of a transmit or receive ring. -/
def State.enableRing (s : State) (rx : Bool) (n v : Nat) : State :=
  let on := bitOf (s.ring rx n).ctrl 0
  let clear := fun (s : State) => if rx then
      ({ s with host := { s.host with posted := s.host.posted.filter (fun b => decide (b.ring ≠ n)) } } : State)
    else ({ s with host := { s.host with fetched := s.host.fetched.filter (fun d => decide (d.ring ≠ n)) } } : State)
  if bitOf v 0 ∧ ¬ on then clear (s.modRing rx n (fun x => { x with ctrl := v, status := 1, tail := 0, head := 0 }))
  else if bitOf v 0 then s.modRing rx n (fun x => { x with ctrl := v })
  else clear (s.modRing rx n (fun x => { x with ctrl := v, status := 0 }))

/-- RING_ENABLE: a write of DR_CTRL or of a ring's CTRL. -/
def ringEnable (ring : RingId) (v : Nat) (s : State) : State :=
  if !s.host.linkUp then s
  else match ring with
    | .dict => if s.badValue v (.ctrl .drq) then s.refuseWrite 0 0x34 else s.enableDict v
    | .tx n => if s.badValue v (.ctrl (.tx n)) then s.refuseWrite 2 (0x40 * n + 0x14) else s.enableRing false n v
    | .rx n => if s.badValue v (.ctrl (.rx n)) then s.refuseWrite 2 (0x800 + 0x40 * n + 0x14) else s.enableRing true n v

/-- Whether a ring exists. -/
def ringExists (r : RingId) : Bool := match r with
  | .dict => true
  | .tx n => decide (n < 16)
  | .rx n => decide (n < 16)

/-- RING_ENABLE (R424). -/
def execRingEnable (t : Nat) (ring : RingId) (v : Nat) (s : State) : Out :=
  happen t (ringExists ring) s (ringEnable ring v)

end Sys2Proof.Machine
end

