-- ==== Sys2Proof/Machine/HostFamily.lean ====
section
/-! DEFINITION. The DMA rings of the host port HP, moderated interrupts, and the loss and return of the PCIe link (R427 to R434). -/

namespace Sys2Proof.Machine

open Sys2Proof

/-! ### Transmit rings (R427, R428) -/

/-- TX_TAIL_WRITE: descriptors become available. -/
def txTail (ring v : Nat) (s : State) : State :=
  if !s.host.linkUp then s
  else if s.badValue v (.index (.tx ring)) then s.refuseWrite 2 (0x40 * ring + 0x0C)
  else s.modRing false ring (fun x => { x with tail := v })

/-- TX_TAIL_WRITE (R428). -/
def execTxTailWrite (t ring v : Nat) (s : State) : Out := happen t (decide (ring < 16)) s (txTail ring v)

/-- Descriptors of a ring fetched and not complete. -/
def State.fetchedOf (s : State) (n : Nat) : Nat := (s.host.fetched.filter (fun d => decide (d.ring = n))).length

/-- The index of the next descriptor to fetch. -/
def State.fetchIndex (s : State) (n : Nat) : Nat := ((s.ring false n).head + s.fetchedOf n) % (s.ring false n).size

/-- Whether a transmit ring runs and has a descriptor to fetch. -/
def State.txPending (s : State) (n : Nat) : Bool :=
  decide ((s.ring false n).status = 1) && decide ((s.ring false n).size ≠ 0) && decide (s.fetchIndex n ≠ (s.ring false n).tail)

/-- Largest frame HP takes, without FCS. -/
def State.hostMax (s : State) : Nat := s.reg 0x301C 3 - 4

/-- Quantum of a ring: 2,048 bytes × its weight (R428). -/
def State.quantum (s : State) (n : Nat) : Nat := 2048 * fieldOf (s.ring false n).ctrl 11 8

/-- Pass the turn from ring to ring until ring `n` may send `len` bytes: a ring with nothing pending gives its turn up, one with a
descriptor keeps its deficit and gets its quantum when its turn comes. A pending ring whose deficit covers any frame is not passed. -/
def drrPass (s : State) (n len : Nat) : Nat → Nat → List Nat → Option (Nat × List Nat)
  | 0, _, _ => none
  | k + 1, turn, ds =>
    if turn = n ∧ len ≤ nth ds n 0 then some (turn, modNth ds n (fun x => x - len))
    else if turn ≠ n ∧ s.txPending turn ∧ s.hostMax ≤ nth ds turn 0 then none
    else
      let ds := if s.txPending turn then ds else modNth ds turn (fun _ => 0)
      let next := (turn + 1) % 16
      drrPass s n len k next (if s.txPending next then modNth ds next (fun x => x + s.quantum next) else ds)

/-- The round robin as it stands after ring `n` sends `len` bytes, none when it is not that ring's turn: nine rounds cover the
longest frame at weight 1. -/
def State.drrServe (s : State) (n len : Nat) : Option (Nat × List Nat) := drrPass s n len 160 s.host.drrTurn s.host.deficits

/-- Status of a descriptor (R427, R432). -/
def State.descriptorStatus (s : State) (d : TxDescriptor) : Nat :=
  let given := bitOf d.flags 2
  if d.length < 14 ∨ s.hostMax < d.length then 4
  else if clearBitAt (clearBitAt (clearBitAt d.flags 1) 2) 3 ≠ 0 ∨ d.resv ≠ 0 ∨ 64 ≤ d.clsQ ∨ 4 < d.domain
      ∨ (given ∧ 28 ≤ d.egress ∧ d.egress ≠ 31) ∨ (¬ given ∧ d.egress ≠ 0) then 6
  else if 1000000000 ≤ d.nsec then 5
  else if !s.homeHere 28 then 0x0B
  else if !d.readOk then 0x0E
  else 0

/-- The frame of a descriptor, padded to 60 bytes, with what the descriptor asks of it. -/
def State.hostFrame (s : State) (d : TxDescriptor) : FrameRx :=
  let b := d.frame.take d.length
  let b := b ++ List.replicate (60 - b.length) 0
  let given := bitOf d.flags 2
  ⟨b, b.length + 4, s.time.raw, .none, false, some ⟨bitOf d.flags 1, d.tag, d.domain, d.sec * 1000000000 + d.nsec, given,
    d.egress, if given then d.clsQ % 8 else 0, if given then fieldOf d.clsQ 5 3 else 0, 0⟩⟩

/-- Note a fetched descriptor with its status. -/
def State.noteFetched (s : State) (n st : Nat) (d : TxDescriptor) : State :=
  { s with host := { s.host with fetched := s.host.fetched ++ [⟨n, s.fetchIndex n, st, d.flags⟩] } }

/-- Count a refusal of a ring; it saturates. -/
def State.countRefused (s : State) (rx : Bool) (n : Nat) : State :=
  s.modRing rx n (fun x => { x with refused := if x.refused = 0xFFFFFFFF then x.refused else x.refused + 1 })

/-- TX_DESCRIPTOR_FETCH: an accepted frame is keyed under 0x001C in descriptor order; a rejected descriptor takes no key, and a failed
buffer read halts the ring. Transmit rings are not served in IDLE (R396). -/
def txFetch (n : Nat) (d : TxDescriptor) (s : State) : State :=
  if !s.portUp 28 ∨ !s.txPending n ∨ s.power.phase = .idle then s
  else
    let st := s.descriptorStatus d
    let serve := s.drrServe n (if st = 0 then d.length else 0)
    match serve with
    | none => s
    | some (turn, ds) =>
      let s : State := { s with host := { s.host with drrTurn := turn, deficits := ds } }
      let s := s.noteFetched n st d
      if st = 0 then s.presentFrame 28 (s.hostFrame d)
      else
        let s := s.countRefused false n
        if st = 0x0E then s.modRing false n (fun x => { x with status := 2 }) else s

/-- TX_DESCRIPTOR_FETCH (R427, R428). -/
def execTxDescriptorFetch (t ring : Nat) (d : TxDescriptor) (s : State) : Out :=
  happen t (decide (ring < 16)) s (txFetch ring d)

/-- HEAD of a ring advances past `n` descriptors and is written to HEAD_WB, if set. -/
def State.advanceHead (s : State) (rx : Bool) (ring n : Nat) : State :=
  let s := s.modRing rx ring (fun x => { x with head := (x.head + n) % x.size, done := (x.done + n) % 2 ^ 64 })
  let r := s.ring rx ring
  if r.headWb = 0 then s else s.hostWrite r.headWb (toLE 4 r.head)

/-- TX_DESCRIPTOR_COMPLETE: the status is written, HEAD advances, HEAD_WB is written, and the vector follows when asked (R428). -/
def txComplete (n : Nat) (s : State) : State :=
  match takeFirst (fun (d : TxDesc) => decide (d.ring = n)) s.host.fetched with
  | none => s
  | some (d, rest) =>
    let s : State := { s with host := { s.host with fetched := rest } }
    let s := (s.hostWrite ((s.ring false n).base + 32 * d.index + 28) (toLE 2 d.status)).advanceHead false n 1
    if bitOf d.flags 3 then s.moderate (8 + n) (s.ring false n).mod else s

/-- TX_DESCRIPTOR_COMPLETE (R428). -/
def execTxDescriptorComplete (t ring : Nat) (s : State) : Out := happen t (decide (ring < 16)) s (txComplete ring)

/-! ### Receive rings (R429) -/

/-- Buffers at consecutive indices from `i`. -/
def buffersFrom (ring size : Nat) : Nat → List (Nat × Nat) → List RxBuffer
  | _, [] => []
  | i, b :: rest => ⟨ring, i % size, b.1, b.2⟩ :: buffersFrom ring size (i + 1) rest

/-- RX_TAIL_WRITE: `bufs` are the buffers that the write posts, as read by DMA; where they are too few the read of the next failed, and
the ring halts. -/
def rxTail (n v : Nat) (bufs : List (Nat × Nat)) (s : State) : State :=
  if !s.host.linkUp then s
  else if s.badValue v (.index (.rx n)) then s.refuseWrite 2 (0x800 + 0x40 * n + 0x0C)
  else
    let r := s.ring true n
    let k := (v + r.size - r.tail) % r.size
    let s := s.modRing true n (fun x => { x with tail := v })
    if r.status ≠ 1 then s
    else
      let s : State := { s with host := { s.host with posted := s.host.posted ++ buffersFrom n r.size r.tail (bufs.take k) } }
      if bufs.length < k then s.modRing true n (fun x => { x with status := 2 }) else s

/-- RX_TAIL_WRITE (R429). -/
def execRxTailWrite (t ring v : Nat) (bufs : List (Nat × Nat)) (s : State) : Out :=
  happen t (decide (ring < 16)) s (rxTail ring v bufs)

/-- The hash h of a frame: over the two sides of an IP frame, else over the destination and source addresses (R429). -/
def State.spreadHash (s : State) (f : Frame) : Nat :=
  let p := s.parse f.key.epoch f.bytes f.length f.sec
  if p.ipOff.isSome then flowHash p.flow else crc32 (f.bytes.take 12)

/-- The ring to which queue `q` delivers a frame under RXMAP. -/
def State.rxRing (s : State) (q : Nat) (f : Frame) : Nat :=
  let m := nth s.host.rxmap q 0
  (m % 16 + s.spreadHash f % 2 ^ fieldOf m 5 4) % 16

/-- The octets of a copy for the host: the 32 bytes of Table 8.2 and the frame with its FCS; a sample copy has its header already. -/
def State.hostOctets (s : State) (f : Frame) (c : Copy) : Bytes :=
  let b := s.copyBytes f c
  match c.kind with
  | .sample => b
  | _ => metaBytes f ++ b ++ fcsBytes b false

/-- The consecutive buffers that `len` bytes need, if there are enough. -/
def needBuffers : Nat → List RxBuffer → Option (List RxBuffer)
  | _, [] => none
  | len, b :: rest => if len ≤ b.len then some [b] else (needBuffers (len - b.len) rest).map (fun x => b :: x)

/-- Buffers posted to a ring that runs. -/
def State.postedOf (s : State) (n : Nat) : List RxBuffer :=
  if (s.ring true n).status = 1 then s.host.posted.filter (fun b => decide (b.ring = n)) else []

/-- The head of an HP queue that may go by R240, with its frame. -/
def State.rxHead (s : State) (q : Nat) : Option (Copy × Frame) :=
  match s.queueOf 28 q with
  | [] => none
  | c :: _ => match s.frame c.frame with
    | none => none
    | some f => if s.headState 28 q c f = .yes ∧ s.macFree 28 q then some (c, f) else none

/-- The buffers that the head of queue `q` may take now. -/
def State.rxPlan (s : State) (q : Nat) : Option (List RxBuffer) :=
  match s.rxHead q with
  | none => none
  | some (c, f) => needBuffers (s.hostOctets f c).length (s.postedOf (s.rxRing q f))

/-- Whether a higher queue has a head that may go and the buffers for it. -/
def State.rxOutranked (s : State) (q : Nat) : Bool := (List.range 8).any (fun h => decide (q < h) && (s.rxPlan h).isSome)

/-- Write octets into buffers, with the write-back of each descriptor (R429). -/
def writeBuffers (base flags q : Nat) : List RxBuffer → Bytes → State → State
  | [], _, s => s
  | b :: rest, data, s =>
    let part := data.take b.len
    let last := natOfBool rest.isEmpty
    let s := (s.hostWrite b.addr part).hostWrite (base + 32 * b.index + 10)
      (toLE 2 part.length ++ toLE 1 (last + flags) ++ toLE 1 q)
    writeBuffers base flags q rest (data.drop b.len) (s.hostWrite (base + 32 * b.index + 28) [0, 0])

/-- Deliver a copy into the buffers of its ring. -/
def State.rxDeliver (s : State) (n q : Nat) (c : Copy) (data : Bytes) (bufs : List RxBuffer) : State :=
  let flags := match c.kind with
    | .sample => 2
    | .mirror _ => 4
    | _ => 0
  let used := bufs.length
  let s := writeBuffers (s.ring true n).base flags q bufs data s
  let s : State := { s with host := { s.host with
      posted := s.host.posted.filter (fun b => !bufs.any (fun x => decide (x.ring = b.ring ∧ x.index = b.index))),
      starved := s.host.starved.filter (fun i => decide (i ≠ c.id)) } }
  (s.advanceHead true n used).moderate (24 + n) (s.ring true n).mod

/-- A copy whose ring lacks buffers stays, and its ring's REFUSED increments once. -/
def State.rxStarve (s : State) (n : Nat) (c : Copy) : State :=
  if c.id ∈ s.host.starved then s
  else
    let live := s.host.starved.filter (fun i => s.basin.copies.any (fun x => decide (x.id = i)))
    let r : State := { s with host := { s.host with starved := live ++ [c.id] } }
    r.countRefused true n

/-- Whether HP's copies may be written: the link is up, HP's home is this member, and nothing stops transmission. -/
def State.rxServes (s : State) : Bool :=
  s.portUp 28 && s.homeHere 28 && s.safety.fatalRaw.isNone && !decide (s.saddle.role = .syncing)

/-- RX_COPY_WRITE: the head of HP queue `q` is written into buffers of its ring (R429). -/
def rxCopyWrite (q : Nat) (s : State) : State :=
  let s := s.cleanPort 28
  if !s.rxServes ∨ s.rxOutranked q then s
  else match s.rxHead q with
    | none => s
    | some (c, f) =>
      let n := s.rxRing q f
      let data := s.hostOctets f c
      match needBuffers data.length (s.postedOf n) with
      | none => s.rxStarve n c
      | some bufs =>
        let r := (s.startCopy 28 c none).finishTx 28
        match r.2 with
        | some _ => r.1.rxDeliver n q c data bufs
        | none => r.1

/-- RX_COPY_WRITE (R429). -/
def execRxCopyWrite (t queue : Nat) (s : State) : Out := happen t (decide (queue < 8)) s (rxCopyWrite queue)

/-! ### Interrupts (R430) -/

/-- The moderation register of a vector. -/
def State.vectorMod (s : State) (v : Nat) : Nat :=
  if v = 0 then s.host.drMod
  else if 8 ≤ v ∧ v < 24 then (s.ring false (v - 8)).mod
  else if 24 ≤ v ∧ v < 40 then (s.ring true (v - 24)).mod
  else 0

/-- MSIX_MODERATION_EXPIRED: the time since the first unsignalled completion reaches the µs value (R430). -/
def moderationExpired (v : Nat) (s : State) : State :=
  let us := s.vectorMod v / 65536
  let x := kget (fun _ => (⟨0, 0⟩ : VectorMod)) s.host.mods v
  if x.count ≠ 0 ∧ us ≠ 0 ∧ x.since + us * 1000 ≤ s.time.raw then
    let r : State := { s with host := { s.host with mods := kput (fun _ => (⟨0, 0⟩ : VectorMod)) s.host.mods v ⟨0, 0⟩ } }
    r.signalVector v
  else s

/-- MSIX_MODERATION_EXPIRED (R430). -/
def execMsixModerationExpired (t v : Nat) (s : State) : Out := happen t (decide (v < 64)) s (moderationExpired v)

/-! ### The link (R433, R434, R437) -/

/-- Responses that wait for the host are not written. -/
def State.dropHostResponses (s : State) : State :=
  { s with dict := { s.dict with awaiting := s.dict.awaiting.filter (fun a => decide (a.caller.iface ≠ .host)) } }

/-- Sessions of the host end. -/
def State.endHostSessions (s : State) : State :=
  ((List.range 8).map (· + 1)).foldl (fun s n => if (s.session n).host ∧ (s.session n).state ≠ 0 then s.endSession n else s) s

/-- The registers of the host interface return to their reset values; what was written to the host and signalled stays so. -/
def HostIf.restart (h : HostIf) : HostIf :=
  { HostIf.reset with
    tx := h.tx.map (fun _ => Ring.reset), rx := h.rx.map (fun _ => Ring.reset), writes := h.writes, vectors := h.vectors }

/-- PCIE_LINK_RESET: the host interface alone is reset, and HP enters DOWN (R433). -/
def pcieLinkReset (s : State) : State :=
  let up := s.portUp 28
  let s : State := { s with host := s.host.restart }
  let s := (s.dropHostResponses.endHostSessions).discardOf (fun o => decide (o.iface = .host))
  if up then s.linkDown 28 true else s.flushPort 28

/-- PCIE_LINK_RESET (R433). -/
def execPcieLinkReset (t : Nat) (s : State) : Out := happen t true s pcieLinkReset

/-- PCIE_LINK_UP: HP enters UP, and LINK reports lanes and generation (R437, Table 18.1). -/
def pcieLinkUp (lanes gen : Nat) (s : State) : State :=
  if s.host.linkUp then s
  else
    let s : State := { s with host := { s.host with linkUp := true, link := lanes + 16 * gen } }
    let s := s.modPort 28 (fun (x : Port) => { x with holdEnd := none, flushing := false })
    if s.portUp 28 then ((s.count64 0x309C 0x21 1).refreshCredits 28).signalVector 3 else s

/-- PCIE_LINK_UP (R437): x1, x2 or x4, at generation 1 to 4 (R423). -/
def execPcieLinkUp (t lanes gen : Nat) (s : State) : Out :=
  happen t (decide (lanes = 1 ∨ lanes = 2 ∨ lanes = 4) && decide (1 ≤ gen ∧ gen ≤ 4)) s (pcieLinkUp lanes gen)

end Sys2Proof.Machine
end

