-- ==== Sys2Proof/Machine/Dispatch.lean ====
section
/-! DEFINITION. One arm for each command. -/

namespace Sys2Proof.Machine

open Sys2Proof

/-- The effect of a command on everything but the queue. -/
def exec (i : Instr) (s : State) : Host.Outcome State Fault Refusal :=
  match i with
  | .frameHeaderWindow t port rx => Sys2Proof.Machine.execFrameHeaderWindow t port rx s
  | .frameEndReceived t port fin => Sys2Proof.Machine.execFrameEndReceived t port fin s
  | .sortBufferArrival t u key => Sys2Proof.Machine.execSortBufferArrival t u key s
  | .orderingRelease t u e => Sys2Proof.Machine.execOrderingRelease t u e s
  | .heldOrderRelease t u => Sys2Proof.Machine.execHeldOrderRelease t u s
  | .stepSuspendEnd t u => Sys2Proof.Machine.execStepSuspendEnd t u s
  | .sourceKeyLimitWaitEnd t source => Sys2Proof.Machine.execSourceKeyLimitWaitEnd t source s
  | .senderResume t u => Sys2Proof.Machine.execSenderResume t u s
  | .dcqWaitTimeout t u => Sys2Proof.Machine.execDcqWaitTimeout t u s
  | .checkpoint t => Sys2Proof.Machine.execCheckpoint t s
  | .fordDispatch t => Sys2Proof.Machine.execFordDispatch t s
  | .fordItemComplete t proc => Sys2Proof.Machine.execFordItemComplete t proc s
  | .fordDeadline t due => Sys2Proof.Machine.execFordDeadline t due s
  | .processorFailure t n => Sys2Proof.Machine.execProcessorFailure t n s
  | .processorRetest t c mask passed => Sys2Proof.Machine.execProcessorRetest t c mask passed s
  | .read t c idx sub => Sys2Proof.Machine.execRead t c idx sub s
  | .write t c idx sub data => Sys2Proof.Machine.execWrite t c idx sub data s
  | .readSeg t c idx sub off len => Sys2Proof.Machine.execReadSeg t c idx sub off len s
  | .writeSeg t c idx sub off data last => Sys2Proof.Machine.execWriteSeg t c idx sub off data last s
  | .sessionOpen t slot nonce => Sys2Proof.Machine.execSessionOpen t slot nonce s
  | .sessionProof t sid mac => Sys2Proof.Machine.execSessionProof t sid mac s
  | .sessionClose t c => Sys2Proof.Machine.execSessionClose t c s
  | .nop t c => Sys2Proof.Machine.execNop t c s
  | .lookup t c tbl => Sys2Proof.Machine.execLookup t c tbl s
  | .insert t c tbl => Sys2Proof.Machine.execInsert t c tbl s
  | .replace t c tbl => Sys2Proof.Machine.execReplace t c tbl s
  | .delete t c tbl => Sys2Proof.Machine.execDelete t c tbl s
  | .readRow t c tbl => Sys2Proof.Machine.execReadRow t c tbl s
  | .nextRow t c tbl => Sys2Proof.Machine.execNextRow t c tbl s
  | .clear t c tbl => Sys2Proof.Machine.execClear t c tbl s
  | .domainWriteTimeout t => Sys2Proof.Machine.execDomainWriteTimeout t s
  | .discardStaging t c => Sys2Proof.Machine.execDiscardStaging t c s
  | .executeCommit t c => Sys2Proof.Machine.execExecuteCommit t c s
  | .commitApply t => Sys2Proof.Machine.execCommitApply t s
  | .overlayWriteComplete t => Sys2Proof.Machine.execOverlayWriteComplete t s
  | .writeResponse t => Sys2Proof.Machine.execWriteResponse t s
  | .imageUpload t c off data signed => Sys2Proof.Machine.execImageUpload t c off data signed s
  | .imageActivate t c => Sys2Proof.Machine.execImageActivate t c s
  | .dapRequest t d => Sys2Proof.Machine.execDapRequest t d s
  | .openRequest t d => Sys2Proof.Machine.execOpenRequest t d s
  | .openProof t d => Sys2Proof.Machine.execOpenProof t d s
  | .openProofTimeout t sid => Sys2Proof.Machine.execOpenProofTimeout t sid s
  | .dapLockoutEnd t => Sys2Proof.Machine.execDapLockoutEnd t s
  | .sessionIdleTimeout t sid => Sys2Proof.Machine.execSessionIdleTimeout t sid s
  | .closeSession t c n => Sys2Proof.Machine.execCloseSession t c n s
  | .sdoRequest t bus ident data => Sys2Proof.Machine.execSdoRequest t bus ident data s
  | .sdoSegmentTimeout t => Sys2Proof.Machine.execSdoSegmentTimeout t s
  | .partnerRequest t r => Sys2Proof.Machine.execPartnerRequest t r s
  | .timerefFault t => Sys2Proof.Machine.execTimerefFault t s
  | .timerefRestored t => Sys2Proof.Machine.execTimerefRestored t s
  | .rateWrite t c n data => Sys2Proof.Machine.execRateWrite t c n data s
  | .stepWrite t c n data => Sys2Proof.Machine.execStepWrite t c n data s
  | .loadWrite t c n data => Sys2Proof.Machine.execLoadWrite t c n data s
  | .fallbackIncrementWrite t c n data => Sys2Proof.Machine.execFallbackIncrementWrite t c n data s
  | .timeCorrectionApply t n => Sys2Proof.Machine.execTimeCorrectionApply t n s
  | .slewEnd t n => Sys2Proof.Machine.execSlewEnd t n s
  | .grandmasterLost t n => Sys2Proof.Machine.execGrandmasterLost t n s
  | .holdoverLimitExceeded t => Sys2Proof.Machine.execHoldoverLimitExceeded t s
  | .holdoverEnd t n gm offset ratio => Sys2Proof.Machine.execHoldoverEnd t n gm offset ratio s
  | .syncTxStamp t n port rxRaw txRaw ratio correction => Sys2Proof.Machine.execSyncTxStamp t n port rxRaw txRaw ratio correction s
  | .txStampRead t c port => Sys2Proof.Machine.execTxStampRead t c port s
  | .launchTimeReached t port queue => Sys2Proof.Machine.execLaunchTimeReached t port queue s
  | .lateLimitExpired t port queue => Sys2Proof.Machine.execLateLimitExpired t port queue s
  | .triggerLeadingEdge t n => Sys2Proof.Machine.execTriggerLeadingEdge t n s
  | .triggerTrailingEdge t n => Sys2Proof.Machine.execTriggerTrailingEdge t n s
  | .captureEdge t n width falling => Sys2Proof.Machine.execCaptureEdge t n width falling s
  | .captureRead t c n => Sys2Proof.Machine.execCaptureRead t c n s
  | .linkUp t port => Sys2Proof.Machine.execLinkUp t port s
  | .pcsLockLost t port => Sys2Proof.Machine.execPcsLockLost t port s
  | .holdTimerExpired t port => Sys2Proof.Machine.execHoldTimerExpired t port s
  | .mdioPoll t port value => Sys2Proof.Machine.execMdioPoll t port value s
  | .indirectRead t c port => Sys2Proof.Machine.execIndirectRead t c port s
  | .indirectWrite t c port => Sys2Proof.Machine.execIndirectWrite t c port s
  | .indirectAccessDone t port value => Sys2Proof.Machine.execIndirectAccessDone t port value s
  | .sqiUpdate t port sqi => Sys2Proof.Machine.execSqiUpdate t port sqi s
  | .tdrStart t c port => Sys2Proof.Machine.execTdrStart t c port s
  | .tdrDone t port result distance => Sys2Proof.Machine.execTdrDone t port result distance s
  | .tc10Sleep t c port => Sys2Proof.Machine.execTc10Sleep t c port s
  | .tc10Wake t c port => Sys2Proof.Machine.execTc10Wake t c port s
  | .tc10SleepAck t port => Sys2Proof.Machine.execTc10SleepAck t port s
  | .partnerSleepRequest t port => Sys2Proof.Machine.execPartnerSleepRequest t port s
  | .wakePulseReceived t port => Sys2Proof.Machine.execWakePulseReceived t port s
  | .beaconTimeout t port => Sys2Proof.Machine.execBeaconTimeout t port s
  | .foreignBeacon t port => Sys2Proof.Machine.execForeignBeacon t port s
  | .transmitOpportunity t port collision => Sys2Proof.Machine.execTransmitOpportunity t port collision s
  | .pauseReceived t port quanta => Sys2Proof.Machine.execPauseReceived t port quanta s
  | .pfcReceived t port enables quanta => Sys2Proof.Machine.execPfcReceived t port enables quanta s
  | .pauseTimerExpired t port prio => Sys2Proof.Machine.execPauseTimerExpired t port prio s
  | .pauseResend t port => Sys2Proof.Machine.execPauseResend t port s
  | .verifyAttempt t port => Sys2Proof.Machine.execVerifyAttempt t port s
  | .verifyResponse t port => Sys2Proof.Machine.execVerifyResponse t port s
  | .egressSchedule t port accepts read => Sys2Proof.Machine.execEgressSchedule t port accepts read s
  | .frameTransmitEnd t port => Sys2Proof.Machine.execFrameTransmitEnd t port s
  | .gateEntryChange t port => Sys2Proof.Machine.execGateEntryChange t port s
  | .gateListSwitch t stream n => Sys2Proof.Machine.execGateListSwitch t stream n s
  | .holdRequest t port => Sys2Proof.Machine.execHoldRequest t port s
  | .gateMemoryRewrite t port entry done => Sys2Proof.Machine.execGateMemoryRewrite t port entry done s
  | .residenceSweep t => Sys2Proof.Machine.execResidenceSweep t s
  | .bankRetire t c b => Sys2Proof.Machine.execBankRetire t c b s
  | .frameBankWalkDone t b => Sys2Proof.Machine.execFrameBankWalkDone t b s
  | .tableBankRebuildDone t => Sys2Proof.Machine.execTableBankRebuildDone t s
  | .tableAuditPass t static_ dynamic => Sys2Proof.Machine.execTableAuditPass t static_ dynamic s
  | .freelistAuditPass t lost corrupt => Sys2Proof.Machine.execFreelistAuditPass t lost corrupt s
  | .staticEntryRewrite t tbl pos bank good => Sys2Proof.Machine.execStaticEntryRewrite t tbl pos bank good s
  | .dynamicEntryFetch t tbl pos fetched => Sys2Proof.Machine.execDynamicEntryFetch t tbl pos fetched s
  | .sessionRefetchComplete t slot fetched => Sys2Proof.Machine.execSessionRefetchComplete t slot fetched s
  | .ternaryRewrite t row detected => Sys2Proof.Machine.execTernaryRewrite t row detected s
  | .ledgerTrigger t => Sys2Proof.Machine.execLedgerTrigger t s
  | .ledgerRestart t c => Sys2Proof.Machine.execLedgerRestart t c s
  | .ledgerFreeze t c => Sys2Proof.Machine.execLedgerFreeze t c s
  | .fragmentReassemblyTimeout t => Sys2Proof.Machine.execFragmentReassemblyTimeout t s
  | .datagramReinject t => Sys2Proof.Machine.execDatagramReinject t s
  | .slowPathFrame t handled => Sys2Proof.Machine.execSlowPathFrame t handled s
  | .canFrameReceived t n f fault partner tec rec_ => Sys2Proof.Machine.execCanFrameReceived t n f fault partner tec rec_ s
  | .canTransmitOffer t n => Sys2Proof.Machine.execCanTransmitOffer t n s
  | .canTransmitComplete t n outcome stamp tec rec_ => Sys2Proof.Machine.execCanTransmitComplete t n outcome stamp tec rec_ s
  | .busOff t n => Sys2Proof.Machine.execBusOff t n s
  | .busOffDelayExpired t n => Sys2Proof.Machine.execBusOffDelayExpired t n s
  | .recover t c n => Sys2Proof.Machine.execRecover t c n s
  | .busOffRecovered t n => Sys2Proof.Machine.execBusOffRecovered t n s
  | .linHeaderDue t n => Sys2Proof.Machine.execLinHeaderDue t n s
  | .linFrameReceived t n f fault => Sys2Proof.Machine.execLinFrameReceived t n f fault s
  | .linScheduleChange t n => Sys2Proof.Machine.execLinScheduleChange t n s
  | .flexraySlot t buf cycle start room => Sys2Proof.Machine.execFlexraySlot t buf cycle start room s
  | .flexrayFrameReceived t chan slot cycle start fault syncs sof data => Sys2Proof.Machine.execFlexrayFrameReceived t chan slot cycle start fault syncs sof data s
  | .errnPoll t pin low => Sys2Proof.Machine.execErrnPoll t pin low s
  | .failNotice t => Sys2Proof.Machine.execFailNotice t s
  | .claim t pins => Sys2Proof.Machine.execClaim t pins s
  | .hello t m => Sys2Proof.Machine.execHello t m s
  | .proof t m => Sys2Proof.Machine.execProof t m s
  | .result t m => Sys2Proof.Machine.execResult t m s
  | .pairingTimeout t => Sys2Proof.Machine.execPairingTimeout t s
  | .pairingRetry t => Sys2Proof.Machine.execPairingRetry t s
  | .journalRecord t m => Sys2Proof.Machine.execJournalRecord t m s
  | .journalAck t recv => Sys2Proof.Machine.execJournalAck t recv s
  | .standbyEpochRelease t e => Sys2Proof.Machine.execStandbyEpochRelease t e s
  | .matchWindowExpired t key => Sys2Proof.Machine.execMatchWindowExpired t key s
  | .unclaimedInputDiscard t => Sys2Proof.Machine.execUnclaimedInputDiscard t s
  | .relayedFrame t kind m => Sys2Proof.Machine.execRelayedFrame t kind m s
  | .lagLimitExceeded t => Sys2Proof.Machine.execLagLimitExceeded t s
  | .journalOverflow t => Sys2Proof.Machine.execJournalOverflow t s
  | .roleLineMismatch t pins => Sys2Proof.Machine.execRoleLineMismatch t pins s
  | .digestCompare t m => Sys2Proof.Machine.execDigestCompare t m s
  | .resyncStart t m => Sys2Proof.Machine.execResyncStart t m s
  | .resyncPassDone t marked => Sys2Proof.Machine.execResyncPassDone t marked s
  | .resyncFinal t => Sys2Proof.Machine.execResyncFinal t s
  | .resyncComplete t f cov => Sys2Proof.Machine.execResyncComplete t f cov s
  | .resyncRestart t => Sys2Proof.Machine.execResyncRestart t s
  | .partnerDeclaredFailed t pins => Sys2Proof.Machine.execPartnerDeclaredFailed t pins s
  | .heartbeatPathLost t elnar pins => Sys2Proof.Machine.execHeartbeatPathLost t elnar pins s
  | .fence t pins => Sys2Proof.Machine.execFence t pins s
  | .takeoverConfirmed t pins => Sys2Proof.Machine.execTakeoverConfirmed t pins s
  | .catchUpDone t => Sys2Proof.Machine.execCatchUpDone t s
  | .outputEnable t => Sys2Proof.Machine.execOutputEnable t s
  | .syncingReload t => Sys2Proof.Machine.execSyncingReload t s
  | .swapPlan t => Sys2Proof.Machine.execSwapPlan t s
  | .planSwapNow t c => Sys2Proof.Machine.execPlanSwapNow t c s
  | .detach t c => Sys2Proof.Machine.execDetach t c s
  | .allowPairing t c => Sys2Proof.Machine.execAllowPairing t c s
  | .resynchronise t c => Sys2Proof.Machine.execResynchronise t c s
  | .failNoticeCommand t c => Sys2Proof.Machine.execFailNoticeCommand t c s
  | .swapPoint t => Sys2Proof.Machine.execSwapPoint t s
  | .tokenHandover t m => Sys2Proof.Machine.execTokenHandover t m s
  | .handoverTimeout t n => Sys2Proof.Machine.execHandoverTimeout t n s
  | .swapAbandon t => Sys2Proof.Machine.execSwapAbandon t s
  | .laneFrameReceived t r pos line => Sys2Proof.Machine.execLaneFrameReceived t r pos line s
  | .laneFrameSent t r fill => Sys2Proof.Machine.execLaneFrameSent t r fill s
  | .laneEntersUse t r => Sys2Proof.Machine.execLaneEntersUse t r s
  | .losDeclared t r => Sys2Proof.Machine.execLosDeclared t r s
  | .cellGapTimeout t cls => Sys2Proof.Machine.execCellGapTimeout t cls s
  | .creditCellDue t => Sys2Proof.Machine.execCreditCellDue t s
  | .pairTimeStamps t tx rx ptx prx n rate => Sys2Proof.Machine.execPairTimeStamps t tx rx ptx prx n rate s
  | .payloadFetch t side q => Sys2Proof.Machine.execPayloadFetch t side q s
  | .windowRead t side q => Sys2Proof.Machine.execWindowRead t side q s
  | .windowWrite t side q => Sys2Proof.Machine.execWindowWrite t side q s
  | .windowWritePosted t side q => Sys2Proof.Machine.execWindowWritePosted t side q s
  | .lockAcquire t side q => Sys2Proof.Machine.execLockAcquire t side q s
  | .lockRelease t side q => Sys2Proof.Machine.execLockRelease t side q s
  | .bridgeCompletion t d => Sys2Proof.Machine.execBridgeCompletion t d s
  | .bridgeTimeout t tag => Sys2Proof.Machine.execBridgeTimeout t tag s
  | .semaphoreArbitrate t => Sys2Proof.Machine.execSemaphoreArbitrate t s
  | .semaphoreExpiry t sem => Sys2Proof.Machine.execSemaphoreExpiry t sem s
  | .releaseSemaphore t c sem => Sys2Proof.Machine.execReleaseSemaphore t c sem s
  | .orphanNotice t tag status offset issue => Sys2Proof.Machine.execOrphanNotice t tag status offset issue s
  | .lockstepCheckpoint t p instrs equal laneOk => Sys2Proof.Machine.execLockstepCheckpoint t p instrs equal laneOk s
  | .lockstepMismatch t p pc kind => Sys2Proof.Machine.execLockstepMismatch t p pc kind s
  | .rollbackComplete t p => Sys2Proof.Machine.execRollbackComplete t p s
  | .comparatorFault t p => Sys2Proof.Machine.execComparatorFault t p s
  | .split t c p => Sys2Proof.Machine.execSplit t c p s
  | .rejoin t c p => Sys2Proof.Machine.execRejoin t c p s
  | .restart t c p passed => Sys2Proof.Machine.execRestart t c p passed s
  | .debugHalt t p authenticated => Sys2Proof.Machine.execDebugHalt t p authenticated s
  | .debugResume t p => Sys2Proof.Machine.execDebugResume t p s
  | .faultInputRaised t n stays => Sys2Proof.Machine.execFaultInputRaised t n stays s
  | .acknowledgeFault t c n => Sys2Proof.Machine.execAcknowledgeFault t c n s
  | .inputRecordRead t c => Sys2Proof.Machine.execInputRecordRead t c s
  | .fatalResetHoldEnd t => Sys2Proof.Machine.execFatalResetHoldEnd t s
  | .selfTestEnd t results procs banks => Sys2Proof.Machine.execSelfTestEnd t results procs banks s
  | .watchdogService t c w key => Sys2Proof.Machine.execWatchdogService t c w key s
  | .watchdogTimeout t w => Sys2Proof.Machine.execWatchdogTimeout t w s
  | .supplyOutOfWindow t n mv => Sys2Proof.Machine.execSupplyOutOfWindow t n mv s
  | .supplyInWindow t n mv => Sys2Proof.Machine.execSupplyInWindow t n mv s
  | .temperatureLimit t n temp => Sys2Proof.Machine.execTemperatureLimit t n temp s
  | .clockMonitorFault t n => Sys2Proof.Machine.execClockMonitorFault t n s
  | .safeToggle t refreshed => Sys2Proof.Machine.execSafeToggle t refreshed s
  | .safeRefreshLapse t => Sys2Proof.Machine.execSafeRefreshLapse t s
  | .readStatus t frame => Sys2Proof.Machine.execReadStatus t frame s
  | .forceSafeState t frame => Sys2Proof.Machine.execForceSafeState t frame s
  | .serviceWatchdog7 t frame => Sys2Proof.Machine.execServiceWatchdog7 t frame s
  | .boot t a b images => Sys2Proof.Machine.execBoot t a b images s
  | .advanceRollback t c => Sys2Proof.Machine.execAdvanceRollback t c s
  | .revokeRootKey t c v => Sys2Proof.Machine.execRevokeRootKey t c v s
  | .extendMr7 t c digest => Sys2Proof.Machine.execExtendMr7 t c digest s
  | .debugResponse t c off data verified => Sys2Proof.Machine.execDebugResponse t c off data verified s
  | .remaskPass t busy => Sys2Proof.Machine.execRemaskPass t busy s
  | .generateStatement t c => Sys2Proof.Machine.execGenerateStatement t c s
  | .updateMessage t c off data signed unwraps key => Sys2Proof.Machine.execUpdateMessage t c off data signed unwraps key s
  | .updateCommit t => Sys2Proof.Machine.execUpdateCommit t s
  | .tamperAlarm t n lasts => Sys2Proof.Machine.execTamperAlarm t n lasts s
  | .tamperAcknowledge t c raised => Sys2Proof.Machine.execTamperAcknowledge t c raised s
  | .sakInstall t port slot sci an pn tx unwraps => Sys2Proof.Machine.execSakInstall t port slot sci an pn tx unwraps s
  | .enterIdle t c => Sys2Proof.Machine.execEnterIdle t c s
  | .returnToRun t c => Sys2Proof.Machine.execReturnToRun t c s
  | .enterQuiet t c => Sys2Proof.Machine.execEnterQuiet t c s
  | .enterSleep t c => Sys2Proof.Machine.execEnterSleep t c s
  | .idleWakeEvent t pin => Sys2Proof.Machine.execIdleWakeEvent t pin s
  | .lowPowerEntryComplete t roleIn => Sys2Proof.Machine.execLowPowerEntryComplete t roleIn s
  | .quietRoute t f => Sys2Proof.Machine.execQuietRoute t f s
  | .wakeSource t n => Sys2Proof.Machine.execWakeSource t n s
  | .railsGood t macOk => Sys2Proof.Machine.execRailsGood t macOk s
  | .railsTimeout t => Sys2Proof.Machine.execRailsTimeout t s
  | .powerOnReset t => Sys2Proof.Machine.execPowerOnReset t s
  | .warmResetPin t => Sys2Proof.Machine.execWarmResetPin t s
  | .resetRelease t strap => Sys2Proof.Machine.execResetRelease t strap s
  | .resetCommand t c => Sys2Proof.Machine.execResetCommand t c s
  | .journalEventRaised t ev => Sys2Proof.Machine.execJournalEventRaised t ev s
  | .journalCommit t => Sys2Proof.Machine.execJournalCommit t s
  | .persistentJournalWrite t => Sys2Proof.Machine.execPersistentJournalWrite t s
  | .journalAcknowledge t c n => Sys2Proof.Machine.execJournalAcknowledge t c n s
  | .counterGroupRead t c idx sub => Sys2Proof.Machine.execCounterGroupRead t c idx sub s
  | .snapshotRequest t c boundary => Sys2Proof.Machine.execSnapshotRequest t c boundary s
  | .snapshotImage t => Sys2Proof.Machine.execSnapshotImage t s
  | .measurementRefresh t temps mvs => Sys2Proof.Machine.execMeasurementRefresh t temps mvs s
  | .ageingMeasurement t ppms mean => Sys2Proof.Machine.execAgeingMeasurement t ppms mean s
  | .busLoadUpdate t n busy => Sys2Proof.Machine.execBusLoadUpdate t n busy s
  | .berUpdate t errs bits => Sys2Proof.Machine.execBerUpdate t errs bits s
  | .drqTailWrite t v entries => Sys2Proof.Machine.execDrqTailWrite t v entries s
  | .drsHeadWrite t v => Sys2Proof.Machine.execDrsHeadWrite t v s
  | .ringEnable t ring v => Sys2Proof.Machine.execRingEnable t ring v s
  | .txTailWrite t ring v => Sys2Proof.Machine.execTxTailWrite t ring v s
  | .rxTailWrite t ring v bufs => Sys2Proof.Machine.execRxTailWrite t ring v bufs s
  | .pcieRegisterWrite t bar off width v => Sys2Proof.Machine.execPcieRegisterWrite t bar off width v s
  | .invalidPostedWrite t bar off width v => Sys2Proof.Machine.execInvalidPostedWrite t bar off width v s
  | .txDescriptorFetch t ring d => Sys2Proof.Machine.execTxDescriptorFetch t ring d s
  | .txDescriptorComplete t ring => Sys2Proof.Machine.execTxDescriptorComplete t ring s
  | .rxCopyWrite t queue => Sys2Proof.Machine.execRxCopyWrite t queue s
  | .msixModerationExpired t v => Sys2Proof.Machine.execMsixModerationExpired t v s
  | .pcieLinkReset t => Sys2Proof.Machine.execPcieLinkReset t s
  | .clockGateEnd t timeref sdref pcie rc crystal => Sys2Proof.Machine.execClockGateEnd t timeref sdref pcie rc crystal s
  | .crystalStartTimeout t => Sys2Proof.Machine.execCrystalStartTimeout t s
  | .signalDetected t port => Sys2Proof.Machine.execSignalDetected t port s
  | .signalLost t port => Sys2Proof.Machine.execSignalLost t port s
  | .pcieLinkUp t lanes gen => Sys2Proof.Machine.execPcieLinkUp t lanes gen s
  | .linHeaderReceived t n id => Sys2Proof.Machine.execLinHeaderReceived t n id s
  | .orderTimeResume t => Sys2Proof.Machine.execOrderTimeResume t s
  | .reexecutionTimeout t p => Sys2Proof.Machine.execReexecutionTimeout t p s
  | .livenessLapse t lapsed => Sys2Proof.Machine.execLivenessLapse t lapsed s
  | .roleInReleased t pins => Sys2Proof.Machine.execRoleInReleased t pins s
  | .retainedCopyDiscard t => Sys2Proof.Machine.execRetainedCopyDiscard t s
  | .clockMonitorCleared t n => Sys2Proof.Machine.execClockMonitorCleared t n s
  | .losCleared t r => Sys2Proof.Machine.execLosCleared t r s

end Sys2Proof.Machine
end

