-- ==== Sys2Proof/WellFormed.lean ====
section
/-! DEFINITION. Well-formed commands: every operand within what the hardware has, a unit that exists and a field of its width. -/

namespace Sys2Proof

/-- A raw counter value: 64 bits (R81). -/
def isTick (t : Nat) : Bool := decide (t < 2 ^ 64)
/-- A switch port, 0…31 (Table 0.3). -/
def isPort (p : Nat) : Bool := decide (p < 32)
/-- A port with pins, 0…27. -/
def isPinPort (p : Nat) : Bool := decide (p < 28)
/-- A BP or EP port, 0…19. -/
def isPhyPort (p : Nat) : Bool := decide (p < 20)
/-- A BP port, 0…7. -/
def isBpPort (p : Nat) : Bool := decide (p < 8)
/-- An egress queue or a priority, 0…7. -/
def isQueue (q : Nat) : Bool := decide (q < 8)
/-- A time set, 0…3 (R85). -/
def isSet (n : Nat) : Bool := decide (n < 4)
/-- A trigger or a capture, 0…15. -/
def isPulse (n : Nat) : Bool := decide (n < 16)
/-- A CAN controller, 0…23. -/
def isCan (n : Nat) : Bool := decide (n < 24)
/-- A LIN controller, 0…7. -/
def isLin (n : Nat) : Bool := decide (n < 8)
/-- A FlexRay buffer, 0…127. -/
def isBuffer (n : Nat) : Bool := decide (n < 128)
/-- A FlexRay channel. -/
def isChannel (n : Nat) : Bool := decide (n < 2)
/-- An ERRN pin of R262, 0…25. -/
def isErrn (n : Nat) : Bool := decide (n < 26)
/-- A Ford processor, 0…31. -/
def isProcessor (n : Nat) : Bool := decide (n < 32)
/-- A shared output of a pair, 0…48. -/
def isOutput (n : Nat) : Bool := decide (n < 49)
/-- An Elnar lane. -/
def isLane (r : Nat) : Bool := decide (r < 4)
/-- An Elnar class, 1…5. -/
def isClass (c : Nat) : Bool := decide (1 ≤ c) && decide (c ≤ 5)
/-- A bridge tag, 8 bits. -/
def isTag (x : Nat) : Bool := decide (x < 256)
/-- A semaphore, 0…63. -/
def isSemaphore (x : Nat) : Bool := decide (x < 64)
/-- A lockstep pair. -/
def isPair (p : Nat) : Bool := decide (p < 4)
/-- A fault input, 0…255. -/
def isInput (i : Nat) : Bool := decide (i < 256)
/-- A watchdog, 0…7. -/
def isWatchdog (w : Nat) : Bool := decide (w < 8)
/-- A supply monitor, 0…9. -/
def isSupply (n : Nat) : Bool := decide (n < 10)
/-- A temperature or clock monitor, 0…7. -/
def isMonitor (n : Nat) : Bool := decide (n < 8)
/-- A tamper sensor, 0…3. -/
def isSensor (n : Nat) : Bool := decide (n < 4)
/-- A wake source, 0…33 (Table 16.5). -/
def isWake (n : Nat) : Bool := decide (n ≤ 33)
/-- A Basin bank, 0…63. -/
def isBank (b : Nat) : Bool := decide (b < 64)
/-- A ternary row, 0…8,191. -/
def isTernary (n : Nat) : Bool := decide (n < 8192)
/-- A gate engine: a port's, or one of the 256 stream gates. -/
def isGate (stream : Bool) (n : Nat) : Bool := decide (n < (if stream then 256 else 32))
/-- A session identifier, 1…8. -/
def isSession (n : Nat) : Bool := decide (1 ≤ n) && decide (n ≤ 8)
/-- A transmit or receive ring, 0…15. -/
def isRing (n : Nat) : Bool := decide (n < 16)
/-- A ring that can be enabled. -/
def isRingId : RingId → Bool
  | .dict => true
  | .tx n => isRing n
  | .rx n => isRing n
/-- An MSI-X vector, 0…63. -/
def isVector (v : Nat) : Bool := decide (v < 64)
/-- A width that the PCIe link trains at (R423). -/
def isLanes (n : Nat) : Bool := decide (n = 1 ∨ n = 2 ∨ n = 4)
/-- A generation of the PCIe link, 1…4. -/
def isGeneration (g : Nat) : Bool := decide (1 ≤ g ∧ g ≤ 4)
/-- A caller names a session in 16 bits (Table 3.9). -/
def isCaller (c : Caller) : Bool := decide (c.session < 65536)
/-- An index of 16 bits and a sub-index of 8. -/
def isAddress (idx sub : Nat) : Bool := decide (idx < 65536) && decide (sub < 256)
/-- A table object. -/
def isTableIndex (tbl : Nat) : Bool := Machine.isTable tbl
/-- Received octets lie within the frame's length. -/
def isFrame (rx : FrameRx) : Bool := decide (rx.bytes.length ≤ rx.length) && decide (rx.length < 65536)

/-- Whether the operands of a command other than its tick name what the hardware has, each of its width. -/
def Instr.operandsOk : Instr → Bool
  | .frameHeaderWindow _ port rx => isPort port && isFrame rx
  | .frameEndReceived _ port _ => isPort port
  | .sortBufferArrival _ _ _ => true
  | .orderingRelease _ _ _ => true
  | .heldOrderRelease _ _ => true
  | .stepSuspendEnd _ _ => true
  | .sourceKeyLimitWaitEnd _ _ => true
  | .senderResume _ _ => true
  | .dcqWaitTimeout _ _ => true
  | .checkpoint _ => true
  | .fordDispatch _ => true
  | .fordItemComplete _ proc => isProcessor proc
  | .fordDeadline _ _ => true
  | .processorFailure _ n => isProcessor n
  | .processorRetest _ c _ _ => isCaller c
  | .read _ c idx sub => isCaller c && isAddress idx sub
  | .write _ c idx sub _ => isCaller c && isAddress idx sub
  | .readSeg _ c idx sub _ _ => isCaller c && isAddress idx sub
  | .writeSeg _ c idx sub _ _ _ => isCaller c && isAddress idx sub
  | .sessionOpen _ _ _ => true
  | .sessionProof _ _ _ => true
  | .sessionClose _ c => isCaller c
  | .nop _ c => isCaller c
  | .lookup _ c tbl => isTableIndex tbl && isCaller c
  | .insert _ c tbl => isTableIndex tbl && isCaller c
  | .replace _ c tbl => isTableIndex tbl && isCaller c
  | .delete _ c tbl => isTableIndex tbl && isCaller c
  | .readRow _ c tbl => isTableIndex tbl && isCaller c
  | .nextRow _ c tbl => isTableIndex tbl && isCaller c
  | .clear _ c tbl => isTableIndex tbl && isCaller c
  | .domainWriteTimeout _ => true
  | .discardStaging _ c => isCaller c
  | .executeCommit _ c => isCaller c
  | .commitApply _ => true
  | .overlayWriteComplete _ => true
  | .writeResponse _ => true
  | .imageUpload _ c _ _ _ => isCaller c
  | .imageActivate _ c => isCaller c
  | .dapRequest _ _ => true
  | .openRequest _ _ => true
  | .openProof _ _ => true
  | .openProofTimeout _ sid => isSession sid
  | .dapLockoutEnd _ => true
  | .sessionIdleTimeout _ sid => isSession sid
  | .closeSession _ c _ => isCaller c
  | .sdoRequest _ bus _ _ => isCan bus
  | .sdoSegmentTimeout _ => true
  | .partnerRequest _ _ => true
  | .timerefFault _ => true
  | .timerefRestored _ => true
  | .rateWrite _ c n _ => isSet n && isCaller c
  | .stepWrite _ c n _ => isSet n && isCaller c
  | .loadWrite _ c n _ => isSet n && isCaller c
  | .fallbackIncrementWrite _ c n _ => isSet n && isCaller c
  | .timeCorrectionApply _ n => isSet n
  | .slewEnd _ n => isSet n
  | .grandmasterLost _ n => isSet n
  | .holdoverLimitExceeded _ => true
  | .holdoverEnd _ n _ _ _ => isSet n
  | .syncTxStamp _ n port _ _ _ _ => isSet n && isPinPort port
  | .txStampRead _ c port => isPinPort port && isCaller c
  | .launchTimeReached _ port queue => isPort port && isQueue queue
  | .lateLimitExpired _ port queue => isPort port && isQueue queue
  | .triggerLeadingEdge _ n => isPulse n
  | .triggerTrailingEdge _ n => isPulse n
  | .captureEdge _ n _ _ => isPulse n
  | .captureRead _ c n => isPulse n && isCaller c
  | .linkUp _ port => isPinPort port
  | .pcsLockLost _ port => isPinPort port
  | .holdTimerExpired _ port => isPort port
  | .mdioPoll _ port _ => isBpPort port
  | .indirectRead _ c port => isPhyPort port && isCaller c
  | .indirectWrite _ c port => isPhyPort port && isCaller c
  | .indirectAccessDone _ port _ => isBpPort port
  | .sqiUpdate _ port _ => isPhyPort port
  | .tdrStart _ c port => isPhyPort port && isCaller c
  | .tdrDone _ port _ _ => isPhyPort port
  | .tc10Sleep _ c port => isPhyPort port && isCaller c
  | .tc10Wake _ c port => isPhyPort port && isCaller c
  | .tc10SleepAck _ port => isPhyPort port
  | .partnerSleepRequest _ port => isPhyPort port
  | .wakePulseReceived _ port => isPhyPort port
  | .beaconTimeout _ port => isPinPort port
  | .foreignBeacon _ port => isPinPort port
  | .transmitOpportunity _ port _ => isPinPort port
  | .pauseReceived _ port _ => isPinPort port
  | .pfcReceived _ port _ _ => isPinPort port
  | .pauseTimerExpired _ port prio => isPinPort port && isQueue prio
  | .pauseResend _ port => isBpPort port
  | .verifyAttempt _ port => isPhyPort port
  | .verifyResponse _ port => isPhyPort port
  | .egressSchedule _ port _ _ => isPort port
  | .frameTransmitEnd _ port => isPort port
  | .gateEntryChange _ port => isPort port
  | .gateListSwitch _ stream n => isGate stream n
  | .holdRequest _ port => isPort port
  | .gateMemoryRewrite _ port _ _ => isPort port
  | .residenceSweep _ => true
  | .bankRetire _ c _ => isCaller c
  | .frameBankWalkDone _ b => isBank b
  | .tableBankRebuildDone _ => true
  | .tableAuditPass _ _ _ => true
  | .freelistAuditPass _ _ _ => true
  | .staticEntryRewrite _ _ _ bank _ => isBank bank
  | .dynamicEntryFetch _ _ _ _ => true
  | .sessionRefetchComplete _ _ _ => true
  | .ternaryRewrite _ row _ => isTernary row
  | .ledgerTrigger _ => true
  | .ledgerRestart _ c => isCaller c
  | .ledgerFreeze _ c => isCaller c
  | .fragmentReassemblyTimeout _ => true
  | .datagramReinject _ => true
  | .slowPathFrame _ _ => true
  | .canFrameReceived _ n _ _ _ _ _ => isCan n
  | .canTransmitOffer _ n => isCan n
  | .canTransmitComplete _ n _ _ _ _ => isCan n
  | .busOff _ n => isCan n
  | .busOffDelayExpired _ n => isCan n
  | .recover _ c n => isCan n && isCaller c
  | .busOffRecovered _ n => isCan n
  | .linHeaderDue _ n => isLin n
  | .linFrameReceived _ n _ _ => isLin n
  | .linScheduleChange _ n => isLin n
  | .flexraySlot _ buf _ _ _ => isBuffer buf
  | .flexrayFrameReceived _ chan _ _ _ _ _ _ _ => isChannel chan
  | .errnPoll _ pin _ => isErrn pin
  | .failNotice _ => true
  | .claim _ _ => true
  | .hello _ _ => true
  | .proof _ _ => true
  | .result _ _ => true
  | .pairingTimeout _ => true
  | .pairingRetry _ => true
  | .journalRecord _ _ => true
  | .journalAck _ _ => true
  | .standbyEpochRelease _ _ => true
  | .matchWindowExpired _ _ => true
  | .unclaimedInputDiscard _ => true
  | .relayedFrame _ _ _ => true
  | .lagLimitExceeded _ => true
  | .journalOverflow _ => true
  | .roleLineMismatch _ _ => true
  | .digestCompare _ _ => true
  | .resyncStart _ _ => true
  | .resyncPassDone _ _ => true
  | .resyncFinal _ => true
  | .resyncComplete _ _ _ => true
  | .resyncRestart _ => true
  | .partnerDeclaredFailed _ _ => true
  | .heartbeatPathLost _ _ _ => true
  | .fence _ _ => true
  | .takeoverConfirmed _ _ => true
  | .catchUpDone _ => true
  | .outputEnable _ => true
  | .syncingReload _ => true
  | .swapPlan _ => true
  | .planSwapNow _ c => isCaller c
  | .detach _ c => isCaller c
  | .allowPairing _ c => isCaller c
  | .resynchronise _ c => isCaller c
  | .failNoticeCommand _ c => isCaller c
  | .swapPoint _ => true
  | .tokenHandover _ _ => true
  | .handoverTimeout _ n => isOutput n
  | .swapAbandon _ => true
  | .laneFrameReceived _ r _ _ => isLane r
  | .laneFrameSent _ r _ => isLane r
  | .laneEntersUse _ r => isLane r
  | .losDeclared _ r => isLane r
  | .cellGapTimeout _ cls => isClass cls
  | .creditCellDue _ => true
  | .pairTimeStamps _ _ _ _ _ n _ => isSet n
  | .payloadFetch _ _ _ => true
  | .windowRead _ _ _ => true
  | .windowWrite _ _ _ => true
  | .windowWritePosted _ _ _ => true
  | .lockAcquire _ _ _ => true
  | .lockRelease _ _ _ => true
  | .bridgeCompletion _ _ => true
  | .bridgeTimeout _ tag => isTag tag
  | .semaphoreArbitrate _ => true
  | .semaphoreExpiry _ sem => isSemaphore sem
  | .releaseSemaphore _ c _ => isCaller c
  | .orphanNotice _ tag _ _ _ => isTag tag
  | .lockstepCheckpoint _ p _ _ _ => isPair p
  | .lockstepMismatch _ p _ _ => isPair p
  | .rollbackComplete _ p => isPair p
  | .comparatorFault _ p => isPair p
  | .split _ c p => isPair p && isCaller c
  | .rejoin _ c p => isPair p && isCaller c
  | .restart _ c p _ => isPair p && isCaller c
  | .debugHalt _ p _ => isPair p
  | .debugResume _ p => isPair p
  | .faultInputRaised _ n _ => isInput n
  | .acknowledgeFault _ c n => isInput n && isCaller c
  | .inputRecordRead _ c => isCaller c
  | .fatalResetHoldEnd _ => true
  | .selfTestEnd _ _ _ _ => true
  | .watchdogService _ c w _ => isWatchdog w && isCaller c
  | .watchdogTimeout _ w => isWatchdog w
  | .supplyOutOfWindow _ n _ => isSupply n
  | .supplyInWindow _ n _ => isSupply n
  | .temperatureLimit _ n _ => isMonitor n
  | .clockMonitorFault _ n => isMonitor n
  | .safeToggle _ _ => true
  | .safeRefreshLapse _ => true
  | .readStatus _ _ => true
  | .forceSafeState _ _ => true
  | .serviceWatchdog7 _ _ => true
  | .boot _ _ _ _ => true
  | .advanceRollback _ c => isCaller c
  | .revokeRootKey _ c _ => isCaller c
  | .extendMr7 _ c _ => isCaller c
  | .debugResponse _ c _ _ _ => isCaller c
  | .remaskPass _ _ => true
  | .generateStatement _ c => isCaller c
  | .updateMessage _ c _ _ _ _ _ => isCaller c
  | .updateCommit _ => true
  | .tamperAlarm _ n _ => isSensor n
  | .tamperAcknowledge _ c _ => isCaller c
  | .sakInstall _ port _ _ _ _ _ _ => isPhyPort port
  | .enterIdle _ c => isCaller c
  | .returnToRun _ c => isCaller c
  | .enterQuiet _ c => isCaller c
  | .enterSleep _ c => isCaller c
  | .idleWakeEvent _ _ => true
  | .lowPowerEntryComplete _ _ => true
  | .quietRoute _ f => isLin f.bus
  | .wakeSource _ n => isWake n
  | .railsGood _ _ => true
  | .railsTimeout _ => true
  | .powerOnReset _ => true
  | .warmResetPin _ => true
  | .resetRelease _ _ => true
  | .resetCommand _ c => isCaller c
  | .journalEventRaised _ _ => true
  | .journalCommit _ => true
  | .persistentJournalWrite _ => true
  | .journalAcknowledge _ c _ => isCaller c
  | .counterGroupRead _ c idx sub => isCaller c && isAddress idx sub
  | .snapshotRequest _ c _ => isCaller c
  | .snapshotImage _ => true
  | .measurementRefresh _ _ _ => true
  | .ageingMeasurement _ _ _ => true
  | .busLoadUpdate _ n _ => isCan n
  | .berUpdate _ _ _ => true
  | .drqTailWrite _ _ _ => true
  | .drsHeadWrite _ _ => true
  | .ringEnable _ ring _ => isRingId ring
  | .txTailWrite _ ring _ => isRing ring
  | .rxTailWrite _ ring _ _ => isRing ring
  | .pcieRegisterWrite _ _ _ _ _ => true
  | .invalidPostedWrite _ _ _ _ _ => true
  | .txDescriptorFetch _ ring _ => isRing ring
  | .txDescriptorComplete _ ring => isRing ring
  | .rxCopyWrite _ queue => isQueue queue
  | .msixModerationExpired _ v => isVector v
  | .pcieLinkReset _ => true
  | .clockGateEnd _ _ _ _ _ _ => true
  | .crystalStartTimeout _ => true
  | .signalDetected _ port => isPinPort port
  | .signalLost _ port => isPinPort port
  | .pcieLinkUp _ lanes gen => isLanes lanes && isGeneration gen
  | .linHeaderReceived _ n _ => isLin n
  | .orderTimeResume _ => true
  | .reexecutionTimeout _ p => isPair p
  | .livenessLapse _ _ => true
  | .roleInReleased _ _ => true
  | .retainedCopyDiscard _ => true
  | .clockMonitorCleared _ n => isMonitor n
  | .losCleared _ r => isLane r

/-- The raw tick at which a command happens. -/
def Instr.tick : Instr → Nat
  | .frameHeaderWindow t _ _ => t
  | .frameEndReceived t _ _ => t
  | .sortBufferArrival t _ _ => t
  | .orderingRelease t _ _ => t
  | .heldOrderRelease t _ => t
  | .stepSuspendEnd t _ => t
  | .sourceKeyLimitWaitEnd t _ => t
  | .senderResume t _ => t
  | .dcqWaitTimeout t _ => t
  | .checkpoint t => t
  | .fordDispatch t => t
  | .fordItemComplete t _ => t
  | .fordDeadline t _ => t
  | .processorFailure t _ => t
  | .processorRetest t _ _ _ => t
  | .read t _ _ _ => t
  | .write t _ _ _ _ => t
  | .readSeg t _ _ _ _ _ => t
  | .writeSeg t _ _ _ _ _ _ => t
  | .sessionOpen t _ _ => t
  | .sessionProof t _ _ => t
  | .sessionClose t _ => t
  | .nop t _ => t
  | .lookup t _ _ => t
  | .insert t _ _ => t
  | .replace t _ _ => t
  | .delete t _ _ => t
  | .readRow t _ _ => t
  | .nextRow t _ _ => t
  | .clear t _ _ => t
  | .domainWriteTimeout t => t
  | .discardStaging t _ => t
  | .executeCommit t _ => t
  | .commitApply t => t
  | .overlayWriteComplete t => t
  | .writeResponse t => t
  | .imageUpload t _ _ _ _ => t
  | .imageActivate t _ => t
  | .dapRequest t _ => t
  | .openRequest t _ => t
  | .openProof t _ => t
  | .openProofTimeout t _ => t
  | .dapLockoutEnd t => t
  | .sessionIdleTimeout t _ => t
  | .closeSession t _ _ => t
  | .sdoRequest t _ _ _ => t
  | .sdoSegmentTimeout t => t
  | .partnerRequest t _ => t
  | .timerefFault t => t
  | .timerefRestored t => t
  | .rateWrite t _ _ _ => t
  | .stepWrite t _ _ _ => t
  | .loadWrite t _ _ _ => t
  | .fallbackIncrementWrite t _ _ _ => t
  | .timeCorrectionApply t _ => t
  | .slewEnd t _ => t
  | .grandmasterLost t _ => t
  | .holdoverLimitExceeded t => t
  | .holdoverEnd t _ _ _ _ => t
  | .syncTxStamp t _ _ _ _ _ _ => t
  | .txStampRead t _ _ => t
  | .launchTimeReached t _ _ => t
  | .lateLimitExpired t _ _ => t
  | .triggerLeadingEdge t _ => t
  | .triggerTrailingEdge t _ => t
  | .captureEdge t _ _ _ => t
  | .captureRead t _ _ => t
  | .linkUp t _ => t
  | .pcsLockLost t _ => t
  | .holdTimerExpired t _ => t
  | .mdioPoll t _ _ => t
  | .indirectRead t _ _ => t
  | .indirectWrite t _ _ => t
  | .indirectAccessDone t _ _ => t
  | .sqiUpdate t _ _ => t
  | .tdrStart t _ _ => t
  | .tdrDone t _ _ _ => t
  | .tc10Sleep t _ _ => t
  | .tc10Wake t _ _ => t
  | .tc10SleepAck t _ => t
  | .partnerSleepRequest t _ => t
  | .wakePulseReceived t _ => t
  | .beaconTimeout t _ => t
  | .foreignBeacon t _ => t
  | .transmitOpportunity t _ _ => t
  | .pauseReceived t _ _ => t
  | .pfcReceived t _ _ _ => t
  | .pauseTimerExpired t _ _ => t
  | .pauseResend t _ => t
  | .verifyAttempt t _ => t
  | .verifyResponse t _ => t
  | .egressSchedule t _ _ _ => t
  | .frameTransmitEnd t _ => t
  | .gateEntryChange t _ => t
  | .gateListSwitch t _ _ => t
  | .holdRequest t _ => t
  | .gateMemoryRewrite t _ _ _ => t
  | .residenceSweep t => t
  | .bankRetire t _ _ => t
  | .frameBankWalkDone t _ => t
  | .tableBankRebuildDone t => t
  | .tableAuditPass t _ _ => t
  | .freelistAuditPass t _ _ => t
  | .staticEntryRewrite t _ _ _ _ => t
  | .dynamicEntryFetch t _ _ _ => t
  | .sessionRefetchComplete t _ _ => t
  | .ternaryRewrite t _ _ => t
  | .ledgerTrigger t => t
  | .ledgerRestart t _ => t
  | .ledgerFreeze t _ => t
  | .fragmentReassemblyTimeout t => t
  | .datagramReinject t => t
  | .slowPathFrame t _ => t
  | .canFrameReceived t _ _ _ _ _ _ => t
  | .canTransmitOffer t _ => t
  | .canTransmitComplete t _ _ _ _ _ => t
  | .busOff t _ => t
  | .busOffDelayExpired t _ => t
  | .recover t _ _ => t
  | .busOffRecovered t _ => t
  | .linHeaderDue t _ => t
  | .linFrameReceived t _ _ _ => t
  | .linScheduleChange t _ => t
  | .flexraySlot t _ _ _ _ => t
  | .flexrayFrameReceived t _ _ _ _ _ _ _ _ => t
  | .errnPoll t _ _ => t
  | .failNotice t => t
  | .claim t _ => t
  | .hello t _ => t
  | .proof t _ => t
  | .result t _ => t
  | .pairingTimeout t => t
  | .pairingRetry t => t
  | .journalRecord t _ => t
  | .journalAck t _ => t
  | .standbyEpochRelease t _ => t
  | .matchWindowExpired t _ => t
  | .unclaimedInputDiscard t => t
  | .relayedFrame t _ _ => t
  | .lagLimitExceeded t => t
  | .journalOverflow t => t
  | .roleLineMismatch t _ => t
  | .digestCompare t _ => t
  | .resyncStart t _ => t
  | .resyncPassDone t _ => t
  | .resyncFinal t => t
  | .resyncComplete t _ _ => t
  | .resyncRestart t => t
  | .partnerDeclaredFailed t _ => t
  | .heartbeatPathLost t _ _ => t
  | .fence t _ => t
  | .takeoverConfirmed t _ => t
  | .catchUpDone t => t
  | .outputEnable t => t
  | .syncingReload t => t
  | .swapPlan t => t
  | .planSwapNow t _ => t
  | .detach t _ => t
  | .allowPairing t _ => t
  | .resynchronise t _ => t
  | .failNoticeCommand t _ => t
  | .swapPoint t => t
  | .tokenHandover t _ => t
  | .handoverTimeout t _ => t
  | .swapAbandon t => t
  | .laneFrameReceived t _ _ _ => t
  | .laneFrameSent t _ _ => t
  | .laneEntersUse t _ => t
  | .losDeclared t _ => t
  | .cellGapTimeout t _ => t
  | .creditCellDue t => t
  | .pairTimeStamps t _ _ _ _ _ _ => t
  | .payloadFetch t _ _ => t
  | .windowRead t _ _ => t
  | .windowWrite t _ _ => t
  | .windowWritePosted t _ _ => t
  | .lockAcquire t _ _ => t
  | .lockRelease t _ _ => t
  | .bridgeCompletion t _ => t
  | .bridgeTimeout t _ => t
  | .semaphoreArbitrate t => t
  | .semaphoreExpiry t _ => t
  | .releaseSemaphore t _ _ => t
  | .orphanNotice t _ _ _ _ => t
  | .lockstepCheckpoint t _ _ _ _ => t
  | .lockstepMismatch t _ _ _ => t
  | .rollbackComplete t _ => t
  | .comparatorFault t _ => t
  | .split t _ _ => t
  | .rejoin t _ _ => t
  | .restart t _ _ _ => t
  | .debugHalt t _ _ => t
  | .debugResume t _ => t
  | .faultInputRaised t _ _ => t
  | .acknowledgeFault t _ _ => t
  | .inputRecordRead t _ => t
  | .fatalResetHoldEnd t => t
  | .selfTestEnd t _ _ _ => t
  | .watchdogService t _ _ _ => t
  | .watchdogTimeout t _ => t
  | .supplyOutOfWindow t _ _ => t
  | .supplyInWindow t _ _ => t
  | .temperatureLimit t _ _ => t
  | .clockMonitorFault t _ => t
  | .safeToggle t _ => t
  | .safeRefreshLapse t => t
  | .readStatus t _ => t
  | .forceSafeState t _ => t
  | .serviceWatchdog7 t _ => t
  | .boot t _ _ _ => t
  | .advanceRollback t _ => t
  | .revokeRootKey t _ _ => t
  | .extendMr7 t _ _ => t
  | .debugResponse t _ _ _ _ => t
  | .remaskPass t _ => t
  | .generateStatement t _ => t
  | .updateMessage t _ _ _ _ _ _ => t
  | .updateCommit t => t
  | .tamperAlarm t _ _ => t
  | .tamperAcknowledge t _ _ => t
  | .sakInstall t _ _ _ _ _ _ _ => t
  | .enterIdle t _ => t
  | .returnToRun t _ => t
  | .enterQuiet t _ => t
  | .enterSleep t _ => t
  | .idleWakeEvent t _ => t
  | .lowPowerEntryComplete t _ => t
  | .quietRoute t _ => t
  | .wakeSource t _ => t
  | .railsGood t _ => t
  | .railsTimeout t => t
  | .powerOnReset t => t
  | .warmResetPin t => t
  | .resetRelease t _ => t
  | .resetCommand t _ => t
  | .journalEventRaised t _ => t
  | .journalCommit t => t
  | .persistentJournalWrite t => t
  | .journalAcknowledge t _ _ => t
  | .counterGroupRead t _ _ _ => t
  | .snapshotRequest t _ _ => t
  | .snapshotImage t => t
  | .measurementRefresh t _ _ => t
  | .ageingMeasurement t _ _ => t
  | .busLoadUpdate t _ _ => t
  | .berUpdate t _ _ => t
  | .drqTailWrite t _ _ => t
  | .drsHeadWrite t _ => t
  | .ringEnable t _ _ => t
  | .txTailWrite t _ _ => t
  | .rxTailWrite t _ _ _ => t
  | .pcieRegisterWrite t _ _ _ _ => t
  | .invalidPostedWrite t _ _ _ _ => t
  | .txDescriptorFetch t _ _ => t
  | .txDescriptorComplete t _ => t
  | .rxCopyWrite t _ => t
  | .msixModerationExpired t _ => t
  | .pcieLinkReset t => t
  | .clockGateEnd t _ _ _ _ _ => t
  | .crystalStartTimeout t => t
  | .signalDetected t _ => t
  | .signalLost t _ => t
  | .pcieLinkUp t _ _ => t
  | .linHeaderReceived t _ _ => t
  | .orderTimeResume t => t
  | .reexecutionTimeout t _ => t
  | .livenessLapse t _ => t
  | .roleInReleased t _ => t
  | .retainedCopyDiscard t => t
  | .clockMonitorCleared t _ => t
  | .losCleared t _ => t

/-- A well-formed command. -/
def Instr.wf (i : Instr) : Bool := isTick i.tick && i.operandsOk

end Sys2Proof
end

