-- ==== Sys2Proof/Safety.lean ====
section
/-! DEFINITION. What a safe run is, and the terms that claims use: the checks of a request at the instant it is taken, the reply
an interface has, and the response that waits. -/

namespace Sys2Proof

open Sys2Proof.Machine

/-- A step is safe when it answers a next state. -/
def StepSafe (s : State) : Prop := ∃ t, step s = .next t

/-- Every command that waits is well formed. -/
def QueueWf (s : State) : Prop := ∀ c ∈ s.pending, c.wf = true

namespace Machine

/-- The state after a request has been keyed and its session's idle time restarted (R32, R441), when its checks run. -/
def State.afterKey (s : State) (c : Caller) (op idx sub : Nat) (data : Bytes) : State :=
  (s.keyRequest c op idx sub data).touchSession c

/-- The status with which the checks of R467 refuse a write taken now, 0 for none; an entry's own conditions come after. -/
def State.writeCheck (s : State) (c : Caller) (idx sub : Nat) (data : Bytes) : Nat :=
  (s.afterKey c 2 idx sub data).writeStatus c s.keyEpoch idx sub data

/-- The status with which the checks of R467 refuse a read taken now, 0 for none. -/
def State.readCheck (s : State) (c : Caller) (idx sub : Nat) : Nat :=
  (s.afterKey c 1 idx sub []).readStatus c s.keyEpoch idx sub

/-- The state after a table operation has been keyed, when its checks run (R58, R59). -/
def State.opKeyed (s : State) (c : Caller) (tbl code : Nat) : State :=
  s.afterKey c (16 + code) tbl 1 (toLE 4 (s.ownVal c tbl 5) ++
    (List.range (lastField tbl - 5)).flatMap (fun i => toLE (entryBytes tbl (6 + i)) (s.ownVal c tbl (6 + i))))

/-- The row that a caller's view spells. -/
def State.opRow (s : State) (c : Caller) (tbl : Nat) : List Nat := rowOfView tbl (s.view c tbl)

/-- The status with which the checks 1 to 12 of R467 refuse a table operation taken now, 0 for none. -/
def State.opCheck (s : State) (c : Caller) (tbl code : Nat) : Nat :=
  (s.opKeyed c tbl code).opStatus c s.keyEpoch tbl code (s.opRow c tbl)

/-- The block has each unit it is built with: four time sets, the stamps of 28 ports, 16 triggers and captures, six ordering
units, 8 sessions, 4 lockstep pairs, 8 watchdogs, 32 ports with a transmitter and a gate engine each, the bus controllers and
their ERRN pins, four lanes each way, 16 rings each way, and Lowland's queues. -/
def State.unitsOk (s : State) : Bool :=
  decide (s.time.sets.length = 4) && decide (s.time.txStamps.length = 28) && decide (s.time.triggers.length = 16) &&
  decide (s.time.captures.length = 16) && decide (s.ord.units.length = 6) && decide (s.access.sessions.length = 8) &&
  decide (s.safety.pairs.length = 4) && decide (s.safety.watchdogs.length = 8) && decide (s.ports.length = 32) &&
  decide (s.basin.tx.length = 32) && decide (s.basin.gates.length = 32) && decide (s.legacy.can.length = 24) &&
  decide (s.legacy.lin.length = 8) && decide (s.legacy.errn.length = 26) && decide (s.elnar.rx.length = 4) &&
  decide (s.elnar.tx.length = 4) && decide (s.host.tx.length = 16) && decide (s.host.rx.length = 16) &&
  decide (s.power.lowQueues.length = 8)

/-- The commands that reset the block: power-on, the reset pin, the release that carries a
reset out, the end of a fatal hold, and a wake with its rails good (Table 16.8). -/
def clearsTime : Instr → Bool
  | .powerOnReset _ => true
  | .warmResetPin _ => true
  | .resetRelease _ _ => true
  | .fatalResetHoldEnd _ => true
  | .railsGood _ _ => true
  | _ => false

/-- The commands that have an effect while the device is in QUIET or SLEEP or wakes: resets, Lowland's work, wake sources, the
rails and a tamper alarm (R396 to R403). -/
def reachesLowland : Instr → Bool
  | .powerOnReset _ => true
  | .warmResetPin _ => true
  | .resetRelease _ _ => true
  | .wakeSource _ _ => true
  | .quietRoute _ _ => true
  | .railsGood _ _ => true
  | .railsTimeout _ => true
  | .tamperAlarm _ _ _ => true
  | .canTransmitComplete _ _ _ _ _ _ => true
  | .busOff _ _ => true
  | _ => false

/-- The keys that a source takes one after another, with no time between. -/
def State.keysTaken (s : State) (src : Nat) : Nat → List OKey
  | 0 => []
  | n + 1 => s.nextKey src :: (s.issueKey src).keysTaken src n

/-- The reply that an interface has been given. -/
def State.replyOf (s : State) (i : Iface) : Option Reply := s.dict.replies.find? (fun r => decide (r.caller.iface = i))

/-- Whether a request's response waits: accepted, it will be given with status 0x0000 (R56). -/
def State.accepted (s : State) (c : Caller) : Bool := s.dict.awaiting.any (fun w => decide (w.caller = c))

end Machine

end Sys2Proof
end

