-- ==== Sys2Proof/Certificates/Slice0/Obligations.lean ====
section
/-! DEFINITION. The statements about the block, for the provers: what each command does and where it completes, what it leaves
alone, and the rules that every step keeps. -/

open Sys2Proof Sys2Proof.Machine

def Obligations.StepRunsTheFrontCommand : Prop :=
  ∀ (s : State) (c : Instr) (rest : List Instr), s.pending = c :: rest → step s = exec c { s with pending := rest }

def Obligations.AnEmptyQueueIdles : Prop := ∀ (s : State), s.pending = [] → step s = .next s

def Obligations.EveryUnitThatExistsAnswers : Prop :=
  (∀ (s : State) (i : Instr), i.operandsOk = true → ∃ u, exec i s = .next u) ∧
  (∀ (s : State) (i : Instr) (r : Refusal), exec i s ≠ .refused r) ∧
  (∀ (s v : State) (i : Instr) (f : Fault), exec i s = .fault f → f = .noSuchUnit ∧ exec i v = .fault f)

def Obligations.AQueueOfWellFormedCommandsRuns : Prop :=
  ∀ (s : State), QueueWf s → ∃ u, step s = .next u ∧ u.pending = s.pending.tail ∧ QueueWf u

def Obligations.EveryStepKeepsTheUnits : Prop :=
  ∀ (s u : State), s.unitsOk = true → step s = .next u → u.unitsOk = true ∧ u.pending = s.pending.tail

def Obligations.ResetState : Prop :=
  State.reset.unitsOk = true ∧ State.reset.pending = [] ∧ State.reset.time.raw = 0 ∧ State.reset.time.orderNs = 0 ∧
  State.reset.stat 0xA000 1 = 0 ∧ State.reset.journal.held = [] ∧ State.reset.journal.nextNo = 1 ∧
  State.reset.dict.settings = [] ∧ State.reset.dict.staging.recs = [] ∧ State.reset.dict.awaiting = [] ∧
  (∀ x ∈ State.reset.access.sessions, x.state = 0) ∧ State.reset.basin.frames = [] ∧ State.reset.basin.copies = [] ∧
  State.reset.ord.sources = [] ∧ State.reset.ford.out = [] ∧ State.reset.host.linkUp = false

def Obligations.OrderTimeNeverDecreases : Prop :=
  (∀ (s : State) (t : Nat), (s.advance t).time.orderNs = max s.time.orderNs (s.advance t).workingNs) ∧
  (∀ (s u : State) (i : Instr), exec i s = .next u →
    s.time.orderNs ≤ u.time.orderNs ∨ (clearsTime i = true ∧ u.time.orderNs = 0))

def Obligations.NothingAltersTheRawCounter : Prop :=
  ∀ (s u : State) (i : Instr), exec i s = .next u →
    u.time.raw = max s.time.raw i.tick ∨ (s.power.phase = .held ∧ u.time.raw = s.time.raw) ∨
      (clearsTime i = true ∧ u.time.raw = 0)

def Obligations.HeldInResetNothingHappens : Prop :=
  ∀ (s : State) (i : Instr), s.power.phase = .held → i.operandsOk = true → (∀ t, i ≠ .powerOnReset t) →
    (∀ t b, i ≠ .resetRelease t b) → exec i s = .next s

def Obligations.WithRailsOffOnlyLowlandActs : Prop :=
  ∀ (s : State) (i : Instr), (s.power.phase = .quiet ∨ s.power.phase = .sleep ∨ s.power.phase = .wake) →
    i.operandsOk = true → reachesLowland i = false → exec i s = .next (s.advance i.tick)

def Obligations.OrderKeysPrecedeAsR33Says : Prop :=
  (∀ (a b : OKey), okeyLt a b = true ↔ a.epoch < b.epoch ∨ a.epoch = b.epoch ∧ a.src < b.src ∨
    a.epoch = b.epoch ∧ a.src = b.src ∧ 1 ≤ (b.seq + (65536 - a.seq % 65536)) % 65536 ∧
      (b.seq + (65536 - a.seq % 65536)) % 65536 ≤ 32767) ∧
  (∀ (x : FordItem) (l : List FordItem), insertByKey FordItem.key x l =
    l.takeWhile (fun y => !okeyLt x.key y.key) ++ x :: l.dropWhile (fun y => !okeyLt x.key y.key))

def Obligations.SourcesIssueThirtyTwoKeysAnEpoch : Prop :=
  ∀ (s : State) (src n i : Nat), s.time.held = false → (s.sourceKeys src).epoch < (s.time.orderNs + 31) / 32 → i < n →
    (s.sourceKeys src).seq < 65536 →
    (s.keysTaken src n)[i]? =
      some ⟨(s.time.orderNs + 31) / 32 + i / 32, src, ((s.sourceKeys src).seq + i) % 65536⟩

def Obligations.SignalsReadBack : Prop :=
  (∀ (p : Bytes) (b : Nat), pduBit p b = (byteAt p (b / 8)).testBit (b % 8)) ∧
  (∀ (start n : Nat), signalBits start n false = (List.range n).map (fun i => start + i)) ∧
  (∀ (start n : Nat), signalBits start 0 true = [] ∧
    signalBits start (n + 1) true = signalBits (if start % 8 = 0 then start + 15 else start - 1) n true ++ [start]) ∧
  (∀ (p : Bytes) (start n v : Nat) (big : Bool), (∀ b ∈ signalBits start n big, b < 8 * p.length) →
    getSignal (putSignal p start n big v) start n big = v % 2 ^ n ∧
    (∀ b, b ∉ signalBits start n big → pduBit (putSignal p start n big v) b = pduBit p b) ∧
    (putSignal p start n big v).length = p.length)

def Obligations.LinkLinesAndCellsCarryWhole : Prop :=
  (∀ (f : Bytes), lineFrame (lineFrame f) = f ∧ (lineFrame f).take 6 = f.take 6) ∧
  (∀ (m : Bytes), m ≠ [] → ∃ front last, cellsOfMsg (m.length + 1) m = front ++ [(true, last)] ∧
    (∀ c ∈ front, c.1 = false ∧ c.2.length = 30) ∧ last.length = 30 ∧
    ((front.map Prod.snd).flatten ++ last).take m.length = m ∧
    ∀ b ∈ ((front.map Prod.snd).flatten ++ last).drop m.length, b = 0#8)

def Obligations.KeyEpochIsTheNextBoundary : Prop :=
  (∀ (s : State), s.keyEpoch = (s.time.orderNs + 31) >>> 5) ∧
  (∀ (s : State) (n : Nat), s.time.orderNs = n * 32 → s.keyEpoch = n) ∧
  (∀ (s : State) (n : Nat), n * 32 < s.time.orderNs → s.time.orderNs < (n + 1) * 32 → s.keyEpoch = n + 1) ∧
  (∀ (s : State) (src : Nat), s.time.held = false → (s.sourceKeys src).epoch < s.keyEpoch →
    (s.nextKey src).epoch = s.keyEpoch)

def Obligations.TimeWritesWaitForTheirTick : Prop :=
  (∀ (s : State) (t n : Nat) (c : Caller) (data : Bytes), s.awake = true → n < 4 → c.iface ≠ .partner →
    (s.advance t).writeCheck c 0x2001 (n + 1) data = 0 →
    ∃ u, exec (.rateWrite t c n data) s = .next u ∧ u.accepted c = true ∧
      (∃ x ∈ u.time.corrections, x.set = n ∧ x.kind = .rate ∧ x.val = sgnOf 32 (leNat data) ∧
        x.key.epoch = ((s.advance t).nextKey (ifaceSource c.iface)).epoch) ∧
      u.time.sets = (s.advance t).time.sets ∧ u.basin = (s.advance t).basin ∧ u.ports = s.ports ∧ u.legacy = s.legacy ∧
      u.keys = s.keys ∧ u.power = s.power ∧ u.host = s.host) ∧
  (∀ (s : State) (t n : Nat) (c : Caller) (data : Bytes), s.awake = true → n < 4 → c.iface ≠ .partner →
    (s.advance t).writeCheck c 0x2002 (n + 1) data = 0 → (s.advance t).stepStatus n (leNat data) = 0 →
    ∃ u, exec (.stepWrite t c n data) s = .next u ∧ u.accepted c = true ∧
      (∃ x ∈ u.time.corrections, x.set = n ∧ x.kind = .step ∧ x.val = sgnOf 64 (leNat data) ∧
        x.key.epoch = ((s.advance t).nextKey (ifaceSource c.iface)).epoch) ∧
      u.time.sets = (s.advance t).time.sets ∧ u.basin = (s.advance t).basin ∧ u.ports = s.ports ∧ u.legacy = s.legacy ∧
      u.keys = s.keys ∧ u.power = s.power ∧ u.host = s.host) ∧
  (∀ (s : State) (t n : Nat) (c : Caller) (data : Bytes), s.awake = true → n < 4 → c.iface ≠ .partner →
    (s.advance t).writeCheck c 0x2002 (n + 5) data = 0 →
    ∃ u, exec (.loadWrite t c n data) s = .next u ∧ u.accepted c = true ∧
      (∃ x ∈ u.time.corrections, x.set = n ∧ x.kind = .load ∧ x.val = (time80Ns (leNat data) : Int) ∧
        x.key.epoch = ((s.advance t).nextKey (ifaceSource c.iface)).epoch) ∧
      u.time.sets = (s.advance t).time.sets ∧ u.basin = (s.advance t).basin ∧ u.ports = s.ports ∧ u.legacy = s.legacy ∧
      u.keys = s.keys ∧ u.power = s.power ∧ u.host = s.host) ∧
  (∀ (s : State) (t n : Nat) (c : Caller) (data : Bytes), s.awake = true → n < 4 → c.iface ≠ .partner →
    (s.advance t).writeCheck c 0x2003 (n + 1) data = 0 →
    ∃ u, exec (.fallbackIncrementWrite t c n data) s = .next u ∧ u.accepted c = true ∧
      (∃ x ∈ u.time.corrections, x.set = n ∧ x.kind = .fallback ∧ x.val = (leNat data : Int) ∧
        x.key.epoch = ((s.advance t).nextKey (ifaceSource c.iface)).epoch) ∧
      u.time.sets = (s.advance t).time.sets ∧ u.basin = (s.advance t).basin ∧ u.ports = s.ports ∧ u.legacy = s.legacy ∧
      u.keys = s.keys ∧ u.power = s.power ∧ u.host = s.host)

def Obligations.NegativeTimeIsRefused : Prop :=
  ∀ (s : State) (t n : Nat) (c : Caller) (data : Bytes), s.awake = true → n < 4 → c.iface ≠ .partner →
    (s.advance t).writeCheck c 0x2002 (n + 1) data = 0 → (s.advance t).reg 0x2000 2 = 1 →
    sgnOf 64 (leNat data) < 0 →
    ((s.advance t).timeSet n).q32 (s.advance t).time.raw / 65536 - s.stepsAhead n < -sgnOf 64 (leNat data) →
    ∃ u, exec (.stepWrite t c n data) s = .next u ∧ u.replyOf c.iface = some ⟨c, 0x0005, 0, 0⟩ ∧
      u.time = (s.advance t).time ∧ u.dict.awaiting = s.dict.awaiting ∧ u.dict.settings = s.dict.settings

def Obligations.CorrectionsTakeTheirTick : Prop :=
  (∀ (s : State) (t n : Nat) (v : Int) (k : OKey), s.awake = true → n < 4 → s.time.sets.length = 4 →
    (s.advance t).time.raw % 256 = 0 →
    s.time.corrections.filter (fun x => (s.advance t).correctionDue n x) = [⟨n, .rate, v, k⟩] →
    ∃ u, exec (.timeCorrectionApply t n) s = .next u ∧ (u.timeSet n).rate = v ∧
      (u.timeSet n).q32 u.time.raw = ((s.advance t).timeSet n).q32 (s.advance t).time.raw ∧
      u.time.corrections = s.time.corrections.filter (fun x => !(s.advance t).correctionDue n x) ∧
      (∀ m, m ≠ n → u.timeSet m = (s.advance t).timeSet m) ∧
      u.legacy = s.legacy ∧ u.keys = s.keys ∧ u.ports = s.ports ∧ u.power = s.power) ∧
  (∀ (s : State) (t n : Nat) (d : Int) (k : OKey), s.awake = true → n < 4 → s.time.sets.length = 4 →
    (s.advance t).time.raw % 256 = 0 → n ≠ s.time.working → ((s.advance t).timeSet n).slewRem = 0 →
    s.time.corrections.filter (fun x => (s.advance t).correctionDue n x) = [⟨n, .step, d, k⟩] →
    (0 ≤ d ∨ (s.advance t).reg 0x2000 2 = 1) →
    ∃ u, exec (.timeCorrectionApply t n) s = .next u ∧
      (u.timeSet n).q32 u.time.raw = ((s.advance t).timeSet n).q32 (s.advance t).time.raw + d * 65536 ∧
      (∀ m, m ≠ n → u.timeSet m = (s.advance t).timeSet m) ∧
      u.legacy = s.legacy ∧ u.keys = s.keys ∧ u.ports = s.ports ∧ u.power = s.power) ∧
  (∀ (s : State) (t n : Nat) (d : Int) (k : OKey), s.awake = true → n < 4 → s.time.sets.length = 4 →
    (s.advance t).time.raw % 256 = 0 → n ≠ s.time.working → d < 0 → (s.advance t).reg 0x2000 2 = 0 →
    s.time.corrections.filter (fun x => (s.advance t).correctionDue n x) = [⟨n, .step, d, k⟩] →
    ∃ u, exec (.timeCorrectionApply t n) s = .next u ∧
      (u.timeSet n).q32 u.time.raw = ((s.advance t).timeSet n).q32 (s.advance t).time.raw ∧
      (u.timeSet n).slewRem = ((s.advance t).timeSet n).slewRem + d.natAbs * 2 ^ 24 ∧
      (∀ m, m ≠ n → u.timeSet m = (s.advance t).timeSet m) ∧
      u.legacy = s.legacy ∧ u.keys = s.keys ∧ u.ports = s.ports ∧ u.power = s.power) ∧
  (∀ (s : State) (t n : Nat), s.awake = true → n < 4 → s.time.sets.length = 4 → (s.advance t).time.raw % 256 = 0 →
    ((s.advance t).timeSet n).slewRem = 0 →
    ∃ u, exec (.slewEnd t n) s = .next u ∧ (u.timeSet n).slewTerm = 0 ∧
      (u.timeSet n).q32 u.time.raw = ((s.advance t).timeSet n).q32 (s.advance t).time.raw ∧
      u = { s.advance t with time := { (s.advance t).time with sets := u.time.sets } })

def Obligations.ReferencesAndHoldover : Prop :=
  (∀ (s : State) (t : Nat), s.awake = true → s.time.onRefclk = false →
    ∃ u, exec (.timerefFault t) s = .next u ∧ u.time.onRefclk = true ∧ bitOf u.safety.latched 51 = true ∧
      bitOf u.safety.active 51 = true ∧ u.time.sets = (s.advance t).time.sets ∧ u.legacy = s.legacy ∧ u.keys = s.keys ∧
      u.ports = s.ports ∧ u.power = s.power) ∧
  (∀ (s : State) (t : Nat), s.awake = true →
    ∃ u, exec (.timerefRestored t) s = .next u ∧ u.time.onRefclk = false ∧ bitOf u.safety.active 51 = false ∧
      u.safety.latched = s.safety.latched ∧ u.time.sets = (s.advance t).time.sets ∧
      u = { s.advance t with time := u.time, safety := u.safety }) ∧
  (∀ (s : State) (t n : Nat), s.awake = true → n < 4 → s.time.sets.length = 4 →
    (s.timeSet n).fallMode = false → (s.timeSet n).status = 1 →
    ∃ u, exec (.grandmasterLost t n) s = .next u ∧ (u.timeSet n).status = 2 ∧
      (u.timeSet n).holdRaw = (s.advance t).time.raw ∧ (u.timeSet n).rate = (s.timeSet n).rate ∧
      (u.timeSet n).q32 u.time.raw = ((s.advance t).timeSet n).q32 (s.advance t).time.raw ∧
      (∀ m, m ≠ n → u.timeSet m = (s.advance t).timeSet m) ∧ u = { s.advance t with time := u.time }) ∧
  (∀ (s : State) (t : Nat), s.awake = true → ((s.advance t).timeSet s.time.working).status = 2 →
    (s.advance t).reg 0x2004 9 ≠ 0 →
    (s.advance t).reg 0x2004 9 * 1000000 < (s.advance t).time.raw - ((s.advance t).timeSet s.time.working).holdRaw →
    s.time.holdSignalled = false →
    ∃ u, exec (.holdoverLimitExceeded t) s = .next u ∧ u.time.holdSignalled = true ∧ bitOf u.safety.latched 58 = true ∧
      u.time.sets = (s.advance t).time.sets ∧ u.legacy = s.legacy ∧ u.keys = s.keys ∧ u.ports = s.ports ∧
      u.power = s.power) ∧
  (∀ (s : State) (t n gm : Nat) (offset ratio : Int), s.awake = true → n < 4 → s.time.sets.length = 4 →
    (s.timeSet n).fallMode = false → offset.natAbs ≤ (s.advance t).reg (0x2100 + n) 0x0B * 65536 →
    ∃ u, exec (.holdoverEnd t n gm offset ratio) s = .next u ∧ (u.timeSet n).status = 1 ∧
      u.time.corrections = s.time.corrections ∧ u.legacy = s.legacy ∧ u.keys = s.keys ∧ u.ports = s.ports ∧
      u.power = s.power) ∧
  (∀ (s : State) (t n port rx tx : Nat) (ratio c : Int), s.awake = true → n < 4 → port < 28 →
    ∃ u, exec (.syncTxStamp t n port rx tx ratio c) s = .next u ∧
      u.time.followUps = s.time.followUps ++ [⟨n, port, syncCorrection rx tx ratio c, true⟩] ∧
      u = { s.advance t with time := u.time } ∧ u.time.sets = (s.advance t).time.sets) ∧
  (∀ (s : State) (t : Nat), s.awake = true → s.time.held = true → (s.advance t).time.orderNs ≤ (s.advance t).workingNs →
    ∃ u, exec (.orderTimeResume t) s = .next u ∧ u.time.held = false ∧
      u.time.orderNs = (s.advance t).time.orderNs ∧ u.time.holdBoundary = (s.advance t).time.orderNs / 32 + 2 ∧
      u = { s.advance t with time := u.time })

def Obligations.StampQueuesAndTriggers : Prop :=
  (∀ (s : State) (t p : Nat) (c : Caller), s.awake = true → p < 28 → c.iface ≠ .partner → s.time.txStamps.length = 28 →
    (s.advance t).readCheck c (0x3140 + p) 1 = 0 →
    ∃ u, exec (.txStampRead t c p) s = .next u ∧
      u.replyOf c.iface = some ⟨c, 0, txStampReply (nth s.time.txStamps p []), 16⟩ ∧
      nth u.time.txStamps p [] = (nth s.time.txStamps p []).drop 1 ∧
      (∀ q, q ≠ p → nth u.time.txStamps q [] = nth s.time.txStamps q []) ∧ u.time.sets = (s.advance t).time.sets ∧
      u.basin = (s.advance t).basin ∧ u.ports = s.ports ∧ u.legacy = s.legacy ∧ u.keys = s.keys ∧ u.power = s.power) ∧
  (∀ (s : State) (t n : Nat) (c : Caller), s.awake = true → n < 16 → c.iface ≠ .partner → s.time.captures.length = 16 →
    (s.advance t).readCheck c (0x2220 + n) 3 = 0 →
    ∃ u, exec (.captureRead t c n) s = .next u ∧
      u.replyOf c.iface = some ⟨c, 0, captureReply (s.capture n).queue, 12⟩ ∧
      (u.capture n).queue = (s.capture n).queue.drop 1 ∧ (∀ m, m ≠ n → u.capture m = s.capture m) ∧
      u.time.sets = (s.advance t).time.sets ∧
      u.basin = (s.advance t).basin ∧ u.ports = s.ports ∧ u.legacy = s.legacy ∧ u.keys = s.keys ∧ u.power = s.power) ∧
  (∀ (s : State) (t n : Nat), s.awake = true → n < 16 → s.time.triggers.length = 16 →
    (s.advance t).triggerOn n = true → (s.trigger n).done = false →
    (s.advance t).pulseEdge n (s.trigger n).nextPulse ≤ (s.advance t).workingQ16 →
    ∃ u, exec (.triggerLeadingEdge t n) s = .next u ∧ (u.trigger n).active = true ∧
      (u.trigger n).nextPulse = (s.trigger n).nextPulse + 1 ∧ (∀ m, m ≠ n → u.trigger m = s.trigger m) ∧
      u.time.sets = (s.advance t).time.sets ∧ u.keys = s.keys ∧ u.ports = s.ports ∧ u.power = s.power) ∧
  (∀ (s : State) (t n : Nat), s.awake = true → n < 16 → s.time.triggers.length = 16 → (s.trigger n).active = true →
    (s.advance t).reg (0x2210 + n) 1 ≠ 3 →
    (s.trigger n).edgeNs + (s.advance t).reg (0x2210 + n) 4 ≤ (s.advance t).workingNs → s.saddle.handovers = [] →
    ∃ u, exec (.triggerTrailingEdge t n) s = .next u ∧ (u.trigger n).active = false ∧
      (∀ m, m ≠ n → u.trigger m = s.trigger m) ∧ u = { s.advance t with time := u.time } ∧
      u.time.sets = (s.advance t).time.sets) ∧
  (∀ (s : State) (t n width : Nat) (falling : Bool), s.awake = true → n < 16 → s.time.captures.length = 16 →
    bitOf ((s.advance t).reg 0x2200 2) n = true → edgeSelected ((s.advance t).reg (0x2220 + n) 1) falling = true →
    (s.advance t).reg (0x2220 + n) 2 ≤ width → s.follows = false → (s.capture n).lastEdge = none →
    (s.capture n).queue.length < 8 →
    ∃ u, exec (.captureEdge t n width falling) s = .next u ∧
      (u.capture n).queue = (s.capture n).queue ++ [⟨(s.advance t).workingNs - (s.advance t).reg (0x2220 + n) 2, falling,
        decide (((s.advance t).timeSet s.time.working).status = 2),
        decide (((s.advance t).timeSet s.time.working).status = 0) || ((s.advance t).timeSet s.time.working).fallMode⟩] ∧
      (∀ m, m ≠ n → u.capture m = s.capture m) ∧ u.keys = s.keys ∧ u.ports = s.ports ∧ u.power = s.power) ∧
  (∀ (s : State) (t a b c d : Nat) (x : Option Nat), s.awake = true →
    ∃ u, exec (.clockGateEnd t a b c d x) s = .next u ∧
      u.stat 0xC200 0x10 = encSgn 32 (clockOffset a (25000 * (s.advance t).reg 0xC200 5)) ∧
      u.stat 0xC200 0x11 = encSgn 32 (clockOffset b (156250 * (s.advance t).reg 0xC200 5)) ∧
      u.stat 0xC200 0x12 = encSgn 32 (clockOffset c (100000 * (s.advance t).reg 0xC200 5)) ∧
      u.stat 0xC200 0x13 = encSgn 32 (clockOffset d (16000 * (s.advance t).reg 0xC200 5)) ∧
      u.time = (s.advance t).time ∧ u.keys = s.keys ∧ u.ports = s.ports ∧ u.power = s.power) ∧
  (∀ (s : State) (t : Nat), s.awake = true → (s.advance t).reg 0xC200 4 = 1 →
    bitOf (s.stat 0xC200 2) 9 = false →
    ∃ u, exec (.crystalStartTimeout t) s = .next u ∧ u.stat 0xC200 2 = setBitAt (s.stat 0xC200 2) 11 ∧
      u = { s.advance t with dict := u.dict })

def Obligations.LinksComeUpAndGoDown : Prop :=
  (∀ (s : State) (t p : Nat), s.awake = true → p < 28 → s.ports.length = 32 →
    (s.advance t).linkState p = 2 → (s.advance t).pollUnmet p = false →
    ∃ u, exec (.linkUp t p) s = .next u ∧ u.stat (0x3040 + p) 1 = 3 ∧ (u.port p).holdEnd = none ∧ (u.port p).flushing = false ∧
      u.stat (0x3080 + p) 0x21 = (s.stat (0x3080 + p) 0x21 + 1) % 2 ^ 64 ∧ (∀ q, q ≠ p → u.port q = s.port q) ∧
      (∀ q, q < 28 → q ≠ p → u.stat (0x3040 + q) 1 = s.stat (0x3040 + q) 1) ∧
      u = { s.advance t with
        dict := u.dict, ports := u.ports, basin := u.basin }) ∧
  (∀ (s : State) (t p : Nat), s.awake = true → p < 28 → (s.advance t).linkState p = 1 →
    exec (.signalDetected t p) s = .next ((s.advance t).setStat (0x3040 + p) 1 2)) ∧
  (∀ (s : State) (t p : Nat), s.awake = true → p < 28 → (s.advance t).linkState p = 2 →
    exec (.signalLost t p) s = .next ((s.advance t).setStat (0x3040 + p) 1 1)) ∧
  (∀ (s : State) (t p : Nat), s.awake = true → p < 28 → (s.advance t).portUp p = true →
    ∃ u, exec (.pcsLockLost t p) s = .next u ∧
      u = (let d := ((s.advance t).setStat (0x3040 + p) 1 1).linkDown p false;
        if p < 8 then d.setStat (0x3040 + p) 4 0 else if 20 ≤ p then d.setStat (0x7080 + p - 20) 6 0 else d) ∧
      u.keys = s.keys ∧ u.power = s.power ∧ u.safety = s.safety ∧ u.legacy = s.legacy ∧ u.access = s.access ∧
      u.host = s.host) ∧
  (∀ (s : State) (t p : Nat), s.awake = true → p < 8 → (s.advance t).portUp p = false →
    exec (.pcsLockLost t p) s = .next ((s.advance t).setStat (0x3040 + p) 4 0)) ∧
  (∀ (s : State) (t p d : Nat), s.awake = true → p < 32 → s.ports.length = 32 → (s.port p).holdEnd = some d →
    d ≤ (s.advance t).time.raw →
    ∃ u, exec (.holdTimerExpired t p) s = .next u ∧ (u.port p).holdEnd = none ∧ (u.port p).flushing = true ∧
      (∀ q, q ≠ p → u.port q = s.port q) ∧ u.time = (s.advance t).time ∧ u.keys = s.keys ∧ u.power = s.power ∧
      u.safety = s.safety ∧ u.legacy = s.legacy ∧ u.access = s.access ∧ u.host = s.host)

def Obligations.PhyManagement : Prop :=
  (∀ (s : State) (t p v : Nat), s.awake = true → p < 8 → s.ports.length = 32 →
    (s.advance t).reg (0x30C0 + p) 3 ≠ 0 → (s.port p).polled = false →
    (v % 65536) &&& (s.advance t).reg (0x30C0 + p) 5 = (s.advance t).reg (0x30C0 + p) 6 →
    (v % 65536) &&& (s.advance t).reg (0x30C0 + p) 7 = 0 →
    ∃ u, exec (.mdioPoll t p (some v)) s = .next u ∧ u.stat (0x3040 + p) 5 = v % 65536 ∧ (u.port p).pollMet = true ∧
      (u.port p).polled = true ∧ (u.port p).lastPoll = (s.advance t).time.raw ∧ u.stat (0x3040 + p) 1 = s.stat (0x3040 + p) 1 ∧
      (∀ q, q ≠ p → u.port q = s.port q) ∧
      u = { s.advance t with
        dict := u.dict, ports := u.ports }) ∧
  (∀ (s : State) (t p : Nat) (c : Caller), s.awake = true → p < 20 → s.ports.length = 32 → c.iface ≠ .partner →
    (s.advance t).writeCheck c (0x30C0 + p) 0x0B [1] = 0 → (s.port p).indirect = none →
    ∃ u, exec (.indirectRead t c p) s = .next u ∧ u.accepted c = true ∧ u.stat (0x30C0 + p) 0x0C = 9 ∧
      (u.port p).indirect = some (true, (s.advance t).reg (0x30C0 + p) 9, (s.advance t).reg (0x30C0 + p) 0x0A) ∧
      (∀ q, q ≠ p → u.port q = s.port q) ∧ u.time.sets = (s.advance t).time.sets ∧ u.keys = s.keys ∧ u.power = s.power) ∧
  (∀ (s : State) (t p : Nat) (c : Caller), s.awake = true → p < 20 → s.ports.length = 32 → c.iface ≠ .partner →
    (s.advance t).writeCheck c (0x30C0 + p) 0x0B [2] = 0 → (s.port p).indirect = none →
    ∃ u, exec (.indirectWrite t c p) s = .next u ∧ u.accepted c = true ∧ u.stat (0x30C0 + p) 0x0C = 9 ∧
      (u.port p).indirect = some (false, (s.advance t).reg (0x30C0 + p) 9, (s.advance t).reg (0x30C0 + p) 0x0A) ∧
      (∀ q, q ≠ p → u.port q = s.port q) ∧ u.time.sets = (s.advance t).time.sets ∧ u.keys = s.keys ∧ u.power = s.power) ∧
  (∀ (s : State) (t p : Nat) (c : Caller) (x : Bool × Nat × Nat), s.awake = true → p < 20 → c.iface ≠ .partner →
    (s.port p).indirect = some x → (s.advance t).writeCheck c (0x30C0 + p) 0x0B [1] = 0 →
    ∃ u, exec (.indirectRead t c p) s = .next u ∧ u.replyOf c.iface = some ⟨c, 9, 0, 0⟩ ∧ u.ports = s.ports) ∧
  (∀ (s : State) (t p : Nat) (c : Caller) (x : Bool × Nat × Nat), s.awake = true → p < 20 → c.iface ≠ .partner →
    (s.port p).indirect = some x → (s.advance t).writeCheck c (0x30C0 + p) 0x0B [2] = 0 →
    ∃ u, exec (.indirectWrite t c p) s = .next u ∧ u.replyOf c.iface = some ⟨c, 9, 0, 0⟩ ∧ u.ports = s.ports) ∧
  (∀ (s : State) (t p v a d : Nat), s.awake = true → p < 8 → s.ports.length = 32 → (s.port p).indirect = some (false, a, d) →
    ∃ u, exec (.indirectAccessDone t p v) s = .next u ∧ (u.port p).indirect = none ∧
      u = ({ s.advance t with ports := u.ports } : State).setStat (0x30C0 + p) 0x0C 0 ∧
      (∀ q, q ≠ p → u.port q = s.port q)) ∧
  (∀ (s : State) (t p q : Nat), s.awake = true → 8 ≤ p → p < 20 → s.ports.length = 32 →
    (s.advance t).portUp p = true → (s.port p).sqiLow = false → (s.advance t).reg (0x30C0 + p) 0x13 ≤ min q 7 →
    ∃ u, exec (.sqiUpdate t p q) s = .next u ∧ u.stat (0x30C0 + p) 0x11 = min q 7 ∧
      u.stat (0x30C0 + p) 0x12 = (if (s.port p).sqiSeen then min (min q 7) (s.stat (0x30C0 + p) 0x12) else min q 7) ∧
      (u.port p).sqiSeen = true ∧ (∀ q, q ≠ p → u.port q = s.port q) ∧
      u = { s.advance t with
        dict := u.dict, ports := u.ports }) ∧
  (∀ (s : State) (t p : Nat) (c : Caller), s.awake = true → p < 20 → s.ports.length = 32 → c.iface ≠ .partner →
    (s.advance t).writeCheck c (0x30C0 + p) 0x14 [1] = 0 → (s.advance t).linkState p ≤ 1 →
    ∃ u, exec (.tdrStart t c p) s = .next u ∧ u.accepted c = true ∧ u.stat (0x3040 + p) 1 = 5 ∧ (u.port p).prior = s.stat (0x3040 + p) 1 ∧
      u.stat (0x30C0 + p) 0x15 = 1 ∧ (∀ q, q ≠ p → u.port q = s.port q) ∧ u.time.sets = (s.advance t).time.sets ∧
      u.keys = s.keys ∧ u.power = s.power) ∧
  (∀ (s : State) (t p r d : Nat), s.awake = true → p < 20 → (s.advance t).linkState p = 5 →
    exec (.tdrDone t p r d) s = .next ((((s.advance t).setStat (0x3040 + p) 1 (s.port p).prior).setStat (0x30C0 + p) 0x15 r).setStat
      (0x30C0 + p) 0x16 (if r = 2 then 0 else d % 65536)))

def Obligations.SleepWakeAndPlca : Prop :=
  (∀ (s : State) (t p : Nat) (c : Caller), s.awake = true → p < 20 → c.iface ≠ .partner →
    (s.advance t).writeCheck c (0x30C0 + p) 0x18 [1] = 0 → (s.advance t).portUp p = true →
    ∃ u, exec (.tc10Sleep t c p) s = .next u ∧ u.accepted c = true ∧ u.stat (0x30C0 + p) 0x1A = 1 ∧
      u.stat (0x3040 + p) 1 = s.stat (0x3040 + p) 1 ∧ u.ports = s.ports ∧ u.keys = s.keys ∧ u.power = s.power) ∧
  (∀ (s : State) (t p : Nat) (c : Caller), s.awake = true → p < 20 → c.iface ≠ .partner →
    (s.advance t).writeCheck c (0x30C0 + p) 0x18 [2] = 0 → (s.advance t).linkState p = 4 →
    ∃ u, exec (.tc10Wake t c p) s = .next u ∧ u.accepted c = true ∧ u.stat (0x3040 + p) 1 = 2 ∧ u.stat (0x30C0 + p) 0x1A = 3 ∧
      u.ports = s.ports ∧ u.keys = s.keys ∧ u.power = s.power) ∧
  (∀ (s : State) (t p : Nat), s.awake = true → 8 ≤ p → p < 20 → (s.advance t).portUp p = true → s.stat (0x30C0 + p) 0x1A = 1 →
    ∃ u, exec (.tc10SleepAck t p) s = .next u ∧
      u = ((((s.advance t).setStat (0x3040 + p) 1 4).linkDown p false).orStat (0x3040 + p) 0x0B 32).setStat (0x30C0 + p) 0x1A 2 ∧
      u.keys = s.keys ∧ u.power = s.power ∧ u.safety = s.safety ∧ u.legacy = s.legacy ∧ u.access = s.access ∧
      u.host = s.host) ∧
  (∀ (s : State) (t p : Nat), s.awake = true → 8 ≤ p → p < 20 → (s.advance t).portUp p = true → (s.advance t).reg (0x30C0 + p) 0x17 = 1 →
    ∃ u, exec (.partnerSleepRequest t p) s = .next u ∧
      u = ((((s.advance t).setStat (0x3040 + p) 1 4).linkDown p false).orStat (0x3040 + p) 0x0B 32).setStat (0x30C0 + p) 0x1A 2 ∧
      u.keys = s.keys ∧ u.power = s.power ∧ u.safety = s.safety ∧ u.legacy = s.legacy ∧ u.access = s.access ∧
      u.host = s.host) ∧
  (∀ (s : State) (t p : Nat), s.awake = true → 8 ≤ p → p < 20 → (s.advance t).linkState p = 4 →
    (s.advance t).reg (0x30C0 + p) 0x19 = 0 →
    ∃ u, exec (.wakePulseReceived t p) s = .next u ∧ u.stat (0x3040 + p) 1 = 2 ∧ u.stat (0x30C0 + p) 0x1A = 3 ∧
      u.stat (0x3040 + p) 0x0B = s.stat (0x3040 + p) 0x0B ||| 64 ∧
      u = { s.advance t with
        dict := u.dict }) ∧
  (∀ (s : State) (t p : Nat), s.awake = true → 20 ≤ p → p < 28 → (s.advance t).portUp p = true → (s.advance t).reg (0x7080 + p - 20) 1 ≠ 0 →
    ∃ u, exec (.beaconTimeout t p) s = .next u ∧
      u = ((((((s.advance t).setStat (0x3040 + p) 1 1).linkDown p false).count32 (0x7080 + p - 20) 7).orStat (0x3040 + p) 0x0B 4).setStat
        (0x7080 + p - 20) 6 0) ∧
      u.keys = s.keys ∧ u.power = s.power ∧ u.safety = s.safety ∧ u.legacy = s.legacy ∧ u.access = s.access ∧
      u.host = s.host) ∧
  (∀ (s : State) (t p : Nat), s.awake = true → 20 ≤ p → p < 28 → (s.advance t).reg (0x7080 + p - 20) 1 = 0 →
    ∃ u, exec (.foreignBeacon t p) s = .next u ∧
      u = ((s.advance t).count32 (0x7080 + p - 20) 7).raiseEvent p 0x0303 0 ∧ u.ports = s.ports ∧ u.keys = s.keys ∧
      u.basin = (s.advance t).basin ∧ u.power = s.power ∧ u.safety = s.safety ∧ u.legacy = s.legacy ∧ u.access = s.access) ∧
  (∀ (s : State) (t p : Nat), s.awake = true → 20 ≤ p → p < 28 → (s.advance t).portUp p = true →
    (∃ u, exec (.transmitOpportunity t p false) s = .next u ∧
      u = egressSchedule p true none ((s.advance t).modPort p (fun (x : Port) => { x with
        burst := 1 + (s.advance t).reg (0x7080 + p - 20) 4 })) ∧
      u.keys = s.keys ∧ u.power = s.power ∧ u.legacy = s.legacy ∧ u.access = s.access) ∧
    (∃ u, exec (.transmitOpportunity t p true) s = .next u ∧ u = ((s.advance t).collide p).refreshCredits p ∧
      u.keys = s.keys ∧ u.power = s.power ∧ u.legacy = s.legacy ∧ u.access = s.access))

def Obligations.PauseAndVerify : Prop :=
  (∀ (s : State) (t p q : Nat), s.awake = true → p < 8 → s.ports.length = 32 →
    bitOf ((s.advance t).reg (0x3000 + p) 7) 0 = true →
    ∃ u, exec (.pauseReceived t p q) s = .next u ∧
      (u.port p).pauseUntil = List.replicate 8 (if q % 65536 = 0 then none
        else some ((s.advance t).time.raw + (s.advance t).quantaNs p (q % 65536))) ∧
      u.stat (0x3080 + p) 0x0B = (s.stat (0x3080 + p) 0x0B + 1) % 2 ^ 64 ∧ (∀ r, r ≠ p → u.port r = s.port r) ∧
      u = { s.advance t with
        dict := u.dict, ports := u.ports, basin := u.basin }) ∧
  (∀ (s : State) (t p q : Nat), s.awake = true → p < 28 → bitOf ((s.advance t).reg (0x3000 + p) 7) 0 = false →
    exec (.pauseReceived t p q) s = .next (((s.advance t).count64 (0x3080 + p) 0x0B 1).count64 (0x3080 + p) 0x0D 1)) ∧
  (∀ (s : State) (t p e : Nat) (quanta : List Nat), s.awake = true → p < 8 → s.ports.length = 32 →
    (s.advance t).reg (0x3000 + p) 8 ≠ 0 →
    ∃ u, exec (.pfcReceived t p e quanta) s = .next u ∧
      (∀ q, q < 8 → nth (u.port p).pauseUntil q none =
        (if bitOf e q = true ∧ bitOf ((s.advance t).reg (0x3000 + p) 8) q = true ∧
            bitOf ((s.advance t).reg (0x3000 + p) 0x0A) q = false then
          (if nth quanta q 0 % 65536 = 0 then none
            else some ((s.advance t).time.raw + (s.advance t).quantaNs p (nth quanta q 0 % 65536)))
        else nth (s.port p).pauseUntil q none)) ∧
      u.stat (0x3080 + p) 0x0C = (s.stat (0x3080 + p) 0x0C + 1) % 2 ^ 64 ∧ (∀ r, r ≠ p → u.port r = s.port r) ∧
      u = { s.advance t with
        dict := u.dict, ports := u.ports, basin := u.basin }) ∧
  (∀ (s : State) (t p q d : Nat), s.awake = true → p < 28 → q < 8 → s.ports.length = 32 →
    nth (s.port p).pauseUntil q none = some d → d ≤ (s.advance t).time.raw →
    ∃ u, exec (.pauseTimerExpired t p q) s = .next u ∧ nth (u.port p).pauseUntil q none = none ∧
      (∀ r, r ≠ q → nth (u.port p).pauseUntil r none = nth (s.port p).pauseUntil r none) ∧
      (∀ r, r ≠ p → u.port r = s.port r) ∧
      u = { s.advance t with
        ports := u.ports, basin := u.basin }) ∧
  (∀ (s : State) (t p : Nat), s.awake = true → p < 8 → s.ports.length = 32 → (s.port p).xoff = true →
    (s.port p).resendAt ≤ (s.advance t).time.raw →
    (s.advance t).reg (0x3000 + p) 0x0C < (s.advance t).ingressBytes p →
    ∃ u, exec (.pauseResend t p) s = .next u ∧
      (u.port p).macOut.length = (s.port p).macOut.length + 1 ∧
      (u.port p).resendAt = (s.advance t).time.raw +
        (s.advance t).quantaNs p ((s.advance t).reg (0x3000 + p) 0x0D) / 2 ∧
      (∀ r, r ≠ p → u.port r = s.port r) ∧
      u = { s.advance t with
        dict := u.dict, ports := u.ports }) ∧
  (∀ (s : State) (t p : Nat), s.awake = true → p < 20 → s.ports.length = 32 →
    (s.advance t).reg (0x3580 + p) 1 = 1 → (s.advance t).reg (0x3580 + p) 2 = 0 → (s.advance t).portUp p = true →
    s.stat (0x3580 + p) 6 ≤ 2 → (s.port p).verifyTries < 3 →
    ∃ u, exec (.verifyAttempt t p) s = .next u ∧ u.stat (0x3580 + p) 6 = 2 ∧
      (u.port p).verifyTries = (s.port p).verifyTries + 1 ∧ (u.port p).macOut = (s.port p).macOut ++ [⟨2, 0, 0⟩] ∧
      (∀ r, r ≠ p → u.port r = s.port r) ∧
      u = { s.advance t with
        dict := u.dict, ports := u.ports }) ∧
  (∀ (s : State) (t p : Nat), s.awake = true → p < 20 → (s.advance t).reg (0x3580 + p) 1 = 1 →
    (s.advance t).reg (0x3580 + p) 2 = 0 → (s.advance t).portUp p = true → s.stat (0x3580 + p) 6 ≤ 2 →
    3 ≤ (s.port p).verifyTries →
    exec (.verifyAttempt t p) s = .next ((s.advance t).setStat (0x3580 + p) 6 4)) ∧
  (∀ (s : State) (t p : Nat), s.awake = true → p < 20 → (s.advance t).reg (0x3580 + p) 1 = 1 → s.stat (0x3580 + p) 6 = 2 →
    exec (.verifyResponse t p) s = .next (((s.advance t).setStat (0x3580 + p) 6 3).setStat (0x3580 + p) 7 1))

def Obligations.FramesComeIn : Prop :=
  (∀ (s : State) (t p : Nat) (rx : FrameRx), s.awake = true → p < 28 → (s.advance t).portUp p = true → rx.frag = false →
    (s.port p).receiving = none → 64 ≤ rx.length → beAt rx.bytes 12 2 ≠ 0x8808 → (s.advance t).secyOn p = false →
    s.ingressBytes p + 64 ≤ s.bufferSize p →
    exec (.frameHeaderWindow t p rx) s = .next (((s.advance t).takeFrame p p p rx
      ((rx.sof : Int) - (s.advance t).phyLatency p 6).toNat 0 (decide (rx.length ≤ 64))).noteReceiving p false)) ∧
  (∀ (s : State) (t p : Nat) (rx : FrameRx), s.awake = true → p < 28 → (s.advance t).portUp p = true → rx.frag = false →
    (s.port p).receiving = none → 64 ≤ rx.length → beAt rx.bytes 12 2 ≠ 0x8808 → (s.advance t).secyOn p = false →
    s.bufferSize p < s.ingressBytes p + 64 →
    exec (.frameHeaderWindow t p rx) s = .next (((s.advance t).count64 (0x3080 + p) 0x0A 1).issueKey p)) ∧
  (∀ (s : State) (t p : Nat) (rx : FrameRx), s.awake = true → p < 28 → (s.advance t).portUp p = true → rx.frag = false →
    (s.port p).receiving = none → 64 ≤ rx.length → (s.advance t).secyOn p = true → (s.advance t).reg (0x3100 + p) 3 = 2 →
    uncontrolled rx.bytes = false → beAt rx.bytes 12 2 ≠ 0x8808 → rx.sec = .none →
    exec (.frameHeaderWindow t p rx) s = .next (((s.advance t).count64 (0x3100 + p) 0x18 1).issueKey p)) ∧
  (∀ (s : State) (t p : Nat) (rx : FrameRx), s.awake = true → p < 28 → (s.advance t).portUp p = false →
    exec (.frameHeaderWindow t p rx) s = .next (s.advance t)) ∧
  (∀ (s : State) (t p : Nat) (rx : FrameRx), s.awake = true → (p = 28 ∨ p = 29) → (s.advance t).portUp p = true →
    exec (.frameHeaderWindow t p rx) s = .next ((s.advance t).takeFrame p p (frameSource p rx.origin) rx
      (s.advance t).time.raw 0 true)) ∧
  (∀ (s : State) (t : Nat) (rx : FrameRx) (b : Bytes) (rest : List Bytes), s.awake = true → (s.advance t).portUp 30 = true →
    s.ford.out = b :: rest →
    ∃ u, exec (.frameHeaderWindow t 30 rx) s = .next u ∧
      u = (({ s.advance t with ford := { s.ford with out := rest } } : State).presentFrame 30
        { rx with bytes := b, length := b.length + 4, origin := none }) ∧ u.keys = s.keys ∧ u.power = s.power) ∧
  (∀ (s : State) (t p : Nat) (fin : FrameEnd), s.awake = true → p < 28 → fin.frags = 0 → fin.merge = 0 →
    (s.port p).receiving = none → fin.bytes.length < 60 →
    exec (.frameEndReceived t p fin) s = .next (((s.advance t).modPort p (fun (x : Port) => { x with
      receiving := none })).count64 (0x3080 + p) 8 1)) ∧
  (∀ (s : State) (t p : Nat) (fin : FrameEnd), s.awake = true → p < 28 → fin.frags = 0 → fin.merge = 0 →
    (s.port p).receiving = none → 60 ≤ fin.bytes.length → fin.bytes.length + 4 ≤ (s.advance t).maxLen p →
    fin.rxError = false → fin.fcsOk = false →
    exec (.frameEndReceived t p fin) s = .next (((s.advance t).modPort p (fun (x : Port) => { x with
      receiving := none })).count64 (0x3080 + p) 6 1)) ∧
  (∀ (s : State) (t p : Nat) (fin : FrameEnd), s.awake = true → 28 ≤ p → p < 32 →
    exec (.frameEndReceived t p fin) s = .next (s.advance t)) ∧
  (∀ (s : State) (t p : Nat) (fin : FrameEnd), s.awake = true → p < 28 → fin.frags = 0 → fin.merge = 0 →
    ∃ u, exec (.frameEndReceived t p fin) s = .next u ∧
      u = ((s.advance t).modPort p (fun (x : Port) => { x with
        receiving := none })).joinedEnd p fin (s.port p).receiving ∧
      u.keys = s.keys ∧ u.power = s.power ∧ u.legacy = s.legacy ∧ u.safety = s.safety ∧ u.host = s.host)

def Obligations.FramesGoOut : Prop :=
  (∀ (s : State) (t p : Nat) (c : Copy) (f : Frame), s.awake = true → p < 20 → s.basin.tx.length = 32 →
    (s.advance t).canStart p true = true → (s.port p).macOut = [] → (s.advance t).secyOn p = false →
    (s.ptx p).cur = none → (s.ptx p).held = none → s.basin.copies = [c] → c.port = p → c.queue < 8 →
    s.frame c.frame = some f → (s.advance t).headDrop c = none → (s.advance t).headState p c.queue c f = .yes →
    s.readFault f none = none →
    ∃ u, exec (.egressSchedule t p true none) s = .next u ∧
      (u.ptx p).cur = some ⟨c, 0, (s.advance t).time.raw, (s.advance t).preemptable p c.queue, 0, false⟩ ∧
      (∀ q, q ≠ p → u.ptx q = s.ptx q) ∧ u.basin.copies = s.basin.copies ∧ u.basin.frames = s.basin.frames ∧
      u.keys = s.keys ∧ u.power = s.power ∧ u.legacy = s.legacy ∧ u.access = s.access) ∧
  (∀ (s : State) (t p : Nat) (m : MacFrame) (ms : List MacFrame), s.awake = true → p < 20 → s.ports.length = 32 →
    (s.advance t).canStart p true = true → (s.port p).macOut = m :: ms → m.kind = 0 →
    (s.ptx p).cur = none → s.basin.copies = [] →
    ∃ u, exec (.egressSchedule t p true none) s = .next u ∧ (u.port p).macOut = ms ∧
      u.stat (0x3080 + p) 0x15 = (s.stat (0x3080 + p) 0x15 + 1) % 2 ^ 64 ∧ (∀ q, q ≠ p → u.port q = s.port q) ∧
      u = { s.advance t with
        dict := u.dict, ports := u.ports, basin := u.basin }) ∧
  (∀ (s : State) (t p : Nat) (x : TxFrame) (f : Frame), s.awake = true → p < 28 → s.basin.tx.length = 32 →
    (s.ptx p).cur = some x → s.frame x.copy.frame = some f → x.copy.cut = false →
    x.stomp = false →
    ∃ u, exec (.frameTransmitEnd t p) s = .next u ∧ (u.ptx p).cur = none ∧
      (u.ptx p).last = some ((s.advance t).copyBytes f x.copy ++ fcsBytes ((s.advance t).copyBytes f x.copy) false, false) ∧
      (∀ c ∈ u.basin.copies, c.id ≠ x.copy.id) ∧ u.stat (0x3080 + p) 0x10 = (s.stat (0x3080 + p) 0x10 + 1) % 2 ^ 64 ∧
      (∀ q, q ≠ p → u.ptx q = s.ptx q) ∧ u.keys = s.keys ∧ u.power = s.power ∧ u.legacy = s.legacy ∧ u.access = s.access) ∧
  (∀ (s : State) (t p : Nat), s.awake = true → p < 32 → (s.ptx p).cur = none →
    exec (.frameTransmitEnd t p) s = .next (s.advance t)) ∧
  (∀ (s : State) (t p q : Nat) (c : Copy) (cs : List Copy), s.awake = true → p < 32 → q < 8 → s.queueOf p q = c :: cs →
    c.launch ≠ 0 → c.launch ≤ (s.advance t).workingNs →
    ∃ u, exec (.launchTimeReached t p q) s = .next u ∧ u = (s.advance t).refreshCredit p q ∧
      u.basin.copies = s.basin.copies ∧
      u = { s.advance t with
        basin := u.basin }) ∧
  (∀ (s : State) (t p q : Nat) (c : Copy) (f : Frame), s.awake = true → p < 32 → q < 8 →
    s.queueOf p q = [c] → s.frame c.frame = some f → (s.advance t).aged c = false →
    c.launch ≠ 0 → (s.advance t).qparam p q 0x0C ≠ 0 → c.launch + (s.advance t).qparam p q 0x0C < (s.advance t).workingNs →
    c.stamp = none → s.stat (0x3400 + p) (q * 16 + 0x0D) < 0xFFFFFFFE →
    ∃ u, exec (.lateLimitExpired t p q) s = .next u ∧ (∀ x ∈ u.basin.copies, x.id ≠ c.id) ∧
      u.stat (0x3400 + p) (q * 16 + 0x0D) = s.stat (0x3400 + p) (q * 16 + 0x0D) + 1 ∧ u.keys = s.keys ∧
      u.power = s.power ∧ u.legacy = s.legacy ∧ u.access = s.access) ∧
  (∀ (s : State) (t : Nat) (c : Copy), s.awake = true → s.basin.copies = [c] → s.begun c = false → c.queue < 8 →
    (s.advance t).aged c = true →
    ∃ u, exec (.residenceSweep t) s = .next u ∧ u.basin.copies = [] ∧ u.keys = s.keys ∧ u.power = s.power ∧
      u.legacy = s.legacy ∧ u.access = s.access)

def Obligations.GatesFollowTheirLists : Prop :=
  (∀ (s : State) (t p x : Nat) (l : GateList), s.awake = true → p < 32 → s.basin.gates.length = 32 →
    (s.gate p).pending = some (l, x) → x ≤ (s.advance t).workingNs →
    ∃ u, exec (.gateListSwitch t false p) s = .next u ∧ (u.gate p).oper = some l ∧ (u.gate p).pending = none ∧
      (u.gate p).bad = none ∧ (u.gate p).switches = ((s.gate p).switches + 1) % 2 ^ 32 ∧
      (∀ q, q ≠ p → u.gate q = s.gate q) ∧
      u = { s.advance t with
        basin := u.basin }) ∧
  (∀ (s : State) (t n x : Nat) (l : GateList) (g : StreamGate), s.awake = true → n < 256 →
    kfind s.basin.streamGates n = some g → g.engine.pending = some (l, x) → x ≤ (s.advance t).workingNs →
    ∃ u, exec (.gateListSwitch t true n) s = .next u ∧
      kfind u.basin.streamGates n = some { g with engine := { g.engine with
        oper := some l, pending := none, bad := none, switches := (g.engine.switches + 1) % 2 ^ 32 } } ∧
      (∀ m, m ≠ n → kfind u.basin.streamGates m = kfind s.basin.streamGates m) ∧
      u = { s.advance t with
        basin := u.basin }) ∧
  (∀ (s : State) (t p x : Nat) (l : GateList), s.awake = true → p < 32 →
    (s.gate p).pending = some (l, x) → (s.advance t).workingNs < x →
    ∃ u, exec (.gateListSwitch t false p) s = .next u ∧ (∀ q, u.gate q = s.gate q) ∧
      u = { s.advance t with
        basin := u.basin }) ∧
  (∀ (s : State) (t p : Nat), s.awake = true → p < 32 → s.basin.tx.length = 32 → (s.ptx p).cur = none →
    ∃ u, exec (.gateEntryChange t p) s = .next u ∧
      (u.ptx p).hold = ((s.gate p).holdIn (s.advance t).workingNs && (s.ptx p).hold) ∧ (∀ q, q ≠ p → u.ptx q = s.ptx q) ∧
      u.basin.copies = s.basin.copies ∧
      u = { s.advance t with
        basin := u.basin }) ∧
  (∀ (s : State) (t p d : Nat), s.awake = true → p < 32 → s.basin.tx.length = 32 → (s.ptx p).cur = none →
    (s.gate p).untilHold (s.advance t).workingNs = some d → s.stat (0x3580 + p) 7 = 1 →
    d ≤ (s.advance t).reg (0x3500 + p) 0x16 →
    ∃ u, exec (.holdRequest t p) s = .next u ∧ (u.ptx p).hold = true ∧ (∀ q, q ≠ p → u.ptx q = s.ptx q) ∧
      u = ({ s.advance t with
        basin := { (s.advance t).basin with
          tx := u.basin.tx } } : State)) ∧
  (∀ (s : State) (t p n : Nat), s.awake = true → p < 32 → s.basin.gates.length = 32 →
    ∃ u, exec (.gateMemoryRewrite t p n false) s = .next u ∧ (u.gate p).bad = some n ∧ bitOf u.safety.latched 61 = true ∧
      (u.gate p).oper = (s.gate p).oper ∧ (∀ q, q ≠ p → u.gate q = s.gate q) ∧ u.keys = s.keys ∧ u.power = s.power ∧
      u.legacy = s.legacy ∧ u.access = s.access) ∧
  (∀ (s : State) (t p n : Nat), s.awake = true → p < 32 → s.basin.gates.length = 32 →
    ∃ u, exec (.gateMemoryRewrite t p n true) s = .next u ∧ (u.gate p).bad = none ∧ (u.gate p).oper = (s.gate p).oper ∧
      (∀ q, q ≠ p → u.gate q = s.gate q) ∧
      u = { s.advance t with
        basin := u.basin })

def Obligations.InputsAreOrdered : Prop :=
  (∀ (s : State) (t : Nat) (w : OrderUnit) (k : OKey) (x : InTransit) (rest : List InTransit), s.awake = true →
    s.follows = false → s.ord.units.length = 6 → takeFirst (sameInput w k) s.ord.transit = some (x, rest) →
    (s.orderUnit w).released ≤ k.epoch → (s.orderUnit w).buf.length < 256 →
    ∃ u, exec (.sortBufferArrival t w k) s = .next u ∧
      (u.orderUnit w).buf = insertByKey Buffered.key { x.inp with at_ := (s.advance t).time.raw } (s.orderUnit w).buf ∧
      u.ord.transit = rest ∧ (∀ v : Nat, v ≠ unitNum w → nth u.ord.units v ⟨w, [], 0, none⟩ = nth s.ord.units v ⟨w, [], 0, none⟩) ∧
      u = { s.advance t with ord := u.ord }) ∧
  (∀ (s : State) (t : Nat) (w : OrderUnit) (k : OKey) (x : InTransit) (rest : List InTransit), s.awake = true →
    s.follows = false → takeFirst (sameInput w k) s.ord.transit = some (x, rest) →
    (s.orderUnit w).released ≤ k.epoch → 256 ≤ (s.orderUnit w).buf.length →
    s.ord.heldBack.any (fun y => decide (y.queue = unitNum w) && decide (y.key = k)) = false →
    exec (.sortBufferArrival t w k) s = .next { s.advance t with ord := { s.ord with
      heldBack := s.ord.heldBack ++ [⟨unitNum w, k, (s.advance t).time.raw, false⟩] } }) ∧
  (∀ (s : State) (t : Nat) (w : OrderUnit) (k : OKey) (x : InTransit) (rest : List InTransit), s.awake = true →
    s.follows = false → takeFirst (sameInput w k) s.ord.transit = some (x, rest) →
    k.epoch < (s.orderUnit w).released → s.time.held = false →
    exec (.sortBufferArrival t w k) s = .next (((({ s.advance t with ord := { s.ord with
      transit := rest } } : State).letGo w k).runLate k x.inp.work).noteLate k)) ∧
  (∀ (s : State) (t e : Nat) (w : OrderUnit), s.awake = true → (s.advance t).time.orderNs < (e + 2) * 32 →
    exec (.orderingRelease t w e) s = .next (s.advance t)) ∧
  (∀ (s : State) (t e : Nat) (w : OrderUnit), s.awake = true → s.follows = false → s.ord.units.length = 6 → w ≠ .ford →
    w ≠ .saddle → (e + 2) * 32 ≤ (s.advance t).time.orderNs → (s.orderUnit w).released ≤ e →
    (s.orderUnit w).suspend = none → (∀ b ∈ (s.orderUnit w).buf, e < b.key.epoch) →
    ∃ u, exec (.orderingRelease t w e) s = .next u ∧ (u.orderUnit w).released = e + 1 ∧
      (u.orderUnit w).buf = (s.orderUnit w).buf ∧
      u = { s.advance t with ord := u.ord }) ∧
  (∀ (s : State) (t : Nat) (w : OrderUnit), s.awake = true → s.follows = false → (s.advance t).orderHeld = true →
    (s.orderUnit w).buf = [] →
    ∃ u, exec (.heldOrderRelease t w) s = .next u ∧ (u.orderUnit w).buf = [] ∧
      u = { s.advance t with ord := u.ord }) ∧
  (∀ (s : State) (t r : Nat) (w : OrderUnit), s.awake = true → (s.orderUnit w).suspend = some r →
    (s.advance t).time.raw < r → exec (.stepSuspendEnd t w) s = .next (s.advance t)) ∧
  (∀ (s : State) (t r : Nat) (w : OrderUnit), s.awake = true → (s.orderUnit w).suspend = some r →
    r ≤ (s.advance t).time.raw → 64 ≤ (s.advance t).time.orderNs →
    exec (.stepSuspendEnd t w) s = .next (orderingRelease w ((s.advance t).time.orderNs / 32 - 2)
      ((s.advance t).modUnit w (fun y => { y with suspend := none })))) ∧
  (∀ (s : State) (t src : Nat), s.awake = true →
    exec (.sourceKeyLimitWaitEnd t src) s = .next { s.advance t with ord := { s.ord with
      waits := s.ord.waits.filter (fun k => !(decide (k.src = src) && decide (k.epoch ≤ (s.advance t).keyEpoch))) } }) ∧
  (∀ (s : State) (t : Nat) (w : OrderUnit) (x : HeldSender), s.awake = true →
    s.ord.heldBack.filter (fun y => decide (y.queue = unitNum w)) = [x] →
    exec (.senderResume t w) s = .next ((s.advance t).arriveAt w x.key)) ∧
  (∀ (s : State) (t : Nat) (w : OrderUnit) (x : HeldSender), s.awake = true → x ∈ s.ord.heldBack → x.queue = unitNum w →
    x.told = false → x.since + 10000 < (s.advance t).time.raw →
    ∃ u, exec (.dcqWaitTimeout t w) s = .next u ∧ bitOf u.safety.latched 60 = true ∧
      (∀ y ∈ u.ord.heldBack, y.queue = unitNum w → y.since + 10000 < (s.advance t).time.raw → y.told = true) ∧
      u.ord.units = s.ord.units ∧ u.keys = s.keys ∧ u.power = s.power ∧ u.access = s.access) ∧
  (∀ (s : State) (t : Nat), s.awake = true → s.inStep = false → (s.advance t).passed ((s.ord.lastCheck / 65536 + 1) * 65536) = true →
    ∃ u, exec (.checkpoint t) s = .next u ∧ u.ord.lastCheck = (s.ord.lastCheck / 65536 + 1) * 65536 ∧
      u.time.forwardStep = false ∧ u.journal.imageAt = (s.ord.lastCheck / 65536 + 1) * 65536 ∧
      u.journal.image = s.dict.stat.filter (fun x => coveredCounter (x.1 / 256) (x.1 % 256)) ∧ u.ord.units = s.ord.units ∧
      u.ports = s.ports ∧ u.keys = s.keys ∧ u.power = s.power ∧ u.access = s.access)

def Obligations.BanksAuditsAndRewrites : Prop :=
  (∀ (s : State) (t b : Nat) (c : Caller), s.awake = true → c.iface ≠ .partner → b < 64 →
    (s.advance t).writeCheck c 0x4001 0x41 (toLE 1 b) = 0 → s.bankServes b = true → s.bankType b = 1 →
    s.basin.rebuild = none → s.basin.rebuildWait = [] → s.basin.spareUsed = false →
    ∃ u, exec (.bankRetire t c b) s = .next u ∧ u.accepted c = true ∧ u.basin.rebuild = some b ∧
      u.basin.frames = s.basin.frames ∧ u.basin.retired = s.basin.retired ∧ u.basin.retiring = s.basin.retiring ∧
      u.dict.settings = s.dict.settings ∧ u.keys = s.keys ∧ u.ports = s.ports ∧ u.power = s.power) ∧
  (∀ (s : State) (t b : Nat) (c : Caller), s.awake = true → c.iface ≠ .partner → b < 64 →
    (s.advance t).writeCheck c 0x4001 0x41 (toLE 1 b) = 0 → s.bankServes b = true → s.bankType b = 1 →
    s.basin.rebuild = none → s.basin.rebuildWait = [] → s.basin.spareUsed = true →
    ∃ u, exec (.bankRetire t c b) s = .next u ∧ u.accepted c = true ∧
      u.stat 0x4001 0x45 = s.stat 0x4001 0x45 ||| 1 ∧ u.basin = (s.advance t).basin) ∧
  (∀ (s : State) (t b : Nat), s.awake = true → b < 64 → s.basin.retiring = [b] →
    (∀ f ∈ s.basin.frames, ∀ c ∈ f.cells, c / 8192 ≠ b) →
    exec (.frameBankWalkDone t b) s = .next { s.advance t with basin := { (s.advance t).basin with
      retiring := [], retired := s.basin.retired ++ [b] } }) ∧
  (∀ (s : State) (t b : Nat), s.awake = true → s.basin.rebuild = some b →
    ∃ u, exec (.tableBankRebuildDone t) s = .next u ∧
      u.basin = { (s.advance t).basin with
        rebuild := none, rebuildWait := [], spareUsed := true, retired := s.basin.retired ++ [b] } ∧
      u.stat 0x4001 0x45 = (if s.basin.rebuildWait = [] then s.stat 0x4001 0x45 else s.stat 0x4001 0x45 ||| 1) ∧
      u = { s.advance t with basin := u.basin, dict := u.dict }) ∧
  (∀ (s : State) (t : Nat) (st dy : List (Nat × Nat)), s.awake = true →
    ∃ u, exec (.tableAuditPass t st dy) s = .next u ∧
      (∀ r, r ∈ u.basin.bad ↔ r ∈ s.basin.bad ∨ r ∈ st) ∧ (∀ r, r ∈ u.basin.badSlots ↔ r ∈ s.basin.badSlots ∨ r ∈ dy) ∧
      u = { s.advance t with basin := { (s.advance t).basin with bad := u.basin.bad, badSlots := u.basin.badSlots } }) ∧
  (∀ (s : State) (t tbl pos bank : Nat), s.awake = true → bank < 64 → (tbl, pos) ∈ s.basin.bad →
    ∃ u, exec (.staticEntryRewrite t tbl pos bank true) s = .next u ∧
      (∀ r, r ∈ u.basin.bad ↔ r ∈ s.basin.bad ∧ r ≠ (tbl, pos)) ∧
      u = { s.advance t with basin := { (s.advance t).basin with bad := u.basin.bad } }) ∧
  (∀ (s : State) (t tbl pos bank : Nat), s.awake = true → bank < 64 → (tbl, pos) ∈ s.basin.bad →
    kget (fun _ => 0) s.basin.second bank = 0 → 1 ≤ (s.advance t).time.raw / 1000000000 → 1 < (s.advance t).reg 0x4000 5 →
    ∃ u, exec (.staticEntryRewrite t tbl pos bank false) s = .next u ∧ u.basin.bad = s.basin.bad ∧
      u.stat 0x4001 0x43 = (s.stat 0x4001 0x43 + 1) % 2 ^ 64 ∧
      u.stat 0x4001 (1 + bank) = min 65535 (fieldOf (s.stat 0x4001 (1 + bank)) 31 16 + 1) * 65536 ∧
      bitOf u.safety.latched 63 = true ∧ u.basin.retired = s.basin.retired ∧ u.keys = s.keys ∧ u.legacy = s.legacy ∧
      u.dict.settings = s.dict.settings) ∧
  (∀ (s : State) (t r : Nat), s.awake = true → r < 8192 →
    ∃ u, exec (.ternaryRewrite t r true) s = .next u ∧ (∀ x, x ∈ u.basin.bad ↔ x ∈ s.basin.bad ∨ x = (0x5100, r)) ∧
      u = { s.advance t with basin := { (s.advance t).basin with bad := u.basin.bad } }) ∧
  (∀ (s : State) (t r : Nat), s.awake = true → r < 8192 →
    ∃ u, exec (.ternaryRewrite t r false) s = .next u ∧ (∀ x, x ∈ u.basin.bad ↔ x ∈ s.basin.bad ∧ x ≠ (0x5100, r)) ∧
      u = { s.advance t with basin := { (s.advance t).basin with bad := u.basin.bad } }) ∧
  (∀ (s : State) (t tbl slot : Nat), s.awake = true → (tbl, slot) ∈ s.basin.badSlots → (s.advance t).internalUp 31 = true →
    ∃ u, exec (.dynamicEntryFetch t tbl slot true) s = .next u ∧
      (∀ r, r ∈ u.basin.badSlots ↔ r ∈ s.basin.badSlots ∧ r ≠ (tbl, slot)) ∧
      u = { s.advance t with basin := { (s.advance t).basin with badSlots := u.basin.badSlots } }) ∧
  (∀ (s : State) (t slot : Nat), s.awake = true → (0x4101, slot) ∈ s.basin.badSlots →
    ∃ u, exec (.dynamicEntryFetch t 0x4101 slot false) s = .next u ∧ u.basin.fdb = kdel s.basin.fdb slot ∧
      (∀ r, r ∈ u.basin.badSlots ↔ r ∈ s.basin.badSlots ∧ r ≠ (0x4101, slot)) ∧
      u = { s.advance t with basin := { (s.advance t).basin with fdb := u.basin.fdb, badSlots := u.basin.badSlots } }) ∧
  (∀ (s : State) (t slot : Nat), s.awake = true → (0x6200, slot) ∈ s.basin.badSlots →
    ∃ u, exec (.sessionRefetchComplete t slot false) s = .next u ∧
      u.narrows = { s.narrows with sessions := kdel s.narrows.sessions slot } ∧
      (∀ r, r ∈ u.basin.badSlots ↔ r ∈ s.basin.badSlots ∧ r ≠ (0x6200, slot)) ∧
      u = { s.advance t with narrows := u.narrows, basin := { (s.advance t).basin with badSlots := u.basin.badSlots } }) ∧
  (∀ (s : State) (t : Nat), s.awake = true → s.basin.leaked = [] → (∀ f ∈ s.basin.frames, f.need = 0) →
    exec (.freelistAuditPass t [] []) s = .next ((s.advance t).countSeq 0x4020 2 32)) ∧
  (∀ (s : State) (t cell : Nat), s.awake = true → s.basin.leaked = [(cell, 1)] → (∀ f ∈ s.basin.frames, f.need = 0) →
    s.stat 0x4020 2 < 2 ^ 32 →
    ∃ u, exec (.freelistAuditPass t [] []) s = .next u ∧ u.basin.leaked = [] ∧
      u.stat 0x4020 3 = (s.stat 0x4020 3 + 1) % 2 ^ 64 ∧ u.stat 0x4020 4 = cell ∧
      u.stat 0x4020 2 = (s.stat 0x4020 2 + 1) % 2 ^ 32 ∧ u.basin.frames = s.basin.frames ∧ u.keys = s.keys ∧
      u.ports = s.ports ∧ u.dict.settings = s.dict.settings)

def Obligations.LedgerAndSlowPath : Prop :=
  (∀ (s : State) (t cause : Nat) (key : OKey), s.awake = true → s.journal.trigger = some (cause, key) →
    s.ledgerState = 1 →
    ∃ u, exec (.ledgerTrigger t) s = .next u ∧ u.journal = { s.journal with trigger := none } ∧
      u.stat 0x4400 0x0A = okeyNat key ∧ u.stat 0x4400 0x0B = cause ∧
      u.stat 0x4400 1 = (if (s.advance t).reg 0x4400 4 = 0 then 3 else 2) ∧
      u.basin.ledgerLeft = (s.advance t).reg 0x4400 4 ∧ u.basin.ledger = s.basin.ledger ∧
      u = { s.advance t with journal := u.journal, basin := u.basin, dict := u.dict }) ∧
  (∀ (s : State) (t cause : Nat) (key : OKey), s.awake = true → s.journal.trigger = some (cause, key) → s.ledgerState ≠ 1 →
    exec (.ledgerTrigger t) s = .next { s.advance t with journal := { s.journal with trigger := none } }) ∧
  (∀ (s : State) (t : Nat) (c : Caller), s.awake = true → c.iface ≠ .partner → s.ledgerState = 1 →
    (s.advance t).writeCheck c 0x4400 2 [2] = 0 →
    ∃ u, exec (.ledgerFreeze t c) s = .next u ∧ u.accepted c = true ∧ u.stat 0x4400 0x0B = 3 ∧
      u.stat 0x4400 1 = (if (s.advance t).reg 0x4400 4 = 0 then 3 else 2) ∧
      u.basin.ledgerLeft = (s.advance t).reg 0x4400 4 ∧ u.basin.ledger = s.basin.ledger ∧ u.keys = s.keys ∧
      u.ports = s.ports ∧ u.dict.settings = s.dict.settings) ∧
  (∀ (s : State) (t : Nat) (c : Caller), s.awake = true → c.iface ≠ .partner → s.ledgerServing ≠ 0 →
    (s.advance t).writeCheck c 0x4400 2 [1] = 0 →
    ∃ u, exec (.ledgerRestart t c) s = .next u ∧ u.accepted c = true ∧ u.basin.ledger = [] ∧ u.basin.ledgerLeft = 0 ∧
      u.stat 0x4400 1 = 1 ∧ u.journal.trigger = none ∧ u.basin.frames = s.basin.frames ∧ u.keys = s.keys ∧
      u.ports = s.ports ∧ u.dict.settings = s.dict.settings) ∧
  (∀ (s : State) (t : Nat) (d e : Datagram), s.awake = true → s.basin.datagrams = [d, e] →
    d.whole = false →
    d.since + (s.advance t).reg 0x5300 0x23 * 1000000 ≤ (s.advance t).time.raw →
    (e.whole = true ∨ (s.advance t).time.raw < e.since + (s.advance t).reg 0x5300 0x23 * 1000000) →
    ∃ u, exec (.fragmentReassemblyTimeout t) s = .next u ∧ u.basin.datagrams = [e] ∧
      u.stat 0x5400 0x16 = (s.stat 0x5400 0x16 + 1) % 2 ^ 64 ∧
      u = { s.advance t with basin := { (s.advance t).basin with datagrams := [e] }, dict := u.dict }) ∧
  (∀ (s : State) (t : Nat), s.awake = true →
    ((s.advance t).portUp 29 = false ∨ ∀ d ∈ s.basin.datagrams, d.whole = false) →
    exec (.datagramReinject t) s = .next (s.advance t)) ∧
  (∀ (s : State) (t : Nat) (d : Datagram) (rest : List Datagram), s.awake = true → (s.advance t).portUp 29 = true →
    s.follows = true → s.basin.datagrams = d :: rest → d.whole = true →
    uncontrolled (d.frame (typeOffset d.header + 2) (decide (beAt d.header (typeOffset d.header) 2 = 0x86DD))) = false →
    ∃ u, exec (.datagramReinject t) s = .next u ∧ u.basin.datagrams = rest ∧
      u.stat 0x5400 0x15 = (s.stat 0x5400 0x15 + 1) % 2 ^ 64 ∧ u.stat 0x9000 0x25 = (s.stat 0x9000 0x25 + 1) % 2 ^ 64 ∧
      u.basin.frames = s.basin.frames ∧ u.keys = s.keys) ∧
  (∀ (s : State) (t : Nat) (d : Datagram) (rest : List Datagram), s.awake = true → (s.advance t).portUp 29 = true →
    s.follows = false → s.basin.datagrams = d :: rest → d.whole = true →
    exec (.datagramReinject t) s = .next ((({ s.advance t with basin := { (s.advance t).basin with
      datagrams := rest } } : State).count64 0x5400 0x15 1).takeFrame 29 d.port 0x0300
        ⟨d.frame (typeOffset d.header + 2) (decide (beAt d.header (typeOffset d.header) 2 = 0x86DD)),
          (d.frame (typeOffset d.header + 2) (decide (beAt d.header (typeOffset d.header) 2 = 0x86DD))).length + 4,
          (s.advance t).time.raw, .none, false, none⟩ (s.advance t).time.raw 0 true)) ∧
  (∀ (s : State) (t : Nat) (handled : Bool) (f : ClusterFrame) (rest : List ClusterFrame), s.awake = true → s.basin.cluster = f :: rest →
    f.exc ≠ 0 →
    ∃ u, exec (.slowPathFrame t handled) s = .next u ∧ u.basin.cluster = rest ∧
      u.stat 0x5400 0x1A = (if handled then s.stat 0x5400 0x1A else (s.stat 0x5400 0x1A + 1) % 2 ^ 64) ∧
      u.basin.frames = s.basin.frames ∧ u.basin.datagrams = s.basin.datagrams ∧ u.keys = s.keys ∧ u.ports = s.ports ∧
      u.dict.settings = s.dict.settings)

def Obligations.ReadsAndWrites : Prop :=
  (∀ (s : State) (t idx sub : Nat) (c : Caller), s.awake = true → c.iface ≠ .partner → 0x5000 ≤ idx → idx < 0x7000 →
    isLong idx sub = false → groupRange idx sub = none → (s.advance t).readCheck c idx sub = 0 →
    ∃ u, exec (.read t c idx sub) s = .next u ∧
      u.replyOf c.iface = some ⟨c, 0, ((s.advance t).afterKey c 1 idx sub []).entryValue c idx sub,
        valueLen idx sub ((s.advance t).entryValue c idx sub)⟩ ∧
      u.dict.settings = s.dict.settings ∧ u.dict.rowOps = s.dict.rowOps ∧ u.dict.staging = s.dict.staging ∧
      u.keys = s.keys ∧ u.power = s.power ∧ u.ports = s.ports) ∧
  (∀ (s : State) (t idx sub : Nat) (c : Caller), s.awake = true → c.iface ≠ .partner → 0x5000 ≤ idx → idx < 0x7000 →
    groupRange idx sub = none → (s.advance t).readCheck c idx sub ≠ 0 →
    ∃ u, exec (.read t c idx sub) s = .next u ∧
      u.replyOf c.iface = some ⟨c, (s.advance t).readCheck c idx sub, 0, 0⟩ ∧ u.dict.settings = s.dict.settings ∧
      u.dict.rowOps = s.dict.rowOps ∧ u.dict.stat = s.dict.stat) ∧
  (∀ (s : State) (t idx sub : Nat) (c : Caller) (data : Bytes) (e : EntryDef), s.awake = true → c.iface ≠ .partner →
    (idx = 0x2004 ∧ sub = 9 ∨ 0x30C0 ≤ idx ∧ idx < 0x30D4 ∧ (sub = 9 ∨ sub = 0x0A)) → entryDef idx sub = some e →
    (s.advance t).writeCheck c idx sub data = 0 →
    (∀ x ∈ s.dict.settings, x.epoch < (s.advance t).keyEpoch + 4) →
    ∃ u, exec (.write t c idx sub data) s = .next u ∧ u.accepted c = true ∧
      (∀ d, u.regAt ((s.advance t).keyEpoch + 4 + d) (dkey idx sub) = leNat data) ∧
      (∀ d, d ≤ (s.advance t).keyEpoch + 3 → ∀ k, u.regAt d k = s.regAt d k) ∧
      (∀ k, k ≠ dkey idx sub → ∀ d, u.regAt d k = s.regAt d k) ∧ u.dict.rowOps = s.dict.rowOps ∧
      u.dict.staging = s.dict.staging ∧ u.keys = s.keys ∧ u.power = s.power ∧ u.ports = s.ports) ∧
  (∀ (s : State) (t idx sub : Nat) (c : Caller) (data : Bytes) (e : EntryDef), s.awake = true → c.iface ≠ .partner →
    0x5000 ≤ idx → idx < 0x7000 → isTable idx = false → entryDef idx sub = some e → e.ty ≠ .dom →
    (s.advance t).writeCheck c idx sub data ≠ 0 →
    ∃ u, exec (.write t c idx sub data) s = .next u ∧
      u.replyOf c.iface = some ⟨c, (s.advance t).writeCheck c idx sub data, 0, 0⟩ ∧ u.dict.settings = s.dict.settings ∧
      u.dict.rowOps = s.dict.rowOps ∧ u.dict.staging = s.dict.staging) ∧
  (∀ (s : State) (t idx sub : Nat) (c : Caller) (data : Bytes) (e : EntryDef), s.awake = true → c.iface ≠ .partner →
    0x5000 ≤ idx → idx < 0x7000 → isTable idx = false → entryDef idx sub = some e → e.ty ≠ .dom → e.acc = .rws →
    e.perIface = false → (s.advance t).writeCheck c idx sub data = 0 →
    ∃ u, exec (.write t c idx sub data) s = .next u ∧ u.accepted c = true ∧ u.dict.staging.state = .open_ ∧
      u.dict.staging.owner = some c ∧ StagedWork.value (dkey idx sub) (leNat data) ∈ u.dict.staging.recs ∧
      u.dict.settings = s.dict.settings ∧ u.dict.rowOps = s.dict.rowOps ∧ u.keys = s.keys ∧ u.power = s.power ∧
      u.ports = s.ports) ∧
  (∀ (s : State) (t : Nat) (a : Awaiting), s.awake = true → s.dict.awaiting = [a] → a.carry = .reply →
    (s.advance t).responseReady a = true →
    ∃ u, exec (.writeResponse t) s = .next u ∧ u.replyOf a.caller.iface = some ⟨a.caller, 0, a.value, 0⟩ ∧
      u.dict.awaiting = [] ∧ u.dict.settings = s.dict.settings ∧
      u = { s.advance t with dict := u.dict })

def Obligations.SegmentsAndDomains : Prop :=
  (∀ (s : State) (t idx sub len : Nat) (c : Caller), s.awake = true → c.iface ≠ .partner → isLong idx sub = true →
    (s.advance t).readCheck c idx sub = 0 → len ≤ ((s.advance t).longValue c idx sub).length →
    ∃ u, exec (.readSeg t c idx sub 0 len) s = .next u ∧
      u.replyOf c.iface = some ⟨c, 0, subBytes (leNat (((s.advance t).afterKey c 1 idx sub []).longValue c idx sub)) 0 len, len⟩ ∧
      u.dict.settings = s.dict.settings ∧ u.dict.domains = s.dict.domains ∧ u.keys = s.keys ∧ u.power = s.power ∧
      u.ports = s.ports) ∧
  (∀ (s : State) (t idx sub off len : Nat) (c : Caller), s.awake = true → c.iface ≠ .partner → isLong idx sub = true →
    (s.advance t).readCheck c idx sub = 0 → ((s.advance t).longValue c idx sub).length < off + len →
    ∃ u, exec (.readSeg t c idx sub off len) s = .next u ∧ u.replyOf c.iface = some ⟨c, 0x0E, 0, 0⟩ ∧
      u.dict.domains = s.dict.domains) ∧
  (∀ (s : State) (t idx sub : Nat) (c : Caller) (data : Bytes), s.awake = true → c.iface ≠ .partner →
    idx ≠ 0x1300 → idx ≠ 0xC000 →
    s.openWrite c (dkey idx sub) = none →
    ((s.advance t).afterKey c 3 idx sub (toBE 1 0 ++ toBE 4 0 ++ data)).segmentStatus c (s.advance t).keyEpoch idx sub data = 0 →
    ∃ u, exec (.writeSeg t c idx sub 0 data false) s = .next u ∧ u.replyOf c.iface = some ⟨c, 0, 0, data.length⟩ ∧
      u.openWrite c (dkey idx sub) = some ⟨c, dkey idx sub, data, (s.advance t).time.orderNs⟩ ∧
      u.dict.domains = s.dict.domains ∧ u.dict.settings = s.dict.settings ∧ u.keys = s.keys ∧ u.power = s.power ∧
      u.ports = s.ports) ∧
  (∀ (s : State) (t idx sub off : Nat) (c : Caller) (data : Bytes), s.awake = true → c.iface ≠ .partner →
    idx ≠ 0x1300 → idx ≠ 0xC000 → off ≠ 0 → s.openWrite c (dkey idx sub) = none →
    ∃ u, exec (.writeSeg t c idx sub off data false) s = .next u ∧ u.replyOf c.iface = some ⟨c, 0x0E, 0, 0⟩ ∧
      u.openWrite c (dkey idx sub) = none ∧ u.dict.domains = s.dict.domains) ∧
  (∀ (s : State) (t : Nat), s.awake = true →
    exec (.domainWriteTimeout t) s = .next { s.advance t with dict := { s.dict with
      domWrites := s.dict.domWrites.filter (fun w => decide ((s.advance t).time.orderNs < w.lastNs + 1000000000)) } }) ∧
  (∀ (s : State) (t : Nat) (c : Caller) (data : Bytes) (signed : Bool), s.awake = true → c.iface ≠ .partner →
    s.openWrite c (dkey 0x1300 0x10) = none →
    ((s.advance t).afterKey c 3 0x1300 0x10 (toBE 1 1 ++ toBE 4 0 ++ data)).segmentStatus c (s.advance t).keyEpoch 0x1300 0x10
      data = 0 → s.imageOf data signed = none →
    ∃ u, exec (.imageUpload t c 0 data signed) s = .next u ∧ u.accepted c = true ∧ u.stat 0x1300 0x11 = 0x0C ∧
      u.dict.candidate = s.dict.candidate ∧ u.dict.image = s.dict.image ∧ u.dict.settings = s.dict.settings) ∧
  (∀ (s : State) (t : Nat) (c : Caller) (data : Bytes) (signed : Bool) (i : DictImage), s.awake = true → c.iface ≠ .partner →
    s.openWrite c (dkey 0x1300 0x10) = none →
    ((s.advance t).afterKey c 3 0x1300 0x10 (toBE 1 1 ++ toBE 4 0 ++ data)).segmentStatus c (s.advance t).keyEpoch 0x1300 0x10
      data = 0 → s.imageOf data signed = some i →
    ∃ u, exec (.imageUpload t c 0 data signed) s = .next u ∧ u.accepted c = true ∧ u.stat 0x1300 0x11 = 0 ∧
      u.dict.candidate = some ⟨i, false⟩ ∧ u.dict.image = s.dict.image ∧ u.dict.settings = s.dict.settings) ∧
  (∀ (s : State) (t : Nat) (c : Caller) (x : Candidate), s.awake = true → c.iface ≠ .partner → s.dict.candidate = some x →
    (s.advance t).writeCheck c 0x1300 0x12 [1] = 0 →
    ∃ u, exec (.imageActivate t c) s = .next u ∧ u.accepted c = true ∧
      u.dict.candidate = some { x with marked := true } ∧ u.dict.image = s.dict.image ∧
      u.dict.settings = s.dict.settings ∧ u.keys = s.keys ∧ u.power = s.power ∧ u.ports = s.ports) ∧
  (∀ (s : State) (t : Nat) (c : Caller), s.awake = true → c.iface ≠ .partner → s.dict.candidate = none →
    (s.advance t).writeCheck c 0x1300 0x12 [1] = 0 →
    ∃ u, exec (.imageActivate t c) s = .next u ∧ u.replyOf c.iface = some ⟨c, 0x0B, 0, 0⟩ ∧ u.dict.candidate = none ∧
      u.dict.settings = s.dict.settings)

def Obligations.CommitsTakeEffectTogether : Prop :=
  (∀ (s : State) (t : Nat) (c : Caller), s.awake = true → c.iface ≠ .partner → s.dict.staging.state = .open_ →
    s.dict.staging.owner = some c → (s.advance t).writeCheck c 0x1300 1 [1] = 0 →
    ∃ u, exec (.discardStaging t c) s = .next u ∧ u.accepted c = true ∧ u.dict.staging.state = .empty ∧
      u.dict.staging.recs = [] ∧ u.dict.staging.owner = none ∧ u.dict.settings = s.dict.settings ∧
      u.dict.rowOps = s.dict.rowOps ∧ u.keys = s.keys ∧ u.power = s.power ∧ u.ports = s.ports) ∧
  (∀ (s : State) (t : Nat) (c : Caller), s.awake = true → c.iface ≠ .partner → s.dict.staging.state = .open_ →
    s.dict.staging.owner ≠ some c → (s.advance t).writeCheck c 0x1300 1 [1] = 0 →
    ∃ u, exec (.discardStaging t c) s = .next u ∧ u.replyOf c.iface = some ⟨c, 9, 0, 0⟩ ∧
      u.dict.staging = s.dict.staging ∧ u.dict.settings = s.dict.settings) ∧
  (∀ (s : State) (t : Nat) (c : Caller), s.awake = true → c.iface ≠ .partner → s.dict.staging.state = .open_ →
    s.dict.staging.owner = some c → (s.advance t).writeCheck c 0x1301 4 [1] = 0 → s.ownVal c 0x1301 1 = 0 →
    s.ownVal c 0x1301 2 = 0 → s.armingFault ((s.advance t).keyEpoch + 4) = none →
    ∃ u, exec (.executeCommit t c) s = .next u ∧ u.accepted c = true ∧ u.dict.staging.state = .armed ∧
      u.dict.staging.epoch = (s.advance t).keyEpoch + 4 ∧ u.dict.staging.recs = s.dict.staging.recs ∧
      u.dict.staging.result = 0 ∧ u.dict.settings = s.dict.settings ∧ u.dict.rowOps = s.dict.rowOps ∧ u.keys = s.keys ∧
      u.power = s.power ∧ u.ports = s.ports) ∧
  (∀ (s : State) (t n a : Nat) (c : Caller), s.awake = true → c.iface ≠ .partner → s.dict.staging.state = .open_ →
    s.dict.staging.owner = some c → (s.advance t).writeCheck c 0x1301 4 [1] = 0 → s.ownVal c 0x1301 1 = 0 →
    s.ownVal c 0x1301 2 = 0 → s.armingFault ((s.advance t).keyEpoch + 4) = some (n, a) →
    ∃ u, exec (.executeCommit t c) s = .next u ∧ u.replyOf c.iface = some ⟨c, n, 0, 0⟩ ∧
      u.dict.staging = { s.dict.staging with result := n, refused := a } ∧ u.dict.settings = s.dict.settings) ∧
  (∀ (s : State) (t : Nat), s.awake = true → s.dict.staging.state = .armed →
    s.dict.staging.epoch ≤ (s.advance t).keyEpoch →
    ∃ u, exec (.commitApply t) s = .next u ∧ u.dict.staging.state = .empty ∧ u.dict.staging.recs = [] ∧
      u.dict.staging.applied = (s.dict.staging.applied + 1) % 2 ^ 32 ∧
      u.dict.settings = (s.layStaged s.dict.staging.epoch s.dict.staging.armed).dict.settings ∧
      u.dict.rowOps = (s.layStaged s.dict.staging.epoch s.dict.staging.armed).dict.rowOps ∧ u.keys = s.keys ∧
      u.power = s.power) ∧
  (∀ (s : State) (t : Nat), s.awake = true → (s.dict.staging.state ≠ .armed ∨ (s.advance t).keyEpoch < s.dict.staging.epoch) →
    exec (.commitApply t) s = .next (s.advance t)) ∧
  (∀ (s : State) (t : Nat), s.awake = true →
    exec (.overlayWriteComplete t) s = .next { s.advance t with dict := { s.dict with
      overlay := s.dict.overlay.map (fun r => { r with done := true }) } })

def Obligations.TablesThroughTheirViews : Prop :=
  (∀ (s : State) (t tbl pos : Nat) (v : List Nat) (c : Caller), s.awake = true → isTable tbl = true → c.iface ≠ .partner →
    c.session < 16 → (s.advance t).opCheck c tbl 1 = 0 →
    ((s.advance t).opKeyed c tbl 1).tableFind (s.advance t).keyEpoch tbl (s.opRow c tbl) = some (pos, v) →
    ∃ u, exec (.lookup t c tbl) s = .next u ∧ u.accepted c = true ∧ u.ownVal c tbl 2 = 0 ∧ u.ownVal c tbl 5 = pos ∧
      u.dict.rowOps = s.dict.rowOps ∧ u.dict.staging = s.dict.staging ∧ u.dict.settings = s.dict.settings ∧
      u.basin = (s.advance t).basin ∧ u.narrows = s.narrows ∧ u.keys = s.keys ∧ u.power = s.power) ∧
  (∀ (s : State) (t tbl : Nat) (v : List Nat) (c : Caller), s.awake = true → isTable tbl = true → c.iface ≠ .partner →
    c.session < 16 → (s.advance t).opCheck c tbl 5 = 0 →
    ((s.advance t).opKeyed c tbl 5).tableAt (s.advance t).keyEpoch tbl (s.ownVal c tbl 5) = some v →
    ∃ u, exec (.readRow t c tbl) s = .next u ∧ u.accepted c = true ∧ u.ownVal c tbl 2 = 0 ∧
      u.ownVal c tbl 5 = s.ownVal c tbl 5 ∧
      u.dict.rowOps = s.dict.rowOps ∧ u.dict.staging = s.dict.staging ∧ u.dict.settings = s.dict.settings ∧
      u.basin = (s.advance t).basin ∧ u.narrows = s.narrows ∧ u.keys = s.keys ∧ u.power = s.power) ∧
  (∀ (s : State) (t tbl pos : Nat) (v : List Nat) (c : Caller), s.awake = true → isTable tbl = true → c.iface ≠ .partner →
    c.session < 16 → (s.advance t).opCheck c tbl 6 = 0 →
    ((s.advance t).opKeyed c tbl 6).tableNext (s.advance t).keyEpoch tbl (s.ownVal c tbl 5) = some (pos, v) →
    ∃ u, exec (.nextRow t c tbl) s = .next u ∧ u.accepted c = true ∧ u.ownVal c tbl 2 = 0 ∧ u.ownVal c tbl 5 = pos ∧
      u.dict.rowOps = s.dict.rowOps ∧ u.dict.staging = s.dict.staging ∧ u.dict.settings = s.dict.settings ∧
      u.basin = (s.advance t).basin ∧ u.narrows = s.narrows ∧ u.keys = s.keys ∧ u.power = s.power) ∧
  (∀ (s : State) (t tbl : Nat) (c : Caller), s.awake = true → isTable tbl = true → c.iface ≠ .partner →
    (s.advance t).opCheck c tbl 1 = 0 →
    ((s.advance t).opKeyed c tbl 1).tableFind (s.advance t).keyEpoch tbl (s.opRow c tbl) = none →
    ∃ u, exec (.lookup t c tbl) s = .next u ∧ u.replyOf c.iface = some ⟨c, 0x0F, 0, 0⟩ ∧
      u.dict.rowOps = s.dict.rowOps ∧ u.dict.staging = s.dict.staging ∧ u.dict.settings = s.dict.settings) ∧
  (∀ (s : State) (t tbl : Nat) (c : Caller), s.awake = true → isTable tbl = true → c.iface ≠ .partner →
    (s.advance t).opCheck c tbl 6 = 0 →
    ((s.advance t).opKeyed c tbl 6).tableNext (s.advance t).keyEpoch tbl (s.ownVal c tbl 5) = none →
    ∃ u, exec (.nextRow t c tbl) s = .next u ∧ u.replyOf c.iface = some ⟨c, 0x12, 0, 0⟩ ∧
      u.dict.rowOps = s.dict.rowOps ∧ u.dict.staging = s.dict.staging ∧ u.dict.settings = s.dict.settings) ∧
  (∀ (s : State) (t tbl : Nat) (c : Caller), s.awake = true → isTable tbl = true → isDynamic tbl = false →
    c.iface ≠ .partner → (s.advance t).opCheck c tbl 2 = 0 →
    posOfKey tbl (s.stagedRows (s.advance t).keyEpoch tbl) (s.opRow c tbl) = none →
    s.tableFull tbl (s.stagedRows (s.advance t).keyEpoch tbl) (s.opRow c tbl) = false →
    s.stagingFull (.rowOp tbl 2 (s.opRow c tbl)) = false →
    ∃ u, exec (.insert t c tbl) s = .next u ∧ u.accepted c = true ∧ u.dict.staging.owner = some c ∧
      u.dict.staging.recs = s.dict.staging.recs ++ [.rowOp tbl 2 (s.opRow c tbl)] ∧ u.dict.rowOps = s.dict.rowOps ∧
      u.dict.settings = s.dict.settings ∧ u.basin = (s.advance t).basin ∧ u.keys = s.keys ∧ u.power = s.power) ∧
  (∀ (s : State) (t tbl p : Nat) (c : Caller), s.awake = true → isTable tbl = true → isDynamic tbl = false →
    c.iface ≠ .partner → (s.advance t).opCheck c tbl 3 = 0 →
    posOfKey tbl (s.stagedRows (s.advance t).keyEpoch tbl) (s.opRow c tbl) = some p →
    s.stagingFull (.rowOp tbl 3 (s.opRow c tbl)) = false →
    ∃ u, exec (.replace t c tbl) s = .next u ∧ u.accepted c = true ∧ u.dict.staging.owner = some c ∧
      u.dict.staging.recs = s.dict.staging.recs ++ [.rowOp tbl 3 (s.opRow c tbl)] ∧ u.dict.rowOps = s.dict.rowOps ∧
      u.dict.settings = s.dict.settings ∧ u.basin = (s.advance t).basin ∧ u.keys = s.keys ∧ u.power = s.power) ∧
  (∀ (s : State) (t tbl p : Nat) (c : Caller), s.awake = true → isTable tbl = true → isDynamic tbl = false →
    c.iface ≠ .partner → (s.advance t).opCheck c tbl 4 = 0 →
    posOfKey tbl (s.stagedRows (s.advance t).keyEpoch tbl) (s.opRow c tbl) = some p →
    s.stagingFull (.rowOp tbl 4 (s.opRow c tbl)) = false →
    ∃ u, exec (.delete t c tbl) s = .next u ∧ u.accepted c = true ∧ u.dict.staging.owner = some c ∧
      u.dict.staging.recs = s.dict.staging.recs ++ [.rowOp tbl 4 (s.opRow c tbl)] ∧ u.dict.rowOps = s.dict.rowOps ∧
      u.dict.settings = s.dict.settings ∧ u.basin = (s.advance t).basin ∧ u.keys = s.keys ∧ u.power = s.power) ∧
  (∀ (s : State) (t tbl : Nat) (c : Caller), s.awake = true → isTable tbl = true → isDynamic tbl = false →
    c.iface ≠ .partner → (s.advance t).opCheck c tbl 7 = 0 → s.stagingFull (.rowOp tbl 7 []) = false →
    ∃ u, exec (.clear t c tbl) s = .next u ∧ u.accepted c = true ∧ u.dict.staging.owner = some c ∧
      u.dict.staging.recs = s.dict.staging.recs ++ [.rowOp tbl 7 []] ∧ u.dict.rowOps = s.dict.rowOps ∧
      u.dict.settings = s.dict.settings ∧ u.basin = (s.advance t).basin ∧ u.keys = s.keys ∧ u.power = s.power) ∧
  (∀ (s : State) (t tbl p : Nat) (c : Caller), s.awake = true → isTable tbl = true → isDynamic tbl = false →
    c.iface ≠ .partner → (s.advance t).opCheck c tbl 2 = 0 →
    posOfKey tbl (s.stagedRows (s.advance t).keyEpoch tbl) (s.opRow c tbl) = some p →
    ∃ u, exec (.insert t c tbl) s = .next u ∧ u.replyOf c.iface = some ⟨c, 0x11, 0, 0⟩ ∧
      u.dict.staging = s.dict.staging ∧ u.dict.rowOps = s.dict.rowOps) ∧
  (∀ (s : State) (t tbl : Nat) (c : Caller), s.awake = true → isTable tbl = true → isDynamic tbl = false →
    c.iface ≠ .partner → (s.advance t).opCheck c tbl 4 = 0 →
    posOfKey tbl (s.stagedRows (s.advance t).keyEpoch tbl) (s.opRow c tbl) = none →
    ∃ u, exec (.delete t c tbl) s = .next u ∧ u.replyOf c.iface = some ⟨c, 0x0F, 0, 0⟩ ∧
      u.dict.staging = s.dict.staging ∧ u.dict.rowOps = s.dict.rowOps) ∧
  (∀ (s : State) (t : Nat) (c : Caller), s.awake = true → c.iface ≠ .partner → (s.advance t).opCheck c 0x4200 3 = 0 →
    overlayBytes (rowBytes 0x4200) ≤ s.overlayFree →
    s.keyStatus 0x4200 3 (s.rowsAt ((s.advance t).keyEpoch + 4) 0x4200) (s.opRow c 0x4200) = 0 →
    ∃ u, exec (.replace t c 0x4200) s = .next u ∧ u.accepted c = true ∧
      (⟨(s.advance t).keyEpoch + 4, (s.advance t).keyEpoch, ifaceSource c.iface, 0x4200, rowSub (s.opRow c 0x4200) 6,
        some (s.opRow c 0x4200)⟩ : RowOp) ∈ u.dict.rowOps ∧
      u.dict.staging = s.dict.staging ∧ u.dict.settings = s.dict.settings ∧ u.basin = (s.advance t).basin ∧
      u.keys = s.keys ∧ u.power = s.power) ∧
  (∀ (s : State) (t : Nat) (c : Caller), s.awake = true → c.iface ≠ .partner → (s.advance t).opCheck c 0x6200 7 = 0 →
    ∃ u, exec (.clear t c 0x6200) s = .next u ∧ u.accepted c = true ∧
      u.narrows.sessions = s.narrows.sessions.map (fun x => if x.2.gone.isNone then (x.1, { x.2 with
        gone := some ((s.advance t).keyEpoch + 4) }) else x) ∧
      u.narrows.buckets = s.narrows.buckets ∧ u.dict.staging = s.dict.staging ∧ u.dict.rowOps = s.dict.rowOps ∧
      u.basin = (s.advance t).basin ∧ u.keys = s.keys ∧ u.power = s.power)

def Obligations.SessionsOpenAndClose : Prop :=
  (∀ (s : State) (t slot n : Nat) (nonce : Bytes), s.awake = true → nonce.length = 16 → s.access.sessions.length = 8 →
    (s.advance t).slotUsable slot 0 0 = true → s.freeSession = some n →
    ∃ u, exec (.sessionOpen t slot nonce) s = .next u ∧
      u.session n = ⟨1, true, slot, 0, 0, (s.advance t).time.orderNs, 0, beNat nonce, s.random % 2 ^ 128,
        (s.advance t).time.orderNs + 1000000000, 0, 1, 0⟩ ∧
      (∀ m, m ≠ n → 1 ≤ m → u.session m = s.session m) ∧ u.fresh = s.fresh + 1 ∧
      u.replyOf .host = some ⟨⟨.host, n⟩, 0, leNat (toBE 16 (s.random % 2 ^ 128)), 16⟩ ∧
      u.dict.settings = s.dict.settings ∧ u.keys = s.keys ∧ u.power = s.power ∧ u.ports = s.ports) ∧
  (∀ (s : State) (t slot : Nat) (nonce : Bytes), s.awake = true → nonce.length = 16 →
    (s.advance t).slotUsable slot 0 0 = true → s.freeSession = none →
    ∃ u, exec (.sessionOpen t slot nonce) s = .next u ∧ u.replyOf .host = some ⟨⟨.host, 0⟩, 9, 0, 0⟩ ∧
      u.access = s.access ∧ u.fresh = s.fresh) ∧
  (∀ (s : State) (t n : Nat), s.awake = true → 1 ≤ n → n ≤ 8 → s.access.sessions.length = 8 →
    (s.session n).state = 1 → (s.session n).host = true → (s.advance t).time.orderNs ≤ (s.session n).dueNs →
    (s.advance t).slotUsable (s.session n).slot 0 0 = true →
    ∃ u, exec (.sessionProof t n (s.expectedProof n)) s = .next u ∧
      u.session n = { s.session n with state := 2, idleNs := (s.advance t).time.orderNs } ∧
      (∀ m, m ≠ n → 1 ≤ m → u.session m = s.session m) ∧
      u.replyOf .host = some ⟨⟨.host, n⟩, 0, (s.advance t).reg 0x1020 2, 4⟩ ∧ u.dict.settings = s.dict.settings ∧
      u.keys = s.keys ∧ u.power = s.power ∧ u.ports = s.ports) ∧
  (∀ (s : State) (t n : Nat) (mac : Bytes), s.awake = true → (n = 0 ∨ 8 < n ∨ (s.session n).state ≠ 1) →
    ∃ u, exec (.sessionProof t n mac) s = .next u ∧ u.replyOf .host = some ⟨⟨.host, n⟩, 7, 0, 0⟩ ∧ u.access = s.access ∧
      u.dict.settings = s.dict.settings ∧ u.keys = s.keys ∧ u.power = s.power) ∧
  (∀ (s : State) (t : Nat) (c : Caller), s.awake = true → c.iface ≠ .partner → s.access.sessions.length = 8 →
    (s.advance t).sessionLive c (s.advance t).keyEpoch = true →
    ∃ u, exec (.sessionClose t c) s = .next u ∧ u.replyOf c.iface = some ⟨c, 0, 0, 0⟩ ∧
      u.session c.session = Session.free ∧ (∀ m, m ≠ c.session → 1 ≤ m → u.session m = s.session m) ∧
      u.dict.settings = s.dict.settings ∧ u.keys = s.keys ∧ u.power = s.power ∧ u.ports = s.ports) ∧
  (∀ (s : State) (t : Nat) (c : Caller), s.awake = true → c.iface ≠ .partner → c.session = 0 →
    ∃ u, exec (.nop t c) s = .next u ∧ u.replyOf c.iface = some ⟨c, 0, 0, 0⟩ ∧ u.access = s.access ∧
      u.dict.settings = s.dict.settings ∧ u.dict.stat = s.dict.stat ∧ u.keys = s.keys ∧ u.power = s.power ∧
      u.ports = s.ports) ∧
  (∀ (s : State) (t n : Nat) (c : Caller), s.awake = true → c.iface ≠ .partner → 1 ≤ n → n ≤ 8 → s.access.sessions.length = 8 →
    (s.advance t).writeCheck c 0x1020 6 (toLE 1 n) = 0 → (s.session n).state ≠ 0 →
    ∃ u, exec (.closeSession t c n) s = .next u ∧ u.session n = Session.free ∧ u.accepted c = true ∧
      (∀ m, m ≠ n → m ≠ c.session → 1 ≤ m → u.session m = s.session m) ∧ u.dict.settings = s.dict.settings ∧
      u.keys = s.keys ∧ u.power = s.power ∧ u.ports = s.ports) ∧
  (∀ (s : State) (t n : Nat), s.awake = true → 1 ≤ n → n ≤ 8 → s.access.sessions.length = 8 → (s.session n).state = 2 →
    (s.session n).idleNs + (s.advance t).reg 0x1020 2 * 1000000 < (s.advance t).time.orderNs →
    ∃ u, exec (.sessionIdleTimeout t n) s = .next u ∧ u.session n = Session.free ∧
      (∀ m, m ≠ n → 1 ≤ m → u.session m = s.session m) ∧ u.dict.settings = s.dict.settings ∧
      u.dict.domWrites = s.dict.domWrites.filter (fun w => decide (w.caller.session ≠ n)) ∧
      u = { s.advance t with dict := u.dict, access := u.access }) ∧
  (∀ (s : State) (t n : Nat), s.awake = true → 1 ≤ n → n ≤ 8 → s.access.sessions.length = 8 → (s.session n).state = 1 →
    (s.session n).dueNs < (s.advance t).time.orderNs →
    ∃ u, exec (.openProofTimeout t n) s = .next u ∧ u.session n = Session.free ∧
      (∀ m, m ≠ n → 1 ≤ m → u.session m = s.session m) ∧
      u = { s.advance t with access := u.access }) ∧
  (∀ (s : State) (t e : Nat), s.awake = true → s.access.lockout = some e → e ≤ (s.advance t).time.orderNs →
    exec (.dapLockoutEnd t) s = .next { s.advance t with access := { s.access with lockout := none } })

def Obligations.ManagementOverEthernet : Prop :=
  (∀ (s : State) (t : Nat) (d : DapDatagram), s.awake = true → d.magic ≠ 0x4F56 →
    exec (.dapRequest t d) s = .next ((s.advance t).count64 0x1020 4 1) ∧
    exec (.openRequest t d) s = .next ((s.advance t).count64 0x1020 4 1) ∧
    exec (.openProof t d) s = .next ((s.advance t).count64 0x1020 4 1)) ∧
  (∀ (s : State) (t n : Nat) (d : DapDatagram), s.awake = true → d.magic = 0x4F56 → d.version = 1 → d.kind = 3 → d.len ≤ 1280 →
    20 ≤ d.plain.length → s.access.lockout = none → s.access.sessions.length = 8 →
    (s.advance t).slotUsable (byteAt d.plain 0) 0 0 = true → s.freeSession = some n → s.waitsOn .mgmt = false →
    ∃ u, exec (.openRequest t d) s = .next u ∧
      u.session n = ⟨1, false, byteAt d.plain 0, d.ip, d.port, (s.advance t).time.orderNs, 0, beAt d.plain 4 16,
        s.random % 2 ^ 128, (s.advance t).time.orderNs + 1000000000, d.seq, 1, 1⟩ ∧
      u.access.dapOut = s.access.dapOut ++ [⟨4, n, 0, toBE 16 (s.random % 2 ^ 128)⟩] ∧ u.fresh = s.fresh + 1 ∧
      (∀ m, m ≠ n → 1 ≤ m → u.session m = s.session m) ∧ u.dict = s.dict ∧ u.keys = s.keys ∧ u.power = s.power) ∧
  (∀ (s : State) (t n : Nat) (d : DapDatagram), s.awake = true → d.magic = 0x4F56 → d.version = 1 → d.kind = 5 → d.len ≤ 1280 →
    d.sid = n → s.access.sessions.length = 8 → s.fromPeer n d = true → (s.session n).state = 1 →
    (s.advance t).time.orderNs ≤ (s.session n).dueNs → (s.advance t).slotUsable (s.session n).slot 0 0 = true →
    d.plain = s.expectedProof n → s.waitsOn .mgmt = false →
    ∃ u, exec (.openProof t d) s = .next u ∧ (u.session n).state = 2 ∧
      (u.session n).idleNs = (s.advance t).time.orderNs ∧
      u.access.dapOut = s.access.dapOut ++ [⟨6, n, (s.session n).txSeq, toBE 4 ((s.advance t).reg 0x1020 2)⟩] ∧
      (∀ m, m ≠ n → 1 ≤ m → u.session m = s.session m) ∧ u.dict = s.dict ∧ u.keys = s.keys ∧ u.power = s.power) ∧
  (∀ (s : State) (t n tag : Nat) (d : DapDatagram), s.awake = true → d.magic = 0x4F56 → d.version = 1 → d.kind = 1 →
    d.len ≤ 1280 → d.sid = n → s.access.sessions.length = 8 → s.fromPeer n d = true → d.tagOk = true → tag < 256 →
    (s.advance t).sessionLive ⟨.mgmt, n⟩ (s.advance t).keyEpoch = true →
    d.plain = recordBytes ⟨8, tag, 0, 0, 0, 0, [], 0⟩ 0 0 [] → s.waitsOn .mgmt = false →
    ∃ u, exec (.dapRequest t d) s = .next u ∧
      u.access.dapOut = s.access.dapOut ++ [⟨2, n, (s.session n).txSeq, recordBytes ⟨8, tag, 0, 0, 0, 0, [], 0⟩ 0 0 []⟩] ∧
      (u.session n).txSeq = (s.session n).txSeq + 1 ∧ (u.session n).stale d.seq = true ∧
      (∀ m, m ≠ n → 1 ≤ m → u.session m = s.session m) ∧ u.dict.settings = s.dict.settings ∧ u.keys = s.keys ∧
      u.power = s.power) ∧
  (∀ (s : State) (t : Nat) (d : DapDatagram), s.awake = true → d.kind = 1 → d.tagOk = false →
    exec (.dapRequest t d) s = .next ((s.advance t).count64 0x1020 4 1))

def Obligations.CanAndPartnerRequests : Prop :=
  (∀ (s : State) (t bus ident : Nat) (data : Bytes), s.awake = true → bus < 24 →
    ((s.advance t).reg 0x1010 5 ≠ bus ∨ ident ≠ (s.advance t).reg 0x1010 7 % 2048 ∨ data.length ≠ 8) →
    exec (.sdoRequest t bus ident data) s = .next (s.advance t)) ∧
  (∀ (s : State) (t bus ident : Nat) (data : Bytes), s.awake = true → bus < 24 → (s.advance t).reg 0x1010 5 = bus →
    ident = (s.advance t).reg 0x1010 7 % 2048 → data.length = 8 → s.follows = false → s.access.sdo = none →
    byteAt data 0 / 32 = 0 → s.waitsOn .can = false →
    ∃ u, exec (.sdoRequest t bus ident data) s = .next u ∧
      u.access.sdoOut = s.access.sdoOut ++ [toLE 1 0x80 ++ toLE 2 (leAt data 1 2) ++ toLE 1 (byteAt data 3) ++ toLE 4 0x05040001] ∧
      u = { s.advance t with access := u.access }) ∧
  (∀ (s : State) (t bus ident : Nat) (data : Bytes), s.awake = true → bus < 24 → (s.advance t).reg 0x1010 5 = bus →
    ident = (s.advance t).reg 0x1010 7 % 2048 → data.length = 8 → s.follows = false →
    byteAt data 0 = 0x21 → s.waitsOn .can = false →
    ∃ u, exec (.sdoRequest t bus ident data) s = .next u ∧
      u.access.sdo = some ⟨true, leAt data 1 2, byteAt data 3, [], 0, false, (s.advance t).time.orderNs⟩ ∧
      u.access.sdoOut = s.access.sdoOut ++ [toLE 1 0x60 ++ slice data 1 3 ++ List.replicate 4 0] ∧
      u.access.sessions = s.access.sessions ∧ u = { s.advance t with access := u.access }) ∧
  (∀ (s : State) (t : Nat) (x : SdoTransfer), s.awake = true → s.access.sdo = some x → s.follows = false →
    x.lastNs + (s.advance t).reg 0x1010 9 * 1000000 ≤ (s.advance t).time.orderNs → s.waitsOn .can = false →
    ∃ u, exec (.sdoSegmentTimeout t) s = .next u ∧ u.access.sdo = none ∧
      u.access.sdoOut = s.access.sdoOut ++ [toLE 1 0x80 ++ toLE 2 x.idx ++ toLE 1 x.sub ++ toLE 4 0x05040000] ∧
      u = { s.advance t with access := u.access }) ∧
  (∀ (s : State) (t : Nat) (x : SdoTransfer), s.awake = true → s.access.sdo = some x →
    (s.advance t).time.orderNs < x.lastNs + (s.advance t).reg 0x1010 9 * 1000000 →
    exec (.sdoSegmentTimeout t) s = .next (s.advance t)) ∧
  (∀ (s : State) (t : Nat) (r : OpRecord) (m : LinkMsg), s.awake = true →
    s.elnar.received.find? (fun m => decide (m.cls = 4)) = some m → m.kind = 1 → m.body.drop 20 = requestBytes r →
    s.servesPartner = true → s.waitsOn .partner = false → r.op = 8 → r.flags = 0 →
    ∃ u, exec (.partnerRequest t r) s = .next u ∧
      u.elnar.classes = (s.sendMsg 5 0x81 0 (doneBody ⟨0x81, byteAt m.body 1, 0, []⟩)).elnar.classes ∧
      u.elnar.received.length + 1 = s.elnar.received.length ∧ u.dict.settings = s.dict.settings ∧ u.keys = s.keys ∧
      u.power = s.power) ∧
  (∀ (s : State) (t : Nat) (r : OpRecord) (m : LinkMsg), s.awake = true →
    s.elnar.received.find? (fun m => decide (m.cls = 4)) = some m → m.kind = 1 → m.body.drop 20 = requestBytes r →
    s.servesPartner = false → s.waitsOn .partner = false →
    ∃ u, exec (.partnerRequest t r) s = .next u ∧
      u.elnar.classes = (s.sendMsg 5 0x81 0 (doneBody ⟨0x81, byteAt m.body 1, 0x0D, []⟩)).elnar.classes ∧
      u.elnar.received.length + 1 = s.elnar.received.length ∧ u.dict.settings = s.dict.settings ∧ u.keys = s.keys ∧
      u.power = s.power ∧ u.access = s.access)

def Obligations.CanControllersSendAndReceive : Prop :=
  (∀ (s : State) (t n tec rec_ : Nat) (f : BusFrame), s.awake = true → n < 24 → (s.saddle.role = .disabled ∨ s.saddle.role = .solo) →
    (s.advance t).canRuns n = true → (s.advance t).formatOn n f = true →
    (s.advance t).drives (outCan n) = true → (s.advance t).canAccepts n ((s.advance t).canFrame n f) = true →
    (s.advance t).regAt ((s.advance t).nextKey (0x0100 + n)).epoch (dkey 0x6000 1) = 0 →
    ∃ u, exec (.canFrameReceived t n f 0 false tec rec_) s = .next u ∧
      u.stat (0x7000 + n) 0x30 = (s.stat (0x7000 + n) 0x30 + 1) % 2 ^ 64 ∧ u.stat (0x7000 + n) 0x21 = min tec 255 ∧
      u.stat (0x7000 + n) 0x22 = min rec_ 255 ∧ u.stat (0x7000 + n) 0x20 = (if 128 ≤ tec ∨ 128 ≤ rec_ then 3 else 2) ∧
      u.ord.transit = s.ord.transit ++ [⟨.ford, ⟨(s.advance t).nextKey (0x0100 + n), (s.advance t).time.raw,
        .bus { f with kind := 1, bus := n, stamp := f.stamp - (s.advance t).reg (0x7000 + n) 0x14 }⟩⟩] ∧
      u = { s.advance t with dict := u.dict, ord := u.ord }) ∧
  (∀ (s : State) (t n tec rec_ : Nat) (f : BusFrame), s.awake = true → n < 24 →
    (s.advance t).canRuns n = true → (s.advance t).formatOn n f = true →
    (s.advance t).canAccepts n ((s.advance t).canFrame n f) = false →
    ∃ u, exec (.canFrameReceived t n f 0 false tec rec_) s = .next u ∧
      u.stat (0x7000 + n) 0x31 = (s.stat (0x7000 + n) 0x31 + 1) % 2 ^ 64 ∧
      u.stat (0x7000 + n) 0x30 = s.stat (0x7000 + n) 0x30 ∧ u = { s.advance t with dict := u.dict }) ∧
  (∀ (s : State) (t n fault tec rec_ : Nat) (partner : Bool) (f : BusFrame), s.awake = true → n < 24 →
    (s.advance t).canRuns n = true → (s.advance t).formatOn n f = false →
    exec (.canFrameReceived t n f fault partner tec rec_) s = .next ((s.advance t).count64 (0x7000 + n) 0x3A 1)) ∧
  (∀ (s : State) (t n tec rec_ : Nat) (partner : Bool) (f : BusFrame), s.awake = true → n < 24 →
    (s.advance t).canRuns n = true → (s.advance t).formatOn n f = true →
    (s.advance t).drives (outCan n) = true →
    ∃ u, exec (.canFrameReceived t n f 1 partner tec rec_) s = .next u ∧
      u.stat (0x7000 + n) 0x37 = (s.stat (0x7000 + n) 0x37 + 1) % 2 ^ 64 ∧
      u.stat (0x7000 + n) 0x39 = (s.stat (0x7000 + n) 0x39 + 1) % 2 ^ 64 ∧ u.stat (0x7000 + n) 0x21 = min tec 255 ∧
      u = { s.advance t with dict := u.dict }) ∧
  (∀ (s : State) (t n : Nat) (x : CanEntry), s.awake = true → n < 24 → s.legacy.can.length = 24 →
    s.power.phase ≠ .entering → (s.advance t).canRuns n = true →
    (s.advance t).drives (outCan n) = true → (s.advance t).handing (outCan n) = false →
    (s.can n).queue.any CanEntry.started = false → (s.advance t).reg (0x7000 + n) 0x0E = 0 →
    (s.can n).queue.Nodup → x ∈ (s.can n).queue →
    (∀ y ∈ (s.can n).queue, y = x ∨ arbitration x.frame < arbitration y.frame) →
    ∃ u, exec (.canTransmitOffer t n) s = .next u ∧
      (u.can n).queue = (s.can n).queue.map (fun y => if y = x then { y with started := true } else y) ∧
      (∀ m, m ≠ n → u.can m = s.can m) ∧ u = { s.advance t with legacy := u.legacy, dict := u.dict }) ∧
  (∀ (s : State) (t n stamp tec rec_ : Nat) (x : CanEntry), s.awake = true → n < 24 → s.legacy.can.length = 24 →
    s.saddle.enabled = false → s.saddle.handovers = [] →
    (s.can n).queue.find? CanEntry.started = some x →
    (s.advance t).canRuns n = true → (s.advance t).reg (0x7000 + n) 0x0F ≠ 1 →
    ∃ u, exec (.canTransmitComplete t n 0 stamp tec rec_) s = .next u ∧
      (u.can n).queue = (s.can n).queue.filter (fun y => decide (y ≠ x)) ∧
      u.stat (0x7000 + n) 0x32 = (s.stat (0x7000 + n) 0x32 + 1) % 2 ^ 64 ∧ (∀ m, m ≠ n → u.can m = s.can m) ∧
      u = { s.advance t with legacy := u.legacy, dict := u.dict }) ∧
  (∀ (s : State) (t n stamp tec rec_ : Nat) (x : CanEntry), s.awake = true → n < 24 → s.legacy.can.length = 24 →
    s.saddle.handovers = [] → (s.can n).queue.find? CanEntry.started = some x →
    (s.advance t).canRuns n = true →
    ∃ u, exec (.canTransmitComplete t n 1 stamp tec rec_) s = .next u ∧ (u.can n).queue.length = (s.can n).queue.length ∧
      u.stat (0x7000 + n) 0x38 = (s.stat (0x7000 + n) 0x38 + 1) % 2 ^ 64 ∧ (∀ m, m ≠ n → u.can m = s.can m) ∧
      u = { s.advance t with legacy := u.legacy, dict := u.dict }) ∧
  (∀ (s : State) (t n : Nat), s.awake = true → n < 24 → s.legacy.can.length = 24 →
    (s.advance t).canRuns n = true → (s.advance t).drives (outCan n) = true →
    bitOf ((s.advance t).reg (0x7000 + n) 9) 7 = false →
    ∃ u, exec (.busOff t n) s = .next u ∧ u.stat (0x7000 + n) 0x20 = 4 ∧
      u.stat (0x7000 + n) 0x36 = (s.stat (0x7000 + n) 0x36 + 1) % 2 ^ 64 ∧
      (u.can n).queue = (s.can n).queue.map (fun x => { x with started := false }) ∧
      (u.can n).since = (s.advance t).time.raw ∧
      ((s.can n).forced = false → (s.advance t).reg (0x7000 + n) 0x0B = 0 → (u.can n).wait =
        (if (s.advance t).reg (0x7000 + n) 9 % 4 = 2 then .command
         else if (s.advance t).reg (0x7000 + n) 9 % 4 = 1 then .delay else .sequence)) ∧
      ((s.can n).forced = true → (u.can n).wait = .command) ∧ bitOf u.safety.latched (67 + n) = true ∧
      (∀ m, m ≠ n → u.can m = s.can m) ∧ u.dict.settings = s.dict.settings ∧ u.keys = s.keys ∧ u.ports = s.ports) ∧
  (∀ (s : State) (t n : Nat), s.awake = true → n < 24 → s.legacy.can.length = 24 → (s.can n).wait = .delay →
    (s.can n).since + (s.advance t).reg (0x7000 + n) 0x0A * 1000000 ≤ (s.advance t).time.raw →
    ∃ u, exec (.busOffDelayExpired t n) s = .next u ∧ u.can n = { s.can n with wait := .sequence } ∧
      (∀ m, m ≠ n → u.can m = s.can m) ∧ u = { s.advance t with legacy := u.legacy }) ∧
  (∀ (s : State) (t n : Nat) (c : Caller), s.awake = true → n < 24 → c.iface ≠ .partner → s.legacy.can.length = 24 →
    s.stat (0x7000 + n) 0x20 = 4 → (s.advance t).writeCheck c (0x7000 + n) 0x0C [1] = 0 →
    ∃ u, exec (.recover t c n) s = .next u ∧ u.accepted c = true ∧
      u.can n = { s.can n with wait := .sequence, forced := false } ∧ (∀ m, m ≠ n → u.can m = s.can m) ∧
      u.dict.settings = s.dict.settings ∧ u.keys = s.keys ∧ u.power = s.power ∧ u.ports = s.ports) ∧
  (∀ (s : State) (t n : Nat) (c : Caller), s.awake = true → n < 24 → c.iface ≠ .partner → s.stat (0x7000 + n) 0x20 ≠ 4 →
    (s.advance t).writeCheck c (0x7000 + n) 0x0C [1] = 0 →
    ∃ u, exec (.recover t c n) s = .next u ∧ u.replyOf c.iface = some ⟨c, 0x0B, 0, 0⟩ ∧ u.legacy = s.legacy ∧
      u.dict.settings = s.dict.settings) ∧
  (∀ (s : State) (t n : Nat), s.awake = true → n < 24 → s.legacy.can.length = 24 →
    (s.can n).wait = .sequence → (s.advance t).drives (outCan n) = true →
    ∃ u, exec (.busOffRecovered t n) s = .next u ∧ u.can n = { s.can n with wait := .none } ∧
      u.stat (0x7000 + n) 0x20 = 2 ∧ u.stat (0x7000 + n) 0x21 = 0 ∧ u.stat (0x7000 + n) 0x22 = 0 ∧
      bitOf u.safety.active (67 + n) = false ∧ u.safety.latched = s.safety.latched ∧ (∀ m, m ≠ n → u.can m = s.can m) ∧
      u = { s.advance t with legacy := u.legacy, dict := u.dict, safety := u.safety })

def Obligations.LinFlexRayAndErrorPins : Prop :=
  (∀ (s : State) (t n : Nat), s.awake = true → n < 8 → s.legacy.lin.length = 8 →
    (s.lin n).mode = 1 → (s.advance t).linSlots n (s.lin n).sched ≠ [] → s.stat (0x7040 + n) 0x22 < 0xFFFFFFFE →
    headerStart (s.lin n).base ((s.advance t).linSlots n (s.lin n).sched) (s.lin n).passed ≤ (s.advance t).workingNs →
    headerStart (s.lin n).base ((s.advance t).linSlots n (s.lin n).sched) (s.lin n).passed < s.time.stepNs →
    ∃ u, exec (.linHeaderDue t n) s = .next u ∧ u.lin n = { s.lin n with passed := (s.lin n).passed + 1 } ∧
      u.stat (0x7040 + n) 0x22 = s.stat (0x7040 + n) 0x22 + 1 ∧ (∀ m, m ≠ n → u.lin m = s.lin m) ∧
      u = { s.advance t with legacy := u.legacy, dict := u.dict }) ∧
  (∀ (s : State) (t n : Nat), s.awake = true → n < 8 →
    (s.advance t).workingNs < headerStart (s.lin n).base ((s.advance t).linSlots n (s.lin n).sched) (s.lin n).passed →
    exec (.linHeaderDue t n) s = .next (s.advance t)) ∧
  (∀ (s : State) (t n : Nat) (f : BusFrame), s.awake = true → n < 8 → (s.saddle.role = .disabled ∨ s.saddle.role = .solo) → s.legacy.lin.length = 8 →
    (s.lin n).mode ≠ 0 → (s.lin n).sent = none →
    ∃ u, exec (.linFrameReceived t n f 0) s = .next u ∧ u.lin n = { s.lin n with header := none } ∧
      u.stat (0x7040 + n) 0x34 = (s.stat (0x7040 + n) 0x34 + 1) % 2 ^ 64 ∧
      u.ord.transit = s.ord.transit ++ [⟨.ford, ⟨(s.advance t).nextKey (0x0140 + n), (s.advance t).time.raw,
        .bus { f with
          kind := 2, bus := n, ident := f.ident % 64,
          stamp := f.stamp - (s.advance t).reg (0x7040 + n) 0x0F }⟩⟩] ∧
      u = { s.advance t with legacy := u.legacy, dict := u.dict, ord := u.ord }) ∧
  (∀ (s : State) (t n : Nat) (f : BusFrame), s.awake = true → n < 8 → (s.lin n).mode ≠ 0 →
    exec (.linFrameReceived t n f 1) s = .next ((s.advance t).count64 (0x7040 + n) 0x30 1)) ∧
  (∀ (s : State) (t n j : Nat), s.awake = true → n < 8 → s.legacy.lin.length = 8 →
    (s.lin n).want = some j → (s.lin n).wantAt ≤ (s.advance t).workingNs →
    ∃ u, exec (.linScheduleChange t n) s = .next u ∧ u.lin n = { s.lin n with
        sched := j, base := (s.lin n).wantAt, passed := 0, want := none, follow := [] } ∧
      u.stat (0x7040 + n) 0x0D = time80Of (s.lin n).wantAt ∧ (∀ m, m ≠ n → u.lin m = s.lin m) ∧
      u = { s.advance t with legacy := u.legacy, dict := u.dict }) ∧
  (∀ (s : State) (t n id : Nat), s.awake = true → n < 8 → s.legacy.lin.length = 8 →
    bitOf ((s.advance t).reg (0x7040 + n) 0x20) (id % 64) = false →
    ∃ u, exec (.linHeaderReceived t n id) s = .next u ∧ u.lin n = { s.lin n with sent := none } ∧
      (∀ m, m ≠ n → u.lin m = s.lin m) ∧ u = { s.advance t with legacy := u.legacy }) ∧
  (∀ (s : State) (t n id p : Nat) (b : Bytes), s.awake = true → n < 8 → s.legacy.lin.length = 8 → (s.lin n).mode = 2 →
    bitOf ((s.advance t).reg (0x7040 + n) 0x20) (id % 64) = true → (s.advance t).linPdu n (id % 64) = some p →
    kfind ((s.advance t).settlePdu (s.advance t).keyEpoch p).ford.pulled p = some b →
    (s.advance t).drives (outLin n) = true →
    ∃ u, exec (.linHeaderReceived t n id) s = .next u ∧ u.lin n = { s.lin n with sent := some (id % 64, b) } ∧
      (∀ m, m ≠ n → u.lin m = s.lin m) ∧ u = { s.advance t with legacy := u.legacy, ford := u.ford }) ∧
  (∀ (s : State) (t buf cycle start b : Nat) (room : Bool), s.awake = true → buf < 128 → s.saddle.handovers = [] →
    (fxBuffers s.legacy.fx.config)[buf]? = some b → (s.advance t).fxRuns = true → bitOf (subBytes b 4 1) 0 = true →
    bitOf (subBytes b 4 1) 3 = false → fxOwns b cycle = true → (s.advance t).drives outFx = true →
    subBytes b 0 2 ≤ leAt s.legacy.fx.config 8 4 → (s.advance t).updatedPdu (some (subBytes b 6 2)) = false →
    ∃ u, exec (.flexraySlot t buf cycle start room) s = .next u ∧ u.legacy.fx.sent = some (subBytes b 0 2, none) ∧
      u.stat 0x7060 0x32 = (s.stat 0x7060 0x32 + 1) % 2 ^ 64 ∧ u.stat 0x7060 0x21 = cycle % 64 ∧
      u.stat 0x7060 0x23 = time80Of start ∧ u.stat 0x7060 0x20 = 2 ∧ u.legacy.can = s.legacy.can ∧ u.legacy.lin = s.legacy.lin ∧
      u = { s.advance t with legacy := u.legacy, dict := u.dict }) ∧
  (∀ (s : State) (t buf cycle start b : Nat) (room : Bool), s.awake = true → buf < 128 → s.saddle.handovers = [] →
    (fxBuffers s.legacy.fx.config)[buf]? = some b → (s.advance t).fxRuns = true → bitOf (subBytes b 4 1) 0 = true →
    fxOwns b cycle = true → (s.advance t).drives outFx = true → leAt s.legacy.fx.config 8 4 < subBytes b 0 2 →
    (s.advance t).updatedPdu (some (subBytes b 6 2)) = false →
    exec (.flexraySlot t buf cycle start room) s = .next ((s.advance t).fxCycle cycle start)) ∧
  (∀ (s : State) (t chan slot cycle start syncs sof b : Nat) (data : Bytes), s.awake = true → chan < 2 →
    (s.saddle.role = .disabled ∨ s.saddle.role = .solo) → (s.advance t).fxRuns = true →
    bitOf ((s.advance t).reg 0x7060 2) chan = true → s.fxRxBuffer chan slot cycle = some b →
    ∃ u, exec (.flexrayFrameReceived t chan slot cycle start 0 syncs sof data) s = .next u ∧
      u.stat 0x7060 (0x30 + chan) = (s.stat 0x7060 (0x30 + chan) + 1) % 2 ^ 64 ∧ u.stat 0x7060 0x22 = syncs % 256 ∧
      u.ord.transit = s.ord.transit ++ [⟨.ford, ⟨(s.advance t).nextKey (0x0160 + chan), (s.advance t).time.raw,
        .bus ⟨3, chan, subBytes b 6 2, 0, false, false, slot * 64 + cycle, sof - (s.advance t).reg 0x7060 0x0E, data⟩⟩⟩] ∧
      u = { s.advance t with dict := u.dict, ord := u.ord }) ∧
  (∀ (s : State) (t chan slot cycle start fault syncs sof : Nat) (data : Bytes), s.awake = true → chan < 2 →
    1 ≤ fault → fault ≤ 3 → (s.advance t).fxRuns = true → bitOf ((s.advance t).reg 0x7060 2) chan = true →
    exec (.flexrayFrameReceived t chan slot cycle start fault syncs sof data) s = .next ((s.advance t).count64 0x7060
      (if fault = 1 then 0x33 + chan else if fault = 2 then 0x35 else 0x36) 1)) ∧
  (∀ (s : State) (t i : Nat), s.awake = true → i < 24 → s.legacy.errn.length = 26 →
    s.power.phase = .run → (s.advance t).errnInterval i ≠ 0 → (s.advance t).canOn (s.advance t).keyEpoch i = true →
    nth s.legacy.errn i ⟨false, false, none⟩ = ⟨true, false, none⟩ → s.stat (0x7000 + i) 0x26 < 0xFFFFFFFE →
    ∃ u, exec (.errnPoll t i true) s = .next u ∧ nth u.legacy.errn i ⟨false, false, none⟩ = ⟨true, true, none⟩ ∧
      u.stat (0x7000 + i) 0x24 = s.stat (0x7000 + i) 0x24 ||| 4 ∧
      u.stat (0x7000 + i) 0x26 = s.stat (0x7000 + i) 0x26 + 1 ∧ u.legacy.can = s.legacy.can ∧
      u.dict.settings = s.dict.settings ∧ u.keys = s.keys ∧ u.ports = s.ports ∧ u.power = s.power) ∧
  (∀ (s : State) (t i : Nat), s.awake = true → i < 24 → s.legacy.errn.length = 26 →
    s.power.phase = .run → (s.advance t).errnInterval i ≠ 0 → (s.advance t).canOn (s.advance t).keyEpoch i = true →
    nth s.legacy.errn i ⟨false, false, none⟩ = ⟨true, true, none⟩ →
    ∃ u, exec (.errnPoll t i false) s = .next u ∧
      nth u.legacy.errn i ⟨false, false, none⟩ = ⟨false, true, some (s.advance t).time.raw⟩ ∧
      u = { s.advance t with legacy := u.legacy })

def Obligations.FordWorksInKeyOrder : Prop :=
  (∀ (s : State) (t p stamp : Nat) (f : BusFrame) (b : Bytes) (x : FordItem) (rest : List FordItem), s.awake = true → s.power.phase ≠ .entering →
    s.ford.queue = x :: rest → (x.work = .bus f ∨ x.work = .eth b stamp) → s.fordMask ≠ 0 →
    s.idleProc = some p →
    exec (.fordDispatch t) s = .next { s.advance t with ford := { s.ford with
      queue := rest, running := s.ford.running ++ [⟨p, x, false⟩] } }) ∧
  (∀ (s : State) (t stamp : Nat) (f : BusFrame) (b : Bytes) (x : FordItem) (rest : List FordItem), s.awake = true →
    s.ford.queue = x :: rest → (x.work = .bus f ∨ x.work = .eth b stamp) → s.fordMask ≠ 0 →
    s.idleProc = none → exec (.fordDispatch t) s = .next (s.advance t)) ∧
  (∀ (s : State) (t stamp : Nat) (f : BusFrame) (b : Bytes) (x : FordItem), s.awake = true → s.power.phase ≠ .entering →
    s.ford.queue = [x] → (x.work = .bus f ∨ x.work = .eth b stamp) → s.fordMask = 0 →
    (s.saddle.role = .disabled ∨ s.saddle.role = .solo) →
    ∃ u, exec (.fordDispatch t) s = .next u ∧ u.ford = { s.ford with queue := [] } ∧
      u.stat 0x8300 4 = (s.stat 0x8300 4 + 1) % 2 ^ 64 ∧ u.stat 0x8300 5 = okeyNat x.key ∧
      u = { s.advance t with ford := u.ford, dict := u.dict }) ∧
  (∀ (s : State) (t p : Nat) (r : FordRun) (rs : List FordRun), s.awake = true → p < 32 → s.ford.running = r :: rs →
    r.done = false → r.proc ≠ p →
    exec (.fordItemComplete t p) s = .next { s.advance t with ford := { s.ford with
      running := r :: rs.map (fun x => if x.proc = p then { x with done := true } else x) } }) ∧
  (∀ (s : State) (t p : Nat) (f : BusFrame) (k : OKey), s.awake = true → p < 32 →
    s.ford.running = [⟨p, ⟨k, .bus f⟩, false⟩] → s.pduDefs k.epoch = [] → f.kind ≠ 3 →
    ∃ u, exec (.fordItemComplete t p) s = .next u ∧ u.ford.running = [] ∧ u.ford.queue = s.ford.queue ∧
      u.ford.images = s.ford.images ∧ u.ford.out = s.ford.out ∧
      u.stat 0x8300 0x10 = (s.stat 0x8300 0x10 + 1) % 2 ^ 64 ∧ u.stat 0x8300 0x11 = (s.stat 0x8300 0x11 + 1) % 2 ^ 64 ∧
      u.legacy = s.legacy ∧ u.keys = s.keys ∧ u.ports = s.ports) ∧
  (∀ (s : State) (t due : Nat), s.awake = true → s.follows = false → (due + 2) * 32 ≤ (s.advance t).time.orderNs →
    (∀ x ∈ s.ord.units, x.unit = .ford → x.suspend = none ∧ ∀ b ∈ x.buf, due ≤ b.key.epoch) → s.ford.nextDue ≤ due →
    exec (.fordDeadline t due) s = .next { s.advance t with ford := { s.ford with
      queue := insertMarker ⟨⟨due, 0, 0⟩, .due s.ford.nextDue⟩ s.ford.queue, nextDue := due + 1 } }) ∧
  (∀ (s : State) (t due : Nat) (x : SortBuffer) (b : Buffered), s.awake = true → s.follows = false →
    ((s.advance t).time.orderNs < (due + 2) * 32 ∨ (x ∈ s.ord.units ∧ x.unit = .ford ∧ b ∈ x.buf ∧ b.key.epoch < due)) →
    exec (.fordDeadline t due) s = .next (s.advance t)) ∧
  (∀ (s : State) (t n : Nat), s.awake = true → n < 32 → bitOf s.fordMask n = true →
    s.ford.running = [] → s.fordMask < 2 ^ 32 →
    ∃ u, exec (.processorFailure t n) s = .next u ∧ u.fordMask = clearBitAt s.fordMask n ∧
      u.stat 0x8300 2 = s.stat 0x8300 2 ||| 1 <<< n ∧ bitOf u.safety.latched 65 = true ∧ bitOf u.safety.active 65 = true ∧
      u.ford = s.ford ∧ u.legacy = s.legacy ∧ u.keys = s.keys ∧ u.dict.settings = s.dict.settings) ∧
  (∀ (s : State) (t mask : Nat) (c : Caller), s.awake = true → c.iface ≠ .partner →
    mask < 2 ^ 32 → (s.advance t).writeCheck c 0x8300 3 (toLE 4 mask) = 0 →
    (s.advance t).reg 0x8000 2 ≤ popCount (s.fordMask ||| mask) 32 →
    ∃ u, exec (.processorRetest t c mask mask) s = .next u ∧ u.accepted c = true ∧ u.fordMask = s.fordMask ||| mask ∧
      u.ford = s.ford ∧ u.legacy = s.legacy ∧ u.keys = s.keys ∧ u.power = s.power ∧ u.ports = s.ports ∧
      bitOf u.safety.active 66 = false)

def Obligations.PairsForm : Prop :=
  (∀ (s : State) (t : Nat), s.awake = true → s.saddle.role = .start →
    (s.advance t).debugRefuses = false →
    (s.advance t).elnarHeard ((s.advance t).reg 0x9000 6 * 1000 * (if s.pairId = 1 then 5 else 1)) = false →
    s.saddle.claimFrom + (s.advance t).reg 0x9000 6 * 1000 * (if s.pairId = 1 then 5 else 1) ≤ (s.advance t).time.raw →
    ∃ u, exec (.claim t ⟨false, false⟩) s = .next u ∧ u.saddle.role = .solo ∧ u.saddle.authority = true ∧
      u.stat 0x9000 0x15 = (s.advance t).allTokens ∧ u = { s.advance t with saddle := u.saddle, dict := u.dict }) ∧
  (∀ (s : State) (t : Nat) (p : Pins), s.awake = true →
    (s.saddle.role ≠ .start ∨ p.roleIn = true ∨ (s.advance t).time.raw < s.saddle.claimFrom + (s.advance t).reg 0x9000 6 * 1000) →
    exec (.claim t p) s = .next { s.advance t with saddle := { s.saddle with roleIn := p.roleIn, pinHeard := p.pin } }) ∧
  (∀ (s : State) (t : Nat) (lapsed : Bool), s.awake = true →
    exec (.livenessLapse t lapsed) s = .next { s.advance t with saddle := { s.saddle with
      lapsed := if lapsed then some (s.saddle.lapsed.getD (s.advance t).time.raw) else none } }) ∧
  (∀ (s : State) (t r : Nat), s.awake = true → s.saddle.enabled = true → s.safety.fatalRaw = some r → s.saddle.role ≠ .halted →
    exec (.failNotice t) s = .next { s.advance t with saddle := { s.saddle with
      role := .halted, authority := false, noticeTo := (s.advance t).time.raw + 2000, journaling := false,
      handshake := none, retryAt := none, resync := none, swap := none, handovers := [] } }) ∧
  (∀ (s : State) (t : Nat) (m : Bytes), s.awake = true → s.saddle.role = .start →
    s.saddle.detached = false →
    s.live = true → s.linkSync = true → byteAt m 1 = s.pairId →
    ∃ u, exec (.hello t m) s = .next u ∧ u.stat 0x9000 0x12 = 2 ∧ u.saddle.handshake = none ∧
      u.saddle.role ≠ .pairing ∧ u.keys = s.keys ∧ u.legacy = s.legacy ∧ u.ports = s.ports ∧
      u.dict.settings = s.dict.settings) ∧
  (∀ (s : State) (t : Nat) (m o : Bytes) (h : Handshake), s.awake = true →
    s.saddle.handshake = some h →
    h.theirs = some o → slice m 2 16 = s.proofOf o h.mine → bitOf (byteAt h.mine 56) 1 = false →
    bitOf (byteAt o 56) 1 = false → bitOf (byteAt h.mine 56) 2 = false → (s.advance t).reg 0x9000 2 = s.pairId →
    ∃ u, exec (.proof t m) s = .next u ∧ u.saddle.role = .active ∧ u.saddle.authority = true ∧
      u.saddle.handshake = none ∧ u.saddle.journaling = false ∧
      u.saddle.resync = some ⟨(s.advance t).keyEpoch, 1, none, none⟩ ∧ u.stat 0x9000 0x15 = (s.advance t).allTokens ∧
      u.stat 0x9000 0x12 = 0 ∧ u.keys = s.keys ∧ u.legacy = s.legacy ∧ u.ports = s.ports ∧ u.dict.settings = s.dict.settings) ∧
  (∀ (s : State) (t : Nat) (m o : Bytes) (h : Handshake), s.awake = true →
    s.saddle.handshake = some h →
    h.theirs = some o → slice m 2 16 ≠ s.proofOf o h.mine →
    ∃ u, exec (.proof t m) s = .next u ∧ u.stat 0x9000 0x12 = 6 ∧ u.saddle.handshake = none ∧ u.saddle.role ≠ .active ∧
      u.keys = s.keys ∧ u.legacy = s.legacy ∧ u.ports = s.ports ∧ u.dict.settings = s.dict.settings) ∧
  (∀ (s : State) (t : Nat) (m : Bytes) (h : Handshake), s.awake = true →
    s.saddle.handshake = some h →
    h.proved = true → s.saddle.role = .pairing → beAt m 2 2 = 0 → byteAt m 4 ≠ 1 →
    ∃ u, exec (.result t m) s = .next u ∧ u.saddle.role = .syncing ∧ u.saddle.authority = false ∧
      u.stat 0x9000 0x15 = 0 ∧ u.stat 0x9000 0x12 = 0 ∧ u.saddle.own = [] ∧ u.ord.transit = [] ∧ u.keys = s.keys ∧
      u.legacy = s.legacy ∧ u.dict.settings = s.dict.settings) ∧
  (∀ (s : State) (t : Nat) (m : Bytes) (h : Handshake), s.awake = true →
    s.saddle.handshake = some h → beAt m 2 2 ≠ 0 →
    ∃ u, exec (.result t m) s = .next u ∧ u.stat 0x9000 0x12 = beAt m 2 2 ∧ u.saddle.handshake = none ∧
      u.keys = s.keys ∧ u.legacy = s.legacy ∧ u.ports = s.ports ∧ u.dict.settings = s.dict.settings) ∧
  (∀ (s : State) (t : Nat) (h : Handshake), s.awake = true →
    s.saddle.handshake = some h → h.since + 10000000 ≤ (s.advance t).time.raw →
    ∃ u, exec (.pairingTimeout t) s = .next u ∧ u.stat 0x9000 0x12 = 9 ∧ u.saddle.handshake = none ∧
      u.saddle.retryAt = some (h.since + 100000000) ∧ u.keys = s.keys ∧ u.legacy = s.legacy ∧ u.ports = s.ports ∧
      u.dict.settings = s.dict.settings) ∧
  (∀ (s : State) (t : Nat), s.awake = true → (∀ h, s.saddle.handshake = some h → (s.advance t).time.raw < h.since + 10000000) →
    exec (.pairingTimeout t) s = .next (s.advance t)) ∧
  (∀ (s : State) (t r : Nat), s.awake = true → s.saddle.retryAt = some r → r ≤ (s.advance t).time.raw → s.mayPair = true →
    s.live = true → s.linkSync = true →
    ∃ u, exec (.pairingRetry t) s = .next u ∧ u.saddle.role = .pairing ∧ u.saddle.retryAt = none ∧
      u.saddle.handshake = some ⟨(s.advance t).time.raw, (s.advance t).helloBytes (s.random % 2 ^ 128), none, false⟩ ∧
      u = { s.advance t with saddle := u.saddle, elnar := u.elnar, fresh := s.fresh + 1 })

def Obligations.StandbyReplaysTheJournal : Prop :=
  (∀ (s : State) (t : Nat) (m : Bytes), s.awake = true → s.saddle.role = .standby → s.elnar.received = [] →
    (recOfBytes (s.advance t).keyEpoch m).kind = 0x0C →
    exec (.journalRecord t m) s = .next { s.advance t with saddle := { s.saddle with
      mark := max s.saddle.mark (recOfBytes (s.advance t).keyEpoch m).epoch } }) ∧
  (∀ (s : State) (t : Nat) (m : Bytes), s.awake = true → s.elnar.received = [] →
    (recOfBytes (s.advance t).keyEpoch m).kind = 0x0E →
    ∃ u, exec (.journalRecord t m) s = .next u ∧
      u.stat 0x9000 0x15 = setBitAt (s.stat 0x9000 0x15) (recOfBytes (s.advance t).keyEpoch m).arg ∧
      u = { s.advance t with dict := u.dict }) ∧
  (∀ (s : State) (t : Nat) (m : Bytes), s.awake = true → s.saddle.role ≠ .standby → s.saddle.role ≠ .syncing →
    (recOfBytes (s.advance t).keyEpoch m).kind ≠ 0x0E →
    exec (.journalRecord t m) s = .next ((s.advance t).consume 1 1 m)) ∧
  (∀ (s : State) (t e : Nat), s.awake = true → s.saddle.role = .active →
    ∃ u, exec (.journalAck t (some e)) s = .next u ∧ u.saddle = { s.saddle with acked := max s.saddle.acked e } ∧
      u = { s.advance t with saddle := u.saddle, elnar := u.elnar }) ∧
  (∀ (s : State) (t : Nat), s.awake = true → s.saddle.role = .standby → s.saddle.inbox = [] →
    ∃ u, exec (.journalAck t none) s = .next u ∧ u = { s.advance t with elnar := u.elnar } ∧
      u.elnar = ((s.advance t).sendMsg 5 0x40 0 (toBE 8 s.saddle.mark)).elnar) ∧
  (∀ (s : State) (t e : Nat), s.awake = true → s.saddle.role = .standby → s.saddle.inbox = [] → s.saddle.released ≤ e →
    s.ford.nextDue = e + 1 →
    e ≤ s.saddle.mark → (e + 2) * 32 ≤ (s.advance t).time.orderNs →
    ∃ u, exec (.standbyEpochRelease t e) s = .next u ∧ u.saddle.released = e + 1 ∧ u.saddle.inbox = [] ∧
      u.stat 0x9000 0x17 = (s.advance t).time.orderNs - (e + 2) * 32 ∧
      u.stat 0x9000 0x18 = max (s.stat 0x9000 0x18) ((s.advance t).time.orderNs - (e + 2) * 32) ∧
      u = { s.advance t with saddle := u.saddle, dict := u.dict }) ∧
  (∀ (s : State) (t e : Nat), s.awake = true → s.saddle.inbox = [] →
    ((s.saddle.role ≠ .standby ∧ s.saddle.role ≠ .takeover) ∨ s.saddle.mark < e ∨ (s.advance t).time.orderNs < (e + 2) * 32) →
    exec (.standbyEpochRelease t e) s = .next (s.advance t)) ∧
  (∀ (s : State) (t : Nat) (key : OKey), s.awake = true → s.saddle.inbox = [] →
    exec (.matchWindowExpired t key) s = .next (s.advance t)) ∧
  (∀ (s : State) (t : Nat), s.awake = true → s.saddle.role = .standby → s.saddle.inbox = [] →
    ∃ u, exec (.unclaimedInputDiscard t) s = .next u ∧
      u.saddle.own = s.saddle.own.filter (fun x => !(decide (x.key.epoch ≤ s.saddle.mark) &&
        decide (x.at_ + (s.advance t).reg 0x9000 4 ≤ (s.advance t).time.raw))) ∧
      u.stat 0x9000 0x22 = (s.stat 0x9000 0x22 + (s.saddle.own.filter (fun x => decide (x.key.epoch ≤ s.saddle.mark) &&
        decide (x.at_ + (s.advance t).reg 0x9000 4 ≤ (s.advance t).time.raw))).length) % 2 ^ 64 ∧
      u.ord = s.ord ∧ u.ford = s.ford ∧ u.narrows = s.narrows ∧ u.legacy = s.legacy ∧ u.dict.settings = s.dict.settings) ∧
  (∀ (s : State) (t kind : Nat) (m : Bytes), s.awake = true → s.saddle.role ≠ .active →
    exec (.relayedFrame t kind m) s = .next ((s.advance t).consume 3 kind m)) ∧
  (∀ (s : State) (t : Nat) (m : Bytes), s.awake = true → s.saddle.role = .active → byteAt m 0 < 24 →
    s.legacy.can.length = 24 →
    ∃ u, exec (.relayedFrame t 2 m) s = .next u ∧
      (u.can (byteAt m 0)).queue = (s.can (byteAt m 0)).queue.filter (fun x => !decide (x.key = keyOfBytes (m.drop 1))) ∧
      (∀ n, n ≠ byteAt m 0 → u.can n = s.can n) ∧
      u = { s.advance t with ord := u.ord, saddle := u.saddle, legacy := u.legacy, elnar := u.elnar }) ∧
  (∀ (s : State) (t : Nat), s.awake = true → s.saddle.role = .standby →
    (s.advance t).lagTooLong = true →
    ∃ u, exec (.lagLimitExceeded t) s = .next u ∧ u.saddle.role = .syncing ∧ u.saddle.authority = false ∧
      u.stat 0x9000 0x14 = s.stat 0x9000 0x14 ||| 32 ∧ u.stat 0x9000 0x15 = 0 ∧ u.saddle.inbox = [] ∧ u.keys = s.keys ∧
      u.legacy = s.legacy ∧ u.dict.settings = s.dict.settings) ∧
  (∀ (s : State) (t : Nat), s.awake = true → s.saddle.role = .active → s.saddle.journaling = true → s.saddle.swap = none →
    393216 < s.journalUse →
    ∃ u, exec (.journalOverflow t) s = .next u ∧ u.saddle.journaling = false ∧ u.saddle.outbox = [] ∧
      u.saddle.role = .active ∧ u.saddle.resync = none ∧ u.stat 0x9000 0x14 = s.stat 0x9000 0x14 ||| 64 ∧
      u = { s.advance t with saddle := u.saddle, dict := u.dict, elnar := u.elnar })

def Obligations.PartnersFailAndAreTakenOver : Prop :=
  (∀ (s : State) (t : Nat) (roleIn : Bool), s.awake = true → s.paired? = true →
    s.saddle.declared = none → (s.advance t).elnarHeard 2000 = false →
    ∃ u, exec (.partnerDeclaredFailed t ⟨roleIn, false⟩) s = .next u ∧ u.saddle.declared = some (s.advance t).time.raw ∧
      u.saddle.confirmed = false ∧ bitOf u.safety.latched 98 = true ∧ u.stat 0x9000 0x14 = s.stat 0x9000 0x14 ||| 256 ∧
      u.keys = s.keys ∧ u.legacy = s.legacy ∧ u.dict.settings = s.dict.settings) ∧
  (∀ (s : State) (t : Nat) (roleIn : Bool), s.awake = true → s.failNoticed = false →
    exec (.partnerDeclaredFailed t ⟨roleIn, true⟩) s = .next { s.advance t with saddle := { s.saddle with
      roleIn := roleIn, pinHeard := true } }) ∧
  (∀ (s : State) (t : Nat) (roleIn : Bool), s.awake = true → s.paired? = true →
    (s.advance t).elnarHeard 2000 = false →
    ∃ u, exec (.heartbeatPathLost t true ⟨roleIn, true⟩) s = .next u ∧ bitOf u.safety.latched 95 = true ∧
      u.stat 0x9000 0x14 = s.stat 0x9000 0x14 ||| 1 ∧ u.keys = s.keys ∧ u.legacy = s.legacy ∧
      u.dict.settings = s.dict.settings) ∧
  (∀ (s : State) (t : Nat) (p : Pins), s.awake = true → s.paired? = true →
    p.roleIn ≠ (s.advance t).expectedRoleIn →
    ∃ u, exec (.roleLineMismatch t p) s = .next u ∧ bitOf u.safety.latched 97 = true ∧
      u.stat 0x9000 0x14 = s.stat 0x9000 0x14 ||| 8 ∧ u.keys = s.keys ∧ u.legacy = s.legacy ∧
      u.dict.settings = s.dict.settings) ∧
  (∀ (s : State) (t : Nat), s.awake = true → s.saddle.role = .standby →
    s.saddle.declared = none → (s.advance t).elnarHeard 2000 = false →
    ∃ u, exec (.fence t ⟨true, false⟩) s = .next u ∧ u.saddle.role = .fenced ∧ u.saddle.authority = false ∧
      u.stat 0x9000 0x15 = 0 ∧ u.stat 0x9000 0x14 = s.stat 0x9000 0x14 ||| 4 ∧ u.ord.transit = [] ∧
      u = { s.advance t with dict := u.dict, saddle := u.saddle, ord := u.ord, basin := u.basin }) ∧
  (∀ (s : State) (t d : Nat), s.awake = true → s.saddle.role = .standby → s.saddle.declared = some d →
    s.saddle.confirmed = false → d + 1000 ≤ (s.advance t).time.raw → (∀ r, s.saddle.heardElnar = some r → r ≤ d) →
    exec (.takeoverConfirmed t ⟨false, false⟩) s = .next { s.advance t with saddle := { s.saddle with
      roleIn := false, pinHeard := false, confirmed := true, role := .takeover, caughtUp := false } }) ∧
  (∀ (s : State) (t d : Nat) (p : Pins), s.awake = true → s.saddle.declared = some d → (s.advance t).time.raw < d + 1000 →
    exec (.takeoverConfirmed t p) s = .next { s.advance t with saddle := { s.saddle with
      roleIn := p.roleIn, pinHeard := p.pin } }) ∧
  (∀ (s : State) (t : Nat), s.awake = true → s.saddle.role = .takeover → s.saddle.caughtUp = false →
    s.saddle.mark < s.saddle.released → s.saddle.own = [] → s.saddle.retained = [] →
    ∃ u, exec (.catchUpDone t) s = .next u ∧ u.saddle = { s.saddle with inbox := [], caughtUp := true } ∧
      (∀ x ∈ u.ord.units, s.saddle.mark + 1 ≤ x.released) ∧ u.legacy = s.legacy ∧ u.narrows = s.narrows ∧ u.ford = s.ford ∧
      u.dict.settings = s.dict.settings) ∧
  (∀ (s : State) (t : Nat), s.awake = true →
    ((s.saddle.role = .takeover ∧ s.saddle.caughtUp = true) ∨ (s.saddle.role = .active ∧ s.saddle.confirmed = true)) →
    (s.advance t).debugRefuses = false →
    ∃ u, exec (.outputEnable t) s = .next u ∧ u.saddle.role = .solo ∧ u.saddle.authority = true ∧
      u.stat 0x9000 0x15 = (s.advance t).allTokens ∧
      u.stat 0x9000 0x1A = (s.advance t).time.raw - s.saddle.declared.getD (s.advance t).time.raw ∧
      u.saddle.declared = none ∧ u.legacy = s.legacy ∧ u.narrows = s.narrows ∧ u.ford = s.ford ∧ u.keys = s.keys ∧
      u.dict.settings = s.dict.settings) ∧
  (∀ (s : State) (t : Nat) (pin : Bool), s.awake = true → s.saddle.role = .active →
    s.saddle.journaling = false → s.saddle.resync = none → (s.advance t).debugRefuses = false →
    ∃ u, exec (.roleInReleased t ⟨false, pin⟩) s = .next u ∧ u.saddle.role = .solo ∧ u.saddle.authority = true ∧
      u.stat 0x9000 0x15 = (s.advance t).allTokens ∧ u.legacy = s.legacy ∧ u.ford = s.ford ∧ u.keys = s.keys ∧
      u.dict.settings = s.dict.settings) ∧
  (∀ (s : State) (t : Nat), s.awake = true → s.saddle.role = .syncing →
    s.saddle.confirmed = true → (∀ p, p < 4 → s.stat (0xA010 + p) 1 ≠ 4) →
    ∃ u, exec (.syncingReload t) s = .next u ∧ u.saddle.role = .solo ∧ u.saddle.authority = true ∧
      u.saddle.own = [] ∧ u.saddle.inbox = [] ∧ u.narrows = Narrows.reset)

def Obligations.ResynchronisationAndDigests : Prop :=
  (∀ (s : State) (t : Nat) (m : Bytes) (x : Nat × List Nat), s.awake = true →
    s.saddle.digests = [x] → x.1 = beAt m 0 8 → x.2 = (List.range 8).map (fun i => beAt m (8 + 8 * i) 8) →
    s.stat 0x9000 0x1C < 2 ^ 32 →
    ∃ u, exec (.digestCompare t m) s = .next u ∧ u.stat 0x9000 0x1C = (s.stat 0x9000 0x1C + 1) % 2 ^ 32 ∧
      u.stat 0x9000 0x1D = s.stat 0x9000 0x1D ∧ u.stat 0x9000 0x14 = s.stat 0x9000 0x14 ∧
      u.saddle = { s.saddle with digests := [] } ∧
      u = { s.advance t with dict := u.dict, saddle := u.saddle, elnar := u.elnar }) ∧
  (∀ (s : State) (t : Nat) (m : Bytes) (x : Nat × List Nat), s.awake = true →
    s.saddle.role = .active → s.saddle.journaling = false →
    s.saddle.digests = [x] → x.1 = beAt m 0 8 → nth x.2 0 0 ≠ beAt m 8 8 → s.stat 0x9000 0x1D < 0xFFFFFFFE →
    ∃ u, exec (.digestCompare t m) s = .next u ∧ u.stat 0x9000 0x1D = s.stat 0x9000 0x1D + 1 ∧
      u.stat 0x9000 0x14 = s.stat 0x9000 0x14 ||| 16 ∧ u.saddle = { s.saddle with digests := [] } ∧
      u = { s.advance t with dict := u.dict, saddle := u.saddle, elnar := u.elnar }) ∧
  (∀ (s : State) (t : Nat) (m : Bytes), s.awake = true → s.saddle.role = .active → s.saddle.swap = none → byteAt m 8 = 0x0F →
    ∃ u, exec (.resyncStart t (some m)) s = .next u ∧ u.saddle = { s.saddle with
        journaling := false, outbox := [], digests := [], resync := some ⟨(s.advance t).keyEpoch, 1, none, none⟩ } ∧
      u = { s.advance t with saddle := u.saddle, elnar := u.elnar }) ∧
  (∀ (s : State) (t : Nat), s.awake = true → s.saddle.role = .active → s.saddle.swap = none → s.saddle.journaling = false →
    s.saddle.resync = none → s.journalUse < 65536 →
    exec (.resyncStart t none) s = .next { s.advance t with saddle := { s.saddle with
      journaling := false, outbox := [], digests := [], resync := some ⟨(s.advance t).keyEpoch, 1, none, none⟩ } }) ∧
  (∀ (s : State) (t marked : Nat) (r : Resync), s.awake = true → s.saddle.role = .active → s.saddle.resync = some r →
    r.final = none → r.again = none → marked ≤ 65536 →
    exec (.resyncPassDone t marked) s = .next { s.advance t with saddle := { s.saddle with
      resync := some { r with final := some ((s.advance t).keyEpoch + 1) } } }) ∧
  (∀ (s : State) (t marked : Nat) (r : Resync), s.awake = true → s.saddle.role = .active → s.saddle.resync = some r →
    r.final = none → r.again = none → 65536 < marked → r.pass < 4 →
    exec (.resyncPassDone t marked) s = .next { s.advance t with saddle := { s.saddle with
      resync := some { r with pass := r.pass + 1 } } }) ∧
  (∀ (s : State) (t marked : Nat) (r : Resync), s.awake = true → s.saddle.role = .active → s.saddle.resync = some r →
    r.final = none → r.again = none → 65536 < marked → 4 ≤ r.pass →
    ∃ u, exec (.resyncPassDone t marked) s = .next u ∧ u.stat 0x9000 0x14 = s.stat 0x9000 0x14 ||| 512 ∧
      u.saddle = { s.saddle with resync := some { r with again := some ((s.advance t).time.raw + 10000000) } } ∧
      u = { s.advance t with saddle := u.saddle, dict := u.dict }) ∧
  (∀ (s : State) (t f : Nat) (r : Resync), s.awake = true → s.saddle.role = .active → s.saddle.resync = some r →
    r.final = some f → f * 32 ≤ (s.advance t).time.orderNs →
    s.stat 0x9000 0x1B < 2 ^ 32 →
    ∃ u, exec (.resyncFinal t) s = .next u ∧
      u.saddle = { s.saddle with journaling := true, resync := none, acked := f - 1 } ∧
      u.stat 0x9000 0x1B = (s.stat 0x9000 0x1B + 1) % 2 ^ 32 ∧
      u = { s.advance t with saddle := u.saddle, dict := u.dict, elnar := u.elnar }) ∧
  (∀ (s : State) (t f : Nat) (v : Machine.Covered), s.awake = true → s.saddle.role = .syncing → s.legacy.can.length = 24 →
    ∃ u, exec (.resyncComplete t f v) s = .next u ∧ u.saddle.role = .standby ∧ u.saddle.released = f ∧
      u.saddle.mark = max s.saddle.mark (f - 1) ∧ u.saddle.resync = none ∧
      u.saddle.inbox = s.saddle.inbox.filter (fun h => decide (f ≤ h.rec_.epoch)) ∧ u.narrows = v.narrows ∧
      u.basin.fdb = v.fdb ∧ u.ford.images = v.images ∧ u.ford.queue = [] ∧ u.dict.settings = v.settings ∧
      u.dict.staging = v.staging ∧ (∀ n, n < 24 → (u.can n).queue = nth v.canQueues n []) ∧ u.keys = s.keys ∧
      u.ports = s.ports ∧ u.power = s.power ∧ u.safety = s.safety) ∧
  (∀ (s : State) (t a : Nat) (r : Resync), s.awake = true → s.saddle.role = .active → s.saddle.resync = some r →
    s.saddle.swap = none → r.again = some a → a ≤ (s.advance t).time.raw →
    ∃ u, exec (.resyncRestart t) s = .next u ∧ u.saddle = { s.saddle with
        journaling := false, outbox := [], digests := [], resync := some ⟨(s.advance t).keyEpoch, 1, none, none⟩ } ∧
      u = { s.advance t with saddle := u.saddle, elnar := u.elnar })

def Obligations.SwapsAndRoleCommands : Prop :=
  (∀ (s : State) (t : Nat), s.awake = true → s.saddle.role = .active →
    s.saddle.journaling = true → (s.advance t).reg 0x9010 1 = 1 → (s.advance t).pairReady = true → s.saddle.swap = none →
    s.saddle.swapped + (s.advance t).reg 0x9010 2 * 1000000000 ≤ (s.advance t).time.orderNs →
    ∃ u, exec (.swapPlan t) s = .next u ∧
      u.saddle = { s.saddle with swap := some ⟨(s.advance t).swapPoint, ((s.advance t).swapPoint + 31) / 32⟩ } ∧
      u.stat 0x9010 4 = time80Of (s.advance t).swapPoint ∧
      u = { s.advance t with saddle := u.saddle, dict := u.dict, elnar := u.elnar }) ∧
  (∀ (s : State) (t : Nat) (c : Caller), s.awake = true → c.iface ≠ .partner →
    s.saddle.role = .active → (s.advance t).pairReady = true → s.saddle.swap = none →
    (s.advance t).writeCheck c 0x9001 1 [1] = 0 →
    ∃ u, exec (.planSwapNow t c) s = .next u ∧ u.accepted c = true ∧ u.stat 0x9001 2 = 0 ∧
      u.saddle.swap = some ⟨(s.advance t).swapPoint, ((s.advance t).swapPoint + 31) / 32⟩ ∧
      u.stat 0x9010 4 = time80Of (s.advance t).swapPoint ∧ u.dict.settings = s.dict.settings ∧ u.keys = s.keys ∧
      u.legacy = s.legacy) ∧
  (∀ (s : State) (t : Nat) (w : Swap), s.awake = true → s.saddle.role = .standby → s.saddle.swap = some w →
    w.epoch * 32 ≤ (s.advance t).time.orderNs → w.epoch ≤ s.saddle.released → s.saddle.own = [] → s.saddle.retained = [] →
    s.saddle.inbox = [] → s.stat 0x9010 5 < 2 ^ 32 →
    ∃ u, exec (.swapPoint t) s = .next u ∧ u.saddle.role = .active ∧ u.saddle.authority = true ∧
      u.saddle.journaling = true ∧ u.saddle.swap = none ∧ u.saddle.swapped = (s.advance t).time.orderNs ∧
      u.stat 0x9010 4 = 0 ∧ u.stat 0x9010 5 = (s.stat 0x9010 5 + 1) % 2 ^ 32 ∧
      (∀ x ∈ u.ord.units, w.epoch ≤ x.released) ∧ u.legacy = s.legacy ∧ u.ford = s.ford ∧ u.narrows = s.narrows ∧
      u.dict.settings = s.dict.settings) ∧
  (∀ (s : State) (t : Nat) (w : Swap), s.awake = true → s.saddle.swap = some w → (s.advance t).time.orderNs < w.epoch * 32 →
    exec (.swapPoint t) s = .next (s.advance t)) ∧
  (∀ (s : State) (t : Nat) (m : Bytes), s.awake = true → byteAt m 8 = 0x0E →
    beAt m 10 2 < 49 →
    ∃ u, exec (.tokenHandover t m) s = .next u ∧ u.stat 0x9000 0x15 = setBitAt (s.stat 0x9000 0x15) (beAt m 10 2) ∧
      u = { s.advance t with dict := u.dict, elnar := u.elnar }) ∧
  (∀ (s : State) (t n since : Nat), s.awake = true → n < 24 → s.legacy.can.length = 24 →
    s.saddle.handovers = [⟨n, since⟩] → since + (s.advance t).reg 0x9010 7 * 1000000 ≤ (s.advance t).time.raw →
    (s.can n).queue.any CanEntry.started = true →
    ∃ u, exec (.handoverTimeout t n) s = .next u ∧
      (u.can n).queue = (s.can n).queue.map (fun x => { x with started := false }) ∧ (∀ m, m ≠ n → u.can m = s.can m) ∧
      u.stat 0x9000 0x15 = clearBitAt (s.stat 0x9000 0x15) n ∧ u.saddle = { s.saddle with handovers := [] } ∧
      u = { s.advance t with legacy := u.legacy, dict := u.dict, elnar := u.elnar, saddle := u.saddle }) ∧
  (∀ (s : State) (t n since : Nat), s.awake = true → n < 24 → s.saddle.handovers = [⟨n, since⟩] →
    (s.advance t).time.raw < since + (s.advance t).reg 0x9010 7 * 1000000 →
    (s.can n).queue.any CanEntry.started = true → exec (.handoverTimeout t n) s = .next (s.advance t)) ∧
  (∀ (s : State) (t : Nat) (w : Swap), s.awake = true → s.saddle.swap = some w →
    s.saddle.role = .standby → (s.advance t).time.orderNs < w.epoch * 32 → w.pointNs ≤ (s.advance t).workingNs + 10000 →
    (s.advance t).pairReady = false →
    ∃ u, exec (.swapAbandon t) s = .next u ∧ u.saddle = { s.saddle with swap := none } ∧ u.stat 0x9010 6 = 0x0B ∧
      u.stat 0x9010 4 = 0 ∧ u.stat 0x9000 0x14 = s.stat 0x9000 0x14 ||| 1024 ∧
      u = { s.advance t with saddle := u.saddle, dict := u.dict }) ∧
  (∀ (s : State) (t : Nat) (c : Caller), s.awake = true → c.iface ≠ .partner →
    s.saddle.role = .standby → (s.advance t).writeCheck c 0x9001 1 [2] = 0 →
    ∃ u, exec (.detach t c) s = .next u ∧ u.accepted c = true ∧ u.stat 0x9001 2 = 0 ∧ u.saddle.role = .start ∧
      u.saddle.detached = true ∧ u.stat 0x9000 0x15 = 0 ∧ u.saddle.own = [] ∧ u.saddle.inbox = [] ∧
      u.dict.settings = s.dict.settings ∧ u.keys = s.keys ∧ u.legacy = s.legacy) ∧
  (∀ (s : State) (t : Nat) (c : Caller), s.awake = true → c.iface ≠ .partner →
    s.saddle.role = .start → s.saddle.detached = true → s.linkSync = false → (s.advance t).writeCheck c 0x9001 1 [3] = 0 →
    ∃ u, exec (.allowPairing t c) s = .next u ∧ u.accepted c = true ∧ u.stat 0x9001 2 = 0 ∧ u.saddle.detached = false ∧
      u.saddle.role = .start ∧ u.dict.settings = s.dict.settings ∧ u.keys = s.keys ∧ u.legacy = s.legacy) ∧
  (∀ (s : State) (t : Nat) (c : Caller), s.awake = true → c.iface ≠ .partner →
    s.saddle.role = .active → s.saddle.swap = none → (s.advance t).writeCheck c 0x9001 1 [4] = 0 →
    ∃ u, exec (.resynchronise t c) s = .next u ∧ u.accepted c = true ∧ u.stat 0x9001 2 = 0 ∧
      u.saddle.journaling = false ∧ u.saddle.resync = some ⟨(s.advance t).keyEpoch, 1, none, none⟩ ∧
      u.saddle.role = .active ∧ u.dict.settings = s.dict.settings ∧ u.keys = s.keys ∧ u.legacy = s.legacy) ∧
  (∀ (s : State) (t : Nat) (c : Caller), s.awake = true → c.iface ≠ .partner →
    s.saddle.enabled = true → s.saddle.role ≠ .halted → (s.advance t).writeCheck c 0x9001 1 [5] = 0 →
    ∃ u, exec (.failNoticeCommand t c) s = .next u ∧ u.accepted c = true ∧ u.stat 0x9001 2 = 0 ∧
      u.saddle.role = .halted ∧ u.saddle.authority = false ∧ u.saddle.noticeTo = (s.advance t).time.raw + 2000 ∧
      u.dict.settings = s.dict.settings ∧ u.keys = s.keys ∧ u.legacy = s.legacy) ∧
  (∀ (s : State) (t : Nat) (c : Caller), s.awake = true → c.iface ≠ .partner →
    s.saddle.role ≠ .active → (s.advance t).writeCheck c 0x9001 1 [4] = 0 →
    ∃ u, exec (.resynchronise t c) s = .next u ∧ u.stat 0x9001 2 = 0x0B ∧ u.replyOf c.iface = some ⟨c, 0x0B, 0, 0⟩ ∧
      u.dict.settings = s.dict.settings ∧ u.saddle.resync = s.saddle.resync ∧ u.saddle.role = s.saddle.role)

def Obligations.LanesAlignAndCarry : Prop :=
  (∀ (s : State) (t r pos : Nat) (line : Bytes), s.awake = true → r < 4 → s.elnar.rx.length = 4 →
    bitOf (s.stat (0x9110 + r) 3) 0 = false → s.stat (0x9110 + r) 2 = 0 →
    (s.rxLane r).cands = [] → beAt line 0 6 = 0xB31E9C4D72E5 →
    ∃ u, exec (.laneFrameReceived t r pos line) s = .next u ∧ u.stat (0x9110 + r) 2 = 1 ∧
      u.rxLane r = { s.rxLane r with cands := [(pos, 1)] } ∧ (∀ q, q ≠ r → u.rxLane q = s.rxLane q) ∧
      u = { s.advance t with dict := u.dict, elnar := u.elnar }) ∧
  (∀ (s : State) (t r pos : Nat) (line : Bytes), s.awake = true → r < 4 → bitOf (s.stat (0x9110 + r) 3) 0 = true →
    exec (.laneFrameReceived t r pos line) s = .next (s.advance t)) ∧
  (∀ (s : State) (t r : Nat), s.awake = true → r < 4 → s.elnar.rx.length = 4 →
    bitOf (s.stat (0x9110 + r) 3) 0 = false → s.stat (0x9110 + r) 2 ≠ 2 → s.laneInUse r = false →
    ∃ u, exec (.losDeclared t r) s = .next u ∧ u.stat (0x9110 + r) 2 = 0 ∧
      u.stat (0x9110 + r) 3 = s.stat (0x9110 + r) 3 ||| 1 ∧ u.stat (0x9110 + r) 4 = s.stat (0x9110 + r) 4 ||| 1 ∧
      u.rxLane r = RxLane.reset ∧ (∀ q, q ≠ r → u.rxLane q = s.rxLane q) ∧ bitOf u.safety.latched (91 + r) = true ∧
      bitOf u.safety.active (91 + r) = true ∧ u.keys = s.keys ∧ u.ports = s.ports ∧ u.dict.settings = s.dict.settings) ∧
  (∀ (s : State) (t r : Nat), s.awake = true → r < 4 → s.stat (0x9110 + r) 3 = 1 →
    ∃ u, exec (.losCleared t r) s = .next u ∧ u.stat (0x9110 + r) 3 = 0 ∧ bitOf u.safety.active (91 + r) = false ∧
      u.safety.latched = s.safety.latched ∧ u = { s.advance t with dict := u.dict, safety := u.safety }) ∧
  (∀ (s : State) (t r : Nat), s.awake = true → r < 4 →
    (s.advance t).useConditions r = true → 128 ≤ (s.rxLane r).good → s.laneInUse r = false → s.stat 0x9100 4 ≠ 0 →
    ∃ u, exec (.laneEntersUse t r) s = .next u ∧ u.stat 0x9100 4 = setBitAt (s.stat 0x9100 4) r ∧
      u = { s.advance t with dict := u.dict }) ∧
  (∀ (s : State) (t r : Nat), s.awake = true → r < 4 → s.elnar.tx.length = 4 → (s.advance t).reg 0x9100 1 = 1 →
    s.laneInUse r = false → (s.txLane r).code = 0 → (s.txLane r).recent = [] → (s.txLane r).mfc ≠ 0 →
    ∃ u, exec (.laneFrameSent t r 64) s = .next u ∧ (u.txLane r).mfc = ((s.txLane r).mfc + 1) % 256 ∧
      (u.txLane r).code = 0 ∧ (u.txLane r).parity = bip8 (u.txLane r).line ∧ (u.txLane r).stamp = (s.txLane r).stamp ∧
      (∀ q, q ≠ r → u.txLane q = s.txLane q) ∧ u.elnar.rx = s.elnar.rx ∧ u.elnar.classes = s.elnar.classes ∧
      u = { s.advance t with elnar := u.elnar }) ∧
  (∀ (s : State) (t r fill : Nat), s.awake = true → r < 4 → (s.advance t).reg 0x9100 1 ≠ 1 →
    exec (.laneFrameSent t r fill) s = .next (s.advance t)) ∧
  (∀ (s : State) (t c : Nat), s.awake = true → 1 ≤ c → c ≤ 5 → (s.cellClass c).early = [] →
    exec (.cellGapTimeout t c) s = .next (s.advance t)) ∧
  (∀ (s : State) (t : Nat), s.awake = true → s.linkSync = true →
    exec (.creditCellDue t) s = .next { s.advance t with elnar := { s.elnar with credit := true } }) ∧
  (∀ (s : State) (t tx rx ptx prx n : Nat) (rate : Int), s.awake = true → n < 4 → s.follows = false → s.elnar.received = [] →
    exec (.pairTimeStamps t tx rx ptx prx n rate) s = .next { s.advance t with elnar := { s.elnar with
      delay := (((rx : Int) - tx) - ((ptx : Int) - prx)) / 2 + sgnOf 32 ((s.advance t).reg 0x9100 0x0B) } }) ∧
  (∀ (s : State) (t tx rx ptx prx n : Nat) (rate : Int), s.awake = true → n < 4 → s.follows = true → s.linkSync = true →
    s.elnar.received = [] → s.time.corrections = [] →
    ∃ u, exec (.pairTimeStamps t tx rx ptx prx n rate) s = .next u ∧
      u.elnar.delay = (((rx : Int) - tx) - ((ptx : Int) - prx)) / 2 + sgnOf 32 ((s.advance t).reg 0x9100 0x0B) ∧
      u.time.corrections = [⟨n, .rate, rate, (s.advance t).nextKey 0x0302⟩] ∧ u.time.sets = (s.advance t).time.sets ∧
      u = { s.advance t with elnar := u.elnar, ord := u.ord, time := u.time })

def Obligations.BridgeWindowAndPayloads : Prop :=
  (∀ (s : State) (t : Nat) (q : BridgeReq), s.awake = true → s.linkSync = true →
    q.tag < 256 → (∀ o ∈ s.elnar.out, o.req.tag ≠ q.tag) →
    ∃ u, exec (.windowRead t .issue q) s = .next u ∧
      u.elnar.out.map Outstanding.req = s.elnar.out.map Outstanding.req ++
        [{ q with kind := 3, issue := (s.advance t).time.orderNs, init := q.init % 8 }] ∧
      u.stat 0x9130 3 = (s.stat 0x9130 3 + 1) % 2 ^ 64 ∧ u.elnar.window = s.elnar.window ∧
      u = { s.advance t with dict := u.dict, elnar := u.elnar }) ∧
  (∀ (s : State) (t : Nat) (q : BridgeReq), s.awake = true → s.linkSync = false → q.tag < 256 →
    exec (.windowWrite t .issue q) s = .next { s.advance t with elnar := { s.elnar with
      results := s.elnar.results ++ [(q.init % 8, ⟨0x84, q.tag, 0x0D, []⟩)] } }) ∧
  (∀ (s : State) (t : Nat) (q : BridgeReq), s.awake = true → winOk q.offset q.len = true →
    ∃ u, exec (.windowRead t .own q) s = .next u ∧
      u.elnar.results = s.elnar.results ++ [(q.init, ⟨0x83, q.tag, 0,
        (List.range q.len).map (fun i => winRead s.elnar.window (q.offset + i))⟩)] ∧
      u = { s.advance t with elnar := { s.elnar with results := u.elnar.results } }) ∧
  (∀ (s : State) (t : Nat) (q : BridgeReq), s.awake = true → winOk q.offset q.len = true → q.data.length = q.len →
    winWf s.elnar.window = true →
    ∃ u, exec (.windowWrite t .own q) s = .next u ∧
      u.elnar.results = s.elnar.results ++ [(q.init, ⟨0x84, q.tag, 0, []⟩)] ∧ winWf u.elnar.window = true ∧
      (∀ i, i < q.len → winRead u.elnar.window (q.offset + i) = nth q.data i 0) ∧
      (∀ a, a < q.offset ∨ q.offset + q.len ≤ a → winRead u.elnar.window a = winRead s.elnar.window a) ∧
      u = { s.advance t with elnar := { s.elnar with results := u.elnar.results, window := u.elnar.window } }) ∧
  (∀ (s : State) (t : Nat) (q : BridgeReq), s.awake = true → winOk q.offset q.len = true → q.data.length = q.len →
    winWf s.elnar.window = true →
    ∃ u, exec (.windowWritePosted t .own q) s = .next u ∧ winWf u.elnar.window = true ∧
      (∀ i, i < q.len → winRead u.elnar.window (q.offset + i) = nth q.data i 0) ∧
      (∀ a, a < q.offset ∨ q.offset + q.len ≤ a → winRead u.elnar.window a = winRead s.elnar.window a) ∧
      u = { s.advance t with elnar := { s.elnar with window := u.elnar.window } }) ∧
  (∀ (s : State) (t : Nat) (q : BridgeReq), s.awake = true → winOk q.offset q.len = false →
    exec (.windowRead t .own q) s = .next { s.advance t with elnar := { s.elnar with
      results := s.elnar.results ++ [(q.init, ⟨0x83, q.tag, 0x0E, []⟩)] } } ∧
    exec (.windowWrite t .own q) s = .next { s.advance t with elnar := { s.elnar with
      results := s.elnar.results ++ [(q.init, ⟨0x84, q.tag, 0x0E, []⟩)] } }) ∧
  (∀ (s : State) (t : Nat) (q : BridgeReq), s.awake = true →
    winOk q.offset q.len = false → s.stat 0x9130 7 < 0xFFFFFFFE →
    ∃ u, exec (.windowWritePosted t .own q) s = .next u ∧ u.elnar = s.elnar ∧ u.stat 0x9130 7 = s.stat 0x9130 7 + 1 ∧
      u.stat 0x9130 8 = leNat (toLE 1 q.tag ++ toLE 1 q.init ++ toBE 2 0x0E ++ toBE 4 q.offset ++
        toBE 8 (s.advance t).time.orderNs ++ toBE 8 (s.advance t).time.orderNs) ∧
      u.basin.frames = s.basin.frames ∧ u.keys = s.keys ∧ u.dict.settings = s.dict.settings) ∧
  (∀ (s : State) (t : Nat) (q : BridgeReq) (f : Frame), s.awake = true →
    s.basin.frames.find? (fun x => decide (x.key = keyOfBytes q.data)) = some f →
    exec (.payloadFetch t .own q) s = .next { s.advance t with elnar := { s.elnar with
      results := s.elnar.results ++ [(q.init, ⟨0x82, q.tag, 0, f.bytes⟩)] } }) ∧
  (∀ (s : State) (t : Nat) (q : BridgeReq), s.awake = true → (∀ f ∈ s.basin.frames, f.key ≠ keyOfBytes q.data) →
    s.ord.transit = [] → (∀ x ∈ s.ord.units, x.buf = []) → s.ford.queue = [] → s.ford.running = [] →
    exec (.payloadFetch t .own q) s = .next { s.advance t with elnar := { s.elnar with
      results := s.elnar.results ++ [(q.init, ⟨0x82, q.tag, 0x0F, []⟩)] } }) ∧
  (∀ (s : State) (t : Nat) (q : BridgeReq), s.awake = true →
    ∃ u, exec (.windowRead t .serve q) s = .next u ∧ u.stat 0x9130 4 = (s.stat 0x9130 4 + 1) % 2 ^ 64 ∧
      u.elnar.window = s.elnar.window ∧ u.elnar.results = s.elnar.results ∧ u.elnar.out = s.elnar.out ∧
      u = { s.advance t with dict := u.dict, elnar := u.elnar })

def Obligations.SemaphoresAndCompletions : Prop :=
  (∀ (s : State) (t : Nat) (q : BridgeReq), s.awake = true → q.offset < 64 → q.init < 8 → q.tag < 256 →
    exec (.lockAcquire t .own q) s = .next { s.advance t with elnar := { s.elnar with
      acquires := s.elnar.acquires ++ [⟨q.offset, false, q.init, q.tag⟩] } }) ∧
  (∀ (s : State) (t : Nat) (q : BridgeReq), s.awake = true → 64 ≤ q.offset →
    exec (.lockAcquire t .own q) s = .next { s.advance t with elnar := { s.elnar with
      results := s.elnar.results ++ [(q.init, ⟨0x86, q.tag, 5, []⟩)] } }) ∧
  (∀ (s : State) (t : Nat) (a : Acquire), s.awake = true → s.elnar.acquires = [a] → a.partner = false →
    kfind s.elnar.sems a.sem = none →
    exec (.semaphoreArbitrate t) s = .next { s.advance t with elnar := { s.elnar with
      acquires := [], sems := kins s.elnar.sems a.sem ⟨1, a.init, (s.advance t).time.raw⟩,
      results := s.elnar.results ++ [(a.init, ⟨0x86, a.tag, 0, []⟩)] } }) ∧
  (∀ (s : State) (t : Nat) (a : Acquire) (x : Semaphore), s.awake = true →
    s.elnar.acquires = [a] → a.partner = false →
    kfind s.elnar.sems a.sem = some x → ¬ (x.holder = 1 ∧ x.init = a.init) →
    ∃ u, exec (.semaphoreArbitrate t) s = .next u ∧ u.stat 0x9140 2 = (s.stat 0x9140 2 + 1) % 2 ^ 64 ∧
      u.elnar = { s.elnar with acquires := [], results := s.elnar.results ++ [(a.init, ⟨0x86, a.tag, 9, []⟩)] } ∧
      u = { s.advance t with dict := u.dict, elnar := u.elnar }) ∧
  (∀ (s : State) (t since : Nat) (q : BridgeReq), s.awake = true → q.offset < 64 → q.init < 8 →
    kfind s.elnar.sems q.offset = some ⟨1, q.init, since⟩ →
    exec (.lockRelease t .own q) s = .next { s.advance t with elnar := { s.elnar with
      sems := kdel s.elnar.sems q.offset, results := s.elnar.results ++ [(q.init, ⟨0x87, q.tag, 0, []⟩)] } }) ∧
  (∀ (s : State) (t : Nat) (q : BridgeReq), s.awake = true → q.offset < 64 → q.init < 8 →
    (∀ x, kfind s.elnar.sems q.offset = some x → ¬ (x.holder = 1 ∧ x.init = q.init)) →
    exec (.lockRelease t .own q) s = .next { s.advance t with elnar := { s.elnar with
      results := s.elnar.results ++ [(q.init, ⟨0x87, q.tag, 0x0B, []⟩)] } }) ∧
  (∀ (s : State) (t n : Nat) (x : Semaphore), s.awake = true → n < 64 →
    kfind s.elnar.sems n = some x → x.since + 100000 ≤ (s.advance t).time.raw →
    ∃ u, exec (.semaphoreExpiry t n) s = .next u ∧ u.elnar = { s.elnar with sems := kdel s.elnar.sems n } ∧
      u.stat 0x9140 0x44 = (s.stat 0x9140 0x44 + 1) % 2 ^ 64 ∧ u = { s.advance t with dict := u.dict, elnar := u.elnar }) ∧
  (∀ (s : State) (t n : Nat), s.awake = true → n < 64 →
    (∀ x, kfind s.elnar.sems n = some x → (s.advance t).time.raw < x.since + 100000) →
    exec (.semaphoreExpiry t n) s = .next (s.advance t)) ∧
  (∀ (s : State) (t n : Nat) (c : Caller), s.awake = true → c.iface ≠ .partner → n < 64 →
    (s.advance t).writeCheck c 0x9140 0x43 (toLE 1 n) = 0 →
    ∃ u, exec (.releaseSemaphore t c n) s = .next u ∧ u.accepted c = true ∧
      u.elnar = { s.elnar with sems := kdel s.elnar.sems n } ∧ u.dict.settings = s.dict.settings ∧ u.keys = s.keys ∧
      u.ports = s.ports ∧ u.power = s.power) ∧
  (∀ (s : State) (t : Nat) (d : BridgeDone) (o : Outstanding), s.awake = true → s.elnar.received = [] →
    s.elnar.out.find? (fun x => decide (x.req.tag = d.tag) && decide (x.req.kind + 0x80 = d.kind)) = some o →
    o.ended = false → o.req.kind ≠ 2 →
    exec (.bridgeCompletion t d) s = .next { s.advance t with elnar := { s.elnar with
      out := s.elnar.out.filter (fun x => decide (x.req.tag ≠ d.tag)),
      results := s.elnar.results ++ [(o.req.init, d)] } }) ∧
  (∀ (s : State) (t : Nat) (d : BridgeDone) (o : Outstanding), s.awake = true →
    s.elnar.received = [] →
    s.elnar.out.find? (fun x => decide (x.req.tag = d.tag) && decide (x.req.kind + 0x80 = d.kind)) = some o →
    o.ended = true →
    ∃ u, exec (.bridgeCompletion t d) s = .next u ∧ u.stat 0x9130 6 = (s.stat 0x9130 6 + 1) % 2 ^ 64 ∧
      u.elnar = { s.elnar with out := s.elnar.out.filter (fun x => decide (x.req.tag ≠ d.tag)) } ∧
      u = { s.advance t with dict := u.dict, elnar := u.elnar }) ∧
  (∀ (s : State) (t tag : Nat) (o : Outstanding), s.awake = true → tag < 256 →
    s.elnar.out.find? (fun x => decide (x.req.tag = tag) && decide (x.req.kind ≠ 5)) = some o → o.ended = false →
    o.req.kind ≠ 2 → o.raw + (s.advance t).reg 0x9130 1 * 1000 ≤ (s.advance t).time.raw →
    ∃ u, exec (.bridgeTimeout t tag) s = .next u ∧ u.stat 0x9130 5 = (s.stat 0x9130 5 + 1) % 2 ^ 64 ∧
      u.elnar.results = s.elnar.results ++ [(o.req.init, ⟨o.req.kind + 0x80, tag, 0x0D, []⟩)] ∧
      u.elnar.out = s.elnar.out.map (fun x => if x.req.tag = tag then { x with ended := true } else x) ∧
      u = { s.advance t with dict := u.dict, elnar := u.elnar }) ∧
  (∀ (s : State) (t tag : Nat) (o : Outstanding), s.awake = true → tag < 256 →
    s.elnar.out.find? (fun x => decide (x.req.tag = tag) && decide (x.req.kind ≠ 5)) = some o → o.ended = true →
    o.raw + 4 * ((s.advance t).reg 0x9130 1 * 1000) ≤ (s.advance t).time.raw →
    exec (.bridgeTimeout t tag) s = .next { s.advance t with elnar := { s.elnar with
      out := s.elnar.out.filter (fun x => decide (x.req.tag ≠ tag)) } }) ∧
  (∀ (s : State) (t tag status offset issue : Nat), s.awake = true → tag < 256 →
    s.elnar.received = [] → s.stat 0x9130 7 < 0xFFFFFFFE →
    ∃ u, exec (.orphanNotice t tag status offset issue) s = .next u ∧
      u.elnar = { s.elnar with out := s.elnar.out.filter (fun x => decide (x.req.tag ≠ tag)) } ∧
      u.stat 0x9130 7 = s.stat 0x9130 7 + 1 ∧ u.basin.frames = s.basin.frames ∧ u.keys = s.keys ∧
      u.dict.settings = s.dict.settings) ∧
  (∀ (s : State) (t : Nat), s.awake = true →
    ∃ u, exec (.retainedCopyDiscard t) s = .next u ∧
      u.saddle = { s.saddle with retained := s.saddle.retained.filter (fun x => decide ((s.advance t).time.raw < x.2.2 + 10000)) } ∧
      (∀ f ∈ s.basin.frames, (∀ x ∈ s.saddle.retained, x.2.1 = f.id → (s.advance t).time.raw < x.2.2 + 10000) →
        f ∈ u.basin.frames) ∧
      (∀ f ∈ u.basin.frames, f ∈ s.basin.frames ∧ ∀ x ∈ s.saddle.retained, x.2.1 = f.id →
        (s.advance t).time.raw < x.2.2 + 10000) ∧
      u = { s.advance t with saddle := u.saddle, basin := { (s.advance t).basin with frames := u.basin.frames } })

def Obligations.BootMeasuresAndSelects : Prop :=
  (∀ (s : State) (t : Nat) (a b : BootHeader) (images : List Bytes), s.awake = true → s.keys.bootBlocked = false →
    s.keys.bootDone = false → bootCode s.keys.revoked s.keys.rollback a = 0 →
    ∃ u, exec (.boot t a b images) s = .next u ∧ u.keys.bootDone = true ∧ u.keys.rootIndex = a.index ∧
      u.stat 0xB300 2 = 0 ∧ u.stat 0xB300 3 = a.version ∧ u.stat 0xB300 7 = 0 ∧ u.stat 0xB300 8 = s.stat 0xB300 7 ∧
      u.keys.mrs = s.bootMeasurements a images ∧ u = { s.advance t with keys := u.keys, dict := u.dict }) ∧
  (∀ (s : State) (t : Nat) (a b : BootHeader) (images : List Bytes), s.awake = true → s.keys.bootBlocked = false →
    s.keys.bootDone = false → bootCode s.keys.revoked s.keys.rollback a ≠ 0 →
    bootCode s.keys.revoked s.keys.rollback b = 0 →
    ∃ u, exec (.boot t a b images) s = .next u ∧ u.keys.bootDone = true ∧ u.keys.rootIndex = b.index ∧
      u.stat 0xB300 2 = 1 ∧ u.stat 0xB300 3 = b.version ∧
      u.stat 0xB300 7 = bootCode s.keys.revoked s.keys.rollback a ∧
      u.keys.mrs = s.bootMeasurements b images ∧ u = { s.advance t with keys := u.keys, dict := u.dict }) ∧
  (∀ (s : State) (t : Nat) (a b : BootHeader) (images : List Bytes), s.awake = true → s.keys.bootBlocked = false →
    s.keys.bootDone = false → bootCode s.keys.revoked s.keys.rollback a ≠ 0 →
    bootCode s.keys.revoked s.keys.rollback b ≠ 0 →
    ∃ u, exec (.boot t a b images) s = .next u ∧ u.keys = { s.keys with bootBlocked := true } ∧
      u.stat 0xB300 7 = bootCode s.keys.revoked s.keys.rollback a + 16 * bootCode s.keys.revoked s.keys.rollback b ∧
      u = { s.advance t with keys := u.keys, dict := u.dict }) ∧
  (∀ (s : State) (t : Nat) (a b : BootHeader) (images : List Bytes), s.awake = true → s.keys.bootDone = true →
    exec (.boot t a b images) s = .next (s.advance t)) ∧
  (∀ (s : State) (t : Nat) (c : Caller), s.awake = true → c.iface ≠ .partner →
    (s.advance t).writeCheck c 0xB300 5 [1] = 0 → s.keys.rollback ≠ s.stat 0xB300 3 →
    ∃ u, exec (.advanceRollback t c) s = .next u ∧ u.accepted c = true ∧
      u.keys = { s.keys with rollback := s.stat 0xB300 3 } ∧ u.dict.settings = s.dict.settings ∧ u.ports = s.ports ∧
      u.power = s.power) ∧
  (∀ (s : State) (t : Nat) (c : Caller), s.awake = true → c.iface ≠ .partner →
    (s.advance t).writeCheck c 0xB300 5 [1] = 0 → s.keys.rollback = s.stat 0xB300 3 →
    ∃ u, exec (.advanceRollback t c) s = .next u ∧ u.replyOf c.iface = some ⟨c, 0x0B, 0, 0⟩ ∧ u.keys = s.keys) ∧
  (∀ (s : State) (t v : Nat) (c : Caller), s.awake = true → c.iface ≠ .partner → 1 ≤ v → v ≤ 2 →
    (s.advance t).writeCheck c 0xB300 6 (toLE 1 v) = 0 → s.keys.rootIndex ≠ v - 1 → bitOf s.keys.revoked (2 - v) = false →
    ∃ u, exec (.revokeRootKey t c v) s = .next u ∧ u.accepted c = true ∧
      u.keys = { s.keys with revoked := setBitAt s.keys.revoked (v - 1) } ∧ u.dict.settings = s.dict.settings ∧
      u.ports = s.ports ∧ u.power = s.power) ∧
  (∀ (s : State) (t v : Nat) (c : Caller), s.awake = true → c.iface ≠ .partner → 1 ≤ v → v ≤ 2 →
    (s.advance t).writeCheck c 0xB300 6 (toLE 1 v) = 0 → s.keys.rootIndex = v - 1 →
    ∃ u, exec (.revokeRootKey t c v) s = .next u ∧ u.replyOf c.iface = some ⟨c, 0x0B, 0, 0⟩ ∧ u.keys = s.keys) ∧
  (∀ (s : State) (t : Nat) (c : Caller) (digest : Bytes), s.awake = true → c.iface ≠ .partner → digest.length = 48 →
    (s.advance t).writeCheck c 0xB300 0x18 digest = 0 →
    ∃ u, exec (.extendMr7 t c digest) s = .next u ∧ u.accepted c = true ∧
      u.keys = { s.keys with mrs := extendMr s.keys.mrs 7 (beNat digest) } ∧
      (∀ i, i ≠ 7 → nth u.keys.mrs i 0 = nth s.keys.mrs i 0) ∧ u.dict.settings = s.dict.settings ∧ u.ports = s.ports ∧
      u.power = s.power) ∧
  (∀ (s : State) (t : Nat) (c : Caller), s.awake = true → c.iface ≠ .partner → s.keys.sealed_ = false →
    (s.advance t).writeCheck c 0xB200 4 [1] = 0 →
    ∃ u, exec (.generateStatement t c) s = .next u ∧ u.accepted c = true ∧ u.keys = { s.keys with
        statement := (s.advance t).statementBytes (s.ownVal c 0xB200 2) (s.ownVal c 0xB200 3) } ∧
      u.dict.settings = s.dict.settings ∧ u.ports = s.ports ∧ u.power = s.power) ∧
  (∀ (s : State) (t : Nat) (c : Caller), s.awake = true → c.iface ≠ .partner → s.keys.sealed_ = true →
    (s.advance t).writeCheck c 0xB200 4 [1] = 0 →
    ∃ u, exec (.generateStatement t c) s = .next u ∧ u.replyOf c.iface = some ⟨c, 0x0B, 0, 0⟩ ∧ u.keys = s.keys) ∧
  (∀ (s : State) (t : Nat) (c : Caller) (data : Bytes), s.awake = true → c.iface ≠ .partner → data.length = 3405 →
    s.keys.lifecycle = 1 → s.openWrite c (dkey 0xB300 0x1B) = none →
    ((s.advance t).afterKey c 3 0xB300 0x1B (toBE 1 1 ++ toBE 4 0 ++ data)).segmentStatus c (s.advance t).keyEpoch
      0xB300 0x1B data = 0 →
    ∃ u, exec (.debugResponse t c 0 data true) s = .next u ∧ u.keys.unlocked = true ∧
      u.keys.unlocks = s.keys.unlocks + 1 ∧ u.keys.mrs = measure s.keys.mrs 6 ([1, 1] ++ toLE 4 (s.keys.unlocks + 1)) ∧
      u.keys.challenge = s.random ∧ u.fresh = s.fresh + 1 ∧ u.ports = s.ports ∧ u.power = s.power) ∧
  (∀ (s : State) (t : Nat) (c : Caller) (data : Bytes), s.awake = true → c.iface ≠ .partner → data.length = 3405 →
    s.keys.lifecycle = 1 → s.openWrite c (dkey 0xB300 0x1B) = none →
    ((s.advance t).afterKey c 3 0xB300 0x1B (toBE 1 1 ++ toBE 4 0 ++ data)).segmentStatus c (s.advance t).keyEpoch
      0xB300 0x1B data = 0 →
    ∃ u, exec (.debugResponse t c 0 data false) s = .next u ∧ u.replyOf c.iface = some ⟨c, 0x0C, 0, 0⟩ ∧
      u.keys = { s.keys with challenge := s.random } ∧ u.ports = s.ports ∧ u.power = s.power)

def Obligations.KeysAreUpdatedAndProtected : Prop :=
  (∀ (s : State) (t : Nat) (busy : List Nat), s.awake = true → s.stat 0xB000 5 < 2 ^ 32 →
    ∃ u, exec (.remaskPass t busy) s = .next u ∧ u.keys.polarity = !s.keys.polarity ∧
      (∀ n, kfind s.keys.slots n = none → u.slot n = s.slot n) ∧
      (∀ n, (u.slot n).value = (s.slot n).value ∧ (u.slot n).kind = (s.slot n).kind ∧ (u.slot n).usage = (s.slot n).usage ∧
        (u.slot n).pairs = (s.slot n).pairs) ∧ (∀ n, n ∈ busy → u.slot n = s.slot n) ∧
      u.stat 0xB000 5 = (s.stat 0xB000 5 + 1) % 2 ^ 32 ∧
      u = { s.advance t with keys := u.keys, dict := u.dict, fresh := s.fresh + 512 }) ∧
  (∀ (s : State) (t key : Nat) (c : Caller) (m : Bytes) (signed unwraps : Bool), s.awake = true → c.iface ≠ .partner →
    m.length ≤ 8192 → s.openWrite c (dkey 0xB100 1) = none →
    ((s.advance t).afterKey c 3 0xB100 1 (toBE 1 1 ++ toBE 4 0 ++ m)).segmentStatus c (s.advance t).keyEpoch 0xB100 1 m = 0 →
    s.updateStatus m signed unwraps = 0 →
    ∃ u, exec (.updateMessage t c 0 m signed unwraps key) s = .next u ∧ u.stat 0xB100 2 = 0 ∧
      u.keys = { s.keys with shadow := some (s.shadowOf m key) } ∧ u.ports = s.ports ∧ u.power = s.power) ∧
  (∀ (s : State) (t key : Nat) (c : Caller) (m : Bytes) (signed unwraps : Bool), s.awake = true → c.iface ≠ .partner →
    m.length ≤ 8192 → s.openWrite c (dkey 0xB100 1) = none →
    ((s.advance t).afterKey c 3 0xB100 1 (toBE 1 1 ++ toBE 4 0 ++ m)).segmentStatus c (s.advance t).keyEpoch 0xB100 1 m = 0 →
    s.updateStatus m signed unwraps ≠ 0 →
    ∃ u, exec (.updateMessage t c 0 m signed unwraps key) s = .next u ∧
      u.stat 0xB100 2 = s.updateStatus m signed unwraps ∧ u.keys = s.keys ∧ u.ports = s.ports ∧ u.power = s.power) ∧
  (∀ (s : State) (t : Nat) (x : KeyShadow), s.awake = true → s.keys.shadow = some x →
    ∃ u, exec (.updateCommit t) s = .next u ∧ u.keys.counter = x.counter ∧ u.keys.shadow = none ∧
      u.slot x.slot = x.content.getD KeySlot.empty ∧ (∀ n, n ≠ x.slot → u.slot n = s.slot n) ∧
      (u.keys.commits.getLast?).map KeyCommit.slot = some x.slot ∧ u.stat 0xB100 5 = x.slot ∧
      (∀ p ∈ u.ports, ∀ a ∈ p.sas, a.slot ≠ x.slot) ∧
      u = { s.advance t with keys := u.keys, dict := u.dict, ports := u.ports }) ∧
  (∀ (s : State) (t : Nat), s.awake = true → s.keys.shadow = none → exec (.updateCommit t) s = .next (s.advance t)) ∧
  (∀ (s : State) (t n : Nat) (lasts : Bool), s.power.low = false → s.power.phase ≠ .held → n < 4 → s.keys.bootDone = true →
    ∃ u, exec (.tamperAlarm t n lasts) s = .next u ∧ u.keys.sealed_ = true ∧ u.keys.shadow = none ∧
      (∀ x ∈ u.keys.slots, x.2.shareA = 0 ∧ x.2.shareB = 0) ∧ (∀ p ∈ u.ports, p.sas = []) ∧
      bitOf u.safety.latched 99 = true ∧ bitOf u.safety.active 99 = true ∧
      u.stat 0xB400 2 = s.stat 0xB400 2 ||| 1 <<< n ∧ u.power = s.power ∧ u.legacy = s.legacy ∧
      u.dict.settings = s.dict.settings) ∧
  (∀ (s : State) (t n : Nat) (lasts : Bool), s.power.phase ≠ .held → n < 4 → s.keys.bootDone = false →
    ∃ u, exec (.tamperAlarm t n lasts) s = .next u ∧ u.keys = { s.keys with bootBlocked := true } ∧
      u = { s.advance t with keys := u.keys, dict := u.dict }) ∧
  (∀ (s : State) (t n : Nat) (lasts : Bool), s.power.phase ≠ .held → n < 4 → s.keys.bootDone = true → s.power.low = true →
    ∃ u, exec (.tamperAlarm t n lasts) s = .next u ∧
      u.keys.slots = s.keys.slots.filter (fun x => bitOf x.2.flags 0 && decide (x.1 ≠ 5)) ∧
      u.power = { s.power with reasons := setBitAt s.power.reasons 34 } ∧
      u = { s.advance t with keys := u.keys, dict := u.dict, power := u.power }) ∧
  (∀ (s : State) (t : Nat) (c : Caller), s.awake = true → c.iface ≠ .partner →
    ((s.advance t).setStat 0xB400 1 0).writeCheck c 0xB400 3 [1] = 0 →
    ∃ u, exec (.tamperAcknowledge t c 0) s = .next u ∧ u.accepted c = true ∧ u.keys.sealed_ = false ∧
      u.keys.mrs = s.keys.mrs ∧ (∀ n, n < 5 → u.slot n = derivedSlot s.keys.mrs n) ∧
      bitOf u.safety.active 99 = false ∧ u.stat 0xB400 1 = 0 ∧ u.ports = s.ports ∧ u.power = s.power ∧
      u.dict.settings = s.dict.settings) ∧
  (∀ (s : State) (t raised : Nat) (c : Caller), s.awake = true → c.iface ≠ .partner → raised % 16 ≠ 0 →
    ((s.advance t).setStat 0xB400 1 (raised % 16)).writeCheck c 0xB400 3 [1] = 0 →
    ∃ u, exec (.tamperAcknowledge t c raised) s = .next u ∧ u.replyOf c.iface = some ⟨c, 0x0B, 0, 0⟩ ∧ u.keys = s.keys) ∧
  (∀ (s : State) (t p slot sci an pn : Nat) (tx : Bool), s.awake = true → p < 20 → s.ports.length = 32 → an < 4 →
    s.slotUsable slot 3 1 = true →
    ∃ u, exec (.sakInstall t p slot sci an pn tx true) s = .next u ∧ ⟨tx, sci, an, pn, true, slot⟩ ∈ (u.port p).sas ∧
      (∀ a ∈ (u.port p).sas, a.slot ≠ slot → a ∈ (s.port p).sas) ∧ (∀ q, q ≠ p → u.port q = s.port q) ∧
      (tx = true → u.stat (0x3100 + p) 0x0B = an ∧ u.stat (0x3100 + p) 0x0C = pn) ∧
      u = { s.advance t with ports := u.ports, dict := u.dict }) ∧
  (∀ (s : State) (t p slot sci an pn : Nat) (tx unwraps : Bool), s.awake = true → p < 20 →
    (s.slotUsable slot 3 1 = false ∨ unwraps = false) →
    exec (.sakInstall t p slot sci an pn tx unwraps) s = .next ((s.advance t).count64 0xB000 8 1))

def Obligations.LockstepPairsRecoverOrFail : Prop :=
  (∀ (s : State) (t p instrs : Nat), s.awake = true → p < 4 → s.safety.pairs.length = 4 →
    (s.advance t).reg (0xA010 + p) 2 ≤ instrs → (s.pairMode p = 1 ∨ s.pairMode p = 2 ∨ s.pairMode p = 5) →
    (s.pair p).splitReq = false → s.stat (0xA010 + p) 9 < 2 ^ 32 →
    ∃ u, exec (.lockstepCheckpoint t p instrs true true) s = .next u ∧ u.pairMode p = 1 ∧
      u.pair p = { s.pair p with
        instrs := 0, undo := 0, io := 0, checkRaw := (s.advance t).time.raw, reexec := false, debug := false,
        group := ((s.pair p).group + 1) % 128 } ∧ (∀ q, q ≠ p → u.pair q = s.pair q) ∧
      u.stat (0xA010 + p) 0x0A = (s.stat (0xA010 + p) 0x0A + 1) % 2 ^ 64 ∧
      u.stat (0xA010 + p) 9 = (s.stat (0xA010 + p) 9 + 1) % 2 ^ 32 ∧
      u = { s.advance t with dict := u.dict, safety := u.safety }) ∧
  (∀ (s : State) (t p instrs : Nat) (eq lane : Bool), s.awake = true → p < 4 → instrs < (s.advance t).reg (0xA010 + p) 2 →
    (s.advance t).time.raw < (s.pair p).checkRaw + 5000 →
    exec (.lockstepCheckpoint t p instrs eq lane) s = .next (s.advance t)) ∧
  (∀ (s : State) (t p instrs : Nat), s.awake = true → p < 4 → s.safety.pairs.length = 4 →
    (s.advance t).reg (0xA010 + p) 2 ≤ instrs → s.pairMode p = 1 → (s.pair p).splitReq = true →
    ∃ u, exec (.lockstepCheckpoint t p instrs true true) s = .next u ∧ u.pairMode p = 3 ∧ (u.pair p).splitReq = false ∧
      (∀ q, q ≠ p → u.pair q = s.pair q) ∧ u = { s.advance t with dict := u.dict, safety := u.safety }) ∧
  (∀ (s : State) (t p pc : Nat), s.awake = true → p < 4 → s.safety.pairs.length = 4 →
    s.pairMode p = 1 → (s.pair p).reexec = false → (s.pair p).second ≠ (s.advance t).time.raw / 1000000000 →
    1 ≤ (s.advance t).reg (0xA010 + p) 3 → s.stat (0xA010 + p) 6 < 2 ^ 32 →
    ∃ u, exec (.lockstepMismatch t p pc 1) s = .next u ∧ u.pairMode p = 2 ∧ (u.pair p).reexec = true ∧
      (u.pair p).rollbacks = 1 ∧ u.stat (0xA010 + p) 6 = (s.stat (0xA010 + p) 6 + 1) % 2 ^ 32 ∧
      bitOf u.safety.latched p = true ∧ (∀ q, q ≠ p → u.pair q = s.pair q) ∧ u.keys = s.keys ∧ u.legacy = s.legacy ∧
      u.dict.settings = s.dict.settings) ∧
  (∀ (s : State) (t p pc kind : Nat), s.awake = true → p < 4 →
    s.safety.pairs.length = 4 → s.pairMode p = 2 → (s.pair p).reexec = true →
    ∃ u, exec (.lockstepMismatch t p pc kind) s = .next u ∧ u.pairMode p = 6 ∧ (u.pair p).reexec = false ∧
      bitOf u.safety.latched (4 + p) = true ∧ bitOf u.safety.active (4 + p) = true ∧
      (∀ q, q ≠ p → u.pair q = s.pair q) ∧ u.keys = s.keys ∧ u.legacy = s.legacy ∧ u.dict.settings = s.dict.settings) ∧
  (∀ (s : State) (t p : Nat), s.awake = true → p < 4 → s.safety.pairs.length = 4 → s.pairMode p = 2 →
    ∃ u, exec (.rollbackComplete t p) s = .next u ∧
      u.pair p = { s.pair p with undo := 0, reexec := true, reexecRaw := (s.advance t).time.raw } ∧
      (∀ q, q ≠ p → u.pair q = s.pair q) ∧ u = { s.advance t with safety := u.safety }) ∧
  (∀ (s : State) (t p : Nat), s.awake = true → p < 4 → s.pairMode p = 2 →
    (s.pair p).reexecRaw + 5000 ≤ (s.advance t).time.raw →
    ∃ u, exec (.reexecutionTimeout t p) s = .next u ∧ u.pairMode p = 6 ∧ bitOf u.safety.latched (4 + p) = true ∧
      (∀ q, q ≠ p → u.pair q = s.pair q) ∧ u.keys = s.keys ∧ u.legacy = s.legacy ∧ u.dict.settings = s.dict.settings) ∧
  (∀ (s : State) (t p : Nat), s.awake = true → p < 4 →
    ∃ u, exec (.comparatorFault t p) s = .next u ∧ bitOf u.safety.latched (8 + p) = true ∧
      bitOf u.safety.active (8 + p) = true ∧ u.safety.pairs = s.safety.pairs ∧ u.keys = s.keys ∧ u.legacy = s.legacy ∧
      u.dict.settings = s.dict.settings) ∧
  (∀ (s : State) (t p : Nat) (c : Caller), s.awake = true → c.iface ≠ .partner → p < 4 →
    s.safety.pairs.length = 4 → (s.advance t).writeCheck c (0xA010 + p) 4 [1] = 0 → s.pairMode p = 1 →
    ∃ u, exec (.split t c p) s = .next u ∧ u.accepted c = true ∧ u.pair p = { s.pair p with splitReq := true } ∧
      u.stat (0xA010 + p) 0x0B = 0 ∧ u.pairMode p = 1 ∧ (∀ q, q ≠ p → u.pair q = s.pair q) ∧
      u.dict.settings = s.dict.settings ∧ u.keys = s.keys ∧ u.ports = s.ports) ∧
  (∀ (s : State) (t p : Nat) (c : Caller), s.awake = true → c.iface ≠ .partner → p < 4 →
    (s.advance t).writeCheck c (0xA010 + p) 4 [1] = 0 → s.pairMode p ≠ 1 → s.pairMode p ≠ 2 →
    ∃ u, exec (.split t c p) s = .next u ∧ u.replyOf c.iface = some ⟨c, 0x0B, 0, 0⟩ ∧ u.safety.pairs = s.safety.pairs ∧
      u.dict.settings = s.dict.settings) ∧
  (∀ (s : State) (t p : Nat) (c : Caller), s.awake = true → c.iface ≠ .partner → p < 4 →
    s.safety.pairs.length = 4 → (s.advance t).writeCheck c (0xA010 + p) 4 [2] = 0 → s.pairMode p = 3 →
    ∃ u, exec (.rejoin t c p) s = .next u ∧ u.accepted c = true ∧ u.pair p = { s.pair p with rejoinReq := true } ∧
      u.stat (0xA010 + p) 0x0B = 0 ∧ u.pairMode p = 3 ∧ (∀ q, q ≠ p → u.pair q = s.pair q) ∧
      u.dict.settings = s.dict.settings ∧ u.keys = s.keys ∧ u.ports = s.ports) ∧
  (∀ (s : State) (t p : Nat) (c : Caller), s.awake = true → c.iface ≠ .partner → p < 4 →
    s.safety.pairs.length = 4 → (s.advance t).writeCheck c (0xA010 + p) 4 [3] = 0 → s.pairMode p = 6 →
    ∃ u, exec (.restart t c p true) s = .next u ∧ u.accepted c = true ∧ u.pairMode p = 1 ∧
      bitOf u.safety.active (4 + p) = false ∧ u.safety.latched = s.safety.latched ∧ u.stat (0xA010 + p) 0x0B = 0 ∧
      (∀ q, q ≠ p → u.pair q = s.pair q) ∧ u.dict.settings = s.dict.settings ∧ u.keys = s.keys ∧ u.ports = s.ports) ∧
  (∀ (s : State) (t p : Nat) (c : Caller), s.awake = true → c.iface ≠ .partner → p < 4 →
    (s.advance t).writeCheck c (0xA010 + p) 4 [3] = 0 → s.pairMode p = 6 →
    ∃ u, exec (.restart t c p false) s = .next u ∧ u.accepted c = true ∧ u.pairMode p = 6 ∧
      u.stat (0xA010 + p) 0x0B = 0x0B ∧ u.safety.pairs = s.safety.pairs ∧ u.dict.settings = s.dict.settings ∧
      u.keys = s.keys ∧ u.ports = s.ports) ∧
  (∀ (s : State) (t p : Nat), s.awake = true → p < 4 → s.safety.pairs.length = 4 →
    s.pairMode p ≠ 6 →
    ∃ u, exec (.debugHalt t p true) s = .next u ∧ u.pairMode p = 4 ∧ (u.pair p).debug = true ∧
      bitOf u.safety.latched (20 + p) = true ∧ bitOf u.safety.active (20 + p) = true ∧
      bitOf (u.stat 0x1001 0x11) 1 = true ∧ (∀ q, q ≠ p → u.pair q = s.pair q) ∧ u.keys = s.keys ∧ u.legacy = s.legacy ∧
      u.dict.settings = s.dict.settings) ∧
  (∀ (s : State) (t p : Nat), s.awake = true → p < 4 → exec (.debugHalt t p false) s = .next (s.advance t)) ∧
  (∀ (s : State) (t p : Nat), s.awake = true → p < 4 → s.safety.pairs.length = 4 →
    s.pairMode p = 4 →
    ∃ u, exec (.debugResume t p) s = .next u ∧ u.pairMode p = 5 ∧
      u.pair p = { s.pair p with checkRaw := (s.advance t).time.raw } ∧
      bitOf u.safety.active (20 + p) = false ∧ (∀ q, q ≠ p → u.pair q = s.pair q) ∧
      u = { s.advance t with dict := u.dict, safety := u.safety })

def Obligations.FaultsAreCollected : Prop :=
  (∀ (s : State) (t i : Nat) (stays : Bool), s.awake = true → i < 103 →
    (s.faultRec i).count < 0xFFFFFFFF →
    ∃ u, exec (.faultInputRaised t i stays) s = .next u ∧ bitOf u.safety.latched i = true ∧
      bitOf u.safety.active i = (stays || bitOf s.safety.active i) ∧ (u.faultRec i).count = (s.faultRec i).count + 1 ∧
      (u.faultRec i).latest = (s.advance t).nextKey 0x0800 ∧
      (∀ j, j ≠ i → bitOf u.safety.latched j = bitOf s.safety.latched j ∧ bitOf u.safety.active j = bitOf s.safety.active j) ∧
      u.keys = s.keys ∧ u.legacy = s.legacy ∧ u.power = s.power ∧ u.dict.settings = s.dict.settings) ∧
  (∀ (s : State) (t i : Nat) (stays : Bool), s.awake = true → 103 ≤ i → i < 256 →
    exec (.faultInputRaised t i stays) s = .next (s.advance t)) ∧
  (∀ (s : State) (t i : Nat) (c : Caller), s.awake = true → c.iface ≠ .partner → i < 256 →
    (s.advance t).writeCheck c 0xA100 3 (toLE 1 i) = 0 →
    bitOf s.safety.active i = false →
    ∃ u, exec (.acknowledgeFault t c i) s = .next u ∧ u.accepted c = true ∧ bitOf u.safety.latched i = false ∧
      (∀ j, j ≠ i → bitOf u.safety.latched j = bitOf s.safety.latched j) ∧ u.safety.active = s.safety.active ∧
      u.dict.settings = s.dict.settings ∧ u.keys = s.keys ∧ u.ports = s.ports ∧ u.power = s.power) ∧
  (∀ (s : State) (t i : Nat) (c : Caller), s.awake = true → c.iface ≠ .partner → i < 256 →
    (s.advance t).writeCheck c 0xA100 3 (toLE 1 i) = 0 → bitOf s.safety.active i = true →
    ∃ u, exec (.acknowledgeFault t c i) s = .next u ∧ u.replyOf c.iface = some ⟨c, 0x0B, 0, 0⟩ ∧ u.safety = s.safety) ∧
  (∀ (s : State) (t : Nat) (c : Caller), s.awake = true → c.iface ≠ .partner →
    (s.advance t).readCheck c 0xA100 0x21 = 0 →
    ∃ u, exec (.inputRecordRead t c) s = .next u ∧
      u.replyOf c.iface = some ⟨c, 0, faultRecNat (s.faultRec (s.ownVal c 0xA100 0x20)), 28⟩ ∧
      u.faultRec (s.ownVal c 0xA100 0x20) = { s.faultRec (s.ownVal c 0xA100 0x20) with count := 0 } ∧
      (∀ j, j ≠ s.ownVal c 0xA100 0x20 → u.faultRec j = s.faultRec j) ∧ u.safety.latched = s.safety.latched ∧
      u.dict.settings = s.dict.settings ∧ u.keys = s.keys ∧ u.ports = s.ports) ∧
  (∀ (s : State) (t n mv : Nat), s.awake = true → n < 10 → (s.advance t).inWindow n mv = false →
    ∃ u, exec (.supplyOutOfWindow t n mv) s = .next u ∧ bitOf u.safety.latched (32 + n) = true ∧
      bitOf u.safety.active (32 + n) = true ∧ u.keys = s.keys ∧ u.legacy = s.legacy ∧ u.dict.settings = s.dict.settings) ∧
  (∀ (s : State) (t n mv : Nat), s.awake = true → n < 10 → (s.advance t).inWindow n mv = true →
    exec (.supplyOutOfWindow t n mv) s = .next (s.advance t)) ∧
  (∀ (s : State) (t n mv : Nat), s.awake = true → n < 10 → (s.advance t).inWindow n mv = true →
    exec (.supplyInWindow t n mv) s = .next { s.advance t with safety := { s.safety with
      active := clearBitAt s.safety.active (32 + n) } }) ∧
  (∀ (s : State) (t n mv : Nat), s.awake = true → n < 10 → (s.advance t).inWindow n mv = false →
    exec (.supplyInWindow t n mv) s = .next (s.advance t)) ∧
  (∀ (s : State) (t n : Nat) (temp : Int), s.awake = true → n < 8 → bitOf s.safety.active (42 + n) = false →
    sgnOf 16 ((s.advance t).reg 0xA200 (0x10 + n)) < temp →
    ∃ u, exec (.temperatureLimit t n temp) s = .next u ∧ bitOf u.safety.latched (42 + n) = true ∧
      bitOf u.safety.active (42 + n) = true ∧ u.keys = s.keys ∧ u.legacy = s.legacy ∧ u.dict.settings = s.dict.settings) ∧
  (∀ (s : State) (t n : Nat) (temp : Int), s.awake = true → n < 8 →
    temp ≤ sgnOf 16 ((s.advance t).reg 0xA200 (0x10 + n)) - 2 →
    exec (.temperatureLimit t n temp) s = .next { s.advance t with safety := { s.safety with
      active := clearBitAt s.safety.active (42 + n) } }) ∧
  (∀ (s : State) (t n : Nat), s.awake = true → n < 8 →
    ∃ u, exec (.clockMonitorFault t n) s = .next u ∧ u.stat 0xC200 3 = s.stat 0xC200 3 ||| 1 <<< n ∧
      bitOf u.safety.latched (50 + n) = true ∧ bitOf u.safety.active (50 + n) = true ∧
      (4 ≤ n → bitOf (u.stat 0xC200 1) (n - 4) = false) ∧ u.keys = s.keys ∧ u.legacy = s.legacy ∧
      u.dict.settings = s.dict.settings) ∧
  (∀ (s : State) (t n : Nat), s.awake = true → n < 8 →
    ∃ u, exec (.clockMonitorCleared t n) s = .next u ∧ bitOf u.safety.active (50 + n) = false ∧
      u.safety.latched = s.safety.latched ∧ (4 ≤ n → bitOf (u.stat 0xC200 1) (n - 4) = true) ∧
      u = { s.advance t with dict := u.dict, safety := u.safety })

def Obligations.WatchdogsOutputsAndSafetySpi : Prop :=
  (∀ (s : State) (t w : Nat) (c : Caller), s.awake = true → c.iface ≠ .partner → w < 8 → s.safety.watchdogs.length = 8 →
    (s.advance t).writeCheck c 0xA300 (0x13 + 8 * w) (toLE 2 (expectedKey (s.watchdog w))) = 0 →
    (s.watchdog w).running = true →
    (s.watchdog w).lastRaw + (s.advance t).reg 0xA300 (0x11 + 8 * w) * 1000 ≤ (s.advance t).time.raw →
    ∃ u, exec (.watchdogService t c w (expectedKey (s.watchdog w))) s = .next u ∧ u.accepted c = true ∧
      u.watchdog w = ⟨true, (s.advance t).time.raw, !(s.watchdog w).nextAA⟩ ∧
      (∀ v, v ≠ w → u.watchdog v = s.watchdog v) ∧ u.safety.latched = s.safety.latched ∧
      u.dict.settings = s.dict.settings ∧ u.keys = s.keys ∧ u.ports = s.ports ∧ u.power = s.power) ∧
  (∀ (s : State) (t w key : Nat) (c : Caller), s.awake = true → c.iface ≠ .partner → w < 8 → s.safety.watchdogs.length = 8 →
    key < 65536 → (s.advance t).writeCheck c 0xA300 (0x13 + 8 * w) (toLE 2 key) = 0 → (s.watchdog w).running = true →
    key ≠ expectedKey (s.watchdog w) → s.stat 0xA300 (0x15 + 8 * w) < 0xFFFFFFFE →
    ∃ u, exec (.watchdogService t c w key) s = .next u ∧ u.accepted c = true ∧
      u.watchdog w = ⟨true, (s.advance t).time.raw, false⟩ ∧ u.stat 0xA300 (0x15 + 8 * w) = s.stat 0xA300 (0x15 + 8 * w) + 1 ∧
      bitOf u.safety.latched (24 + w) = true ∧ (∀ v, v ≠ w → u.watchdog v = s.watchdog v) ∧
      u.dict.settings = s.dict.settings ∧ u.keys = s.keys) ∧
  (∀ (s : State) (t w : Nat), s.awake = true → w < 8 → s.safety.watchdogs.length = 8 → (s.watchdog w).running = true →
    (s.watchdog w).lastRaw + (s.advance t).reg 0xA300 (0x12 + 8 * w) * 1000 ≤ (s.advance t).time.raw →
    s.stat 0xA300 (0x15 + 8 * w) < 0xFFFFFFFE →
    ∃ u, exec (.watchdogTimeout t w) s = .next u ∧ u.watchdog w = ⟨true, (s.advance t).time.raw, false⟩ ∧
      u.stat 0xA300 (0x15 + 8 * w) = s.stat 0xA300 (0x15 + 8 * w) + 1 ∧ bitOf u.safety.latched (24 + w) = true ∧
      (∀ v, v ≠ w → u.watchdog v = s.watchdog v) ∧ u.keys = s.keys ∧ u.dict.settings = s.dict.settings) ∧
  (∀ (s : State) (t w : Nat), s.awake = true → w < 8 → (s.watchdog w).running = false →
    exec (.watchdogTimeout t w) s = .next (s.advance t)) ∧
  (∀ (s : State) (t : Nat), s.awake = true → (s.stat 0xA000 1 = 1 ∨ s.stat 0xA000 1 = 2) → s.pairMode 0 ≠ 4 →
    exec (.safeToggle t true) s = .next { s.advance t with safety := { s.safety with
      toggling := true, safeA := decide ((s.advance t).time.raw / 500000 % 2 = 0),
      safeB := !decide ((s.advance t).time.raw / 500000 % 2 = 0) } }) ∧
  (∀ (s : State) (t : Nat) (refreshed : Bool), s.awake = true →
    (refreshed = false ∨ (s.stat 0xA000 1 ≠ 1 ∧ s.stat 0xA000 1 ≠ 2)) →
    exec (.safeToggle t refreshed) s = .next { s.advance t with safety := { s.safety with
      toggling := false, safeA := false, safeB := false } }) ∧
  (∀ (s : State) (t : Nat), s.awake = true →
    exec (.safeRefreshLapse t) s = .next { s.advance t with safety := { s.safety with
      toggling := false, safeA := false, safeB := false } }) ∧
  (∀ (s : State) (t : Nat) (f : Bytes), s.awake = true → (s.advance t).reg 0xA000 4 ≠ 0 → spiValid 0 f = true →
    s.stat 0xA000 5 < 2 ^ 32 →
    ∃ u, exec (.readStatus t f) s = .next u ∧ u.stat 0xA000 5 = (s.stat 0xA000 5 + 1) % 2 ^ 32 ∧
      u.safety = { s.safety with spiCount := (s.safety.spiCount + 1) % 65536, spiStatus := u.spiStatusFrame } ∧
      u = { s.advance t with dict := u.dict, safety := u.safety }) ∧
  (∀ (s : State) (t : Nat) (f : Bytes), s.awake = true → (s.advance t).reg 0xA000 4 ≠ 0 → spiValid 0 f = false →
    ∃ u, exec (.readStatus t f) s = .next u ∧ bitOf u.safety.latched 102 = true ∧ u.stat 0xA000 5 = s.stat 0xA000 5 ∧
      u.safety.spiCount = s.safety.spiCount ∧ u.keys = s.keys ∧ u.dict.settings = s.dict.settings) ∧
  (∀ (s : State) (t : Nat) (f : Bytes), s.awake = true → (s.advance t).reg 0xA000 4 = 0 →
    exec (.readStatus t f) s = .next (s.advance t) ∧ exec (.forceSafeState t f) s = .next (s.advance t) ∧
    exec (.serviceWatchdog7 t f) s = .next (s.advance t)) ∧
  (∀ (s : State) (t : Nat) (f : Bytes), s.awake = true → (s.advance t).reg 0xA000 4 ≠ 0 → spiValid 1 f = true →
    ∃ u, exec (.forceSafeState t f) s = .next u ∧ bitOf u.safety.latched 101 = true ∧
      u.safety.spiCount = (s.safety.spiCount + 1) % 65536 ∧ u.keys = s.keys ∧ u.dict.settings = s.dict.settings) ∧
  (∀ (s : State) (t : Nat) (f : Bytes), s.awake = true → (s.advance t).reg 0xA000 4 ≠ 0 → spiValid 2 f = true →
    s.safety.watchdogs.length = 8 → (s.watchdog 7).running = true → byteAt f 1 = 255 - s.safety.question →
    (s.watchdog 7).lastRaw + (s.advance t).reg 0xA300 0x49 * 1000 ≤ (s.advance t).time.raw →
    ∃ u, exec (.serviceWatchdog7 t f) s = .next u ∧
      u.watchdog 7 = ⟨true, (s.advance t).time.raw, !(s.watchdog 7).nextAA⟩ ∧ u.safety.question = s.freeNat % 256 ∧
      u.fresh = s.fresh + 1 ∧ (∀ v, v ≠ 7 → u.watchdog v = s.watchdog v) ∧
      u.safety.spiCount = (s.safety.spiCount + 1) % 65536 ∧ u.safety.latched = s.safety.latched ∧
      u = { s.advance t with dict := u.dict, safety := u.safety, fresh := u.fresh })

def Obligations.ResetsAndTheSelfTest : Prop :=
  (∀ (s : State) (t : Nat), ∃ u, exec (.powerOnReset t) s = .next u ∧ u.power.phase = .held ∧ u.stat 0x1002 2 = 0 ∧
    u.stat 0x1002 4 = 0 ∧ u.time = State.reset.time ∧ u.access = State.reset.access ∧ u.ports = State.reset.ports ∧
    u.basin = State.reset.basin ∧ u.narrows = State.reset.narrows ∧ u.safety = State.reset.safety ∧
    u.host = State.reset.host ∧ u.elnar = State.reset.elnar ∧ u.legacy = State.reset.legacy ∧ u.ord = State.reset.ord ∧
    u.keys.rollback = s.keys.rollback ∧ u.keys.revoked = s.keys.revoked ∧ u.keys.counter = s.keys.counter ∧
    u.keys.lifecycle = s.keys.lifecycle ∧ u.journal.persistent = s.journal.persistent ∧
    (∀ k, k < 8 → u.stat 0xC300 (0x28 + k) = s.stat 0xC300 (0x28 + k)) ∧
    (∀ x ∈ u.keys.slots, bitOf x.2.flags 0 = true ∧ x.2.shareA = 0 ∧ x.2.shareB = 0) ∧ u.pending = s.pending) ∧
  (∀ (s : State) (t : Nat), s.power.phase ≠ .held →
    ∃ u, exec (.warmResetPin t) s = .next u ∧ u.power.phase = .held ∧ u.stat 0x1002 2 = 1 ∧
      u.stat 0x1002 4 = (s.stat 0x1002 4 + 1) % 2 ^ 32 ∧ u.stat 0x9000 0x11 = s.stat 0x9000 0x11 ∧
      u.stat 0xC100 2 = s.stat 0xC100 2 ∧ u.time = State.reset.time ∧ u.ports = State.reset.ports ∧
      u.basin = State.reset.basin ∧ u.safety = State.reset.safety ∧ u.keys.rollback = s.keys.rollback ∧
      (∀ k, k < 8 → u.stat 0xC300 (0x28 + k) = s.stat 0xC300 (0x28 + k)) ∧
      u.keys.counter = s.keys.counter ∧ u.journal.persistent = s.journal.persistent ∧ u.pending = s.pending) ∧
  (∀ (s : State) (t : Nat), s.power.phase = .held → exec (.warmResetPin t) s = .next s) ∧
  (∀ (s : State) (t : Nat) (strap : Bool), s.power.phase = .held →
    ∃ u, exec (.resetRelease t strap) s = .next u ∧ u.stat 0x9000 0x11 = natOfBool strap ∧
      u.power = { s.power with phase := .coldBoot } ∧ u = { s with dict := u.dict, power := u.power }) ∧
  (∀ (s : State) (t : Nat) (strap : Bool), s.power.phase ≠ .held → s.power.resetDue = none →
    exec (.resetRelease t strap) s = .next (s.advance t)) ∧
  (∀ (s : State) (t due cause : Nat) (strap : Bool), s.power.phase ≠ .held → s.power.resetDue = some (due, cause) →
    due ≤ t → s.dict.awaiting = [] → 1 ≤ cause → cause ≤ 7 →
    ∃ u, exec (.resetRelease t strap) s = .next u ∧ u.power.phase = .coldBoot ∧ u.stat 0x1002 2 = cause ∧
      u.stat 0x1002 4 = (s.stat 0x1002 4 + 1) % 2 ^ 32 ∧ u.time = State.reset.time ∧ u.basin = State.reset.basin ∧
      u.keys.rollback = s.keys.rollback ∧ u.pending = s.pending) ∧
  (∀ (s : State) (t : Nat) (c : Caller), s.awake = true → c.iface ≠ .partner →
    (s.advance t).writeCheck c 0x1002 1 [1] = 0 →
    ∃ u, exec (.resetCommand t c) s = .next u ∧ u.accepted c = true ∧ u.power = { s.power with
        resetDue := some ((s.advance t).time.raw + 1000000, if c.iface = .mgmt then 3 else 2) } ∧
      u.dict.settings = s.dict.settings ∧ u.keys = s.keys ∧ u.ports = s.ports) ∧
  (∀ (s : State) (t r : Nat), s.awake = true → s.safety.fatalRaw = some r → (s.advance t).reg 0xA100 5 = 1 →
    r + (s.advance t).reg 0xA100 6 * 1000000 ≤ (s.advance t).time.raw →
    ∃ u, exec (.fatalResetHoldEnd t) s = .next u ∧ u.stat 0x1002 2 = 5 ∧ u.safety = State.reset.safety ∧
      u.power.phase = .coldBoot ∧ u.time = State.reset.time ∧ u.basin = State.reset.basin ∧
      u.keys.rollback = s.keys.rollback ∧ u.pending = s.pending) ∧
  (∀ (s : State) (t r : Nat), s.awake = true → s.safety.fatalRaw = some r →
    ((s.advance t).reg 0xA100 5 ≠ 1 ∨ (s.advance t).time.raw < r + (s.advance t).reg 0xA100 6 * 1000000) →
    exec (.fatalResetHoldEnd t) s = .next (s.advance t)) ∧
  (∀ (s : State) (t : Nat), s.power.phase = .coldBoot → s.stat 0xA000 1 = 0 →
    s.safety.fatalRaw = none → s.safety.latched = 0 → (∀ p, p < 4 → s.pairMode p ≠ 3 ∧ s.pairMode p ≠ 6) →
    ∃ u, exec (.selfTestEnd t 0xFF 0 0) s = .next u ∧ u.power.phase = .run ∧ u.stat 0xA000 1 = 1 ∧
      u.stat 0xA000 2 = 127 ∧ u.safety.testFailed = false ∧ u.safety.latched = 0 ∧ u.keys = s.keys) ∧
  (∀ (s : State) (t a b c : Nat), s.awake = true → s.stat 0xA000 1 ≠ 0 →
    exec (.selfTestEnd t a b c) s = .next (s.advance t))

def Obligations.PowerStatesChange : Prop :=
  (∀ (s : State) (t : Nat) (c : Caller), s.awake = true → c.iface ≠ .partner →
    (s.advance t).writeCheck c 0xC000 1 [1] = 0 → (s.advance t).mayIdle = true →
    ∃ u, exec (.enterIdle t c) s = .next u ∧ u.accepted c = true ∧ u.power = { s.power with phase := .idle } ∧
      u.stat 0xC000 3 = 0 ∧ u.dict.settings = s.dict.settings ∧ u.keys = s.keys ∧ u.ports = s.ports) ∧
  (∀ (s : State) (t : Nat) (c : Caller), s.awake = true → c.iface ≠ .partner →
    (s.advance t).writeCheck c 0xC000 1 [1] = 0 → (s.advance t).mayIdle = false →
    ∃ u, exec (.enterIdle t c) s = .next u ∧ u.replyOf c.iface = some ⟨c, 0x0B, 0, 0⟩ ∧ u.power = s.power ∧
      u.stat 0xC000 3 = 0x0B) ∧
  (∀ (s : State) (t : Nat) (c : Caller), c.iface ≠ .partner →
    s.power.phase = .idle → (s.advance t).writeCheck c 0xC000 1 [2] = 0 →
    ∃ u, exec (.returnToRun t c) s = .next u ∧ u.accepted c = true ∧ u.power = { s.power with phase := .run } ∧
      u.stat 0xC000 3 = 0 ∧ u.dict.settings = s.dict.settings ∧ u.keys = s.keys ∧ u.ports = s.ports) ∧
  (∀ (s : State) (t : Nat) (c : Caller), s.awake = true → c.iface ≠ .partner →
    (s.advance t).writeCheck c 0xC000 1 [3] = 0 → s.dict.staging.state = .empty → s.dict.domWrites = [] →
    s.keys.shadow = none →
    ∃ u, exec (.enterQuiet t c) s = .next u ∧ u.accepted c = true ∧ u.power = { s.power with
        phase := .entering, toSleep := false, entryEpoch := (s.advance t).keyEpoch + 4, entryRaw := (s.advance t).time.raw,
        reasons := 0, first := none } ∧ (∀ p, p < 28 → u.stat (0x3040 + p) 1 = 0) ∧ u.dict.settings = s.dict.settings ∧
      u.keys = s.keys ∧ u.legacy = s.legacy) ∧
  (∀ (s : State) (t : Nat) (c : Caller), s.awake = true → c.iface ≠ .partner →
    (s.advance t).writeCheck c 0xC000 1 [4] = 0 → s.dict.staging.state = .empty → s.dict.domWrites = [] →
    s.keys.shadow = none →
    ∃ u, exec (.enterSleep t c) s = .next u ∧ u.accepted c = true ∧ u.power = { s.power with
        phase := .entering, toSleep := true, entryEpoch := (s.advance t).keyEpoch + 4, entryRaw := (s.advance t).time.raw,
        reasons := 0, first := none } ∧ (∀ p, p < 28 → u.stat (0x3040 + p) 1 = 0) ∧ u.dict.settings = s.dict.settings ∧
      u.keys = s.keys ∧ u.legacy = s.legacy) ∧
  (∀ (s : State) (t : Nat) (c : Caller), s.awake = true → c.iface ≠ .partner →
    (s.advance t).writeCheck c 0xC000 1 [4] = 0 → s.dict.domWrites ≠ [] →
    ∃ u, exec (.enterSleep t c) s = .next u ∧ u.replyOf c.iface = some ⟨c, 9, 0, 0⟩ ∧ u.power = s.power) ∧
  (∀ (s : State) (t n : Nat), s.power.phase = .idle → n < 4 → bitOf ((s.advance t).reg 0xC100 1) n = true →
    exec (.idleWakeEvent t (some n)) s = .next { s.advance t with power := { s.power with phase := .run } }) ∧
  (∀ (s : State) (t : Nat) (roleIn : Bool), s.power.phase = .entering → s.power.toSleep = true → s.power.first = none →
    ∃ u, exec (.lowPowerEntryComplete t roleIn) s = .next u ∧ u.power.phase = .sleep ∧ u.power.pwrReq = false ∧
      u.power.lowBuses = 0 ∧ (u.slot 5).kind = 2 ∧ (u.slot 5).value = (Config.freeRandom s.fresh).toNat ∧
      (∀ n, n ≠ 5 → u.slot n = s.slot n) ∧ u.legacy = s.legacy ∧ u.ports = s.ports ∧ u.fresh = s.fresh + 2 ∧
      u.dict.settings = s.dict.settings) ∧
  (∀ (s : State) (t : Nat) (f : BusFrame), s.power.phase = .quiet → f.bus < 8 →
    (∀ v ∈ quietRoutes s.power.routes, routeSource v ≠ f.bus ∨ fieldOf v 29 0 ≠ f.ident % 2 ^ 30) →
    exec (.quietRoute t f) s = .next (s.advance t)) ∧
  (∀ (s : State) (t v : Nat) (f : BusFrame), s.power.phase = .quiet → f.bus < 8 → f.fmt ≠ 3 → s.power.lowQueues.length = 8 →
    bitOf s.power.lowBuses f.bus = true → quietRoutes s.power.routes = [v] → routeSource v = f.bus →
    fieldOf v 29 0 = f.ident % 2 ^ 30 → bitOf v 49 = false → s.power.routed < 0xFFFFFFFF →
    (∀ q ∈ s.power.lowQueues, q.length < 8) →
    ∃ u, exec (.quietRoute t f) s = .next u ∧ u.power.routed = s.power.routed + 1 ∧
      (∀ n, n < 8 → nth u.power.lowQueues n [] = nth s.power.lowQueues n [] ++
        (if bitOf (routeTargets v &&& s.power.lowBuses) n then [{ f with bus := n }] else [])) ∧
      u.power.discarded = s.power.discarded ∧ u.power.phase = .quiet ∧ u = { s.advance t with power := u.power }) ∧
  (∀ (s : State) (t n : Nat), s.power.phase = .sleep → n < 32 → bitOf ((s.advance t).reg 0xC100 1) n = true →
    ∃ u, exec (.wakeSource t n) s = .next u ∧ u.power = { s.power with
        reasons := setBitAt s.power.reasons n, first := some (s.power.first.getD n), phase := .wake, pwrReq := true,
        railsFrom := (s.advance t).time.raw } ∧ u = { s.advance t with power := u.power, saddle := u.saddle }) ∧
  (∀ (s : State) (t n : Nat), s.power.phase ≠ .held → n ≤ 33 → bitOf ((s.advance t).reg 0xC100 1) n = false →
    exec (.wakeSource t n) s = .next (s.advance t)) ∧
  (∀ (s : State) (t : Nat) (macOk : Bool), s.power.phase = .wake → (s.slot 5).kind = 0 →
    ∃ u, exec (.railsGood t macOk) s = .next u ∧ u.power.phase = .coldBoot ∧ u.stat 0xC000 9 = 1 ∧
      u.stat 0xC100 2 = s.power.reasons ∧ u.stat 0xC100 9 = s.power.first.getD 0xFF ∧
      u.stat 0xC000 0x11 = s.power.routed ∧ u.stat 0xC000 0x13 = s.power.busOffs ∧ u.time = State.reset.time ∧
      u.basin = State.reset.basin ∧ u.pending = s.pending) ∧
  (∀ (s : State) (t : Nat), s.power.phase = .wake → (s.slot 5).kind ≠ 0 →
    ∃ u, exec (.railsGood t true) s = .next u ∧ u.power.phase = .warmBoot ∧ u.stat 0xC000 9 = 0 ∧
      u.stat 0xC100 2 = s.power.reasons ∧ u.keys.bootDone = true ∧ (∀ i, i ≠ 7 → nth u.keys.mrs i 0 = nth s.keys.mrs i 0) ∧ nth u.keys.mrs 7 0 = 0 ∧
      u.time = State.reset.time ∧ u.basin = State.reset.basin ∧ u.pending = s.pending) ∧
  (∀ (s : State) (t : Nat), s.power.phase = .wake →
    s.power.railsFrom + 20000000 ≤ (s.advance t).time.raw →
    ∃ u, exec (.railsTimeout t) s = .next u ∧ u.stat 0xC000 9 = 3 ∧
      u.power = { s.power with phase := if s.power.toSleep then .sleep else .quiet, pwrReq := false } ∧
      u = { s.advance t with power := u.power, dict := u.dict })

def Obligations.EventsAreOrderedAndCommitted : Prop :=
  (∀ (s : State) (t : Nat) (ev : RaisedEvent), s.power.phase ≠ .held →
    (listedCode ev.code = false ∨ 0x0C00 ≤ ev.code ∧ ev.code < 0x0D00 ∧ ev.args % 256 = 0) →
    exec (.journalEventRaised t ev) s = .next (s.advance t)) ∧
  (∀ (s : State) (t : Nat) (ev : RaisedEvent), s.awake = true → listedCode ev.code = true → ev.code / 256 ≠ 0x0C →
    (s.advance t).time.orderNs < (ev.key.epoch + 512) * 32 →
    (∀ k, s.journal.lastKey = some k → okeyLt ev.key k = false) → s.journal.reorder.length < 1024 →
    exec (.journalEventRaised t ev) s = .next { s.advance t with
      journal := { s.journal with
        reorder := insertByKey Event.key ⟨ev.key, ev.ns, ev.code, eventSeverity ev.code, ev.args⟩ s.journal.reorder } }) ∧
  (∀ (s : State) (t : Nat) (ev : RaisedEvent), s.awake = true → ev.code / 256 = 0x0C → ev.args % 256 ≠ 0 →
    (s.advance t).time.orderNs < (ev.key.epoch + 512) * 32 →
    (∀ k, s.journal.lastKey = some k → okeyLt ev.key k = false) → s.journal.reorder.length < 1024 →
    exec (.journalEventRaised t ev) s = .next { s.advance t with
      journal := { s.journal with
        reorder := insertByKey Event.key ⟨ev.key, ev.ns, ev.code, if ev.args % 256 = 1 then 1 else 3, ev.args⟩
          s.journal.reorder } }) ∧
  (∀ (s : State) (t : Nat) (ev : RaisedEvent), s.awake = true → listedCode ev.code = true → ev.code / 256 ≠ 0x0C →
    (ev.key.epoch + 512) * 32 ≤ (s.advance t).time.orderNs →
    (∀ k, s.journal.lastKey = some k → okeyLt ev.key k = false) →
    (s.advance t).reg 0x1200 6 ≤ eventSeverity ev.code → (s.advance t).reg 0x4400 3 ≠ ev.code →
    (∀ e ∈ s.journal.held, e.acked = false → e.ev.key.src = ev.key.src → e.ev.code ≠ ev.code) →
    s.journal.held.length < 3840 → s.journal.nextNo < 0xFFFFFFFF →
    ∃ u, exec (.journalEventRaised t ev) s = .next u ∧
      u.journal = { s.journal with
        lastKey := some ev.key, nextNo := s.journal.nextNo + 1,
        held := s.journal.held ++ [⟨s.journal.nextNo, ⟨ev.key, ev.ns, ev.code, eventSeverity ev.code, ev.args⟩, 0, false, false⟩],
        toPersist := if 2 ≤ eventSeverity ev.code then s.journal.toPersist ++
          [⟨s.journal.nextNo, ⟨ev.key, ev.ns, ev.code, eventSeverity ev.code, ev.args⟩, 0, false, false⟩]
          else s.journal.toPersist } ∧
      u = { s.advance t with journal := u.journal, host := u.host }) ∧
  (∀ (s : State) (t : Nat) (ev : RaisedEvent) (k : OKey), s.awake = true →
    listedCode ev.code = true → ev.code / 256 ≠ 0x0C →
    s.journal.lastKey = some k → okeyLt ev.key k = true → (s.advance t).reg 0x1200 6 ≤ eventSeverity ev.code →
    (s.advance t).reg 0x4400 3 ≠ ev.code →
    (∀ e ∈ s.journal.held, e.acked = false → e.ev.key.src = ev.key.src → e.ev.code ≠ ev.code) →
    s.journal.held.length < 3840 → s.stat 0x1210 8 < 0xFFFFFFFE →
    ∃ u, exec (.journalEventRaised t ev) s = .next u ∧ u.stat 0x1210 8 = s.stat 0x1210 8 + 1 ∧
      u.journal.held = s.journal.held ++
        [⟨s.journal.nextNo, ⟨ev.key, ev.ns, ev.code, eventSeverity ev.code, ev.args⟩, 0, true, false⟩] ∧
      u.journal.lastKey = some k ∧ u.journal.reorder = s.journal.reorder ∧
      u = { s.advance t with journal := u.journal, host := u.host, dict := u.dict }) ∧
  (∀ (s : State) (t : Nat) (ev : RaisedEvent) (e : JEntry), s.awake = true →
    listedCode ev.code = true → ev.code / 256 ≠ 0x0C → (ev.key.epoch + 512) * 32 ≤ (s.advance t).time.orderNs →
    (∀ k, s.journal.lastKey = some k → okeyLt ev.key k = false) → (s.advance t).reg 0x1200 6 ≤ eventSeverity ev.code →
    (s.advance t).reg 0x4400 3 ≠ ev.code →
    s.journal.held = [e] → e.acked = false → e.ev.key.src = ev.key.src → e.ev.code = ev.code → e.count < 4095 →
    s.stat 0x1210 9 + 1 < 2 ^ 64 →
    ∃ u, exec (.journalEventRaised t ev) s = .next u ∧ u.journal.held = [{ e with count := e.count + 1 }] ∧
      u.stat 0x1210 9 = s.stat 0x1210 9 + 1 ∧ u.journal.nextNo = s.journal.nextNo ∧
      u = { s.advance t with journal := u.journal, dict := u.dict }) ∧
  (∀ (s : State) (t : Nat) (ev : RaisedEvent), s.awake = true →
    listedCode ev.code = true → ev.code / 256 ≠ 0x0C → (ev.key.epoch + 512) * 32 ≤ (s.advance t).time.orderNs →
    (s.advance t).reg 0x1200 6 ≤ eventSeverity ev.code →
    (∀ k, s.journal.lastKey = some k → okeyLt ev.key k = false) →
    s.journal.joinable ⟨ev.key, ev.ns, ev.code, eventSeverity ev.code, ev.args⟩ = none →
    (4096 ≤ s.journal.unread 3 ∨ eventSeverity ev.code ≠ 3 ∧ 3840 ≤ s.journal.unread 2) →
    s.stat 0x1210 (1 + eventSeverity ev.code) < 0xFFFFFFFE →
    ∃ u, exec (.journalEventRaised t ev) s = .next u ∧
      u.stat 0x1210 (1 + eventSeverity ev.code) = s.stat 0x1210 (1 + eventSeverity ev.code) + 1 ∧
      u.journal.held = s.journal.held ∧ u.journal.nextNo = s.journal.nextNo ∧
      u.journal.toPersist = s.journal.toPersist ∧
      u = { s.advance t with journal := u.journal, dict := u.dict }) ∧
  (∀ (s : State) (t : Nat) (ev : RaisedEvent), s.awake = true → listedCode ev.code = true → ev.code / 256 ≠ 0x0C →
    (ev.key.epoch + 512) * 32 ≤ (s.advance t).time.orderNs → eventSeverity ev.code < (s.advance t).reg 0x1200 6 →
    exec (.journalEventRaised t ev) s = .next (s.advance t)) ∧
  (∀ (s : State) (t : Nat) (ev : RaisedEvent) (old : Event) (rest : List Event), s.awake = true →
    listedCode ev.code = true → ev.code / 256 ≠ 0x0C → (s.advance t).time.orderNs < (ev.key.epoch + 512) * 32 →
    (∀ k, s.journal.lastKey = some k → okeyLt ev.key k = false) → s.journal.reorder = old :: rest → 1023 ≤ rest.length →
    (s.advance t).reg 0x1200 6 ≤ old.sev → (∀ k, s.journal.lastKey = some k → okeyLt old.key k = false) →
    ∃ u, exec (.journalEventRaised t ev) s = .next u ∧ u.journal.lastKey = some old.key ∧
      u.journal.reorder = insertByKey Event.key ⟨ev.key, ev.ns, ev.code, eventSeverity ev.code, ev.args⟩ rest ∧
      u = { s.advance t with journal := u.journal, host := u.host, dict := u.dict }) ∧
  (∀ (s : State) (t : Nat), s.power.phase ≠ .held →
    (∀ e ∈ s.journal.reorder, (s.advance t).time.orderNs < (e.key.epoch + 512) * 32) →
    exec (.journalCommit t) s = .next (s.advance t)) ∧
  (∀ (s : State) (t : Nat), s.awake = true →
    ∃ u, exec (.journalCommit t) s = .next u ∧
      u.journal.reorder = s.journal.reorder.dropWhile
        (fun e => decide ((e.key.epoch + 512) * 32 ≤ (s.advance t).time.orderNs)) ∧
      u = { s.advance t with journal := u.journal, host := u.host, dict := u.dict }) ∧
  (∀ (s : State) (t : Nat) (e : Event), s.awake = true → s.journal.reorder = [e] →
    (e.key.epoch + 512) * 32 ≤ (s.advance t).time.orderNs → (s.advance t).reg 0x1200 6 ≤ e.sev →
    (∀ k, s.journal.lastKey = some k → okeyLt e.key k = false) → s.journal.held = [] →
    ∃ u, exec (.journalCommit t) s = .next u ∧ u.journal.reorder = [] ∧
      u.journal.held = [⟨s.journal.nextNo, e, 0, false, false⟩] ∧ u.journal.lastKey = some e.key ∧
      u = { s.advance t with journal := u.journal, host := u.host }) ∧
  (∀ (s : State) (t : Nat) (e : JEntry) (rest : List JEntry), s.awake = true → s.journal.toPersist = e :: rest →
    (∀ x ∈ s.journal.persistent, x.ev ≠ e.ev) →
    exec (.persistentJournalWrite t) s = .next { s.advance t with
      journal := { s.journal with
        toPersist := rest, persistNo := (s.journal.persistNo + 1) % 2 ^ 32,
        persistent := (if s.journal.persistent.length < 512 then s.journal.persistent else s.journal.persistent.drop 1) ++
          [{ e with number := (s.journal.persistNo + 1) % 2 ^ 32 }] } }) ∧
  (∀ (s : State) (t : Nat) (e x : JEntry) (rest : List JEntry), s.awake = true → s.journal.toPersist = e :: rest →
    s.journal.persistent = [x] → x.ev = e.ev →
    exec (.persistentJournalWrite t) s = .next { s.advance t with
      journal := { s.journal with toPersist := rest, persistent := [{ x with count := e.count }] } }) ∧
  (∀ (s : State) (t : Nat), s.power.phase ≠ .held → s.journal.toPersist = [] →
    exec (.persistentJournalWrite t) s = .next (s.advance t)) ∧
  (∀ (s : State) (t n : Nat) (c : Caller), s.awake = true → c.iface ≠ .partner → n < 2 ^ 32 →
    (s.advance t).writeCheck c 0x1200 3 (toLE 4 n) = 0 → s.journal.held ≠ [] →
    s.journal.age n ≤ s.journal.age s.journal.oldest →
    ∃ u, exec (.journalAcknowledge t c n) s = .next u ∧ u.accepted c = true ∧
      u.journal = { s.journal with
        held := s.journal.held.map
          (fun (e : JEntry) => if s.journal.age n ≤ s.journal.age e.number then { e with acked := true } else e) } ∧
      u.dict.settings = s.dict.settings ∧ u.keys = s.keys ∧ u.ports = s.ports ∧ u.basin = (s.advance t).basin) ∧
  (∀ (s : State) (t n : Nat) (c : Caller), s.awake = true → c.iface ≠ .partner → n < 2 ^ 32 →
    (s.advance t).writeCheck c 0x1200 3 (toLE 4 n) = 0 →
    (s.journal.held = [] ∨ s.journal.age s.journal.oldest < s.journal.age n) →
    ∃ u, exec (.journalAcknowledge t c n) s = .next u ∧ u.replyOf c.iface = some ⟨c, 5, 0, 0⟩ ∧
      u.journal = s.journal ∧ u.dict.settings = s.dict.settings ∧ u.keys = s.keys ∧ u.ports = s.ports)

def Obligations.SnapshotsImagesAndMeasurements : Prop :=
  (∀ (s : State) (t idx sub : Nat) (c : Caller), s.awake = true → c.iface ≠ .partner →
    (s.advance t).readCheck c idx sub = 0 → (groupRange idx sub).isSome = true → s.follows = false →
    s.snapshot c (groupName idx sub) = none →
    ∃ u, exec (.counterGroupRead t c idx sub) s = .next u ∧ u.replyOf c.iface = some ⟨c, 0, s.stat idx sub, 8⟩ ∧
      (∀ k ∈ groupMembers idx sub, kget entryDefault u.dict.stat k = 0) ∧
      u.snapshot c (groupName idx sub) = some ⟨c, groupName idx sub,
        (((groupMembers idx sub).map (fun k => (k, kget entryDefault s.dict.stat k))).filter
          (fun v => decide (v.1 ≠ dkey idx sub)))⟩ ∧
      (∀ k, k ∉ groupMembers idx sub → kget entryDefault u.dict.stat k = kget entryDefault s.dict.stat k) ∧
      u.dict.settings = s.dict.settings ∧ u.dict.rowOps = s.dict.rowOps ∧ u.keys = s.keys ∧ u.ports = s.ports) ∧
  (∀ (s : State) (t idx sub v : Nat) (c : Caller) (rest : List (Nat × Nat)), s.awake = true → c.iface ≠ .partner →
    (s.advance t).readCheck c idx sub = 0 → (groupRange idx sub).isSome = true → s.follows = false →
    s.snapshot c (groupName idx sub) = some ⟨c, groupName idx sub, (dkey idx sub, v) :: rest⟩ →
    (∀ x ∈ rest, x.1 ≠ dkey idx sub) →
    ∃ u, exec (.counterGroupRead t c idx sub) s = .next u ∧ u.replyOf c.iface = some ⟨c, 0, v, 8⟩ ∧
      u.snapshot c (groupName idx sub) = some ⟨c, groupName idx sub, rest⟩ ∧ u.dict.stat = s.dict.stat ∧
      u.dict.settings = s.dict.settings ∧ u.keys = s.keys ∧ u.ports = s.ports) ∧
  (∀ (s : State) (t idx sub : Nat) (c : Caller), s.awake = true → c.iface ≠ .partner →
    (s.advance t).readCheck c idx sub = 0 → groupRange idx sub = none →
    ∃ u, exec (.counterGroupRead t c idx sub) s = .next u ∧ u.replyOf c.iface = some ⟨c, 2, 0, 0⟩ ∧
      u.dict.stat = s.dict.stat ∧ u.journal = s.journal) ∧
  (∀ (s : State) (t b : Nat) (c : Caller), s.awake = true → c.iface ≠ .partner → b < 2 ^ 64 →
    (s.advance t).writeCheck c 0x1200 0x10 (toLE 8 b) = 0 → s.journal.request = none →
    (s.advance t).keyEpoch + 4 ≤ b →
    ∃ u, exec (.snapshotRequest t c b) s = .next u ∧ u.accepted c = true ∧
      u.journal = { s.journal with request := some b } ∧ u.dict.settings = s.dict.settings ∧
      u.dict.stat = s.dict.stat ∧ u.keys = s.keys ∧ u.ports = s.ports) ∧
  (∀ (s : State) (t b : Nat) (c : Caller), s.awake = true → c.iface ≠ .partner → b < 2 ^ 64 →
    (s.advance t).writeCheck c 0x1200 0x10 (toLE 8 b) = 0 → s.journal.request = none →
    b < (s.advance t).keyEpoch + 4 →
    ∃ u, exec (.snapshotRequest t c b) s = .next u ∧ u.replyOf c.iface = some ⟨c, 0x0A, 0, 0⟩ ∧
      u.journal = s.journal ∧ u.dict.settings = s.dict.settings ∧ u.keys = s.keys ∧ u.ports = s.ports) ∧
  (∀ (s : State) (t b x : Nat) (c : Caller), s.awake = true → c.iface ≠ .partner → b < 2 ^ 64 →
    (s.advance t).writeCheck c 0x1200 0x10 (toLE 8 b) = 0 → s.journal.request = some x →
    ∃ u, exec (.snapshotRequest t c b) s = .next u ∧ u.replyOf c.iface = some ⟨c, 9, 0, 0⟩ ∧
      u.journal = s.journal ∧ u.dict.settings = s.dict.settings ∧ u.keys = s.keys ∧ u.ports = s.ports) ∧
  (∀ (s : State) (t b : Nat), s.awake = true → s.journal.request = some b → b * 32 ≤ (s.advance t).time.orderNs →
    exec (.snapshotImage t) s = .next { s.advance t with
      journal := { s.journal with
        request := none, imageAt := b,
        image := s.dict.stat.filter (fun x => coveredCounter (x.1 / 256) (x.1 % 256)),
        imageRows := s.dict.rowStat.filter (fun x => hitTable (x.1 / 2 ^ 40)) } }) ∧
  (∀ (s : State) (t : Nat), s.power.phase ≠ .held →
    (∀ b, s.journal.request = some b → (s.advance t).time.orderNs < b * 32) →
    exec (.snapshotImage t) s = .next (s.advance t)) ∧
  (∀ (s : State) (t : Nat) (temps : List Int) (mvs : List Nat), s.awake = true →
    ∃ u, exec (.measurementRefresh t temps mvs) s = .next u ∧
      (∀ k, k < 8 → u.stat 0xC300 (1 + k) = encSgn 16 (nth temps k 0)) ∧
      (∀ k, k < 10 → u.stat 0xC300 (0x10 + k) = nth mvs k 0) ∧
      u.stat 0xC300 9 = encSgn 16 ((temps.take 8).foldl (fun a x => max a x) (sgnOf 16 (s.stat 0xC300 9))) ∧
      (∀ k, (k / 256 ≠ 0xC300 ∨ k % 256 = 0 ∨ 0x0A ≤ k % 256 ∧ k % 256 < 0x10 ∨ 0x1A ≤ k % 256) →
        kget entryDefault u.dict.stat k = kget entryDefault s.dict.stat k) ∧
      u = { s.advance t with dict := { s.dict with stat := u.dict.stat } }) ∧
  (∀ (s : State) (t : Nat) (ppms : List Nat) (mean : Int), s.awake = true →
    (∀ k, k < 8 → (s.advance t).reg 0xC300 0x30 ≤ 1000 - 1000 * nth ppms k 0 / (Config.ageLimit k).toNat) →
    s.stat 0xC300 0x28 < 0xFFFFFFFE → s.stat 0xC300 (0x29 + temperatureBand mean) < 0xFFFFFFFE →
    ∃ u, exec (.ageingMeasurement t ppms mean) s = .next u ∧
      (∀ k, k < 8 → u.stat 0xC300 (0x20 + k) = 1000 - 1000 * nth ppms k 0 / (Config.ageLimit k).toNat) ∧
      u.stat 0xC300 0x28 = s.stat 0xC300 0x28 + 1 ∧
      u.stat 0xC300 (0x29 + temperatureBand mean) = s.stat 0xC300 (0x29 + temperatureBand mean) + 1 ∧
      (∀ k, (k / 256 ≠ 0xC300 ∨ k % 256 < 0x20 ∨ 0x30 ≤ k % 256) →
        kget entryDefault u.dict.stat k = kget entryDefault s.dict.stat k) ∧
      u = { s.advance t with dict := { s.dict with stat := u.dict.stat } }) ∧
  (∀ (s : State) (t : Nat) (mean : Int) (d : Nat), s.awake = true → s.journal.aged = [1, 2, 3, 4, 5, 6, 7] →
    1000 - 1000 * d / (Config.ageLimit 0).toNat < (s.advance t).reg 0xC300 0x30 → s.journal.lastKey = none →
    s.journal.reorder = [] → (s.advance t).time.orderNs < ((s.advance t).nextKey 0x0810).epoch * 32 + 512 * 32 →
    ∃ u, exec (.ageingMeasurement t [d] mean) s = .next u ∧ u.journal.aged = [0, 1, 2, 3, 4, 5, 6, 7] ∧
      u.journal.reorder = [⟨(s.advance t).nextKey 0x0810, (s.advance t).time.orderNs, 0x0E01, 2,
        (1000 - 1000 * d / (Config.ageLimit 0).toNat) * 65536⟩] ∧
      u = { s.advance t with journal := u.journal, dict := u.dict, ord := u.ord }) ∧
  (∀ (s : State) (t n busy : Nat), s.awake = true → n < 24 →
    ∃ u, exec (.busLoadUpdate t n busy) s = .next u ∧
      u.stat (0x7000 + n) 0x25 = (if s.stat (0x7000 + n) 0x20 = 0 then 0 else busy * 1000 / 100000000) ∧
      (∀ k, k ≠ dkey (0x7000 + n) 0x25 → kget entryDefault u.dict.stat k = kget entryDefault s.dict.stat k) ∧
      u = { s.advance t with dict := { s.dict with stat := u.dict.stat } }) ∧
  (∀ (s : State) (t n busy : Nat), 24 ≤ n → exec (.busLoadUpdate t n busy) s = .fault .noSuchUnit) ∧
  (∀ (s : State) (t : Nat) (errs bits : List Nat), s.awake = true →
    ∃ u, exec (.berUpdate t errs bits) s = .next u ∧
      (∀ k, k < 8 → s.stat (0x3040 + k) 1 = 3 → nth bits k 0 ≠ 0 →
        u.stat 0xC300 (0x40 + k) = min 0xFFFFFFFF (nth errs k 0 * 10 ^ 12 / nth bits k 0)) ∧
      (∀ k, k < 8 → s.stat (0x3040 + k) 1 ≠ 3 → u.stat 0xC300 (0x40 + k) = 0) ∧
      (∀ k, k < 4 → bitOf (s.stat 0x9100 4) k = true → nth bits (8 + k) 0 ≠ 0 →
        u.stat 0xC300 (0x48 + k) = min 0xFFFFFFFF (nth errs (8 + k) 0 * 10 ^ 12 / nth bits (8 + k) 0)) ∧
      (∀ k, k < 4 → bitOf (s.stat 0x9100 4) k = false → u.stat 0xC300 (0x48 + k) = 0) ∧
      (∀ k, (k / 256 ≠ 0xC300 ∨ k % 256 < 0x40 ∨ 0x4C ≤ k % 256) →
        kget entryDefault u.dict.stat k = kget entryDefault s.dict.stat k) ∧
      u = { s.advance t with dict := { s.dict with stat := u.dict.stat } })

def Obligations.HostRegistersAndDictionaryRings : Prop :=
  (∀ (s : State) (t v : Nat), s.awake = true → s.host.linkUp = true → bitOf s.host.drCtrl 0 = false →
    exec (.pcieRegisterWrite t 0 8 8 v) s = .next { s.advance t with
      host := { s.host with drqBase := v, half := none } }) ∧
  (∀ (s : State) (t v : Nat), s.awake = true → s.host.linkUp = true → bitOf s.host.drCtrl 0 = false →
    exec (.pcieRegisterWrite t 0 8 4 v) s = .next { s.advance t with
      host := { s.host with half := some (0, 8, v % 2 ^ 32) } }) ∧
  (∀ (s : State) (t v x : Nat), s.awake = true → s.host.linkUp = true → bitOf s.host.drCtrl 0 = false →
    s.host.half = some (0, 8, x) →
    exec (.pcieRegisterWrite t 0 12 4 v) s = .next { s.advance t with
      host := { s.host with drqBase := x + v % 2 ^ 32 * 2 ^ 32, half := none } }) ∧
  (∀ (s : State) (t v n : Nat), s.awake = true → s.host.linkUp = true → n < 16 → s.host.tx.length = 16 →
    bitOf (s.ring false n).ctrl 0 = false →
    ∃ u, exec (.pcieRegisterWrite t 2 (0x40 * n + 8) 4 v) s = .next u ∧ u.ring false n = { s.ring false n with size := v } ∧
      (∀ k, k ≠ n → u.ring false k = s.ring false k) ∧
      u = { s.advance t with host := { s.host with tx := u.host.tx, half := none } }) ∧
  (∀ (s : State) (t bar off width v : Nat), s.awake = true → s.host.linkUp = true →
    s.badWrite bar off width v = true → s.journal.reorder = [] → s.journal.lastKey = none →
    (s.advance t).time.orderNs < (((s.advance t).nextKey 0x0200).epoch + 512) * 32 →
    ∃ u, exec (.pcieRegisterWrite t bar off width v) s = .next u ∧
      u.host = { s.host with
        invalidWr := if s.host.invalidWr = 0xFFFFFFFF then 0xFFFFFFFF else s.host.invalidWr + 1 } ∧
      u.journal.reorder = [⟨(s.advance t).nextKey 0x0200, (s.advance t).time.orderNs, 0x0103, 1,
        off % 2 ^ 48 + bar * 2 ^ 56⟩] ∧
      u = { s.advance t with host := u.host, journal := u.journal, ord := u.ord }) ∧
  (∀ (s : State) (t bar off width v : Nat), s.power.phase ≠ .held → s.host.linkUp = false →
    exec (.pcieRegisterWrite t bar off width v) s = .next (s.advance t)) ∧
  (∀ (s : State) (t bar off width v : Nat), s.awake = true → s.host.linkUp = true →
    s.badWrite bar off width v = true → s.journal.reorder = [] → s.journal.lastKey = none →
    (s.advance t).time.orderNs < (((s.advance t).nextKey 0x0200).epoch + 512) * 32 →
    ∃ u, exec (.invalidPostedWrite t bar off width v) s = .next u ∧
      u.host = { s.host with
        invalidWr := if s.host.invalidWr = 0xFFFFFFFF then 0xFFFFFFFF else s.host.invalidWr + 1 } ∧
      u.journal.reorder = [⟨(s.advance t).nextKey 0x0200, (s.advance t).time.orderNs, 0x0103, 1,
        off % 2 ^ 48 + bar * 2 ^ 56⟩] ∧
      u = { s.advance t with host := u.host, journal := u.journal, ord := u.ord }) ∧
  (∀ (s : State) (t bar off width v : Nat), s.power.phase ≠ .held → s.badWrite bar off width v = false →
    exec (.invalidPostedWrite t bar off width v) s = .next (s.advance t)) ∧
  (∀ (s : State) (t : Nat), s.awake = true → s.host.linkUp = true → bitOf s.host.drCtrl 0 = false →
    exec (.ringEnable t .dict 1) s = .next { s.advance t with
      host := { s.host with
        drCtrl := 1, drStatus := 1, drqTail := 0, drqHead := 0, drsHead := 0, drsTail := 0, requests := [] } }) ∧
  (∀ (s : State) (t : Nat), s.awake = true → s.host.linkUp = true →
    ∃ u, exec (.ringEnable t .dict 0) s = .next u ∧ u.ringWaiting = 0 ∧
      (∀ a ∈ u.dict.awaiting, a ∈ s.dict.awaiting) ∧
      u = { s.advance t with
        host := { s.host with drCtrl := 0, drStatus := 0, requests := [] },
        dict := { s.dict with awaiting := u.dict.awaiting } }) ∧
  (∀ (s : State) (t v n : Nat), s.awake = true → s.host.linkUp = true → n < 16 → s.host.tx.length = 16 →
    s.host.rx.length = 16 → bitOf v 0 = true → v % 256 / 2 = 0 → v / 4096 = 0 →
    (∃ u, exec (.ringEnable t (.tx n) v) s = .next u ∧ (bitOf (s.ring false n).ctrl 0 = false →
        u.ring false n = { s.ring false n with ctrl := v, status := 1, tail := 0, head := 0 } ∧
        ∀ d ∈ u.host.fetched, d.ring ≠ n) ∧ (∀ k, k ≠ n → u.ring false k = s.ring false k) ∧
      u = { s.advance t with host := { s.host with tx := u.host.tx, fetched := u.host.fetched } }) ∧
    (∃ u, exec (.ringEnable t (.rx n) v) s = .next u ∧ (bitOf (s.ring true n).ctrl 0 = false →
        u.ring true n = { s.ring true n with ctrl := v, status := 1, tail := 0, head := 0 } ∧
        ∀ d ∈ u.host.posted, d.ring ≠ n) ∧ (∀ k, k ≠ n → u.ring true k = s.ring true k) ∧
      u = { s.advance t with host := { s.host with rx := u.host.rx, posted := u.host.posted } })) ∧
  (∀ (s : State) (t v n : Nat), 16 ≤ n → exec (.ringEnable t (.tx n) v) s = .fault .noSuchUnit ∧
    exec (.ringEnable t (.rx n) v) s = .fault .noSuchUnit) ∧
  (∀ (s : State) (t v : Nat) (es : List RingEntry), s.awake = true → s.host.linkUp = true → v < s.host.drqSize →
    s.host.drStatus ≠ 1 →
    exec (.drqTailWrite t v es) s = .next { s.advance t with
      host := { s.host with drqTail := v } }) ∧
  (∀ (s : State) (t v : Nat) (es : List RingEntry), s.awake = true → s.host.linkUp = true → s.host.drqSize ≤ v →
    ∃ u, exec (.drqTailWrite t v es) s = .next u ∧ u = (s.advance t).refuseWrite 0 0x14 ∧
      u.host = { s.host with
        invalidWr := if s.host.invalidWr = 0xFFFFFFFF then 0xFFFFFFFF else s.host.invalidWr + 1, vectors := u.host.vectors,
        pba := u.host.pba }) ∧
  (∀ (s : State) (t tag : Nat), s.awake = true → s.host.linkUp = true → s.host.drStatus = 1 → s.host.requests = [] →
    s.dict.awaiting = [] → tag < 256 → s.host.drqTail + 1 < s.host.drqSize → s.host.drqSize < 65536 →
    s.host.drsTail + 1 < s.host.drsSize → s.host.drsHead = s.host.drsTail → s.host.drMod = 0 → s.host.masked = 0 →
    s.host.drqHead + 1 < s.host.drqSize →
    ∃ u, exec (.drqTailWrite t (s.host.drqTail + 1) [⟨[8, BitVec.ofNat 8 tag] ++ List.replicate 30 0, none⟩]) s = .next u ∧
      u.host.writes = s.host.writes ++
        [⟨s.host.drsBase + 32 * s.host.drsTail, [8, BitVec.ofNat 8 tag] ++ List.replicate 30 0⟩] ∧
      u.host.drsTail = s.host.drsTail + 1 ∧ u.host.drqHead = s.host.drqHead + 1 ∧
      u.host.drqTail = s.host.drqTail + 1 ∧ u.host.requests = [] ∧ u.host.drStatus = 1 ∧
      u.ord = ((s.advance t).issueKey 0x0200).ord ∧ u.dict.settings = s.dict.settings ∧ u.keys = s.keys ∧
      u.ports = s.ports) ∧
  (∀ (s : State) (t : Nat) (e : RingEntry), s.awake = true → s.host.linkUp = true → s.host.drStatus = 1 →
    s.host.drqTail + 1 < s.host.drqSize →
    (s.host.drsHead + s.host.drsSize - 1 - s.host.drsTail) % s.host.drsSize ≤ s.ringWaiting →
    exec (.drqTailWrite t (s.host.drqTail + 1) [e]) s = .next { s.advance t with
      host := { s.host with drqTail := s.host.drqTail + 1, requests := s.host.requests ++ [e] } }) ∧
  (∀ (s : State) (t : Nat), s.awake = true → s.host.linkUp = true → s.host.drStatus = 1 →
    s.host.drqTail + 1 < s.host.drqSize → s.host.requests = [] →
    exec (.drqTailWrite t (s.host.drqTail + 1) []) s = .next { s.advance t with
      host := { s.host with drqTail := s.host.drqTail + 1, drStatus := 3 } }) ∧
  (∀ (s : State) (t v : Nat), s.awake = true → s.host.linkUp = true → v < s.host.drsSize → s.host.requests = [] →
    exec (.drsHeadWrite t v) s = .next { s.advance t with
      host := { s.host with drsHead := v } }) ∧
  (∀ (s : State) (t tag : Nat), s.awake = true → s.host.linkUp = true → s.host.drStatus = 1 → tag < 256 →
    s.host.requests = [⟨[8, BitVec.ofNat 8 tag] ++ List.replicate 30 0, none⟩] → s.dict.awaiting = [] →
    s.host.drsTail + 1 < s.host.drsSize → s.host.drMod = 0 → s.host.masked = 0 → s.host.drqHead + 1 < s.host.drqSize →
    ∃ u, exec (.drsHeadWrite t s.host.drsTail) s = .next u ∧ u.host.requests = [] ∧
      u.host.drsHead = s.host.drsTail ∧ u.host.drsTail = s.host.drsTail + 1 ∧ u.host.drqHead = s.host.drqHead + 1 ∧
      u.host.writes = s.host.writes ++
        [⟨s.host.drsBase + 32 * s.host.drsTail, [8, BitVec.ofNat 8 tag] ++ List.replicate 30 0⟩] ∧
      u.dict.settings = s.dict.settings ∧ u.keys = s.keys ∧ u.ports = s.ports)

def Obligations.HostFramesVectorsAndLink : Prop :=
  (∀ (s : State) (t n v : Nat), s.awake = true → n < 16 → s.host.tx.length = 16 → s.host.linkUp = true →
    v < (s.ring false n).size →
    ∃ u, exec (.txTailWrite t n v) s = .next u ∧ u.ring false n = { s.ring false n with tail := v } ∧
      (∀ k, k ≠ n → u.ring false k = s.ring false k) ∧
      u = { s.advance t with host := { s.host with tx := u.host.tx } }) ∧
  (∀ (s : State) (t n v : Nat), s.awake = true → n < 16 → s.host.linkUp = true → (s.ring false n).size ≤ v →
    ∃ u, exec (.txTailWrite t n v) s = .next u ∧ u = (s.advance t).refuseWrite 2 (0x40 * n + 0x0C) ∧
      u.host.tx = s.host.tx) ∧
  (∀ (s : State) (t n : Nat) (d : TxDescriptor) (x : Nat × List Nat), s.awake = true → n < 16 →
    (s.advance t).portUp 28 = true → s.txPending n = true → s.power.phase ≠ .idle → (s.advance t).descriptorStatus d = 0 →
    (s.advance t).drrServe n d.length = some x →
    ∃ u, exec (.txDescriptorFetch t n d) s = .next u ∧
      u = ((({ s.advance t with host := { s.host with
          drrTurn := x.1, deficits := x.2, fetched := s.host.fetched ++ [⟨n, s.fetchIndex n, 0, d.flags⟩] } } : State)).takeFrame
          28 28 28 ((s.advance t).hostFrame d) (s.advance t).time.raw 0 true) ∧
      60 ≤ ((s.advance t).hostFrame d).bytes.length ∧
      ((s.advance t).hostFrame d).bytes.take (min d.length d.frame.length) = d.frame.take d.length ∧
      u.keys = s.keys ∧ u.power = s.power ∧ u.access = s.access) ∧
  (∀ (s : State) (t n st : Nat) (d : TxDescriptor) (x : Nat × List Nat), s.awake = true → n < 16 → s.host.tx.length = 16 →
    (s.advance t).portUp 28 = true → s.txPending n = true → s.power.phase ≠ .idle →
    (s.advance t).descriptorStatus d = st → st ≠ 0 → st ≠ 0x0E → (s.advance t).drrServe n 0 = some x →
    (s.ring false n).refused < 0xFFFFFFFF →
    ∃ u, exec (.txDescriptorFetch t n d) s = .next u ∧ u.host.fetched = s.host.fetched ++ [⟨n, s.fetchIndex n, st, d.flags⟩] ∧
      u.ring false n = { s.ring false n with refused := (s.ring false n).refused + 1 } ∧
      (∀ k, k ≠ n → u.ring false k = s.ring false k) ∧ u = { s.advance t with host := u.host }) ∧
  (∀ (s : State) (t n : Nat) (d : TxDescriptor) (x : Nat × List Nat), s.awake = true → n < 16 → s.host.tx.length = 16 →
    (s.advance t).portUp 28 = true → s.txPending n = true → s.power.phase ≠ .idle →
    (s.advance t).descriptorStatus d = 0x0E → (s.advance t).drrServe n 0 = some x → (s.ring false n).refused < 0xFFFFFFFF →
    ∃ u, exec (.txDescriptorFetch t n d) s = .next u ∧
      u.ring false n = { s.ring false n with refused := (s.ring false n).refused + 1, status := 2 } ∧
      (∀ k, k ≠ n → u.ring false k = s.ring false k) ∧ u = { s.advance t with host := u.host }) ∧
  (∀ (s : State) (t n : Nat) (d : TxDescriptor), s.power.phase ≠ .held → n < 16 →
    ((s.advance t).portUp 28 = false ∨ s.txPending n = false) →
    exec (.txDescriptorFetch t n d) s = .next (s.advance t)) ∧
  (∀ (s : State) (t n : Nat) (d : TxDesc), s.awake = true → n < 16 → s.host.tx.length = 16 → s.host.fetched = [d] →
    d.ring = n → bitOf d.flags 3 = false → (s.ring false n).headWb ≠ 0 → (s.ring false n).head + 1 < (s.ring false n).size →
    ∃ u, exec (.txDescriptorComplete t n) s = .next u ∧ u.host.fetched = [] ∧
      (u.ring false n).head = (s.ring false n).head + 1 ∧
      u.host.writes = s.host.writes ++ [⟨(s.ring false n).base + 32 * d.index + 28, toLE 2 d.status⟩,
        ⟨(s.ring false n).headWb, toLE 4 ((s.ring false n).head + 1)⟩] ∧ u.host.vectors = s.host.vectors ∧
      (∀ k, k ≠ n → u.ring false k = s.ring false k) ∧ u = { s.advance t with host := u.host }) ∧
  (∀ (s : State) (t n : Nat), s.power.phase ≠ .held → n < 16 → (∀ d ∈ s.host.fetched, d.ring ≠ n) →
    exec (.txDescriptorComplete t n) s = .next (s.advance t)) ∧
  (∀ (s : State) (t n : Nat) (b c : Nat × Nat), s.awake = true → n < 16 → s.host.rx.length = 16 → s.host.linkUp = true →
    (s.ring true n).status = 1 → (s.ring true n).tail + 2 < (s.ring true n).size →
    ∃ u, exec (.rxTailWrite t n ((s.ring true n).tail + 2) [b, c]) s = .next u ∧
      u.ring true n = { s.ring true n with tail := (s.ring true n).tail + 2 } ∧
      u.host.posted = s.host.posted ++ [⟨n, (s.ring true n).tail, b.1, b.2⟩, ⟨n, (s.ring true n).tail + 1, c.1, c.2⟩] ∧
      (∀ k, k ≠ n → u.ring true k = s.ring true k) ∧
      u = { s.advance t with host := { s.host with rx := u.host.rx, posted := u.host.posted } }) ∧
  (∀ (s : State) (t n : Nat) (b : Nat × Nat), s.awake = true → n < 16 → s.host.rx.length = 16 → s.host.linkUp = true →
    (s.ring true n).status = 1 → (s.ring true n).tail + 2 < (s.ring true n).size →
    ∃ u, exec (.rxTailWrite t n ((s.ring true n).tail + 2) [b]) s = .next u ∧
      u.ring true n = { s.ring true n with tail := (s.ring true n).tail + 2, status := 2 } ∧
      u.host.posted = s.host.posted ++ [⟨n, (s.ring true n).tail, b.1, b.2⟩] ∧
      u = { s.advance t with host := { s.host with rx := u.host.rx, posted := u.host.posted } }) ∧
  (∀ (s : State) (t q n : Nat) (c : Copy) (f : Frame) (b : RxBuffer), s.awake = true → q < 8 → s.basin.tx.length = 32 →
    s.host.rx.length = 16 → (s.advance t).rxServes = true → s.basin.copies = [c] → c.port = 28 → c.queue = q → c.kind = .plain →
    c.cut = false → s.frame c.frame = some f → (s.advance t).headDrop c = none → (s.advance t).headState 28 q c f = .yes →
    (s.ptx 28).cur = none → (s.ptx 28).held = none → s.readFault f none = none → (s.advance t).secyOn 28 = false →
    (s.advance t).rxRing q f = n →
    (s.ring true n).status = 1 → s.host.posted = [b] → b.ring = n → ((s.advance t).hostOctets f c).length ≤ b.len →
    (s.ring true n).headWb = 0 → (s.ring true n).head + 1 < (s.ring true n).size →
    ∃ u, exec (.rxCopyWrite t q) s = .next u ∧ u.basin.copies = [] ∧ u.host.posted = [] ∧
      u.host.writes = s.host.writes ++ [⟨b.addr, metaBytes f ++ (s.advance t).copyBytes f c ++
          fcsBytes ((s.advance t).copyBytes f c) false⟩,
        ⟨(s.ring true n).base + 32 * b.index + 10, toLE 2 ((s.advance t).hostOctets f c).length ++ toLE 1 1 ++ toLE 1 q⟩,
        ⟨(s.ring true n).base + 32 * b.index + 28, [0, 0]⟩] ∧
      (u.ring true n).head = (s.ring true n).head + 1 ∧ u.keys = s.keys ∧ u.power = s.power ∧ u.access = s.access) ∧
  (∀ (s : State) (t q : Nat) (c : Copy) (f : Frame), s.awake = true → q < 8 →
    s.host.rx.length = 16 → (s.advance t).rxServes = true → s.basin.copies = [c] → c.port = 28 → c.queue = q →
    s.frame c.frame = some f → (s.advance t).headDrop c = none → (s.advance t).headState 28 q c f = .yes →
    (s.ptx 28).cur = none → (s.ptx 28).held = none → s.host.posted = [] → c.id ∉ s.host.starved →
    (s.ring true ((s.advance t).rxRing q f)).refused < 0xFFFFFFFF → (s.advance t).rxRing q f < 16 →
    ∃ u, exec (.rxCopyWrite t q) s = .next u ∧ u.basin.copies = [c] ∧ u.host.writes = s.host.writes ∧
      (u.ring true ((s.advance t).rxRing q f)).refused = (s.ring true ((s.advance t).rxRing q f)).refused + 1 ∧
      c.id ∈ u.host.starved ∧ u.keys = s.keys ∧ u.power = s.power ∧ u.access = s.access) ∧
  (∀ (s : State) (t q : Nat), s.awake = true → q < 8 → (s.advance t).portUp 28 = false → (∀ c ∈ s.basin.copies, c.port ≠ 28) →
    exec (.rxCopyWrite t q) s = .next (s.advance t)) ∧
  (∀ (s : State) (t v : Nat), s.awake = true → v < 64 → bitOf s.host.masked v = false →
    (kget (fun _ => (⟨0, 0⟩ : VectorMod)) s.host.mods v).count ≠ 0 → s.vectorMod v / 65536 ≠ 0 →
    (kget (fun _ => (⟨0, 0⟩ : VectorMod)) s.host.mods v).since + s.vectorMod v / 65536 * 1000 ≤ (s.advance t).time.raw →
    ∃ u, exec (.msixModerationExpired t v) s = .next u ∧
      u.host = { s.host with
        mods := u.host.mods,
        vectors := kput (fun _ => 0) s.host.vectors v (kget (fun _ => 0) s.host.vectors v + 1) } ∧
      kget (fun _ => (⟨0, 0⟩ : VectorMod)) u.host.mods v = ⟨0, 0⟩ ∧
      (∀ k, k ≠ v → kget (fun _ => (⟨0, 0⟩ : VectorMod)) u.host.mods k =
        kget (fun _ => (⟨0, 0⟩ : VectorMod)) s.host.mods k) ∧ u = { s.advance t with host := u.host }) ∧
  (∀ (s : State) (t v : Nat), s.power.phase ≠ .held → v < 64 →
    ((kget (fun _ => (⟨0, 0⟩ : VectorMod)) s.host.mods v).count = 0 ∨ (s.advance t).time.raw <
      (kget (fun _ => (⟨0, 0⟩ : VectorMod)) s.host.mods v).since + s.vectorMod v / 65536 * 1000) →
    exec (.msixModerationExpired t v) s = .next (s.advance t)) ∧
  (∀ (s : State) (t : Nat), s.awake = true → s.access.sessions.length = 8 →
    ∃ u, exec (.pcieLinkReset t) s = .next u ∧
      u.host = { State.reset.host with writes := s.host.writes, vectors := s.host.vectors } ∧
      (∀ a ∈ u.dict.awaiting, a.caller.iface ≠ .host) ∧
      (∀ n, 1 ≤ n → n ≤ 8 → (u.session n).host = false ∨ (u.session n).state = 0) ∧
      (∀ c, u.dict.staging.state = .open_ → u.dict.staging.owner = some c → c.iface ≠ .host) ∧
      u.dict.settings = s.dict.settings ∧ u.dict.rowOps = s.dict.rowOps ∧ u.keys = s.keys ∧ u.power = s.power ∧
      u.saddle = s.saddle ∧ u.safety = s.safety ∧ u.legacy = s.legacy ∧ u.elnar = s.elnar) ∧
  (∀ (s : State) (t lanes gen : Nat), s.awake = true → s.host.linkUp = false → (lanes = 1 ∨ lanes = 2 ∨ lanes = 4) →
    1 ≤ gen → gen ≤ 4 →
    ∃ u, exec (.pcieLinkUp t lanes gen) s = .next u ∧ u.host.linkUp = true ∧ u.host.link = lanes + 16 * gen ∧
      u.host.tx = s.host.tx ∧ u.host.rx = s.host.rx ∧ u.keys = s.keys ∧ u.power = s.power ∧ u.access = s.access ∧
      (∀ p, p ≠ 28 → u.port p = s.port p)) ∧
  (∀ (s : State) (t lanes gen : Nat), s.power.phase ≠ .held → s.host.linkUp = true →
    (lanes = 1 ∨ lanes = 2 ∨ lanes = 4) → 1 ≤ gen → gen ≤ 4 →
    exec (.pcieLinkUp t lanes gen) s = .next (s.advance t)) ∧
  (∀ (s : State) (t lanes gen : Nat), (lanes ≠ 1 ∧ lanes ≠ 2 ∧ lanes ≠ 4 ∨ gen = 0 ∨ 4 < gen) →
    exec (.pcieLinkUp t lanes gen) s = .fault .noSuchUnit)
end

