-- ==== Sys2Proof/Laws/Shape.lean ====
section
/-! SUPPORT. What only time, a step of the working clock and a reset change: the queue of commands, how many units of each kind
there are, the raw counter and order time. -/

namespace Sys2Proof.Machine

open Sys2Proof

/-- How many units of each kind the state holds. -/
def State.sizes (s : State) : List Nat :=
  [s.time.sets.length, s.time.txStamps.length, s.time.triggers.length, s.time.captures.length,
   s.ord.units.length,
   s.access.sessions.length,
   s.safety.pairs.length, s.safety.watchdogs.length,
   s.ports.length,
   s.basin.tx.length, s.basin.gates.length,
   s.legacy.can.length, s.legacy.lin.length, s.legacy.errn.length,
   s.elnar.rx.length, s.elnar.tx.length,
   s.host.tx.length, s.host.rx.length,
   s.power.lowQueues.length]

/-- The queue of commands, the numbers of units, and the time: the raw counter and order time. -/
def State.shape (s : State) : List Instr × List Nat × Nat × Nat := (s.pending, s.sizes, s.time.raw, s.time.orderNs)

/-- Changing one element keeps a list's length. -/
@[simp] theorem modNth_length {α : Type} (l : List α) (n : Nat) (f : α → α) : (modNth l n f).length = l.length := by
  induction l generalizing n with
  | nil => rfl
  | cons x xs ih => cases n <;> simp [modNth, ih]

/-- Changing the elements of a kind keeps a list's length. -/
@[simp] theorem modWhere_length {α : Type} (p : α → Bool) (f : α → α) (l : List α) : (modWhere p f l).length = l.length := by
  simp [modWhere]

@[simp] theorem shape_time (s : State) (x : TimeBase) (h0 : x.sets.length = s.time.sets.length) (h1 : x.txStamps.length = s.time.txStamps.length) (h2 : x.triggers.length = s.time.triggers.length) (h3 : x.captures.length = s.time.captures.length)
    (h4 : x.raw = s.time.raw) (h5 : x.orderNs = s.time.orderNs) : ({ s with time := x } : State).shape = s.shape := by
  simp [State.shape, State.sizes, h0, h1, h2, h3, h4, h5]

@[simp] theorem shape_ord (s : State) (x : Ordering) (h0 : x.units.length = s.ord.units.length) : ({ s with ord := x } : State).shape = s.shape := by
  simp [State.shape, State.sizes, h0]

@[simp] theorem shape_dict (s : State) (x : Dict) : ({ s with dict := x } : State).shape = s.shape := by simp only [State.shape, State.sizes]

@[simp] theorem shape_access (s : State) (x : Access) (h0 : x.sessions.length = s.access.sessions.length) : ({ s with access := x } : State).shape = s.shape := by
  simp [State.shape, State.sizes, h0]

@[simp] theorem shape_journal (s : State) (x : Journal) : ({ s with journal := x } : State).shape = s.shape := by simp only [State.shape, State.sizes]

@[simp] theorem shape_safety (s : State) (x : Safety) (h0 : x.pairs.length = s.safety.pairs.length) (h1 : x.watchdogs.length = s.safety.watchdogs.length) : ({ s with safety := x } : State).shape = s.shape := by
  simp [State.shape, State.sizes, h0, h1]

@[simp] theorem shape_host (s : State) (x : HostIf) (h0 : x.tx.length = s.host.tx.length) (h1 : x.rx.length = s.host.rx.length) : ({ s with host := x } : State).shape = s.shape := by
  simp [State.shape, State.sizes, h0, h1]

@[simp] theorem shape_ports (s : State) (x : List Port) (h0 : x.length = s.ports.length) : ({ s with ports := x } : State).shape = s.shape := by
  simp [State.shape, State.sizes, h0]

@[simp] theorem shape_saddle (s : State) (x : Saddle) : ({ s with saddle := x } : State).shape = s.shape := by simp only [State.shape, State.sizes]

@[simp] theorem shape_keys (s : State) (x : KeyStore) : ({ s with keys := x } : State).shape = s.shape := by simp only [State.shape, State.sizes]

@[simp] theorem shape_power (s : State) (x : Power) (h0 : x.lowQueues.length = s.power.lowQueues.length) : ({ s with power := x } : State).shape = s.shape := by
  simp [State.shape, State.sizes, h0]

@[simp] theorem shape_basin (s : State) (x : Basin) (h0 : x.tx.length = s.basin.tx.length) (h1 : x.gates.length = s.basin.gates.length) : ({ s with basin := x } : State).shape = s.shape := by
  simp [State.shape, State.sizes, h0, h1]

@[simp] theorem shape_narrows (s : State) (x : Narrows) : ({ s with narrows := x } : State).shape = s.shape := by simp only [State.shape, State.sizes]

@[simp] theorem shape_legacy (s : State) (x : Legacy) (h0 : x.can.length = s.legacy.can.length) (h1 : x.lin.length = s.legacy.lin.length) (h2 : x.errn.length = s.legacy.errn.length) : ({ s with legacy := x } : State).shape = s.shape := by
  simp [State.shape, State.sizes, h0, h1, h2]

@[simp] theorem shape_ford (s : State) (x : Ford) : ({ s with ford := x } : State).shape = s.shape := by simp only [State.shape, State.sizes]

@[simp] theorem shape_elnar (s : State) (x : Elnar) (h0 : x.rx.length = s.elnar.rx.length) (h1 : x.tx.length = s.elnar.tx.length) : ({ s with elnar := x } : State).shape = s.shape := by
  simp [State.shape, State.sizes, h0, h1]

@[simp] theorem shape_fresh (s : State) (x : Nat) : ({ s with fresh := x } : State).shape = s.shape := by simp only [State.shape, State.sizes]

/-- The time base and the ordering units change together. -/
@[simp] theorem shape_time_ord (s : State) (x : TimeBase) (y : Ordering) (h0 : x.sets.length = s.time.sets.length)
    (h1 : x.txStamps.length = s.time.txStamps.length) (h2 : x.triggers.length = s.time.triggers.length)
    (h3 : x.captures.length = s.time.captures.length) (h4 : y.units.length = s.ord.units.length)
    (h5 : x.raw = s.time.raw) (h6 : x.orderNs = s.time.orderNs) :
    ({ s with time := x, ord := y } : State).shape = s.shape := by
  simp [State.shape, State.sizes, h0, h1, h2, h3, h4, h5, h6]

/-- A choice between states of the same shape. -/
@[simp] theorem shape_ite (p : Prop) [Decidable p] (a b : State) :
    (if p then a else b).shape = if p then a.shape else b.shape := by split <;> rfl

/-- A choice between pairs. -/
@[simp] theorem shape_ite_fst {α : Type} (p : Prop) [Decidable p] (a b : State × α) :
    (if p then a else b).1.shape = if p then a.1.shape else b.1.shape := by split <;> rfl

/-- A fold whose steps keep the shape keeps it. -/
@[simp] theorem shape_foldl {α : Type} (f : State → α → State) (h : ∀ s x, (f s x).shape = s.shape) (l : List α) (s : State) :
    (l.foldl f s).shape = s.shape := by
  induction l generalizing s with
  | nil => rfl
  | cons x xs ih => simp [List.foldl, ih, h]

/-- A fold over a pair with a state. -/
@[simp] theorem shape_foldl_fst {α β : Type} (f : State × β → α → State × β) (h : ∀ s x, (f s x).1.shape = s.1.shape) (l : List α)
    (s : State × β) : (l.foldl f s).1.shape = s.1.shape := by
  induction l generalizing s with
  | nil => rfl
  | cons x xs ih => simp [List.foldl, ih, h]

end Sys2Proof.Machine
end

