-- ==== Sys2Proof/Laws/State.lean ====
section
/-! SUPPORT. What the named updates of the state leave unchanged, field by field. -/

namespace Sys2Proof.Machine

open Sys2Proof

/-! ### `State.modPort` changes only `ports` -/

@[simp] theorem State.modPort_time (s : State) (p : Nat) (f : Port → Port) : (s.modPort p f).time = s.time := rfl
@[simp] theorem State.modPort_ord (s : State) (p : Nat) (f : Port → Port) : (s.modPort p f).ord = s.ord := rfl
@[simp] theorem State.modPort_dict (s : State) (p : Nat) (f : Port → Port) : (s.modPort p f).dict = s.dict := rfl
@[simp] theorem State.modPort_access (s : State) (p : Nat) (f : Port → Port) : (s.modPort p f).access = s.access := rfl
@[simp] theorem State.modPort_journal (s : State) (p : Nat) (f : Port → Port) : (s.modPort p f).journal = s.journal := rfl
@[simp] theorem State.modPort_safety (s : State) (p : Nat) (f : Port → Port) : (s.modPort p f).safety = s.safety := rfl
@[simp] theorem State.modPort_host (s : State) (p : Nat) (f : Port → Port) : (s.modPort p f).host = s.host := rfl
@[simp] theorem State.modPort_saddle (s : State) (p : Nat) (f : Port → Port) : (s.modPort p f).saddle = s.saddle := rfl
@[simp] theorem State.modPort_keys (s : State) (p : Nat) (f : Port → Port) : (s.modPort p f).keys = s.keys := rfl
@[simp] theorem State.modPort_power (s : State) (p : Nat) (f : Port → Port) : (s.modPort p f).power = s.power := rfl
@[simp] theorem State.modPort_basin (s : State) (p : Nat) (f : Port → Port) : (s.modPort p f).basin = s.basin := rfl
@[simp] theorem State.modPort_narrows (s : State) (p : Nat) (f : Port → Port) : (s.modPort p f).narrows = s.narrows := rfl
@[simp] theorem State.modPort_legacy (s : State) (p : Nat) (f : Port → Port) : (s.modPort p f).legacy = s.legacy := rfl
@[simp] theorem State.modPort_ford (s : State) (p : Nat) (f : Port → Port) : (s.modPort p f).ford = s.ford := rfl
@[simp] theorem State.modPort_elnar (s : State) (p : Nat) (f : Port → Port) : (s.modPort p f).elnar = s.elnar := rfl
@[simp] theorem State.modPort_fresh (s : State) (p : Nat) (f : Port → Port) : (s.modPort p f).fresh = s.fresh := rfl
@[simp] theorem State.modPort_pending (s : State) (p : Nat) (f : Port → Port) : (s.modPort p f).pending = s.pending := rfl

/-! ### `State.modFrame` changes only `basin` -/

@[simp] theorem State.modFrame_time (s : State) (id : Nat) (f : Frame → Frame) : (s.modFrame id f).time = s.time := rfl
@[simp] theorem State.modFrame_ord (s : State) (id : Nat) (f : Frame → Frame) : (s.modFrame id f).ord = s.ord := rfl
@[simp] theorem State.modFrame_dict (s : State) (id : Nat) (f : Frame → Frame) : (s.modFrame id f).dict = s.dict := rfl
@[simp] theorem State.modFrame_access (s : State) (id : Nat) (f : Frame → Frame) : (s.modFrame id f).access = s.access := rfl
@[simp] theorem State.modFrame_journal (s : State) (id : Nat) (f : Frame → Frame) : (s.modFrame id f).journal = s.journal := rfl
@[simp] theorem State.modFrame_safety (s : State) (id : Nat) (f : Frame → Frame) : (s.modFrame id f).safety = s.safety := rfl
@[simp] theorem State.modFrame_host (s : State) (id : Nat) (f : Frame → Frame) : (s.modFrame id f).host = s.host := rfl
@[simp] theorem State.modFrame_ports (s : State) (id : Nat) (f : Frame → Frame) : (s.modFrame id f).ports = s.ports := rfl
@[simp] theorem State.modFrame_saddle (s : State) (id : Nat) (f : Frame → Frame) : (s.modFrame id f).saddle = s.saddle := rfl
@[simp] theorem State.modFrame_keys (s : State) (id : Nat) (f : Frame → Frame) : (s.modFrame id f).keys = s.keys := rfl
@[simp] theorem State.modFrame_power (s : State) (id : Nat) (f : Frame → Frame) : (s.modFrame id f).power = s.power := rfl
@[simp] theorem State.modFrame_narrows (s : State) (id : Nat) (f : Frame → Frame) : (s.modFrame id f).narrows = s.narrows := rfl
@[simp] theorem State.modFrame_legacy (s : State) (id : Nat) (f : Frame → Frame) : (s.modFrame id f).legacy = s.legacy := rfl
@[simp] theorem State.modFrame_ford (s : State) (id : Nat) (f : Frame → Frame) : (s.modFrame id f).ford = s.ford := rfl
@[simp] theorem State.modFrame_elnar (s : State) (id : Nat) (f : Frame → Frame) : (s.modFrame id f).elnar = s.elnar := rfl
@[simp] theorem State.modFrame_fresh (s : State) (id : Nat) (f : Frame → Frame) : (s.modFrame id f).fresh = s.fresh := rfl
@[simp] theorem State.modFrame_pending (s : State) (id : Nat) (f : Frame → Frame) : (s.modFrame id f).pending = s.pending := rfl

/-! ### `State.modTx` changes only `basin` -/

@[simp] theorem State.modTx_time (s : State) (p : Nat) (f : PortTx → PortTx) : (s.modTx p f).time = s.time := rfl
@[simp] theorem State.modTx_ord (s : State) (p : Nat) (f : PortTx → PortTx) : (s.modTx p f).ord = s.ord := rfl
@[simp] theorem State.modTx_dict (s : State) (p : Nat) (f : PortTx → PortTx) : (s.modTx p f).dict = s.dict := rfl
@[simp] theorem State.modTx_access (s : State) (p : Nat) (f : PortTx → PortTx) : (s.modTx p f).access = s.access := rfl
@[simp] theorem State.modTx_journal (s : State) (p : Nat) (f : PortTx → PortTx) : (s.modTx p f).journal = s.journal := rfl
@[simp] theorem State.modTx_safety (s : State) (p : Nat) (f : PortTx → PortTx) : (s.modTx p f).safety = s.safety := rfl
@[simp] theorem State.modTx_host (s : State) (p : Nat) (f : PortTx → PortTx) : (s.modTx p f).host = s.host := rfl
@[simp] theorem State.modTx_ports (s : State) (p : Nat) (f : PortTx → PortTx) : (s.modTx p f).ports = s.ports := rfl
@[simp] theorem State.modTx_saddle (s : State) (p : Nat) (f : PortTx → PortTx) : (s.modTx p f).saddle = s.saddle := rfl
@[simp] theorem State.modTx_keys (s : State) (p : Nat) (f : PortTx → PortTx) : (s.modTx p f).keys = s.keys := rfl
@[simp] theorem State.modTx_power (s : State) (p : Nat) (f : PortTx → PortTx) : (s.modTx p f).power = s.power := rfl
@[simp] theorem State.modTx_narrows (s : State) (p : Nat) (f : PortTx → PortTx) : (s.modTx p f).narrows = s.narrows := rfl
@[simp] theorem State.modTx_legacy (s : State) (p : Nat) (f : PortTx → PortTx) : (s.modTx p f).legacy = s.legacy := rfl
@[simp] theorem State.modTx_ford (s : State) (p : Nat) (f : PortTx → PortTx) : (s.modTx p f).ford = s.ford := rfl
@[simp] theorem State.modTx_elnar (s : State) (p : Nat) (f : PortTx → PortTx) : (s.modTx p f).elnar = s.elnar := rfl
@[simp] theorem State.modTx_fresh (s : State) (p : Nat) (f : PortTx → PortTx) : (s.modTx p f).fresh = s.fresh := rfl
@[simp] theorem State.modTx_pending (s : State) (p : Nat) (f : PortTx → PortTx) : (s.modTx p f).pending = s.pending := rfl

/-! ### `State.modSession` changes only `access` -/

@[simp] theorem State.modSession_time (s : State) (n : Nat) (f : Session → Session) : (s.modSession n f).time = s.time := rfl
@[simp] theorem State.modSession_ord (s : State) (n : Nat) (f : Session → Session) : (s.modSession n f).ord = s.ord := rfl
@[simp] theorem State.modSession_dict (s : State) (n : Nat) (f : Session → Session) : (s.modSession n f).dict = s.dict := rfl
@[simp] theorem State.modSession_journal (s : State) (n : Nat) (f : Session → Session) : (s.modSession n f).journal = s.journal := rfl
@[simp] theorem State.modSession_safety (s : State) (n : Nat) (f : Session → Session) : (s.modSession n f).safety = s.safety := rfl
@[simp] theorem State.modSession_host (s : State) (n : Nat) (f : Session → Session) : (s.modSession n f).host = s.host := rfl
@[simp] theorem State.modSession_ports (s : State) (n : Nat) (f : Session → Session) : (s.modSession n f).ports = s.ports := rfl
@[simp] theorem State.modSession_saddle (s : State) (n : Nat) (f : Session → Session) : (s.modSession n f).saddle = s.saddle := rfl
@[simp] theorem State.modSession_keys (s : State) (n : Nat) (f : Session → Session) : (s.modSession n f).keys = s.keys := rfl
@[simp] theorem State.modSession_power (s : State) (n : Nat) (f : Session → Session) : (s.modSession n f).power = s.power := rfl
@[simp] theorem State.modSession_basin (s : State) (n : Nat) (f : Session → Session) : (s.modSession n f).basin = s.basin := rfl
@[simp] theorem State.modSession_narrows (s : State) (n : Nat) (f : Session → Session) : (s.modSession n f).narrows = s.narrows := rfl
@[simp] theorem State.modSession_legacy (s : State) (n : Nat) (f : Session → Session) : (s.modSession n f).legacy = s.legacy := rfl
@[simp] theorem State.modSession_ford (s : State) (n : Nat) (f : Session → Session) : (s.modSession n f).ford = s.ford := rfl
@[simp] theorem State.modSession_elnar (s : State) (n : Nat) (f : Session → Session) : (s.modSession n f).elnar = s.elnar := rfl
@[simp] theorem State.modSession_fresh (s : State) (n : Nat) (f : Session → Session) : (s.modSession n f).fresh = s.fresh := rfl
@[simp] theorem State.modSession_pending (s : State) (n : Nat) (f : Session → Session) : (s.modSession n f).pending = s.pending := rfl

/-! ### `State.reply` changes only `dict` -/

@[simp] theorem State.reply_time (s : State) (c : Caller) (status value len : Nat) : (s.reply c status value len).time = s.time := rfl
@[simp] theorem State.reply_ord (s : State) (c : Caller) (status value len : Nat) : (s.reply c status value len).ord = s.ord := rfl
@[simp] theorem State.reply_access (s : State) (c : Caller) (status value len : Nat) : (s.reply c status value len).access = s.access := rfl
@[simp] theorem State.reply_journal (s : State) (c : Caller) (status value len : Nat) : (s.reply c status value len).journal = s.journal := rfl
@[simp] theorem State.reply_safety (s : State) (c : Caller) (status value len : Nat) : (s.reply c status value len).safety = s.safety := rfl
@[simp] theorem State.reply_host (s : State) (c : Caller) (status value len : Nat) : (s.reply c status value len).host = s.host := rfl
@[simp] theorem State.reply_ports (s : State) (c : Caller) (status value len : Nat) : (s.reply c status value len).ports = s.ports := rfl
@[simp] theorem State.reply_saddle (s : State) (c : Caller) (status value len : Nat) : (s.reply c status value len).saddle = s.saddle := rfl
@[simp] theorem State.reply_keys (s : State) (c : Caller) (status value len : Nat) : (s.reply c status value len).keys = s.keys := rfl
@[simp] theorem State.reply_power (s : State) (c : Caller) (status value len : Nat) : (s.reply c status value len).power = s.power := rfl
@[simp] theorem State.reply_basin (s : State) (c : Caller) (status value len : Nat) : (s.reply c status value len).basin = s.basin := rfl
@[simp] theorem State.reply_narrows (s : State) (c : Caller) (status value len : Nat) : (s.reply c status value len).narrows = s.narrows := rfl
@[simp] theorem State.reply_legacy (s : State) (c : Caller) (status value len : Nat) : (s.reply c status value len).legacy = s.legacy := rfl
@[simp] theorem State.reply_ford (s : State) (c : Caller) (status value len : Nat) : (s.reply c status value len).ford = s.ford := rfl
@[simp] theorem State.reply_elnar (s : State) (c : Caller) (status value len : Nat) : (s.reply c status value len).elnar = s.elnar := rfl
@[simp] theorem State.reply_fresh (s : State) (c : Caller) (status value len : Nat) : (s.reply c status value len).fresh = s.fresh := rfl
@[simp] theorem State.reply_pending (s : State) (c : Caller) (status value len : Nat) : (s.reply c status value len).pending = s.pending := rfl

/-! ### `State.stage` changes only `dict` -/

@[simp] theorem State.stage_time (s : State) (c : Caller) (w : StagedWork) : (s.stage c w).time = s.time := rfl
@[simp] theorem State.stage_ord (s : State) (c : Caller) (w : StagedWork) : (s.stage c w).ord = s.ord := rfl
@[simp] theorem State.stage_access (s : State) (c : Caller) (w : StagedWork) : (s.stage c w).access = s.access := rfl
@[simp] theorem State.stage_journal (s : State) (c : Caller) (w : StagedWork) : (s.stage c w).journal = s.journal := rfl
@[simp] theorem State.stage_safety (s : State) (c : Caller) (w : StagedWork) : (s.stage c w).safety = s.safety := rfl
@[simp] theorem State.stage_host (s : State) (c : Caller) (w : StagedWork) : (s.stage c w).host = s.host := rfl
@[simp] theorem State.stage_ports (s : State) (c : Caller) (w : StagedWork) : (s.stage c w).ports = s.ports := rfl
@[simp] theorem State.stage_saddle (s : State) (c : Caller) (w : StagedWork) : (s.stage c w).saddle = s.saddle := rfl
@[simp] theorem State.stage_keys (s : State) (c : Caller) (w : StagedWork) : (s.stage c w).keys = s.keys := rfl
@[simp] theorem State.stage_power (s : State) (c : Caller) (w : StagedWork) : (s.stage c w).power = s.power := rfl
@[simp] theorem State.stage_basin (s : State) (c : Caller) (w : StagedWork) : (s.stage c w).basin = s.basin := rfl
@[simp] theorem State.stage_narrows (s : State) (c : Caller) (w : StagedWork) : (s.stage c w).narrows = s.narrows := rfl
@[simp] theorem State.stage_legacy (s : State) (c : Caller) (w : StagedWork) : (s.stage c w).legacy = s.legacy := rfl
@[simp] theorem State.stage_ford (s : State) (c : Caller) (w : StagedWork) : (s.stage c w).ford = s.ford := rfl
@[simp] theorem State.stage_elnar (s : State) (c : Caller) (w : StagedWork) : (s.stage c w).elnar = s.elnar := rfl
@[simp] theorem State.stage_fresh (s : State) (c : Caller) (w : StagedWork) : (s.stage c w).fresh = s.fresh := rfl
@[simp] theorem State.stage_pending (s : State) (c : Caller) (w : StagedWork) : (s.stage c w).pending = s.pending := rfl

/-! ### `State.emptyStaging` changes only `dict` -/

@[simp] theorem State.emptyStaging_time (s : State) : (s.emptyStaging ).time = s.time := rfl
@[simp] theorem State.emptyStaging_ord (s : State) : (s.emptyStaging ).ord = s.ord := rfl
@[simp] theorem State.emptyStaging_access (s : State) : (s.emptyStaging ).access = s.access := rfl
@[simp] theorem State.emptyStaging_journal (s : State) : (s.emptyStaging ).journal = s.journal := rfl
@[simp] theorem State.emptyStaging_safety (s : State) : (s.emptyStaging ).safety = s.safety := rfl
@[simp] theorem State.emptyStaging_host (s : State) : (s.emptyStaging ).host = s.host := rfl
@[simp] theorem State.emptyStaging_ports (s : State) : (s.emptyStaging ).ports = s.ports := rfl
@[simp] theorem State.emptyStaging_saddle (s : State) : (s.emptyStaging ).saddle = s.saddle := rfl
@[simp] theorem State.emptyStaging_keys (s : State) : (s.emptyStaging ).keys = s.keys := rfl
@[simp] theorem State.emptyStaging_power (s : State) : (s.emptyStaging ).power = s.power := rfl
@[simp] theorem State.emptyStaging_basin (s : State) : (s.emptyStaging ).basin = s.basin := rfl
@[simp] theorem State.emptyStaging_narrows (s : State) : (s.emptyStaging ).narrows = s.narrows := rfl
@[simp] theorem State.emptyStaging_legacy (s : State) : (s.emptyStaging ).legacy = s.legacy := rfl
@[simp] theorem State.emptyStaging_ford (s : State) : (s.emptyStaging ).ford = s.ford := rfl
@[simp] theorem State.emptyStaging_elnar (s : State) : (s.emptyStaging ).elnar = s.elnar := rfl
@[simp] theorem State.emptyStaging_fresh (s : State) : (s.emptyStaging ).fresh = s.fresh := rfl
@[simp] theorem State.emptyStaging_pending (s : State) : (s.emptyStaging ).pending = s.pending := rfl

/-! ### `State.journalChange` changes only `dict` -/

@[simp] theorem State.journalChange_time (s : State) (c : Caller) (kind idx sub : Nat) (old new : Bytes) (epoch : Nat) : (s.journalChange c kind idx sub old new epoch).time = s.time := rfl
@[simp] theorem State.journalChange_ord (s : State) (c : Caller) (kind idx sub : Nat) (old new : Bytes) (epoch : Nat) : (s.journalChange c kind idx sub old new epoch).ord = s.ord := rfl
@[simp] theorem State.journalChange_access (s : State) (c : Caller) (kind idx sub : Nat) (old new : Bytes) (epoch : Nat) : (s.journalChange c kind idx sub old new epoch).access = s.access := rfl
@[simp] theorem State.journalChange_journal (s : State) (c : Caller) (kind idx sub : Nat) (old new : Bytes) (epoch : Nat) : (s.journalChange c kind idx sub old new epoch).journal = s.journal := rfl
@[simp] theorem State.journalChange_safety (s : State) (c : Caller) (kind idx sub : Nat) (old new : Bytes) (epoch : Nat) : (s.journalChange c kind idx sub old new epoch).safety = s.safety := rfl
@[simp] theorem State.journalChange_host (s : State) (c : Caller) (kind idx sub : Nat) (old new : Bytes) (epoch : Nat) : (s.journalChange c kind idx sub old new epoch).host = s.host := rfl
@[simp] theorem State.journalChange_ports (s : State) (c : Caller) (kind idx sub : Nat) (old new : Bytes) (epoch : Nat) : (s.journalChange c kind idx sub old new epoch).ports = s.ports := rfl
@[simp] theorem State.journalChange_saddle (s : State) (c : Caller) (kind idx sub : Nat) (old new : Bytes) (epoch : Nat) : (s.journalChange c kind idx sub old new epoch).saddle = s.saddle := rfl
@[simp] theorem State.journalChange_keys (s : State) (c : Caller) (kind idx sub : Nat) (old new : Bytes) (epoch : Nat) : (s.journalChange c kind idx sub old new epoch).keys = s.keys := rfl
@[simp] theorem State.journalChange_power (s : State) (c : Caller) (kind idx sub : Nat) (old new : Bytes) (epoch : Nat) : (s.journalChange c kind idx sub old new epoch).power = s.power := rfl
@[simp] theorem State.journalChange_basin (s : State) (c : Caller) (kind idx sub : Nat) (old new : Bytes) (epoch : Nat) : (s.journalChange c kind idx sub old new epoch).basin = s.basin := rfl
@[simp] theorem State.journalChange_narrows (s : State) (c : Caller) (kind idx sub : Nat) (old new : Bytes) (epoch : Nat) : (s.journalChange c kind idx sub old new epoch).narrows = s.narrows := rfl
@[simp] theorem State.journalChange_legacy (s : State) (c : Caller) (kind idx sub : Nat) (old new : Bytes) (epoch : Nat) : (s.journalChange c kind idx sub old new epoch).legacy = s.legacy := rfl
@[simp] theorem State.journalChange_ford (s : State) (c : Caller) (kind idx sub : Nat) (old new : Bytes) (epoch : Nat) : (s.journalChange c kind idx sub old new epoch).ford = s.ford := rfl
@[simp] theorem State.journalChange_elnar (s : State) (c : Caller) (kind idx sub : Nat) (old new : Bytes) (epoch : Nat) : (s.journalChange c kind idx sub old new epoch).elnar = s.elnar := rfl
@[simp] theorem State.journalChange_fresh (s : State) (c : Caller) (kind idx sub : Nat) (old new : Bytes) (epoch : Nat) : (s.journalChange c kind idx sub old new epoch).fresh = s.fresh := rfl
@[simp] theorem State.journalChange_pending (s : State) (c : Caller) (kind idx sub : Nat) (old new : Bytes) (epoch : Nat) : (s.journalChange c kind idx sub old new epoch).pending = s.pending := rfl

/-! ### `State.addSetting` changes only `dict` -/

@[simp] theorem State.addSetting_time (s : State) (epoch kep src key val : Nat) : (s.addSetting epoch kep src key val).time = s.time := rfl
@[simp] theorem State.addSetting_ord (s : State) (epoch kep src key val : Nat) : (s.addSetting epoch kep src key val).ord = s.ord := rfl
@[simp] theorem State.addSetting_access (s : State) (epoch kep src key val : Nat) : (s.addSetting epoch kep src key val).access = s.access := rfl
@[simp] theorem State.addSetting_journal (s : State) (epoch kep src key val : Nat) : (s.addSetting epoch kep src key val).journal = s.journal := rfl
@[simp] theorem State.addSetting_safety (s : State) (epoch kep src key val : Nat) : (s.addSetting epoch kep src key val).safety = s.safety := rfl
@[simp] theorem State.addSetting_host (s : State) (epoch kep src key val : Nat) : (s.addSetting epoch kep src key val).host = s.host := rfl
@[simp] theorem State.addSetting_ports (s : State) (epoch kep src key val : Nat) : (s.addSetting epoch kep src key val).ports = s.ports := rfl
@[simp] theorem State.addSetting_saddle (s : State) (epoch kep src key val : Nat) : (s.addSetting epoch kep src key val).saddle = s.saddle := rfl
@[simp] theorem State.addSetting_keys (s : State) (epoch kep src key val : Nat) : (s.addSetting epoch kep src key val).keys = s.keys := rfl
@[simp] theorem State.addSetting_power (s : State) (epoch kep src key val : Nat) : (s.addSetting epoch kep src key val).power = s.power := rfl
@[simp] theorem State.addSetting_basin (s : State) (epoch kep src key val : Nat) : (s.addSetting epoch kep src key val).basin = s.basin := rfl
@[simp] theorem State.addSetting_narrows (s : State) (epoch kep src key val : Nat) : (s.addSetting epoch kep src key val).narrows = s.narrows := rfl
@[simp] theorem State.addSetting_legacy (s : State) (epoch kep src key val : Nat) : (s.addSetting epoch kep src key val).legacy = s.legacy := rfl
@[simp] theorem State.addSetting_ford (s : State) (epoch kep src key val : Nat) : (s.addSetting epoch kep src key val).ford = s.ford := rfl
@[simp] theorem State.addSetting_elnar (s : State) (epoch kep src key val : Nat) : (s.addSetting epoch kep src key val).elnar = s.elnar := rfl
@[simp] theorem State.addSetting_fresh (s : State) (epoch kep src key val : Nat) : (s.addSetting epoch kep src key val).fresh = s.fresh := rfl
@[simp] theorem State.addSetting_pending (s : State) (epoch kep src key val : Nat) : (s.addSetting epoch kep src key val).pending = s.pending := rfl

/-! ### `State.addRowOp` changes only `dict` -/

@[simp] theorem State.addRowOp_time (s : State) (epoch kep src tbl pos : Nat) (vals : Option (List Nat)) : (s.addRowOp epoch kep src tbl pos vals).time = s.time := rfl
@[simp] theorem State.addRowOp_ord (s : State) (epoch kep src tbl pos : Nat) (vals : Option (List Nat)) : (s.addRowOp epoch kep src tbl pos vals).ord = s.ord := rfl
@[simp] theorem State.addRowOp_access (s : State) (epoch kep src tbl pos : Nat) (vals : Option (List Nat)) : (s.addRowOp epoch kep src tbl pos vals).access = s.access := rfl
@[simp] theorem State.addRowOp_journal (s : State) (epoch kep src tbl pos : Nat) (vals : Option (List Nat)) : (s.addRowOp epoch kep src tbl pos vals).journal = s.journal := rfl
@[simp] theorem State.addRowOp_safety (s : State) (epoch kep src tbl pos : Nat) (vals : Option (List Nat)) : (s.addRowOp epoch kep src tbl pos vals).safety = s.safety := rfl
@[simp] theorem State.addRowOp_host (s : State) (epoch kep src tbl pos : Nat) (vals : Option (List Nat)) : (s.addRowOp epoch kep src tbl pos vals).host = s.host := rfl
@[simp] theorem State.addRowOp_ports (s : State) (epoch kep src tbl pos : Nat) (vals : Option (List Nat)) : (s.addRowOp epoch kep src tbl pos vals).ports = s.ports := rfl
@[simp] theorem State.addRowOp_saddle (s : State) (epoch kep src tbl pos : Nat) (vals : Option (List Nat)) : (s.addRowOp epoch kep src tbl pos vals).saddle = s.saddle := rfl
@[simp] theorem State.addRowOp_keys (s : State) (epoch kep src tbl pos : Nat) (vals : Option (List Nat)) : (s.addRowOp epoch kep src tbl pos vals).keys = s.keys := rfl
@[simp] theorem State.addRowOp_power (s : State) (epoch kep src tbl pos : Nat) (vals : Option (List Nat)) : (s.addRowOp epoch kep src tbl pos vals).power = s.power := rfl
@[simp] theorem State.addRowOp_basin (s : State) (epoch kep src tbl pos : Nat) (vals : Option (List Nat)) : (s.addRowOp epoch kep src tbl pos vals).basin = s.basin := rfl
@[simp] theorem State.addRowOp_narrows (s : State) (epoch kep src tbl pos : Nat) (vals : Option (List Nat)) : (s.addRowOp epoch kep src tbl pos vals).narrows = s.narrows := rfl
@[simp] theorem State.addRowOp_legacy (s : State) (epoch kep src tbl pos : Nat) (vals : Option (List Nat)) : (s.addRowOp epoch kep src tbl pos vals).legacy = s.legacy := rfl
@[simp] theorem State.addRowOp_ford (s : State) (epoch kep src tbl pos : Nat) (vals : Option (List Nat)) : (s.addRowOp epoch kep src tbl pos vals).ford = s.ford := rfl
@[simp] theorem State.addRowOp_elnar (s : State) (epoch kep src tbl pos : Nat) (vals : Option (List Nat)) : (s.addRowOp epoch kep src tbl pos vals).elnar = s.elnar := rfl
@[simp] theorem State.addRowOp_fresh (s : State) (epoch kep src tbl pos : Nat) (vals : Option (List Nat)) : (s.addRowOp epoch kep src tbl pos vals).fresh = s.fresh := rfl
@[simp] theorem State.addRowOp_pending (s : State) (epoch kep src tbl pos : Nat) (vals : Option (List Nat)) : (s.addRowOp epoch kep src tbl pos vals).pending = s.pending := rfl

/-! ### `State.modTxLane` changes only `elnar` -/

@[simp] theorem State.modTxLane_time (s : State) (r : Nat) (f : TxLane → TxLane) : (s.modTxLane r f).time = s.time := rfl
@[simp] theorem State.modTxLane_ord (s : State) (r : Nat) (f : TxLane → TxLane) : (s.modTxLane r f).ord = s.ord := rfl
@[simp] theorem State.modTxLane_dict (s : State) (r : Nat) (f : TxLane → TxLane) : (s.modTxLane r f).dict = s.dict := rfl
@[simp] theorem State.modTxLane_access (s : State) (r : Nat) (f : TxLane → TxLane) : (s.modTxLane r f).access = s.access := rfl
@[simp] theorem State.modTxLane_journal (s : State) (r : Nat) (f : TxLane → TxLane) : (s.modTxLane r f).journal = s.journal := rfl
@[simp] theorem State.modTxLane_safety (s : State) (r : Nat) (f : TxLane → TxLane) : (s.modTxLane r f).safety = s.safety := rfl
@[simp] theorem State.modTxLane_host (s : State) (r : Nat) (f : TxLane → TxLane) : (s.modTxLane r f).host = s.host := rfl
@[simp] theorem State.modTxLane_ports (s : State) (r : Nat) (f : TxLane → TxLane) : (s.modTxLane r f).ports = s.ports := rfl
@[simp] theorem State.modTxLane_saddle (s : State) (r : Nat) (f : TxLane → TxLane) : (s.modTxLane r f).saddle = s.saddle := rfl
@[simp] theorem State.modTxLane_keys (s : State) (r : Nat) (f : TxLane → TxLane) : (s.modTxLane r f).keys = s.keys := rfl
@[simp] theorem State.modTxLane_power (s : State) (r : Nat) (f : TxLane → TxLane) : (s.modTxLane r f).power = s.power := rfl
@[simp] theorem State.modTxLane_basin (s : State) (r : Nat) (f : TxLane → TxLane) : (s.modTxLane r f).basin = s.basin := rfl
@[simp] theorem State.modTxLane_narrows (s : State) (r : Nat) (f : TxLane → TxLane) : (s.modTxLane r f).narrows = s.narrows := rfl
@[simp] theorem State.modTxLane_legacy (s : State) (r : Nat) (f : TxLane → TxLane) : (s.modTxLane r f).legacy = s.legacy := rfl
@[simp] theorem State.modTxLane_ford (s : State) (r : Nat) (f : TxLane → TxLane) : (s.modTxLane r f).ford = s.ford := rfl
@[simp] theorem State.modTxLane_fresh (s : State) (r : Nat) (f : TxLane → TxLane) : (s.modTxLane r f).fresh = s.fresh := rfl
@[simp] theorem State.modTxLane_pending (s : State) (r : Nat) (f : TxLane → TxLane) : (s.modTxLane r f).pending = s.pending := rfl

/-! ### `State.modPdu` changes only `ford` -/

@[simp] theorem State.modPdu_time (s : State) (n : Nat) (f : PduState → PduState) : (s.modPdu n f).time = s.time := rfl
@[simp] theorem State.modPdu_ord (s : State) (n : Nat) (f : PduState → PduState) : (s.modPdu n f).ord = s.ord := rfl
@[simp] theorem State.modPdu_dict (s : State) (n : Nat) (f : PduState → PduState) : (s.modPdu n f).dict = s.dict := rfl
@[simp] theorem State.modPdu_access (s : State) (n : Nat) (f : PduState → PduState) : (s.modPdu n f).access = s.access := rfl
@[simp] theorem State.modPdu_journal (s : State) (n : Nat) (f : PduState → PduState) : (s.modPdu n f).journal = s.journal := rfl
@[simp] theorem State.modPdu_safety (s : State) (n : Nat) (f : PduState → PduState) : (s.modPdu n f).safety = s.safety := rfl
@[simp] theorem State.modPdu_host (s : State) (n : Nat) (f : PduState → PduState) : (s.modPdu n f).host = s.host := rfl
@[simp] theorem State.modPdu_ports (s : State) (n : Nat) (f : PduState → PduState) : (s.modPdu n f).ports = s.ports := rfl
@[simp] theorem State.modPdu_saddle (s : State) (n : Nat) (f : PduState → PduState) : (s.modPdu n f).saddle = s.saddle := rfl
@[simp] theorem State.modPdu_keys (s : State) (n : Nat) (f : PduState → PduState) : (s.modPdu n f).keys = s.keys := rfl
@[simp] theorem State.modPdu_power (s : State) (n : Nat) (f : PduState → PduState) : (s.modPdu n f).power = s.power := rfl
@[simp] theorem State.modPdu_basin (s : State) (n : Nat) (f : PduState → PduState) : (s.modPdu n f).basin = s.basin := rfl
@[simp] theorem State.modPdu_narrows (s : State) (n : Nat) (f : PduState → PduState) : (s.modPdu n f).narrows = s.narrows := rfl
@[simp] theorem State.modPdu_legacy (s : State) (n : Nat) (f : PduState → PduState) : (s.modPdu n f).legacy = s.legacy := rfl
@[simp] theorem State.modPdu_elnar (s : State) (n : Nat) (f : PduState → PduState) : (s.modPdu n f).elnar = s.elnar := rfl
@[simp] theorem State.modPdu_fresh (s : State) (n : Nat) (f : PduState → PduState) : (s.modPdu n f).fresh = s.fresh := rfl
@[simp] theorem State.modPdu_pending (s : State) (n : Nat) (f : PduState → PduState) : (s.modPdu n f).pending = s.pending := rfl

/-! ### `State.setImage` changes only `ford` -/

@[simp] theorem State.setImage_time (s : State) (n : Nat) (b : Bytes) : (s.setImage n b).time = s.time := rfl
@[simp] theorem State.setImage_ord (s : State) (n : Nat) (b : Bytes) : (s.setImage n b).ord = s.ord := rfl
@[simp] theorem State.setImage_dict (s : State) (n : Nat) (b : Bytes) : (s.setImage n b).dict = s.dict := rfl
@[simp] theorem State.setImage_access (s : State) (n : Nat) (b : Bytes) : (s.setImage n b).access = s.access := rfl
@[simp] theorem State.setImage_journal (s : State) (n : Nat) (b : Bytes) : (s.setImage n b).journal = s.journal := rfl
@[simp] theorem State.setImage_safety (s : State) (n : Nat) (b : Bytes) : (s.setImage n b).safety = s.safety := rfl
@[simp] theorem State.setImage_host (s : State) (n : Nat) (b : Bytes) : (s.setImage n b).host = s.host := rfl
@[simp] theorem State.setImage_ports (s : State) (n : Nat) (b : Bytes) : (s.setImage n b).ports = s.ports := rfl
@[simp] theorem State.setImage_saddle (s : State) (n : Nat) (b : Bytes) : (s.setImage n b).saddle = s.saddle := rfl
@[simp] theorem State.setImage_keys (s : State) (n : Nat) (b : Bytes) : (s.setImage n b).keys = s.keys := rfl
@[simp] theorem State.setImage_power (s : State) (n : Nat) (b : Bytes) : (s.setImage n b).power = s.power := rfl
@[simp] theorem State.setImage_basin (s : State) (n : Nat) (b : Bytes) : (s.setImage n b).basin = s.basin := rfl
@[simp] theorem State.setImage_narrows (s : State) (n : Nat) (b : Bytes) : (s.setImage n b).narrows = s.narrows := rfl
@[simp] theorem State.setImage_legacy (s : State) (n : Nat) (b : Bytes) : (s.setImage n b).legacy = s.legacy := rfl
@[simp] theorem State.setImage_elnar (s : State) (n : Nat) (b : Bytes) : (s.setImage n b).elnar = s.elnar := rfl
@[simp] theorem State.setImage_fresh (s : State) (n : Nat) (b : Bytes) : (s.setImage n b).fresh = s.fresh := rfl
@[simp] theorem State.setImage_pending (s : State) (n : Nat) (b : Bytes) : (s.setImage n b).pending = s.pending := rfl

/-! ### `State.modGate` changes only `basin` -/

@[simp] theorem State.modGate_time (s : State) (p : Nat) (f : GateEngine → GateEngine) : (s.modGate p f).time = s.time := rfl
@[simp] theorem State.modGate_ord (s : State) (p : Nat) (f : GateEngine → GateEngine) : (s.modGate p f).ord = s.ord := rfl
@[simp] theorem State.modGate_dict (s : State) (p : Nat) (f : GateEngine → GateEngine) : (s.modGate p f).dict = s.dict := rfl
@[simp] theorem State.modGate_access (s : State) (p : Nat) (f : GateEngine → GateEngine) : (s.modGate p f).access = s.access := rfl
@[simp] theorem State.modGate_journal (s : State) (p : Nat) (f : GateEngine → GateEngine) : (s.modGate p f).journal = s.journal := rfl
@[simp] theorem State.modGate_safety (s : State) (p : Nat) (f : GateEngine → GateEngine) : (s.modGate p f).safety = s.safety := rfl
@[simp] theorem State.modGate_host (s : State) (p : Nat) (f : GateEngine → GateEngine) : (s.modGate p f).host = s.host := rfl
@[simp] theorem State.modGate_ports (s : State) (p : Nat) (f : GateEngine → GateEngine) : (s.modGate p f).ports = s.ports := rfl
@[simp] theorem State.modGate_saddle (s : State) (p : Nat) (f : GateEngine → GateEngine) : (s.modGate p f).saddle = s.saddle := rfl
@[simp] theorem State.modGate_keys (s : State) (p : Nat) (f : GateEngine → GateEngine) : (s.modGate p f).keys = s.keys := rfl
@[simp] theorem State.modGate_power (s : State) (p : Nat) (f : GateEngine → GateEngine) : (s.modGate p f).power = s.power := rfl
@[simp] theorem State.modGate_narrows (s : State) (p : Nat) (f : GateEngine → GateEngine) : (s.modGate p f).narrows = s.narrows := rfl
@[simp] theorem State.modGate_legacy (s : State) (p : Nat) (f : GateEngine → GateEngine) : (s.modGate p f).legacy = s.legacy := rfl
@[simp] theorem State.modGate_ford (s : State) (p : Nat) (f : GateEngine → GateEngine) : (s.modGate p f).ford = s.ford := rfl
@[simp] theorem State.modGate_elnar (s : State) (p : Nat) (f : GateEngine → GateEngine) : (s.modGate p f).elnar = s.elnar := rfl
@[simp] theorem State.modGate_fresh (s : State) (p : Nat) (f : GateEngine → GateEngine) : (s.modGate p f).fresh = s.fresh := rfl
@[simp] theorem State.modGate_pending (s : State) (p : Nat) (f : GateEngine → GateEngine) : (s.modGate p f).pending = s.pending := rfl

/-! ### `State.setSlot` changes only `keys` -/

@[simp] theorem State.setSlot_time (s : State) (n : Nat) (x : KeySlot) : (s.setSlot n x).time = s.time := rfl
@[simp] theorem State.setSlot_ord (s : State) (n : Nat) (x : KeySlot) : (s.setSlot n x).ord = s.ord := rfl
@[simp] theorem State.setSlot_dict (s : State) (n : Nat) (x : KeySlot) : (s.setSlot n x).dict = s.dict := rfl
@[simp] theorem State.setSlot_access (s : State) (n : Nat) (x : KeySlot) : (s.setSlot n x).access = s.access := rfl
@[simp] theorem State.setSlot_journal (s : State) (n : Nat) (x : KeySlot) : (s.setSlot n x).journal = s.journal := rfl
@[simp] theorem State.setSlot_safety (s : State) (n : Nat) (x : KeySlot) : (s.setSlot n x).safety = s.safety := rfl
@[simp] theorem State.setSlot_host (s : State) (n : Nat) (x : KeySlot) : (s.setSlot n x).host = s.host := rfl
@[simp] theorem State.setSlot_ports (s : State) (n : Nat) (x : KeySlot) : (s.setSlot n x).ports = s.ports := rfl
@[simp] theorem State.setSlot_saddle (s : State) (n : Nat) (x : KeySlot) : (s.setSlot n x).saddle = s.saddle := rfl
@[simp] theorem State.setSlot_power (s : State) (n : Nat) (x : KeySlot) : (s.setSlot n x).power = s.power := rfl
@[simp] theorem State.setSlot_basin (s : State) (n : Nat) (x : KeySlot) : (s.setSlot n x).basin = s.basin := rfl
@[simp] theorem State.setSlot_narrows (s : State) (n : Nat) (x : KeySlot) : (s.setSlot n x).narrows = s.narrows := rfl
@[simp] theorem State.setSlot_legacy (s : State) (n : Nat) (x : KeySlot) : (s.setSlot n x).legacy = s.legacy := rfl
@[simp] theorem State.setSlot_ford (s : State) (n : Nat) (x : KeySlot) : (s.setSlot n x).ford = s.ford := rfl
@[simp] theorem State.setSlot_elnar (s : State) (n : Nat) (x : KeySlot) : (s.setSlot n x).elnar = s.elnar := rfl
@[simp] theorem State.setSlot_fresh (s : State) (n : Nat) (x : KeySlot) : (s.setSlot n x).fresh = s.fresh := rfl
@[simp] theorem State.setSlot_pending (s : State) (n : Nat) (x : KeySlot) : (s.setSlot n x).pending = s.pending := rfl

/-! ### `State.modCan` changes only `legacy` -/

@[simp] theorem State.modCan_time (s : State) (n : Nat) (f : CanCtl → CanCtl) : (s.modCan n f).time = s.time := rfl
@[simp] theorem State.modCan_ord (s : State) (n : Nat) (f : CanCtl → CanCtl) : (s.modCan n f).ord = s.ord := rfl
@[simp] theorem State.modCan_dict (s : State) (n : Nat) (f : CanCtl → CanCtl) : (s.modCan n f).dict = s.dict := rfl
@[simp] theorem State.modCan_access (s : State) (n : Nat) (f : CanCtl → CanCtl) : (s.modCan n f).access = s.access := rfl
@[simp] theorem State.modCan_journal (s : State) (n : Nat) (f : CanCtl → CanCtl) : (s.modCan n f).journal = s.journal := rfl
@[simp] theorem State.modCan_safety (s : State) (n : Nat) (f : CanCtl → CanCtl) : (s.modCan n f).safety = s.safety := rfl
@[simp] theorem State.modCan_host (s : State) (n : Nat) (f : CanCtl → CanCtl) : (s.modCan n f).host = s.host := rfl
@[simp] theorem State.modCan_ports (s : State) (n : Nat) (f : CanCtl → CanCtl) : (s.modCan n f).ports = s.ports := rfl
@[simp] theorem State.modCan_saddle (s : State) (n : Nat) (f : CanCtl → CanCtl) : (s.modCan n f).saddle = s.saddle := rfl
@[simp] theorem State.modCan_keys (s : State) (n : Nat) (f : CanCtl → CanCtl) : (s.modCan n f).keys = s.keys := rfl
@[simp] theorem State.modCan_power (s : State) (n : Nat) (f : CanCtl → CanCtl) : (s.modCan n f).power = s.power := rfl
@[simp] theorem State.modCan_basin (s : State) (n : Nat) (f : CanCtl → CanCtl) : (s.modCan n f).basin = s.basin := rfl
@[simp] theorem State.modCan_narrows (s : State) (n : Nat) (f : CanCtl → CanCtl) : (s.modCan n f).narrows = s.narrows := rfl
@[simp] theorem State.modCan_ford (s : State) (n : Nat) (f : CanCtl → CanCtl) : (s.modCan n f).ford = s.ford := rfl
@[simp] theorem State.modCan_elnar (s : State) (n : Nat) (f : CanCtl → CanCtl) : (s.modCan n f).elnar = s.elnar := rfl
@[simp] theorem State.modCan_fresh (s : State) (n : Nat) (f : CanCtl → CanCtl) : (s.modCan n f).fresh = s.fresh := rfl
@[simp] theorem State.modCan_pending (s : State) (n : Nat) (f : CanCtl → CanCtl) : (s.modCan n f).pending = s.pending := rfl

/-! ### `State.modLin` changes only `legacy` -/

@[simp] theorem State.modLin_time (s : State) (n : Nat) (f : LinCtl → LinCtl) : (s.modLin n f).time = s.time := rfl
@[simp] theorem State.modLin_ord (s : State) (n : Nat) (f : LinCtl → LinCtl) : (s.modLin n f).ord = s.ord := rfl
@[simp] theorem State.modLin_dict (s : State) (n : Nat) (f : LinCtl → LinCtl) : (s.modLin n f).dict = s.dict := rfl
@[simp] theorem State.modLin_access (s : State) (n : Nat) (f : LinCtl → LinCtl) : (s.modLin n f).access = s.access := rfl
@[simp] theorem State.modLin_journal (s : State) (n : Nat) (f : LinCtl → LinCtl) : (s.modLin n f).journal = s.journal := rfl
@[simp] theorem State.modLin_safety (s : State) (n : Nat) (f : LinCtl → LinCtl) : (s.modLin n f).safety = s.safety := rfl
@[simp] theorem State.modLin_host (s : State) (n : Nat) (f : LinCtl → LinCtl) : (s.modLin n f).host = s.host := rfl
@[simp] theorem State.modLin_ports (s : State) (n : Nat) (f : LinCtl → LinCtl) : (s.modLin n f).ports = s.ports := rfl
@[simp] theorem State.modLin_saddle (s : State) (n : Nat) (f : LinCtl → LinCtl) : (s.modLin n f).saddle = s.saddle := rfl
@[simp] theorem State.modLin_keys (s : State) (n : Nat) (f : LinCtl → LinCtl) : (s.modLin n f).keys = s.keys := rfl
@[simp] theorem State.modLin_power (s : State) (n : Nat) (f : LinCtl → LinCtl) : (s.modLin n f).power = s.power := rfl
@[simp] theorem State.modLin_basin (s : State) (n : Nat) (f : LinCtl → LinCtl) : (s.modLin n f).basin = s.basin := rfl
@[simp] theorem State.modLin_narrows (s : State) (n : Nat) (f : LinCtl → LinCtl) : (s.modLin n f).narrows = s.narrows := rfl
@[simp] theorem State.modLin_ford (s : State) (n : Nat) (f : LinCtl → LinCtl) : (s.modLin n f).ford = s.ford := rfl
@[simp] theorem State.modLin_elnar (s : State) (n : Nat) (f : LinCtl → LinCtl) : (s.modLin n f).elnar = s.elnar := rfl
@[simp] theorem State.modLin_fresh (s : State) (n : Nat) (f : LinCtl → LinCtl) : (s.modLin n f).fresh = s.fresh := rfl
@[simp] theorem State.modLin_pending (s : State) (n : Nat) (f : LinCtl → LinCtl) : (s.modLin n f).pending = s.pending := rfl

/-! ### `State.modRx` changes only `elnar` -/

@[simp] theorem State.modRx_time (s : State) (r : Nat) (f : RxLane → RxLane) : (s.modRx r f).time = s.time := rfl
@[simp] theorem State.modRx_ord (s : State) (r : Nat) (f : RxLane → RxLane) : (s.modRx r f).ord = s.ord := rfl
@[simp] theorem State.modRx_dict (s : State) (r : Nat) (f : RxLane → RxLane) : (s.modRx r f).dict = s.dict := rfl
@[simp] theorem State.modRx_access (s : State) (r : Nat) (f : RxLane → RxLane) : (s.modRx r f).access = s.access := rfl
@[simp] theorem State.modRx_journal (s : State) (r : Nat) (f : RxLane → RxLane) : (s.modRx r f).journal = s.journal := rfl
@[simp] theorem State.modRx_safety (s : State) (r : Nat) (f : RxLane → RxLane) : (s.modRx r f).safety = s.safety := rfl
@[simp] theorem State.modRx_host (s : State) (r : Nat) (f : RxLane → RxLane) : (s.modRx r f).host = s.host := rfl
@[simp] theorem State.modRx_ports (s : State) (r : Nat) (f : RxLane → RxLane) : (s.modRx r f).ports = s.ports := rfl
@[simp] theorem State.modRx_saddle (s : State) (r : Nat) (f : RxLane → RxLane) : (s.modRx r f).saddle = s.saddle := rfl
@[simp] theorem State.modRx_keys (s : State) (r : Nat) (f : RxLane → RxLane) : (s.modRx r f).keys = s.keys := rfl
@[simp] theorem State.modRx_power (s : State) (r : Nat) (f : RxLane → RxLane) : (s.modRx r f).power = s.power := rfl
@[simp] theorem State.modRx_basin (s : State) (r : Nat) (f : RxLane → RxLane) : (s.modRx r f).basin = s.basin := rfl
@[simp] theorem State.modRx_narrows (s : State) (r : Nat) (f : RxLane → RxLane) : (s.modRx r f).narrows = s.narrows := rfl
@[simp] theorem State.modRx_legacy (s : State) (r : Nat) (f : RxLane → RxLane) : (s.modRx r f).legacy = s.legacy := rfl
@[simp] theorem State.modRx_ford (s : State) (r : Nat) (f : RxLane → RxLane) : (s.modRx r f).ford = s.ford := rfl
@[simp] theorem State.modRx_fresh (s : State) (r : Nat) (f : RxLane → RxLane) : (s.modRx r f).fresh = s.fresh := rfl
@[simp] theorem State.modRx_pending (s : State) (r : Nat) (f : RxLane → RxLane) : (s.modRx r f).pending = s.pending := rfl

/-! ### `State.modClass` changes only `elnar` -/

@[simp] theorem State.modClass_time (s : State) (c : Nat) (f : CellClass → CellClass) : (s.modClass c f).time = s.time := rfl
@[simp] theorem State.modClass_ord (s : State) (c : Nat) (f : CellClass → CellClass) : (s.modClass c f).ord = s.ord := rfl
@[simp] theorem State.modClass_dict (s : State) (c : Nat) (f : CellClass → CellClass) : (s.modClass c f).dict = s.dict := rfl
@[simp] theorem State.modClass_access (s : State) (c : Nat) (f : CellClass → CellClass) : (s.modClass c f).access = s.access := rfl
@[simp] theorem State.modClass_journal (s : State) (c : Nat) (f : CellClass → CellClass) : (s.modClass c f).journal = s.journal := rfl
@[simp] theorem State.modClass_safety (s : State) (c : Nat) (f : CellClass → CellClass) : (s.modClass c f).safety = s.safety := rfl
@[simp] theorem State.modClass_host (s : State) (c : Nat) (f : CellClass → CellClass) : (s.modClass c f).host = s.host := rfl
@[simp] theorem State.modClass_ports (s : State) (c : Nat) (f : CellClass → CellClass) : (s.modClass c f).ports = s.ports := rfl
@[simp] theorem State.modClass_saddle (s : State) (c : Nat) (f : CellClass → CellClass) : (s.modClass c f).saddle = s.saddle := rfl
@[simp] theorem State.modClass_keys (s : State) (c : Nat) (f : CellClass → CellClass) : (s.modClass c f).keys = s.keys := rfl
@[simp] theorem State.modClass_power (s : State) (c : Nat) (f : CellClass → CellClass) : (s.modClass c f).power = s.power := rfl
@[simp] theorem State.modClass_basin (s : State) (c : Nat) (f : CellClass → CellClass) : (s.modClass c f).basin = s.basin := rfl
@[simp] theorem State.modClass_narrows (s : State) (c : Nat) (f : CellClass → CellClass) : (s.modClass c f).narrows = s.narrows := rfl
@[simp] theorem State.modClass_legacy (s : State) (c : Nat) (f : CellClass → CellClass) : (s.modClass c f).legacy = s.legacy := rfl
@[simp] theorem State.modClass_ford (s : State) (c : Nat) (f : CellClass → CellClass) : (s.modClass c f).ford = s.ford := rfl
@[simp] theorem State.modClass_fresh (s : State) (c : Nat) (f : CellClass → CellClass) : (s.modClass c f).fresh = s.fresh := rfl
@[simp] theorem State.modClass_pending (s : State) (c : Nat) (f : CellClass → CellClass) : (s.modClass c f).pending = s.pending := rfl

/-! ### `State.setSession` changes only `narrows` -/

@[simp] theorem State.setSession_time (s : State) (slot : Nat) (x : NSession) : (s.setSession slot x).time = s.time := rfl
@[simp] theorem State.setSession_ord (s : State) (slot : Nat) (x : NSession) : (s.setSession slot x).ord = s.ord := rfl
@[simp] theorem State.setSession_dict (s : State) (slot : Nat) (x : NSession) : (s.setSession slot x).dict = s.dict := rfl
@[simp] theorem State.setSession_access (s : State) (slot : Nat) (x : NSession) : (s.setSession slot x).access = s.access := rfl
@[simp] theorem State.setSession_journal (s : State) (slot : Nat) (x : NSession) : (s.setSession slot x).journal = s.journal := rfl
@[simp] theorem State.setSession_safety (s : State) (slot : Nat) (x : NSession) : (s.setSession slot x).safety = s.safety := rfl
@[simp] theorem State.setSession_host (s : State) (slot : Nat) (x : NSession) : (s.setSession slot x).host = s.host := rfl
@[simp] theorem State.setSession_ports (s : State) (slot : Nat) (x : NSession) : (s.setSession slot x).ports = s.ports := rfl
@[simp] theorem State.setSession_saddle (s : State) (slot : Nat) (x : NSession) : (s.setSession slot x).saddle = s.saddle := rfl
@[simp] theorem State.setSession_keys (s : State) (slot : Nat) (x : NSession) : (s.setSession slot x).keys = s.keys := rfl
@[simp] theorem State.setSession_power (s : State) (slot : Nat) (x : NSession) : (s.setSession slot x).power = s.power := rfl
@[simp] theorem State.setSession_basin (s : State) (slot : Nat) (x : NSession) : (s.setSession slot x).basin = s.basin := rfl
@[simp] theorem State.setSession_legacy (s : State) (slot : Nat) (x : NSession) : (s.setSession slot x).legacy = s.legacy := rfl
@[simp] theorem State.setSession_ford (s : State) (slot : Nat) (x : NSession) : (s.setSession slot x).ford = s.ford := rfl
@[simp] theorem State.setSession_elnar (s : State) (slot : Nat) (x : NSession) : (s.setSession slot x).elnar = s.elnar := rfl
@[simp] theorem State.setSession_fresh (s : State) (slot : Nat) (x : NSession) : (s.setSession slot x).fresh = s.fresh := rfl
@[simp] theorem State.setSession_pending (s : State) (slot : Nat) (x : NSession) : (s.setSession slot x).pending = s.pending := rfl

/-! ### `State.modSet` changes only `time` -/

@[simp] theorem State.modSet_ord (s : State) (n : Nat) (f : TimeSet → TimeSet) : (s.modSet n f).ord = s.ord := rfl
@[simp] theorem State.modSet_dict (s : State) (n : Nat) (f : TimeSet → TimeSet) : (s.modSet n f).dict = s.dict := rfl
@[simp] theorem State.modSet_access (s : State) (n : Nat) (f : TimeSet → TimeSet) : (s.modSet n f).access = s.access := rfl
@[simp] theorem State.modSet_journal (s : State) (n : Nat) (f : TimeSet → TimeSet) : (s.modSet n f).journal = s.journal := rfl
@[simp] theorem State.modSet_safety (s : State) (n : Nat) (f : TimeSet → TimeSet) : (s.modSet n f).safety = s.safety := rfl
@[simp] theorem State.modSet_host (s : State) (n : Nat) (f : TimeSet → TimeSet) : (s.modSet n f).host = s.host := rfl
@[simp] theorem State.modSet_ports (s : State) (n : Nat) (f : TimeSet → TimeSet) : (s.modSet n f).ports = s.ports := rfl
@[simp] theorem State.modSet_saddle (s : State) (n : Nat) (f : TimeSet → TimeSet) : (s.modSet n f).saddle = s.saddle := rfl
@[simp] theorem State.modSet_keys (s : State) (n : Nat) (f : TimeSet → TimeSet) : (s.modSet n f).keys = s.keys := rfl
@[simp] theorem State.modSet_power (s : State) (n : Nat) (f : TimeSet → TimeSet) : (s.modSet n f).power = s.power := rfl
@[simp] theorem State.modSet_basin (s : State) (n : Nat) (f : TimeSet → TimeSet) : (s.modSet n f).basin = s.basin := rfl
@[simp] theorem State.modSet_narrows (s : State) (n : Nat) (f : TimeSet → TimeSet) : (s.modSet n f).narrows = s.narrows := rfl
@[simp] theorem State.modSet_legacy (s : State) (n : Nat) (f : TimeSet → TimeSet) : (s.modSet n f).legacy = s.legacy := rfl
@[simp] theorem State.modSet_ford (s : State) (n : Nat) (f : TimeSet → TimeSet) : (s.modSet n f).ford = s.ford := rfl
@[simp] theorem State.modSet_elnar (s : State) (n : Nat) (f : TimeSet → TimeSet) : (s.modSet n f).elnar = s.elnar := rfl
@[simp] theorem State.modSet_fresh (s : State) (n : Nat) (f : TimeSet → TimeSet) : (s.modSet n f).fresh = s.fresh := rfl
@[simp] theorem State.modSet_pending (s : State) (n : Nat) (f : TimeSet → TimeSet) : (s.modSet n f).pending = s.pending := rfl

/-! ### `State.issueKey` changes only `ord` -/

@[simp] theorem State.issueKey_time (s : State) (src : Nat) : (s.issueKey src).time = s.time := rfl
@[simp] theorem State.issueKey_dict (s : State) (src : Nat) : (s.issueKey src).dict = s.dict := rfl
@[simp] theorem State.issueKey_access (s : State) (src : Nat) : (s.issueKey src).access = s.access := rfl
@[simp] theorem State.issueKey_journal (s : State) (src : Nat) : (s.issueKey src).journal = s.journal := rfl
@[simp] theorem State.issueKey_safety (s : State) (src : Nat) : (s.issueKey src).safety = s.safety := rfl
@[simp] theorem State.issueKey_host (s : State) (src : Nat) : (s.issueKey src).host = s.host := rfl
@[simp] theorem State.issueKey_ports (s : State) (src : Nat) : (s.issueKey src).ports = s.ports := rfl
@[simp] theorem State.issueKey_saddle (s : State) (src : Nat) : (s.issueKey src).saddle = s.saddle := rfl
@[simp] theorem State.issueKey_keys (s : State) (src : Nat) : (s.issueKey src).keys = s.keys := rfl
@[simp] theorem State.issueKey_power (s : State) (src : Nat) : (s.issueKey src).power = s.power := rfl
@[simp] theorem State.issueKey_basin (s : State) (src : Nat) : (s.issueKey src).basin = s.basin := rfl
@[simp] theorem State.issueKey_narrows (s : State) (src : Nat) : (s.issueKey src).narrows = s.narrows := rfl
@[simp] theorem State.issueKey_legacy (s : State) (src : Nat) : (s.issueKey src).legacy = s.legacy := rfl
@[simp] theorem State.issueKey_ford (s : State) (src : Nat) : (s.issueKey src).ford = s.ford := rfl
@[simp] theorem State.issueKey_elnar (s : State) (src : Nat) : (s.issueKey src).elnar = s.elnar := rfl
@[simp] theorem State.issueKey_fresh (s : State) (src : Nat) : (s.issueKey src).fresh = s.fresh := rfl
@[simp] theorem State.issueKey_pending (s : State) (src : Nat) : (s.issueKey src).pending = s.pending := rfl

/-! ### `State.setStat` changes only `dict` -/

@[simp] theorem State.setStat_time (s : State) (idx sub v : Nat) : (s.setStat idx sub v).time = s.time := rfl
@[simp] theorem State.setStat_ord (s : State) (idx sub v : Nat) : (s.setStat idx sub v).ord = s.ord := rfl
@[simp] theorem State.setStat_access (s : State) (idx sub v : Nat) : (s.setStat idx sub v).access = s.access := rfl
@[simp] theorem State.setStat_journal (s : State) (idx sub v : Nat) : (s.setStat idx sub v).journal = s.journal := rfl
@[simp] theorem State.setStat_safety (s : State) (idx sub v : Nat) : (s.setStat idx sub v).safety = s.safety := rfl
@[simp] theorem State.setStat_host (s : State) (idx sub v : Nat) : (s.setStat idx sub v).host = s.host := rfl
@[simp] theorem State.setStat_ports (s : State) (idx sub v : Nat) : (s.setStat idx sub v).ports = s.ports := rfl
@[simp] theorem State.setStat_saddle (s : State) (idx sub v : Nat) : (s.setStat idx sub v).saddle = s.saddle := rfl
@[simp] theorem State.setStat_keys (s : State) (idx sub v : Nat) : (s.setStat idx sub v).keys = s.keys := rfl
@[simp] theorem State.setStat_power (s : State) (idx sub v : Nat) : (s.setStat idx sub v).power = s.power := rfl
@[simp] theorem State.setStat_basin (s : State) (idx sub v : Nat) : (s.setStat idx sub v).basin = s.basin := rfl
@[simp] theorem State.setStat_narrows (s : State) (idx sub v : Nat) : (s.setStat idx sub v).narrows = s.narrows := rfl
@[simp] theorem State.setStat_legacy (s : State) (idx sub v : Nat) : (s.setStat idx sub v).legacy = s.legacy := rfl
@[simp] theorem State.setStat_ford (s : State) (idx sub v : Nat) : (s.setStat idx sub v).ford = s.ford := rfl
@[simp] theorem State.setStat_elnar (s : State) (idx sub v : Nat) : (s.setStat idx sub v).elnar = s.elnar := rfl
@[simp] theorem State.setStat_fresh (s : State) (idx sub v : Nat) : (s.setStat idx sub v).fresh = s.fresh := rfl
@[simp] theorem State.setStat_pending (s : State) (idx sub v : Nat) : (s.setStat idx sub v).pending = s.pending := rfl

/-! ### `State.setRowStat` changes only `dict` -/

@[simp] theorem State.setRowStat_time (s : State) (tbl pos sub v : Nat) : (s.setRowStat tbl pos sub v).time = s.time := rfl
@[simp] theorem State.setRowStat_ord (s : State) (tbl pos sub v : Nat) : (s.setRowStat tbl pos sub v).ord = s.ord := rfl
@[simp] theorem State.setRowStat_access (s : State) (tbl pos sub v : Nat) : (s.setRowStat tbl pos sub v).access = s.access := rfl
@[simp] theorem State.setRowStat_journal (s : State) (tbl pos sub v : Nat) : (s.setRowStat tbl pos sub v).journal = s.journal := rfl
@[simp] theorem State.setRowStat_safety (s : State) (tbl pos sub v : Nat) : (s.setRowStat tbl pos sub v).safety = s.safety := rfl
@[simp] theorem State.setRowStat_host (s : State) (tbl pos sub v : Nat) : (s.setRowStat tbl pos sub v).host = s.host := rfl
@[simp] theorem State.setRowStat_ports (s : State) (tbl pos sub v : Nat) : (s.setRowStat tbl pos sub v).ports = s.ports := rfl
@[simp] theorem State.setRowStat_saddle (s : State) (tbl pos sub v : Nat) : (s.setRowStat tbl pos sub v).saddle = s.saddle := rfl
@[simp] theorem State.setRowStat_keys (s : State) (tbl pos sub v : Nat) : (s.setRowStat tbl pos sub v).keys = s.keys := rfl
@[simp] theorem State.setRowStat_power (s : State) (tbl pos sub v : Nat) : (s.setRowStat tbl pos sub v).power = s.power := rfl
@[simp] theorem State.setRowStat_basin (s : State) (tbl pos sub v : Nat) : (s.setRowStat tbl pos sub v).basin = s.basin := rfl
@[simp] theorem State.setRowStat_narrows (s : State) (tbl pos sub v : Nat) : (s.setRowStat tbl pos sub v).narrows = s.narrows := rfl
@[simp] theorem State.setRowStat_legacy (s : State) (tbl pos sub v : Nat) : (s.setRowStat tbl pos sub v).legacy = s.legacy := rfl
@[simp] theorem State.setRowStat_ford (s : State) (tbl pos sub v : Nat) : (s.setRowStat tbl pos sub v).ford = s.ford := rfl
@[simp] theorem State.setRowStat_elnar (s : State) (tbl pos sub v : Nat) : (s.setRowStat tbl pos sub v).elnar = s.elnar := rfl
@[simp] theorem State.setRowStat_fresh (s : State) (tbl pos sub v : Nat) : (s.setRowStat tbl pos sub v).fresh = s.fresh := rfl
@[simp] theorem State.setRowStat_pending (s : State) (tbl pos sub v : Nat) : (s.setRowStat tbl pos sub v).pending = s.pending := rfl

/-! ### `State.setOwn` changes only `dict` -/

@[simp] theorem State.setOwn_time (s : State) (c : Caller) (idx sub v : Nat) : (s.setOwn c idx sub v).time = s.time := rfl
@[simp] theorem State.setOwn_ord (s : State) (c : Caller) (idx sub v : Nat) : (s.setOwn c idx sub v).ord = s.ord := rfl
@[simp] theorem State.setOwn_access (s : State) (c : Caller) (idx sub v : Nat) : (s.setOwn c idx sub v).access = s.access := rfl
@[simp] theorem State.setOwn_journal (s : State) (c : Caller) (idx sub v : Nat) : (s.setOwn c idx sub v).journal = s.journal := rfl
@[simp] theorem State.setOwn_safety (s : State) (c : Caller) (idx sub v : Nat) : (s.setOwn c idx sub v).safety = s.safety := rfl
@[simp] theorem State.setOwn_host (s : State) (c : Caller) (idx sub v : Nat) : (s.setOwn c idx sub v).host = s.host := rfl
@[simp] theorem State.setOwn_ports (s : State) (c : Caller) (idx sub v : Nat) : (s.setOwn c idx sub v).ports = s.ports := rfl
@[simp] theorem State.setOwn_saddle (s : State) (c : Caller) (idx sub v : Nat) : (s.setOwn c idx sub v).saddle = s.saddle := rfl
@[simp] theorem State.setOwn_keys (s : State) (c : Caller) (idx sub v : Nat) : (s.setOwn c idx sub v).keys = s.keys := rfl
@[simp] theorem State.setOwn_power (s : State) (c : Caller) (idx sub v : Nat) : (s.setOwn c idx sub v).power = s.power := rfl
@[simp] theorem State.setOwn_basin (s : State) (c : Caller) (idx sub v : Nat) : (s.setOwn c idx sub v).basin = s.basin := rfl
@[simp] theorem State.setOwn_narrows (s : State) (c : Caller) (idx sub v : Nat) : (s.setOwn c idx sub v).narrows = s.narrows := rfl
@[simp] theorem State.setOwn_legacy (s : State) (c : Caller) (idx sub v : Nat) : (s.setOwn c idx sub v).legacy = s.legacy := rfl
@[simp] theorem State.setOwn_ford (s : State) (c : Caller) (idx sub v : Nat) : (s.setOwn c idx sub v).ford = s.ford := rfl
@[simp] theorem State.setOwn_elnar (s : State) (c : Caller) (idx sub v : Nat) : (s.setOwn c idx sub v).elnar = s.elnar := rfl
@[simp] theorem State.setOwn_fresh (s : State) (c : Caller) (idx sub v : Nat) : (s.setOwn c idx sub v).fresh = s.fresh := rfl
@[simp] theorem State.setOwn_pending (s : State) (c : Caller) (idx sub v : Nat) : (s.setOwn c idx sub v).pending = s.pending := rfl

/-! ### `State.drawFree` changes only `fresh` -/

@[simp] theorem State.drawFree_time (s : State) : (s.drawFree ).time = s.time := rfl
@[simp] theorem State.drawFree_ord (s : State) : (s.drawFree ).ord = s.ord := rfl
@[simp] theorem State.drawFree_dict (s : State) : (s.drawFree ).dict = s.dict := rfl
@[simp] theorem State.drawFree_access (s : State) : (s.drawFree ).access = s.access := rfl
@[simp] theorem State.drawFree_journal (s : State) : (s.drawFree ).journal = s.journal := rfl
@[simp] theorem State.drawFree_safety (s : State) : (s.drawFree ).safety = s.safety := rfl
@[simp] theorem State.drawFree_host (s : State) : (s.drawFree ).host = s.host := rfl
@[simp] theorem State.drawFree_ports (s : State) : (s.drawFree ).ports = s.ports := rfl
@[simp] theorem State.drawFree_saddle (s : State) : (s.drawFree ).saddle = s.saddle := rfl
@[simp] theorem State.drawFree_keys (s : State) : (s.drawFree ).keys = s.keys := rfl
@[simp] theorem State.drawFree_power (s : State) : (s.drawFree ).power = s.power := rfl
@[simp] theorem State.drawFree_basin (s : State) : (s.drawFree ).basin = s.basin := rfl
@[simp] theorem State.drawFree_narrows (s : State) : (s.drawFree ).narrows = s.narrows := rfl
@[simp] theorem State.drawFree_legacy (s : State) : (s.drawFree ).legacy = s.legacy := rfl
@[simp] theorem State.drawFree_ford (s : State) : (s.drawFree ).ford = s.ford := rfl
@[simp] theorem State.drawFree_elnar (s : State) : (s.drawFree ).elnar = s.elnar := rfl
@[simp] theorem State.drawFree_pending (s : State) : (s.drawFree ).pending = s.pending := rfl

/-! ### `State.putEvent` changes only `journal` -/

@[simp] theorem State.putEvent_time (s : State) (ev : Event) : (s.putEvent ev).time = s.time := rfl
@[simp] theorem State.putEvent_ord (s : State) (ev : Event) : (s.putEvent ev).ord = s.ord := rfl
@[simp] theorem State.putEvent_dict (s : State) (ev : Event) : (s.putEvent ev).dict = s.dict := rfl
@[simp] theorem State.putEvent_access (s : State) (ev : Event) : (s.putEvent ev).access = s.access := rfl
@[simp] theorem State.putEvent_safety (s : State) (ev : Event) : (s.putEvent ev).safety = s.safety := rfl
@[simp] theorem State.putEvent_host (s : State) (ev : Event) : (s.putEvent ev).host = s.host := rfl
@[simp] theorem State.putEvent_ports (s : State) (ev : Event) : (s.putEvent ev).ports = s.ports := rfl
@[simp] theorem State.putEvent_saddle (s : State) (ev : Event) : (s.putEvent ev).saddle = s.saddle := rfl
@[simp] theorem State.putEvent_keys (s : State) (ev : Event) : (s.putEvent ev).keys = s.keys := rfl
@[simp] theorem State.putEvent_power (s : State) (ev : Event) : (s.putEvent ev).power = s.power := rfl
@[simp] theorem State.putEvent_basin (s : State) (ev : Event) : (s.putEvent ev).basin = s.basin := rfl
@[simp] theorem State.putEvent_narrows (s : State) (ev : Event) : (s.putEvent ev).narrows = s.narrows := rfl
@[simp] theorem State.putEvent_legacy (s : State) (ev : Event) : (s.putEvent ev).legacy = s.legacy := rfl
@[simp] theorem State.putEvent_ford (s : State) (ev : Event) : (s.putEvent ev).ford = s.ford := rfl
@[simp] theorem State.putEvent_elnar (s : State) (ev : Event) : (s.putEvent ev).elnar = s.elnar := rfl
@[simp] theorem State.putEvent_fresh (s : State) (ev : Event) : (s.putEvent ev).fresh = s.fresh := rfl
@[simp] theorem State.putEvent_pending (s : State) (ev : Event) : (s.putEvent ev).pending = s.pending := rfl

/-! ### `State.modUnit` changes only `ord` -/

@[simp] theorem State.modUnit_time (s : State) (u : OrderUnit) (f : SortBuffer → SortBuffer) : (s.modUnit u f).time = s.time := rfl
@[simp] theorem State.modUnit_dict (s : State) (u : OrderUnit) (f : SortBuffer → SortBuffer) : (s.modUnit u f).dict = s.dict := rfl
@[simp] theorem State.modUnit_access (s : State) (u : OrderUnit) (f : SortBuffer → SortBuffer) : (s.modUnit u f).access = s.access := rfl
@[simp] theorem State.modUnit_journal (s : State) (u : OrderUnit) (f : SortBuffer → SortBuffer) : (s.modUnit u f).journal = s.journal := rfl
@[simp] theorem State.modUnit_safety (s : State) (u : OrderUnit) (f : SortBuffer → SortBuffer) : (s.modUnit u f).safety = s.safety := rfl
@[simp] theorem State.modUnit_host (s : State) (u : OrderUnit) (f : SortBuffer → SortBuffer) : (s.modUnit u f).host = s.host := rfl
@[simp] theorem State.modUnit_ports (s : State) (u : OrderUnit) (f : SortBuffer → SortBuffer) : (s.modUnit u f).ports = s.ports := rfl
@[simp] theorem State.modUnit_saddle (s : State) (u : OrderUnit) (f : SortBuffer → SortBuffer) : (s.modUnit u f).saddle = s.saddle := rfl
@[simp] theorem State.modUnit_keys (s : State) (u : OrderUnit) (f : SortBuffer → SortBuffer) : (s.modUnit u f).keys = s.keys := rfl
@[simp] theorem State.modUnit_power (s : State) (u : OrderUnit) (f : SortBuffer → SortBuffer) : (s.modUnit u f).power = s.power := rfl
@[simp] theorem State.modUnit_basin (s : State) (u : OrderUnit) (f : SortBuffer → SortBuffer) : (s.modUnit u f).basin = s.basin := rfl
@[simp] theorem State.modUnit_narrows (s : State) (u : OrderUnit) (f : SortBuffer → SortBuffer) : (s.modUnit u f).narrows = s.narrows := rfl
@[simp] theorem State.modUnit_legacy (s : State) (u : OrderUnit) (f : SortBuffer → SortBuffer) : (s.modUnit u f).legacy = s.legacy := rfl
@[simp] theorem State.modUnit_ford (s : State) (u : OrderUnit) (f : SortBuffer → SortBuffer) : (s.modUnit u f).ford = s.ford := rfl
@[simp] theorem State.modUnit_elnar (s : State) (u : OrderUnit) (f : SortBuffer → SortBuffer) : (s.modUnit u f).elnar = s.elnar := rfl
@[simp] theorem State.modUnit_fresh (s : State) (u : OrderUnit) (f : SortBuffer → SortBuffer) : (s.modUnit u f).fresh = s.fresh := rfl
@[simp] theorem State.modUnit_pending (s : State) (u : OrderUnit) (f : SortBuffer → SortBuffer) : (s.modUnit u f).pending = s.pending := rfl

/-! ### `State.setRole` changes only `saddle` -/

@[simp] theorem State.setRole_time (s : State) (r : Role) : (s.setRole r).time = s.time := rfl
@[simp] theorem State.setRole_ord (s : State) (r : Role) : (s.setRole r).ord = s.ord := rfl
@[simp] theorem State.setRole_dict (s : State) (r : Role) : (s.setRole r).dict = s.dict := rfl
@[simp] theorem State.setRole_access (s : State) (r : Role) : (s.setRole r).access = s.access := rfl
@[simp] theorem State.setRole_journal (s : State) (r : Role) : (s.setRole r).journal = s.journal := rfl
@[simp] theorem State.setRole_safety (s : State) (r : Role) : (s.setRole r).safety = s.safety := rfl
@[simp] theorem State.setRole_host (s : State) (r : Role) : (s.setRole r).host = s.host := rfl
@[simp] theorem State.setRole_ports (s : State) (r : Role) : (s.setRole r).ports = s.ports := rfl
@[simp] theorem State.setRole_keys (s : State) (r : Role) : (s.setRole r).keys = s.keys := rfl
@[simp] theorem State.setRole_power (s : State) (r : Role) : (s.setRole r).power = s.power := rfl
@[simp] theorem State.setRole_basin (s : State) (r : Role) : (s.setRole r).basin = s.basin := rfl
@[simp] theorem State.setRole_narrows (s : State) (r : Role) : (s.setRole r).narrows = s.narrows := rfl
@[simp] theorem State.setRole_legacy (s : State) (r : Role) : (s.setRole r).legacy = s.legacy := rfl
@[simp] theorem State.setRole_ford (s : State) (r : Role) : (s.setRole r).ford = s.ford := rfl
@[simp] theorem State.setRole_elnar (s : State) (r : Role) : (s.setRole r).elnar = s.elnar := rfl
@[simp] theorem State.setRole_fresh (s : State) (r : Role) : (s.setRole r).fresh = s.fresh := rfl
@[simp] theorem State.setRole_pending (s : State) (r : Role) : (s.setRole r).pending = s.pending := rfl

/-! ### `State.modPair` changes only `safety` -/

@[simp] theorem State.modPair_time (s : State) (p : Nat) (f : LockPair → LockPair) : (s.modPair p f).time = s.time := rfl
@[simp] theorem State.modPair_ord (s : State) (p : Nat) (f : LockPair → LockPair) : (s.modPair p f).ord = s.ord := rfl
@[simp] theorem State.modPair_dict (s : State) (p : Nat) (f : LockPair → LockPair) : (s.modPair p f).dict = s.dict := rfl
@[simp] theorem State.modPair_access (s : State) (p : Nat) (f : LockPair → LockPair) : (s.modPair p f).access = s.access := rfl
@[simp] theorem State.modPair_journal (s : State) (p : Nat) (f : LockPair → LockPair) : (s.modPair p f).journal = s.journal := rfl
@[simp] theorem State.modPair_host (s : State) (p : Nat) (f : LockPair → LockPair) : (s.modPair p f).host = s.host := rfl
@[simp] theorem State.modPair_ports (s : State) (p : Nat) (f : LockPair → LockPair) : (s.modPair p f).ports = s.ports := rfl
@[simp] theorem State.modPair_saddle (s : State) (p : Nat) (f : LockPair → LockPair) : (s.modPair p f).saddle = s.saddle := rfl
@[simp] theorem State.modPair_keys (s : State) (p : Nat) (f : LockPair → LockPair) : (s.modPair p f).keys = s.keys := rfl
@[simp] theorem State.modPair_power (s : State) (p : Nat) (f : LockPair → LockPair) : (s.modPair p f).power = s.power := rfl
@[simp] theorem State.modPair_basin (s : State) (p : Nat) (f : LockPair → LockPair) : (s.modPair p f).basin = s.basin := rfl
@[simp] theorem State.modPair_narrows (s : State) (p : Nat) (f : LockPair → LockPair) : (s.modPair p f).narrows = s.narrows := rfl
@[simp] theorem State.modPair_legacy (s : State) (p : Nat) (f : LockPair → LockPair) : (s.modPair p f).legacy = s.legacy := rfl
@[simp] theorem State.modPair_ford (s : State) (p : Nat) (f : LockPair → LockPair) : (s.modPair p f).ford = s.ford := rfl
@[simp] theorem State.modPair_elnar (s : State) (p : Nat) (f : LockPair → LockPair) : (s.modPair p f).elnar = s.elnar := rfl
@[simp] theorem State.modPair_fresh (s : State) (p : Nat) (f : LockPair → LockPair) : (s.modPair p f).fresh = s.fresh := rfl
@[simp] theorem State.modPair_pending (s : State) (p : Nat) (f : LockPair → LockPair) : (s.modPair p f).pending = s.pending := rfl

/-! ### `State.modWatchdog` changes only `safety` -/

@[simp] theorem State.modWatchdog_time (s : State) (w : Nat) (f : Watchdog → Watchdog) : (s.modWatchdog w f).time = s.time := rfl
@[simp] theorem State.modWatchdog_ord (s : State) (w : Nat) (f : Watchdog → Watchdog) : (s.modWatchdog w f).ord = s.ord := rfl
@[simp] theorem State.modWatchdog_dict (s : State) (w : Nat) (f : Watchdog → Watchdog) : (s.modWatchdog w f).dict = s.dict := rfl
@[simp] theorem State.modWatchdog_access (s : State) (w : Nat) (f : Watchdog → Watchdog) : (s.modWatchdog w f).access = s.access := rfl
@[simp] theorem State.modWatchdog_journal (s : State) (w : Nat) (f : Watchdog → Watchdog) : (s.modWatchdog w f).journal = s.journal := rfl
@[simp] theorem State.modWatchdog_host (s : State) (w : Nat) (f : Watchdog → Watchdog) : (s.modWatchdog w f).host = s.host := rfl
@[simp] theorem State.modWatchdog_ports (s : State) (w : Nat) (f : Watchdog → Watchdog) : (s.modWatchdog w f).ports = s.ports := rfl
@[simp] theorem State.modWatchdog_saddle (s : State) (w : Nat) (f : Watchdog → Watchdog) : (s.modWatchdog w f).saddle = s.saddle := rfl
@[simp] theorem State.modWatchdog_keys (s : State) (w : Nat) (f : Watchdog → Watchdog) : (s.modWatchdog w f).keys = s.keys := rfl
@[simp] theorem State.modWatchdog_power (s : State) (w : Nat) (f : Watchdog → Watchdog) : (s.modWatchdog w f).power = s.power := rfl
@[simp] theorem State.modWatchdog_basin (s : State) (w : Nat) (f : Watchdog → Watchdog) : (s.modWatchdog w f).basin = s.basin := rfl
@[simp] theorem State.modWatchdog_narrows (s : State) (w : Nat) (f : Watchdog → Watchdog) : (s.modWatchdog w f).narrows = s.narrows := rfl
@[simp] theorem State.modWatchdog_legacy (s : State) (w : Nat) (f : Watchdog → Watchdog) : (s.modWatchdog w f).legacy = s.legacy := rfl
@[simp] theorem State.modWatchdog_ford (s : State) (w : Nat) (f : Watchdog → Watchdog) : (s.modWatchdog w f).ford = s.ford := rfl
@[simp] theorem State.modWatchdog_elnar (s : State) (w : Nat) (f : Watchdog → Watchdog) : (s.modWatchdog w f).elnar = s.elnar := rfl
@[simp] theorem State.modWatchdog_fresh (s : State) (w : Nat) (f : Watchdog → Watchdog) : (s.modWatchdog w f).fresh = s.fresh := rfl
@[simp] theorem State.modWatchdog_pending (s : State) (w : Nat) (f : Watchdog → Watchdog) : (s.modWatchdog w f).pending = s.pending := rfl

/-! ### `State.modTrigger` changes only `time` -/

@[simp] theorem State.modTrigger_ord (s : State) (n : Nat) (f : Trigger → Trigger) : (s.modTrigger n f).ord = s.ord := rfl
@[simp] theorem State.modTrigger_dict (s : State) (n : Nat) (f : Trigger → Trigger) : (s.modTrigger n f).dict = s.dict := rfl
@[simp] theorem State.modTrigger_access (s : State) (n : Nat) (f : Trigger → Trigger) : (s.modTrigger n f).access = s.access := rfl
@[simp] theorem State.modTrigger_journal (s : State) (n : Nat) (f : Trigger → Trigger) : (s.modTrigger n f).journal = s.journal := rfl
@[simp] theorem State.modTrigger_safety (s : State) (n : Nat) (f : Trigger → Trigger) : (s.modTrigger n f).safety = s.safety := rfl
@[simp] theorem State.modTrigger_host (s : State) (n : Nat) (f : Trigger → Trigger) : (s.modTrigger n f).host = s.host := rfl
@[simp] theorem State.modTrigger_ports (s : State) (n : Nat) (f : Trigger → Trigger) : (s.modTrigger n f).ports = s.ports := rfl
@[simp] theorem State.modTrigger_saddle (s : State) (n : Nat) (f : Trigger → Trigger) : (s.modTrigger n f).saddle = s.saddle := rfl
@[simp] theorem State.modTrigger_keys (s : State) (n : Nat) (f : Trigger → Trigger) : (s.modTrigger n f).keys = s.keys := rfl
@[simp] theorem State.modTrigger_power (s : State) (n : Nat) (f : Trigger → Trigger) : (s.modTrigger n f).power = s.power := rfl
@[simp] theorem State.modTrigger_basin (s : State) (n : Nat) (f : Trigger → Trigger) : (s.modTrigger n f).basin = s.basin := rfl
@[simp] theorem State.modTrigger_narrows (s : State) (n : Nat) (f : Trigger → Trigger) : (s.modTrigger n f).narrows = s.narrows := rfl
@[simp] theorem State.modTrigger_legacy (s : State) (n : Nat) (f : Trigger → Trigger) : (s.modTrigger n f).legacy = s.legacy := rfl
@[simp] theorem State.modTrigger_ford (s : State) (n : Nat) (f : Trigger → Trigger) : (s.modTrigger n f).ford = s.ford := rfl
@[simp] theorem State.modTrigger_elnar (s : State) (n : Nat) (f : Trigger → Trigger) : (s.modTrigger n f).elnar = s.elnar := rfl
@[simp] theorem State.modTrigger_fresh (s : State) (n : Nat) (f : Trigger → Trigger) : (s.modTrigger n f).fresh = s.fresh := rfl
@[simp] theorem State.modTrigger_pending (s : State) (n : Nat) (f : Trigger → Trigger) : (s.modTrigger n f).pending = s.pending := rfl

/-! ### `State.modCapture` changes only `time` -/

@[simp] theorem State.modCapture_ord (s : State) (n : Nat) (f : CaptureIn → CaptureIn) : (s.modCapture n f).ord = s.ord := rfl
@[simp] theorem State.modCapture_dict (s : State) (n : Nat) (f : CaptureIn → CaptureIn) : (s.modCapture n f).dict = s.dict := rfl
@[simp] theorem State.modCapture_access (s : State) (n : Nat) (f : CaptureIn → CaptureIn) : (s.modCapture n f).access = s.access := rfl
@[simp] theorem State.modCapture_journal (s : State) (n : Nat) (f : CaptureIn → CaptureIn) : (s.modCapture n f).journal = s.journal := rfl
@[simp] theorem State.modCapture_safety (s : State) (n : Nat) (f : CaptureIn → CaptureIn) : (s.modCapture n f).safety = s.safety := rfl
@[simp] theorem State.modCapture_host (s : State) (n : Nat) (f : CaptureIn → CaptureIn) : (s.modCapture n f).host = s.host := rfl
@[simp] theorem State.modCapture_ports (s : State) (n : Nat) (f : CaptureIn → CaptureIn) : (s.modCapture n f).ports = s.ports := rfl
@[simp] theorem State.modCapture_saddle (s : State) (n : Nat) (f : CaptureIn → CaptureIn) : (s.modCapture n f).saddle = s.saddle := rfl
@[simp] theorem State.modCapture_keys (s : State) (n : Nat) (f : CaptureIn → CaptureIn) : (s.modCapture n f).keys = s.keys := rfl
@[simp] theorem State.modCapture_power (s : State) (n : Nat) (f : CaptureIn → CaptureIn) : (s.modCapture n f).power = s.power := rfl
@[simp] theorem State.modCapture_basin (s : State) (n : Nat) (f : CaptureIn → CaptureIn) : (s.modCapture n f).basin = s.basin := rfl
@[simp] theorem State.modCapture_narrows (s : State) (n : Nat) (f : CaptureIn → CaptureIn) : (s.modCapture n f).narrows = s.narrows := rfl
@[simp] theorem State.modCapture_legacy (s : State) (n : Nat) (f : CaptureIn → CaptureIn) : (s.modCapture n f).legacy = s.legacy := rfl
@[simp] theorem State.modCapture_ford (s : State) (n : Nat) (f : CaptureIn → CaptureIn) : (s.modCapture n f).ford = s.ford := rfl
@[simp] theorem State.modCapture_elnar (s : State) (n : Nat) (f : CaptureIn → CaptureIn) : (s.modCapture n f).elnar = s.elnar := rfl
@[simp] theorem State.modCapture_fresh (s : State) (n : Nat) (f : CaptureIn → CaptureIn) : (s.modCapture n f).fresh = s.fresh := rfl
@[simp] theorem State.modCapture_pending (s : State) (n : Nat) (f : CaptureIn → CaptureIn) : (s.modCapture n f).pending = s.pending := rfl

end Sys2Proof.Machine
end

