-- ==== Sys2Proof/Laws/Ops.lean ====
section
/-! SUPPORT. What the shared operations do, one lemma each: keyed lists, lists of units, time, the outcome of a command, and
order keys. -/

namespace Sys2Proof.Machine

open Sys2Proof

/-! ### Keyed lists -/

theorem kwfFrom_mono {β : Type} [DecidableEq β] (d : Nat → β) (l : List (Nat × β)) (a b : Nat) (h : a ≤ b)
    (w : kwfFrom d b l = true) : kwfFrom d a l = true := by
  cases l with
  | nil => rfl
  | cons p l =>
    obtain ⟨j, v⟩ := p
    simp only [kwfFrom, Bool.and_eq_true, decide_eq_true_eq] at *
    exact ⟨⟨by omega, w.1.2⟩, w.2⟩

/-- Below the first key an unlisted value is read. -/
theorem kget_below {β : Type} [DecidableEq β] (d : Nat → β) (l : List (Nat × β)) (a k : Nat) (w : kwfFrom d a l = true)
    (h : k < a) : kget d l k = d k := by
  induction l generalizing a with
  | nil => rfl
  | cons p l ih =>
    obtain ⟨j, v⟩ := p
    simp only [kwfFrom, Bool.and_eq_true, decide_eq_true_eq] at w
    have hj : j ≠ k := by omega
    simp only [kget, if_neg hj]
    exact ih (j + 1) w.2 (by omega)

theorem kins_wf {β : Type} [DecidableEq β] (d : Nat → β) (l : List (Nat × β)) (a k : Nat) (v : β) (hk : a ≤ k)
    (hv : v ≠ d k) (w : kwfFrom d a l = true) : kwfFrom d a (kins l k v) = true := by
  induction l generalizing a with
  | nil => simp [kins, kwfFrom, hk, hv]
  | cons p l ih =>
    obtain ⟨j, x⟩ := p
    simp only [kwfFrom, Bool.and_eq_true, decide_eq_true_eq] at w
    simp only [kins]
    split
    · simp only [kwfFrom, Bool.and_eq_true, decide_eq_true_eq]
      exact ⟨⟨hk, hv⟩, ⟨by omega, w.1.2⟩, w.2⟩
    · split
      · rename_i h
        subst h
        simp only [kwfFrom, Bool.and_eq_true, decide_eq_true_eq]
        exact ⟨⟨hk, hv⟩, w.2⟩
      · simp only [kwfFrom, Bool.and_eq_true, decide_eq_true_eq]
        exact ⟨w.1, ih (j + 1) (by omega) w.2⟩

theorem kdel_wf {β : Type} [DecidableEq β] (d : Nat → β) (l : List (Nat × β)) (a k : Nat)
    (w : kwfFrom d a l = true) : kwfFrom d a (kdel l k) = true := by
  induction l generalizing a with
  | nil => rfl
  | cons p l ih =>
    obtain ⟨j, x⟩ := p
    simp only [kwfFrom, Bool.and_eq_true, decide_eq_true_eq] at w
    simp only [kdel]
    split
    · exact ih a (kwfFrom_mono d l a (j + 1) (by omega) w.2)
    · simp only [kwfFrom, Bool.and_eq_true, decide_eq_true_eq]
      exact ⟨w.1, ih (j + 1) w.2⟩

/-- Writing a key keeps the canonical form of a keyed list. -/
theorem kput_wf {β : Type} [DecidableEq β] (d : Nat → β) (l : List (Nat × β)) (k : Nat) (v : β) (w : kwf d l = true) :
    kwf d (kput d l k v) = true := by
  unfold kput
  split
  · exact kdel_wf d l 0 k w
  · rename_i h
    exact kins_wf d l 0 k v (Nat.zero_le k) h w

theorem kget_kins_same {β : Type} (d : Nat → β) (l : List (Nat × β)) (k : Nat) (v : β) : kget d (kins l k v) k = v := by
  induction l with
  | nil => simp [kins, kget]
  | cons p l ih =>
    obtain ⟨j, x⟩ := p
    simp only [kins]
    split
    · simp [kget]
    · split
      · simp [kget]
      · rename_i _ h
        rw [kget, if_neg (fun e => h e.symm)]
        exact ih

theorem kget_kins_ne {β : Type} (d : Nat → β) (l : List (Nat × β)) (k j : Nat) (v : β) (h : j ≠ k) :
    kget d (kins l k v) j = kget d l j := by
  induction l with
  | nil => simp [kins, kget, h.symm]
  | cons p l ih =>
    obtain ⟨i, x⟩ := p
    simp only [kins]
    split
    · rw [kget, if_neg h.symm]
    · split
      · rename_i _ e
        subst e
        rw [kget, if_neg h.symm, kget, if_neg h.symm]
      · simp only [kget, ih]

theorem kget_kdel_same {β : Type} (d : Nat → β) (l : List (Nat × β)) (k : Nat) : kget d (kdel l k) k = d k := by
  induction l with
  | nil => rfl
  | cons p l ih =>
    obtain ⟨j, x⟩ := p
    simp only [kdel]
    split
    · exact ih
    · rename_i h
      rw [kget, if_neg h]
      exact ih

theorem kget_kdel_ne {β : Type} (d : Nat → β) (l : List (Nat × β)) (k j : Nat) (h : j ≠ k) :
    kget d (kdel l k) j = kget d l j := by
  induction l with
  | nil => rfl
  | cons p l ih =>
    obtain ⟨i, x⟩ := p
    simp only [kdel]
    split
    · rename_i e
      subst e
      rw [kget, if_neg h.symm]
      exact ih
    · simp only [kget, ih]

/-- A key reads back what was written to it. -/
theorem kget_kput_same {β : Type} [DecidableEq β] (d : Nat → β) (l : List (Nat × β)) (k : Nat) (v : β) :
    kget d (kput d l k v) k = v := by
  unfold kput
  split
  · rename_i h
    rw [kget_kdel_same d l k, h]
  · exact kget_kins_same d l k v

/-- Writing a key leaves every other key as it was. -/
theorem kget_kput_ne {β : Type} [DecidableEq β] (d : Nat → β) (l : List (Nat × β)) (k j : Nat) (v : β) (h : j ≠ k) :
    kget d (kput d l k v) j = kget d l j := by
  unfold kput
  split
  · exact kget_kdel_ne d l k j h
  · exact kget_kins_ne d l k j v h

/-- A status entry reads back what was written to it. -/
theorem stat_setStat_same (s : State) (idx sub v : Nat) : (s.setStat idx sub v).stat idx sub = v := kget_kput_same _ _ _ _

/-- Writing a status entry leaves every other one as it was. -/
theorem stat_setStat_ne (s : State) (i j idx sub v : Nat) (h : dkey i j ≠ dkey idx sub) :
    (s.setStat idx sub v).stat i j = s.stat i j := kget_kput_ne _ _ _ _ _ h

/-- Writing a status entry leaves the configuration as it was. -/
@[simp] theorem regAt_setStat (s : State) (idx sub v e key : Nat) : (s.setStat idx sub v).regAt e key = s.regAt e key := rfl

/-- Writing a status entry leaves the configuration as it was. -/
@[simp] theorem reg_setStat (s : State) (i j idx sub v : Nat) : (s.setStat idx sub v).reg i j = s.reg i j := rfl

/-! ### Lists of units -/

/-- The changed element. -/
theorem nth_modNth_same {α : Type} (l : List α) (i : Nat) (f : α → α) (d : α) (h : i < l.length) :
    nth (modNth l i f) i d = f (nth l i d) := by
  induction l generalizing i with
  | nil => simp at h
  | cons x xs ih =>
    cases i with
    | zero => rfl
    | succ i => exact ih i (by simpa using h)

/-- The other elements. -/
theorem nth_modNth_ne {α : Type} (l : List α) (i j : Nat) (f : α → α) (d : α) (h : j ≠ i) :
    nth (modNth l i f) j d = nth l j d := by
  induction l generalizing i j with
  | nil => rfl
  | cons x xs ih =>
    cases i with
    | zero => cases j with
      | zero => exact absurd rfl h
      | succ j => rfl
    | succ i => cases j with
      | zero => rfl
      | succ j => exact ih i j (by omega)

/-- What is inserted into a list by order key, and what was there. -/
theorem mem_insertByKey {α : Type} {key : α → OKey} {x y : α} {l : List α} : y ∈ insertByKey key x l ↔ y = x ∨ y ∈ l := by
  induction l with
  | nil => simp [insertByKey]
  | cons z l ih =>
    simp only [insertByKey]
    split
    · simp
    · simp only [List.mem_cons, ih]
      constructor <;> rintro (h | h | h) <;> simp [h]

/-! ### Time -/

/-- Time passing changes nothing but the time base and the credits of Basin. -/
@[simp] theorem advance_power (s : State) (t : Nat) : (s.advance t).power = s.power := rfl
@[simp] theorem advance_dict (s : State) (t : Nat) : (s.advance t).dict = s.dict := rfl
@[simp] theorem advance_ord (s : State) (t : Nat) : (s.advance t).ord = s.ord := rfl
@[simp] theorem advance_access (s : State) (t : Nat) : (s.advance t).access = s.access := rfl
@[simp] theorem advance_journal (s : State) (t : Nat) : (s.advance t).journal = s.journal := rfl
@[simp] theorem advance_safety (s : State) (t : Nat) : (s.advance t).safety = s.safety := rfl
@[simp] theorem advance_host (s : State) (t : Nat) : (s.advance t).host = s.host := rfl
@[simp] theorem advance_ports (s : State) (t : Nat) : (s.advance t).ports = s.ports := rfl
@[simp] theorem advance_saddle (s : State) (t : Nat) : (s.advance t).saddle = s.saddle := rfl
@[simp] theorem advance_keys (s : State) (t : Nat) : (s.advance t).keys = s.keys := rfl
@[simp] theorem advance_narrows (s : State) (t : Nat) : (s.advance t).narrows = s.narrows := rfl
@[simp] theorem advance_legacy (s : State) (t : Nat) : (s.advance t).legacy = s.legacy := rfl
@[simp] theorem advance_ford (s : State) (t : Nat) : (s.advance t).ford = s.ford := rfl
@[simp] theorem advance_elnar (s : State) (t : Nat) : (s.advance t).elnar = s.elnar := rfl
@[simp] theorem advance_fresh (s : State) (t : Nat) : (s.advance t).fresh = s.fresh := rfl
@[simp] theorem advance_awake (s : State) (t : Nat) : (s.advance t).awake = s.awake := rfl
@[simp] theorem advance_stat (s : State) (t idx sub : Nat) : (s.advance t).stat idx sub = s.stat idx sub := rfl
@[simp] theorem advance_regAt (s : State) (t e key : Nat) : (s.advance t).regAt e key = s.regAt e key := rfl

/-- The raw counter never goes back. -/
theorem advance_raw (s : State) (t : Nat) : (s.advance t).time.raw = max s.time.raw t := rfl

/-- Order time never decreases (R28). -/
theorem advance_order (s : State) (t : Nat) : s.time.orderNs ≤ (s.advance t).time.orderNs := Nat.le_max_left _ _

/-! ### The outcome of a command -/

/-- A device that is awake is not held in reset. -/
theorem awake_not_held (s : State) (h : s.awake = true) : s.power.phase ≠ PowerPhase.held := by
  simp only [State.awake, Bool.and_eq_true, Bool.not_eq_true', decide_eq_false_iff_not] at h
  exact h.2

/-- A command to a unit that exists takes effect on a device that is awake. -/
theorem happen_awake (t : Nat) (c : Bool) (s : State) (f : State → State) (hc : c = true) (h : s.awake = true) :
    happen t c s f = .next (f (s.advance t)) := by
  simp [happen, happenAny, hc, awake_not_held s h, h]

/-- A command that reaches a unit in any state but reset takes effect. -/
theorem happenAny_next (t : Nat) (c : Bool) (s : State) (f : State → State) (hc : c = true)
    (h : s.power.phase ≠ PowerPhase.held) : happenAny t c s f = .next (f (s.advance t)) := by
  simp [happenAny, hc, h]

/-- A request takes effect on a device that is awake, unless it is the partner's and the members are not paired. -/
theorem happenBy_awake (c : Caller) (t : Nat) (b : Bool) (s : State) (f : State → State) (hb : b = true)
    (h : s.awake = true) (hp : c.iface ≠ Iface.partner) : happenBy c t b s f = .next (f (s.advance t)) := by
  rw [happenBy, happen_awake t b s _ hb h]
  simp [hp]

/-- A command to a unit that exists, on a device that is awake, answers a state that its effect makes. -/
theorem happen_answers {t : Nat} {c : Bool} {s : State} {f : State → State} {P : State → Prop} (hc : c = true)
    (h : s.awake = true) (hP : P (f (s.advance t))) : ∃ u, happen t c s f = .next u ∧ P u :=
  ⟨_, happen_awake t c s f hc h, hP⟩

/-- A command that reaches a unit in any state but reset answers a state that its effect makes. -/
theorem happenAny_answers {t : Nat} {c : Bool} {s : State} {f : State → State} {P : State → Prop} (hc : c = true)
    (h : s.power.phase ≠ PowerPhase.held) (hP : P (f (s.advance t))) : ∃ u, happenAny t c s f = .next u ∧ P u :=
  ⟨_, happenAny_next t c s f hc h, hP⟩

/-- A request on a device that is awake answers a state that its effect makes. -/
theorem happenBy_answers {c : Caller} {t : Nat} {b : Bool} {s : State} {f : State → State} {P : State → Prop} (hb : b = true)
    (h : s.awake = true) (hp : c.iface ≠ Iface.partner) (hP : P (f (s.advance t))) : ∃ u, happenBy c t b s f = .next u ∧ P u :=
  ⟨_, happenBy_awake c t b s f hb h hp, hP⟩

/-- What a command can answer: a fault for a unit the hardware lacks; no change in reset; time alone in a low-power state;
else the effect. -/
theorem happen_cases (t : Nat) (c : Bool) (s : State) (f : State → State) :
    (c = false ∧ happen t c s f = .fault .noSuchUnit) ∨
    (c = true ∧ s.power.phase = PowerPhase.held ∧ happen t c s f = .next s) ∨
    (c = true ∧ s.power.phase ≠ PowerPhase.held ∧ s.awake = false ∧ happen t c s f = .next (s.advance t)) ∨
    (c = true ∧ s.awake = true ∧ happen t c s f = .next (f (s.advance t))) := by
  cases c with
  | false => exact .inl ⟨rfl, rfl⟩
  | true =>
    by_cases h : s.power.phase = PowerPhase.held
    · exact .inr (.inl ⟨rfl, h, by simp [happen, happenAny, h]⟩)
    · cases ha : s.awake with
      | false => exact .inr (.inr (.inl ⟨rfl, h, rfl, by simp [happen, happenAny, h, ha]⟩))
      | true => exact .inr (.inr (.inr ⟨rfl, rfl, by simp [happen, happenAny, h, ha]⟩))

/-! ### Replies -/

/-- A reply is the last one, and the only one of its interface. -/
theorem reply_last (s : State) (c : Caller) (status value len : Nat) :
    (s.reply c status value len).dict.replies.getLast? = some ⟨c, status, value, len⟩ := by
  simp [State.reply]

/-! ### Order keys -/

/-- A key's source, and its sequence number as the source counted it (R32). -/
theorem nextKey_src (s : State) (src : Nat) : (s.nextKey src).src = src := rfl
theorem nextKey_seq (s : State) (src : Nat) : (s.nextKey src).seq = (s.sourceKeys src).seq := rfl

end Sys2Proof.Machine
end

