-- ==== Sys2Proof/Laws/Bytes.lean ====
section
/-! SUPPORT. Octets: numbers read back from them, and the bridge window keeps its form and reads back. -/

namespace Sys2Proof.Machine

open Sys2Proof

/-! ### Numbers in octets -/

/-- A number reads back from `k` octets, least significant first. -/
theorem leNat_toLE (k n : Nat) : leNat (toLE k n) = n % 256 ^ k := by
  induction k generalizing n with
  | zero => simp [toLE, leNat, Nat.mod_one]
  | succ k ih =>
    rw [Nat.pow_succ', Nat.mod_mul, ← ih]
    simp only [toLE, leNat, BitVec.toNat_ofNat]

/-- The order of octets is the only difference between the two readings. -/
theorem beNat_reverse (b : Bytes) : beNat b.reverse = leNat b := by
  unfold beNat
  rw [List.foldl_reverse]
  induction b with
  | nil => rfl
  | cons x xs ih =>
    rw [List.foldr_cons, ih, leNat]
    omega

/-- A number reads back from `k` octets, most significant first. -/
theorem beNat_toBE (k n : Nat) : beNat (toBE k n) = n % 256 ^ k := by rw [toBE, beNat_reverse, leNat_toLE]

theorem toLE_length (k n : Nat) : (toLE k n).length = k := by
  induction k generalizing n with
  | zero => rfl
  | succ k ih => simp [toLE, ih]

theorem toBE_length (k n : Nat) : (toBE k n).length = k := by simp [toBE, toLE_length]

/-! ### The bridge window (R348) -/

/-- A write of a byte keeps the window in its canonical form. -/
theorem winPut_wf (w : Window) (a : Nat) (b : Byte) (h : winWf w = true) : winWf (winPut w a b) = true := kput_wf _ _ _ _ h

/-- A write keeps the window in its canonical form. -/
theorem winWrite_wf (w : Window) (a : Nat) (bs : Bytes) (h : winWf w = true) : winWf (winWrite w a bs) = true := by
  induction bs generalizing w a with
  | nil => exact h
  | cons b bs ih => exact ih _ _ (winPut_wf w a b h)

/-- After reset the window is in its canonical form. -/
theorem winWf_reset : winWf State.reset.elnar.window = true := by decide +kernel

/-- A byte outside those written reads as before. -/
theorem winRead_winWrite_outside (w : Window) (a c : Nat) (bs : Bytes) (h : c < a ∨ a + bs.length ≤ c) :
    winRead (winWrite w a bs) c = winRead w c := by
  induction bs generalizing w a with
  | nil => rfl
  | cons b bs ih =>
    simp only [List.length_cons] at h
    rw [winWrite, ih _ _ (by omega)]
    exact kget_kput_ne _ _ _ _ _ (by omega)

/-- A byte that is written reads back. -/
theorem winRead_winWrite_inside (w : Window) (a i : Nat) (bs : Bytes) (h : i < bs.length) :
    winRead (winWrite w a bs) (a + i) = nth bs i 0 := by
  induction bs generalizing w a i with
  | nil => simp at h
  | cons b bs ih =>
    rw [winWrite]
    cases i with
    | zero =>
      rw [Nat.add_zero, winRead_winWrite_outside _ _ _ _ (by omega)]
      exact kget_kput_same _ _ _ _
    | succ i =>
      rw [show a + (i + 1) = a + 1 + i by omega, ih _ _ _ (by simpa using h)]
      rfl

end Sys2Proof.Machine
end

