-- ==== Sys2Proof/Laws/ShapeOps.lean ====
section
/-! SUPPORT. The queue and the numbers of units under the operations of Ops. -/

namespace Sys2Proof.Machine

open Sys2Proof

@[simp] theorem State.modSet_shape (s : State) (n : Nat) (f : TimeSet → TimeSet) : (State.modSet s n f).shape = s.shape := by
  unfold State.modSet; simp

@[simp] theorem State.issueKey_shape (s : State) (src : Nat) : (State.issueKey s src).shape = s.shape := by
  unfold State.issueKey; simp

@[simp] theorem State.setStat_shape (s : State) (idx : Nat) (sub : Nat) (v : Nat) : (State.setStat s idx sub v).shape = s.shape := by
  unfold State.setStat; simp

@[simp] theorem State.orStat_shape (s : State) (idx : Nat) (sub : Nat) (bits : Nat) : (State.orStat s idx sub bits).shape = s.shape := by
  unfold State.orStat; simp

@[simp] theorem State.setRowStat_shape (s : State) (tbl : Nat) (pos : Nat) (sub : Nat) (v : Nat) : (State.setRowStat s tbl pos sub v).shape = s.shape := by
  unfold State.setRowStat; simp

@[simp] theorem State.bumpRow_shape (s : State) (tbl : Nat) (pos : Nat) (sub : Nat) : (State.bumpRow s tbl pos sub).shape = s.shape := by
  unfold State.bumpRow; simp

@[simp] theorem State.setOwn_shape (s : State) (c : Caller) (idx : Nat) (sub : Nat) (v : Nat) : (State.setOwn s c idx sub v).shape = s.shape := by
  unfold State.setOwn; simp

@[simp] theorem State.drawFree_shape (s : State) : (State.drawFree s).shape = s.shape := by
  unfold State.drawFree; simp

@[simp] theorem State.signalVector_shape (s : State) (v : Nat) : (State.signalVector s v).shape = s.shape := by
  unfold State.signalVector; simp

@[simp] theorem State.putEvent_shape (s : State) (ev : Event) : (State.putEvent s ev).shape = s.shape := by
  unfold State.putEvent; simp

@[simp] theorem State.flagCounter_shape (s : State) (idx : Nat) (sub : Nat) (bit : Nat) : (State.flagCounter s idx sub bit).shape = s.shape := by
  unfold State.flagCounter; simp

@[simp] theorem State.count64_shape (s : State) (idx : Nat) (sub : Nat) (n : Nat) : (State.count64 s idx sub n).shape = s.shape := by
  unfold State.count64; simp

@[simp] theorem State.count32_shape (s : State) (idx : Nat) (sub : Nat) : (State.count32 s idx sub).shape = s.shape := by
  unfold State.count32; simp

@[simp] theorem State.count32Own_shape (s : State) (idx : Nat) (sub : Nat) (fidx : Nat) (fsub : Nat) (bit : Nat) : (State.count32Own s idx sub fidx fsub bit).shape = s.shape := by
  unfold State.count32Own; simp

@[simp] theorem State.countSeq_shape (s : State) (idx : Nat) (sub : Nat) (w : Nat) : (State.countSeq s idx sub w).shape = s.shape := by
  unfold State.countSeq; simp

@[simp] theorem State.commitEvent_shape (s : State) (ev : Event) : (State.commitEvent s ev).shape = s.shape := by
  unfold State.commitEvent; (try dsimp only); (repeat' split) <;> simp

@[simp] theorem State.arriveEvent_shape (s : State) (ev : Event) : (State.arriveEvent s ev).shape = s.shape := by
  unfold State.arriveEvent; (try dsimp only); (repeat' split) <;> simp

@[simp] theorem State.raiseEvent_shape (s : State) (src : Nat) (code : Nat) (args : Nat) : (State.raiseEvent s src code args).shape = s.shape := by
  unfold State.raiseEvent; simp

@[simp] theorem State.raiseKeyed_shape (s : State) (key : OKey) (code : Nat) (args : Nat) : (State.raiseKeyed s key code args).shape = s.shape := by
  unfold State.raiseKeyed; simp

@[simp] theorem State.noteDeterminism_shape (s : State) (bit : Nat) : (State.noteDeterminism s bit).shape = s.shape := by
  unfold State.noteDeterminism; simp

end Sys2Proof.Machine
end

