-- ==== Sys2Proof/Laws/ShapeFaults.lean ====
section
/-! SUPPORT. The queue and the numbers of units under the operations of Faults. -/

namespace Sys2Proof.Machine

open Sys2Proof

@[simp] theorem State.refreshSafety_shape (s : State) : (State.refreshSafety s).shape = s.shape := by
  unfold State.refreshSafety; (try dsimp only); (repeat' split) <;> (try simp only [shape_ite, ite_self]) <;> (try simp) <;> (try simp [State.shape, State.sizes])

@[simp] theorem State.fatalActions_shape (s : State) : (State.fatalActions s).shape = s.shape := by
  unfold State.fatalActions; (try dsimp only); (repeat' split) <;> simp [State.shape, State.sizes]

@[simp] theorem State.react_shape (s : State) (key : OKey) (i : Nat) (r : Nat) (first : Bool) : (State.react s key i r first).shape = s.shape := by
  unfold State.react; simp

@[simp] theorem State.raiseFault_shape (s : State) (i : Nat) (stays : Bool) : (State.raiseFault s i stays).shape = s.shape := by
  unfold State.raiseFault; simp only [Bool.not_eq_eq_eq_not, Bool.not_true, refreshSafety_shape, react_shape, shape_safety, issueKey_shape]

@[simp] theorem State.clearCause_shape (s : State) (i : Nat) : (State.clearCause s i).shape = s.shape := by
  unfold State.clearCause; simp

end Sys2Proof.Machine
end

