-- ==== Sys2Proof/Laws/ShapeClassify.lean ====
section
/-! SUPPORT. The queue and the numbers of units under the operations of Classify. -/

namespace Sys2Proof.Machine

open Sys2Proof

@[simp] theorem State.countClass_shape (s : State) (c : Classified) : (State.countClass s c).shape = s.shape := by
  unfold State.countClass; simp

end Sys2Proof.Machine
end

