-- ==== Sys2Proof/Laws/ShapePair.lean ====
section
/-! SUPPORT. The queue and the numbers of units under the operations of Pair. -/

namespace Sys2Proof.Machine

open Sys2Proof

@[simp] theorem State.setTokens_shape (s : State) (v : Nat) : (State.setTokens s v).shape = s.shape := by
  unfold State.setTokens; simp

@[simp] theorem State.journalInput_shape (s : State) (key : OKey) (kind : Nat) (arg : Nat) (tag : Nat) (relayed : Bool) (payload : Option Bytes) : (State.journalInput s key kind arg tag relayed payload).shape = s.shape := by
  unfold State.journalInput; simp

@[simp] theorem State.journalFrer_shape (s : State) (key : OKey) (drop : Bool) (seq : Option Nat) : (State.journalFrer s key drop seq).shape = s.shape := by
  unfold State.journalFrer; simp

@[simp] theorem State.keepOwn_shape (s : State) (key : OKey) (tag : Nat) (x : OwnInput) : (State.keepOwn s key tag x).shape = s.shape := by
  unfold State.keepOwn; simp

@[simp] theorem State.withhold_shape (s : State) : (State.withhold s).shape = s.shape := by
  unfold State.withhold; simp

end Sys2Proof.Machine
end

