-- ==== Sys2Proof/Laws/ShapeDictCore.lean ====
section
/-! SUPPORT. The queue and the numbers of units under the operations of DictCore. -/

namespace Sys2Proof.Machine

open Sys2Proof

@[simp] theorem State.modSession_shape (s : State) (n : Nat) (f : Session → Session) : (State.modSession s n f).shape = s.shape := by
  unfold State.modSession; (try dsimp only); (repeat' split) <;> simp

@[simp] theorem State.touchSession_shape (s : State) (c : Caller) : (State.touchSession s c).shape = s.shape := by
  unfold State.touchSession; simp

@[simp] theorem State.reply_shape (s : State) (c : Caller) (status : Nat) (value : Nat) (len : Nat) : (State.reply s c status value len).shape = s.shape := by
  unfold State.reply; simp

@[simp] theorem State.stage_shape (s : State) (c : Caller) (w : StagedWork) : (State.stage s c w).shape = s.shape := by
  unfold State.stage; simp

@[simp] theorem State.emptyStaging_shape (s : State) : (State.emptyStaging s).shape = s.shape := by
  unfold State.emptyStaging; simp

@[simp] theorem State.journalChange_shape (s : State) (c : Caller) (kind : Nat) (idx : Nat) (sub : Nat) (old : Bytes) (new : Bytes) (epoch : Nat) : (State.journalChange s c kind idx sub old new epoch).shape = s.shape := by
  unfold State.journalChange; simp

@[simp] theorem State.acceptBytes_shape (s : State) (c : Caller) (kind : Nat) (idx : Nat) (sub : Nat) (old : Bytes) (new : Bytes) (value : Nat) (epoch : Nat) : (State.acceptBytes s c kind idx sub old new value epoch).shape = s.shape := by
  unfold State.acceptBytes; simp

@[simp] theorem State.acceptWrite_shape (s : State) (c : Caller) (kind : Nat) (idx : Nat) (sub : Nat) (old : Nat) (new : Nat) (value : Nat) (epoch : Nat) : (State.acceptWrite s c kind idx sub old new value epoch).shape = s.shape := by
  unfold State.acceptWrite; simp

@[simp] theorem State.addSetting_shape (s : State) (epoch : Nat) (kep : Nat) (src : Nat) (key : Nat) (val : Nat) : (State.addSetting s epoch kep src key val).shape = s.shape := by
  unfold State.addSetting; simp

@[simp] theorem State.addRowOp_shape (s : State) (epoch : Nat) (kep : Nat) (src : Nat) (tbl : Nat) (pos : Nat) (vals : Option (List Nat)) : (State.addRowOp s epoch kep src tbl pos vals).shape = s.shape := by
  unfold State.addRowOp; simp

@[simp] theorem State.keyRequest_shape (s : State) (c : Caller) (op : Nat) (idx : Nat) (sub : Nat) (data : Bytes) : (State.keyRequest s c op idx sub data).shape = s.shape := by
  unfold State.keyRequest; simp

@[simp] theorem State.storeWrite_shape (s : State) (c : Caller) (k : Nat) (idx : Nat) (sub : Nat) (e : EntryDef) (v : Nat) : (State.storeWrite s c k idx sub e v).shape = s.shape := by
  unfold State.storeWrite; (try dsimp only); (repeat' split) <;> simp

@[simp] theorem State.dictWrite_shape (s : State) (c : Caller) (idx : Nat) (sub : Nat) (data : Bytes) (extra : State → Nat → Nat) (eff : Nat → State → State) (heff : ∀ y0 y1, (eff y0 y1).shape = y1.shape) : (State.dictWrite s c idx sub data extra eff).shape = s.shape := by
  unfold State.dictWrite; (try dsimp only); (repeat' split) <;> simp_all

@[simp] theorem State.dictRead_shape (s : State) (c : Caller) (idx : Nat) (sub : Nat) (extra : State → Nat) (val : State → Nat) (len : Nat) (eff : State → State) (heff : ∀ y0, (eff y0).shape = y0.shape) : (State.dictRead s c idx sub extra val len eff).shape = s.shape := by
  unfold State.dictRead; (try dsimp only); (repeat' split) <;> simp_all

@[simp] theorem State.fillView_shape (s : State) (c : Caller) (tbl : Nat) (vals : List Nat) : (State.fillView s c tbl vals).shape = s.shape := by
  unfold State.fillView; simp

end Sys2Proof.Machine
end

