-- ==== Sys2Proof/Laws/ShapeGates.lean ====
section
/-! SUPPORT. The queue and the numbers of units under the operations of Gates. -/

namespace Sys2Proof.Machine

open Sys2Proof

@[simp] theorem State.modGate_shape (s : State) (p : Nat) (f : GateEngine → GateEngine) : (State.modGate s p f).shape = s.shape := by
  unfold State.modGate; simp

end Sys2Proof.Machine
end

