-- ==== Sys2Proof/Laws/ShapeLink.lean ====
section
/-! SUPPORT. The queue and the numbers of units under the operations of Link. -/

namespace Sys2Proof.Machine

open Sys2Proof

@[simp] theorem State.modRx_shape (s : State) (r : Nat) (f : RxLane → RxLane) : (State.modRx s r f).shape = s.shape := by
  unfold State.modRx; simp

@[simp] theorem State.modClass_shape (s : State) (c : Nat) (f : CellClass → CellClass) : (State.modClass s c f).shape = s.shape := by
  unfold State.modClass; simp

@[simp] theorem State.sendMsg_shape (s : State) (cls : Nat) (kind : Nat) (flags : Nat) (body : Bytes) : (State.sendMsg s cls kind flags body).shape = s.shape := by
  unfold State.sendMsg; simp

@[simp] theorem State.consume_shape (s : State) (cls : Nat) (kind : Nat) (body : Bytes) : (State.consume s cls kind body).shape = s.shape := by
  unfold State.consume; (try dsimp only); (repeat' split) <;> simp

@[simp] theorem State.nextCell_shape (s : State) : (State.nextCell s).1.shape = s.shape := by
  unfold State.nextCell; (try dsimp only); (repeat' split) <;> simp only [shape_elnar, count64_shape, modClass_shape]

@[simp] theorem fillData_shape (a1 : Nat) (a2 : Bool) (a3 : Nat) (a4 : Bytes) (a5 : State) : (fillData a1 a2 a3 a4 a5).1.shape = a5.shape := by
  fun_induction fillData a1 a2 a3 a4 a5 <;> (try dsimp only at *) <;> (repeat' split) <;> simp_all +zetaDelta

@[simp] theorem State.orphan_shape (s : State) (tag : Nat) (init : Nat) (status : Nat) (offset : Nat) (issue : Nat) : (State.orphan s tag init status offset issue).shape = s.shape := by
  unfold State.orphan; simp

@[simp] theorem State.giveResult_shape (s : State) (init : Nat) (d : BridgeDone) : (State.giveResult s init d).shape = s.shape := by
  unfold State.giveResult; simp

@[simp] theorem State.endOutstanding_shape (s : State) : (State.endOutstanding s).shape = s.shape := by
  unfold State.endOutstanding; simp

@[simp] theorem State.holdSets_shape (s : State) : (State.holdSets s).shape = s.shape := by
  unfold State.holdSets; simp

@[simp] theorem State.noteOut_shape (s : State) : (State.noteOut s).shape = s.shape := by
  unfold State.noteOut; simp

@[simp] theorem State.endOut_shape (s : State) : (State.endOut s).shape = s.shape := by
  unfold State.endOut; simp

@[simp] theorem State.linkLost_shape (s : State) : (State.linkLost s).shape = s.shape := by
  unfold State.linkLost; simp

@[simp] theorem State.linkRestart_shape (s : State) : (State.linkRestart s).shape = s.shape := by
  rfl

@[simp] theorem State.laneOut_shape (s : State) (r : Nat) : (State.laneOut s r).shape = s.shape := by
  unfold State.laneOut; simp

@[simp] theorem State.checkUse_shape (s : State) (r : Nat) : (State.checkUse s r).shape = s.shape := by
  unfold State.checkUse; simp

@[simp] theorem State.declareDefect_shape (s : State) (r : Nat) (bit : Nat) : (State.declareDefect s r bit).shape = s.shape := by
  unfold State.declareDefect; simp

@[simp] theorem State.clearDefect_shape (s : State) (r : Nat) (bit : Nat) : (State.clearDefect s r bit).shape = s.shape := by
  unfold State.clearDefect; simp

@[simp] theorem State.setDefect_shape (s : State) (r : Nat) (bit : Nat) (on : Bool) : (State.setDefect s r bit on).shape = s.shape := by
  unfold State.setDefect; simp

@[simp] theorem State.loseFrame_shape (s : State) (r : Nat) : (State.loseFrame s r).shape = s.shape := by
  unfold State.loseFrame; simp

@[simp] theorem State.acceptCell_shape (s : State) (c : Nat) (last : Bool) (d : Bytes) : (State.acceptCell s c last d).shape = s.shape := by
  unfold State.acceptCell; simp only [Bool.and_eq_true, Bool.not_eq_eq_eq_not, Bool.not_true, shape_ite, shape_elnar, modClass_shape, count64_shape, ite_self]

@[simp] theorem drainEarly_shape (a1 : Nat) (a2 : Nat) (a3 : State) : (drainEarly a1 a2 a3).shape = a3.shape := by
  fun_induction drainEarly a1 a2 a3 <;> simp_all

@[simp] theorem State.takeCredits_shape (s : State) (d : Bytes) : (State.takeCredits s d).shape = s.shape := by
  unfold State.takeCredits; simp only [List.foldl_cons, List.foldl_nil, Bool.not_and, shape_elnar, modClass_shape]

@[simp] theorem State.takeCell_shape (s : State) (b : Bytes) : (State.takeCell s b).shape = s.shape := by
  unfold State.takeCell; simp

@[simp] theorem State.errorWindow_shape (s : State) (r : Nat) (bit : Nat) (w : Nat) (frames : Nat) (errs : Nat) : (State.errorWindow s r bit w frames errs).1.shape = s.shape := by
  unfold State.errorWindow; simp

@[simp] theorem State.frameParity_shape (s : State) (r : Nat) (errs : Nat) : (State.frameParity s r errs).shape = s.shape := by
  unfold State.frameParity; simp

@[simp] theorem State.runDefect_shape (s : State) (r : Nat) (bit : Nat) (seen : Bool) (run : Nat) : (State.runDefect s r bit seen run).1.shape = s.shape := by
  unfold State.runDefect; simp

@[simp] theorem State.traceFrame_shape (s : State) (r : Nat) (trc : Nat) (mfc : Nat) : (State.traceFrame s r trc mfc).shape = s.shape := by
  unfold State.traceFrame; simp

@[simp] theorem State.heartFrame_shape (s : State) (r : Nat) (hb : Nat) : (State.heartFrame s r hb).shape = s.shape := by
  unfold State.heartFrame; simp only [Option.map_eq_some_iff, Bool.and_eq_true, decide_eq_true_eq, shape_ite, shape_saddle, modRx_shape, ite_self]

@[simp] theorem State.frameStatus_shape (s : State) (r : Nat) (f : Bytes) : (State.frameStatus s r f).shape = s.shape := by
  unfold State.frameStatus; simp

@[simp] theorem State.frameCells_shape (s : State) (r : Nat) (cp : Nat) (d : Bytes) : (State.frameCells s r cp d).shape = s.shape := by
  unfold State.frameCells; (try dsimp only); (repeat' split) <;> simp

@[simp] theorem State.alignedFrame_shape (s : State) (r : Nat) (line : Bytes) : (State.alignedFrame s r line).shape = s.shape := by
  unfold State.alignedFrame; (try dsimp only); (repeat' split) <;> simp

end Sys2Proof.Machine
end

