-- ==== Sys2Proof/Laws/ShapeNarrows.lean ====
section
/-! SUPPORT. The queue and the numbers of units under the operations of Narrows. -/

namespace Sys2Proof.Machine

open Sys2Proof

@[simp] theorem State.takeToken_shape (s : State) (n : Nat) (rate : Nat) (burst : Nat) (e : Nat) : (State.takeToken s n rate burst e).1.shape = s.shape := by
  unfold State.takeToken; simp

@[simp] theorem State.refillBucket_shape (s : State) (n : Nat) : (State.refillBucket s n).shape = s.shape := by
  unfold State.refillBucket; simp

@[simp] theorem State.logDeny_shape (s : State) (key : OKey) (args : Nat) : (State.logDeny s key args).shape = s.shape := by
  unfold State.logDeny; simp

@[simp] theorem State.setSession_shape (s : State) (slot : Nat) (x : NSession) : (State.setSession s slot x).shape = s.shape := by
  unfold State.setSession; simp

@[simp] theorem State.dropSession_shape (s : State) (slot : Nat) : (State.dropSession s slot).shape = s.shape := by
  unfold State.dropSession; simp

@[simp] theorem State.clearSlot_shape (s : State) (e : Nat) (slot : Nat) : (State.clearSlot s e slot).shape = s.shape := by
  unfold State.clearSlot; (try dsimp only); (repeat' split) <;> simp

@[simp] theorem State.tryCreate_shape (s : State) (e : Nat) (z : Nat) (d : Nat) (p : Parsed) (dec : Decision) : (State.tryCreate s e z d p dec).1.shape = s.shape := by
  unfold State.tryCreate; (try dsimp only); (repeat' split) <;> simp

@[simp] theorem State.judgeNew_shape (s : State) (e : Nat) (z : Nat) (d : Nat) (tr : Bool) (p : Parsed) : (State.judgeNew s e z d tr p).1.shape = s.shape := by
  unfold State.judgeNew; simp

@[simp] theorem State.judge_shape (s : State) (e : Nat) (z : Nat) (d : Nat) (tr : Bool) (p : Parsed) : (State.judge s e z d tr p).1.shape = s.shape := by
  unfold State.judge; (try dsimp only); (repeat' split) <;> simp

@[simp] theorem State.countJudged_shape (s : State) (key : OKey) (shared : Bool) (z : Nat) (d : Nat) (p : Parsed) (j : Judged) : (State.countJudged s key shared z d p j).shape = s.shape := by
  unfold State.countJudged; simp

@[simp] theorem State.narrowsStage_shape (s : State) (key : OKey) (shared : Bool) (z : Nat) (track : Bool) (p : Parsed) (dest : Nat) : (State.narrowsStage s key shared z track p dest).1.shape = s.shape := by
  unfold State.narrowsStage; simp

end Sys2Proof.Machine
end

