-- ==== Sys2Proof/Laws/ShapePairStatus.lean ====
section
/-! SUPPORT. The queue and the numbers of units under the operations of PairStatus. -/

namespace Sys2Proof.Machine

open Sys2Proof

@[simp] theorem State.sendRecord_shape (s : State) (r : JRec) : (State.sendRecord s r).shape = s.shape := by
  unfold State.sendRecord; simp

@[simp] theorem State.handOver_shape (s : State) (n : Nat) : (State.handOver s n).shape = s.shape := by
  unfold State.handOver; simp

@[simp] theorem State.settleHandovers_shape (s : State) : (State.settleHandovers s).shape = s.shape := by
  unfold State.settleHandovers; simp

@[simp] theorem State.settleFx_shape (s : State) (start : Nat) : (State.settleFx s start).shape = s.shape := by
  unfold State.settleFx; simp

end Sys2Proof.Machine
end

