-- ==== Sys2Proof/Laws/ShapeStreams.lean ====
section
/-! SUPPORT. The queue and the numbers of units under the operations of Streams. -/

namespace Sys2Proof.Machine

open Sys2Proof

@[simp] theorem State.setStreamGate_shape (s : State) (g : Nat) (x : StreamGate) : (State.setStreamGate s g x).shape = s.shape := by
  unfold State.setStreamGate; simp

@[simp] theorem State.gateDecision_shape (s : State) (e : Nat) (g : Nat) (m : Nat) (port : Nat) : (State.gateDecision s e g m port).1.shape = s.shape := by
  unfold State.gateDecision; simp

@[simp] theorem State.applyMeter_shape (s : State) (e : Nat) (n : Nat) (len : Nat) (col : Nat) (port : Nat) : (State.applyMeter s e n len col port).1.shape = s.shape := by
  unfold State.applyMeter; simp

@[simp] theorem State.bumpFilter_shape (s : State) (n : Nat) (sub : Nat) : (State.bumpFilter s n sub).shape = s.shape := by
  unfold State.bumpFilter; simp

@[simp] theorem State.filterMeter_shape (s : State) (e : Nat) (n : Nat) (f : Nat) (m : Nat) (col : Nat) (port : Nat) (ipv : Option Nat) : (State.filterMeter s e n f m col port ipv).1.shape = s.shape := by
  unfold State.filterMeter; simp

@[simp] theorem State.filterGate_shape (s : State) (e : Nat) (n : Nat) (f : Nat) (m : Nat) (col : Nat) (port : Nat) : (State.filterGate s e n f m col port).1.shape = s.shape := by
  unfold State.filterGate; simp

@[simp] theorem State.filterChecks_shape (s : State) (e : Nat) (n : Nat) (f : Nat) (m : Nat) (col : Nat) (port : Nat) : (State.filterChecks s e n f m col port).1.shape = s.shape := by
  unfold State.filterChecks; simp

@[simp] theorem State.streamFilter_shape (s : State) (e : Nat) (handle : Option Nat) (cls : Nat) (m : Nat) (col : Nat) (port : Nat) : (State.streamFilter s e handle cls m col port).1.shape = s.shape := by
  unfold State.streamFilter; (try dsimp only); (repeat' split) <;> simp

@[simp] theorem State.setFrer_shape (s : State) (n : Nat) (x : FrerState) : (State.setFrer s n x).shape = s.shape := by
  unfold State.setFrer; simp

@[simp] theorem State.frerRecover_shape (s : State) (e : Nat) (n : Nat) (v : List Nat) (seq : Option Nat) : (State.frerRecover s e n v seq).1.shape = s.shape := by
  unfold State.frerRecover; (try dsimp only); (repeat' split) <;> simp

@[simp] theorem State.frerGenerate_shape (s : State) (e : Nat) (handle : Nat) (port : Nat) (seq : Option Nat) (out : Nat) : (State.frerGenerate s e handle port seq out).1.shape = s.shape := by
  unfold State.frerGenerate; (try dsimp only); (repeat' split) <;> simp

@[simp] theorem State.frerStage_shape (s : State) (e : Nat) (handle : Option Nat) (port : Nat) (seq : Option Nat) : (State.frerStage s e handle port seq).1.shape = s.shape := by
  unfold State.frerStage; (try dsimp only); (repeat' split) <;> simp

end Sys2Proof.Machine
end

