-- ==== Sys2Proof/Laws/ShapeTimeFamily.lean ====
section
/-! SUPPORT. The queue and the numbers of units under the operations of TimeFamily. -/

namespace Sys2Proof.Machine

open Sys2Proof

@[simp] theorem State.modTrigger_shape (s : State) (n : Nat) (f : Trigger → Trigger) : (State.modTrigger s n f).shape = s.shape := by
  unfold State.modTrigger; simp

@[simp] theorem State.pairEdge_shape (s : State) (n : Nat) (pulse : Nat) : (State.pairEdge s n pulse).shape = s.shape := by
  unfold State.pairEdge; simp

@[simp] theorem State.leadingEdge_shape (s : State) (n : Nat) (late : Bool) : (State.leadingEdge s n late).shape = s.shape := by
  unfold State.leadingEdge; simp

@[simp] theorem State.armTrigger_shape (s : State) (n : Nat) : (State.armTrigger s n).shape = s.shape := by
  unfold State.armTrigger; simp

@[simp] theorem State.stepTrigger_shape (before : Int) (s : State) (n : Nat) : (State.stepTrigger before s n).shape = s.shape := by
  unfold State.stepTrigger; simp

@[simp] theorem State.backwardStep_shape (s : State) : (State.backwardStep s).shape = s.shape := by
  unfold State.backwardStep; simp

@[simp] theorem State.schedule_shape (s : State) (c : Caller) (n : Nat) (kind : CorrKind) (v : Int) : (State.schedule s c n kind v).shape = s.shape := by
  unfold State.schedule; simp

@[simp] theorem State.reqRateWrite_shape (s : State) (c : Caller) (n : Nat) (data : Bytes) : (State.reqRateWrite s c n data).shape = s.shape := by
  unfold State.reqRateWrite; simp

@[simp] theorem State.reqStepWrite_shape (s : State) (c : Caller) (n : Nat) (data : Bytes) : (State.reqStepWrite s c n data).shape = s.shape := by
  unfold State.reqStepWrite; simp

@[simp] theorem State.reqLoadWrite_shape (s : State) (c : Caller) (n : Nat) (data : Bytes) : (State.reqLoadWrite s c n data).shape = s.shape := by
  unfold State.reqLoadWrite; simp

@[simp] theorem State.reqFallbackIncrementWrite_shape (s : State) (c : Caller) (n : Nat) (data : Bytes) : (State.reqFallbackIncrementWrite s c n data).shape = s.shape := by
  unfold State.reqFallbackIncrementWrite; simp

@[simp] theorem slewEnd_shape (n : Nat) (s : State) : (slewEnd n s).shape = s.shape := by
  unfold slewEnd; simp

@[simp] theorem timerefFault_shape (s : State) : (timerefFault s).shape = s.shape := by
  unfold timerefFault; simp

@[simp] theorem timerefRestored_shape (s : State) : (timerefRestored s).shape = s.shape := by
  unfold timerefRestored; simp

@[simp] theorem grandmasterLost_shape (n : Nat) (s : State) : (grandmasterLost n s).shape = s.shape := by
  unfold grandmasterLost; simp only [ne_eq, shape_ite, shape_time_ord, State.modSet_shape, ite_self]

@[simp] theorem holdoverLimitExceeded_shape (s : State) : (holdoverLimitExceeded s).shape = s.shape := by
  unfold holdoverLimitExceeded; simp

@[simp] theorem holdoverEnd_shape (n : Nat) (gm : Nat) (offset : Int) (ratio : Int) (s : State) : (holdoverEnd n gm offset ratio s).shape = s.shape := by
  unfold holdoverEnd; simp only [shape_ite, shape_time_ord, State.issueKey_shape, State.setStat_shape, State.clearCause_shape, State.modSet_shape, ite_self]

@[simp] theorem State.pushStamp_shape (s : State) (port : Nat) (x : TxStamp) : (State.pushStamp s port x).shape = s.shape := by
  unfold State.pushStamp; simp

@[simp] theorem State.reqTxStampRead_shape (s : State) (c : Caller) (port : Nat) : (State.reqTxStampRead s c port).shape = s.shape := by
  unfold State.reqTxStampRead; simp

@[simp] theorem triggerLeading_shape (n : Nat) (s : State) : (triggerLeading n s).shape = s.shape := by
  unfold triggerLeading; simp

@[simp] theorem triggerTrailing_shape (n : Nat) (s : State) : (triggerTrailing n s).shape = s.shape := by
  unfold triggerTrailing; simp

@[simp] theorem State.modCapture_shape (s : State) (n : Nat) (f : CaptureIn → CaptureIn) : (State.modCapture s n f).shape = s.shape := by
  unfold State.modCapture; simp

@[simp] theorem State.captureOverflow_shape (s : State) (n : Nat) : (State.captureOverflow s n).shape = s.shape := by
  unfold State.captureOverflow; simp

@[simp] theorem captureEdge_shape (n : Nat) (width : Nat) (falling : Bool) (s : State) : (captureEdge n width falling s).shape = s.shape := by
  unfold captureEdge; simp

@[simp] theorem State.reqCaptureRead_shape (s : State) (c : Caller) (n : Nat) : (State.reqCaptureRead s c n).shape = s.shape := by
  unfold State.reqCaptureRead; simp

@[simp] theorem orderTimeResume_shape (s : State) : (orderTimeResume s).shape = s.shape := by
  unfold orderTimeResume; simp

@[simp] theorem clockGateEnd_shape (timeref : Nat) (sdref : Nat) (pcie : Nat) (rc : Nat) (crystal : Option Nat) (s : State) : (clockGateEnd timeref sdref pcie rc crystal s).shape = s.shape := by
  unfold clockGateEnd; (try dsimp only); (repeat' split) <;> simp

@[simp] theorem crystalStartTimeout_shape (s : State) : (crystalStartTimeout s).shape = s.shape := by
  unfold crystalStartTimeout; simp

end Sys2Proof.Machine
end

