-- ==== Sys2Proof/Laws/ShapeBasin.lean ====
section
/-! SUPPORT. The queue and the numbers of units under the operations of Basin. -/

namespace Sys2Proof.Machine

open Sys2Proof

@[simp] theorem State.modPort_shape (s : State) (p : Nat) (f : Port → Port) : (State.modPort s p f).shape = s.shape := by
  unfold State.modPort; simp

@[simp] theorem State.modFrame_shape (s : State) (id : Nat) (f : Frame → Frame) : (State.modFrame s id f).shape = s.shape := by
  unfold State.modFrame; simp

@[simp] theorem State.removeFrame_shape (s : State) (id : Nat) : (State.removeFrame s id).shape = s.shape := by
  unfold State.removeFrame; simp

@[simp] theorem State.writeCells_shape (s : State) (id : Nat) (n : Nat) : (State.writeCells s id n).shape = s.shape := by
  unfold State.writeCells; (try dsimp only); (repeat' split) <;> simp

@[simp] theorem State.writeWaiting_shape (s : State) : (State.writeWaiting s).shape = s.shape := by
  unfold State.writeWaiting; simp

@[simp] theorem State.modTx_shape (s : State) (p : Nat) (f : PortTx → PortTx) : (State.modTx s p f).shape = s.shape := by
  unfold State.modTx; simp

@[simp] theorem State.refreshCredit_shape (s : State) (p : Nat) (q : Nat) : (State.refreshCredit s p q).shape = s.shape := by
  unfold State.refreshCredit; simp

@[simp] theorem State.refreshCredits_shape (s : State) (p : Nat) : (State.refreshCredits s p).shape = s.shape := by
  unfold State.refreshCredits; simp

@[simp] theorem State.debit_shape (s : State) (p : Nat) (q : Nat) (len : Int) : (State.debit s p q len).shape = s.shape := by
  unfold State.debit; (try dsimp only); (repeat' split) <;> simp

@[simp] theorem State.notSent_shape (s : State) (p : Nat) (stamp : Option (Nat × Nat)) : (State.notSent s p stamp).shape = s.shape := by
  unfold State.notSent; (try dsimp only); (repeat' split) <;> simp

@[simp] theorem State.queueDrop_shape (s : State) (p : Nat) (q : Nat) : (State.queueDrop s p q).shape = s.shape := by
  unfold State.queueDrop; simp

@[simp] theorem State.endCopy_shape (s : State) (c : Copy) : (State.endCopy s c).shape = s.shape := by
  unfold State.endCopy; (try dsimp only); (repeat' split) <;> simp

@[simp] theorem State.dropCopy_shape (s : State) (c : Copy) : (State.dropCopy s c).shape = s.shape := by
  unfold State.dropCopy; simp

@[simp] theorem State.flushCopy_shape (s : State) (c : Copy) : (State.flushCopy s c).shape = s.shape := by
  unfold State.flushCopy; simp

@[simp] theorem State.failCopy_shape (s : State) (c : Copy) : (State.failCopy s c).shape = s.shape := by
  unfold State.failCopy; simp

@[simp] theorem State.failFrame_shape (s : State) (id : Nat) : (State.failFrame s id).shape = s.shape := by
  unfold State.failFrame; simp

@[simp] theorem State.refuseAs_shape (s : State) (f : Frame) (o : Offer) : (State.refuseAs s f o).shape = s.shape := by
  unfold State.refuseAs; simp

@[simp] theorem State.offerCopy_shape (s : State) (f : Frame) (o : Offer) : (State.offerCopy s f o).1.shape = s.shape := by
  unfold State.offerCopy; simp

@[simp] theorem State.ledgerWrite_shape (s : State) (bytes : Bytes) : (State.ledgerWrite s bytes).shape = s.shape := by
  unfold State.ledgerWrite; simp

@[simp] theorem State.ledgerTrigger_shape (s : State) (cause : Nat) (key : OKey) : (State.ledgerTrigger s cause key).shape = s.shape := by
  unfold State.ledgerTrigger; simp only [shape_ite, shape_basin, setStat_shape, ite_self]

end Sys2Proof.Machine
end

