-- ==== Sys2Proof/Laws/ShapeDomainOps.lean ====
section
/-! SUPPORT. The queue and the numbers of units under the operations of DomainOps. -/

namespace Sys2Proof.Machine

open Sys2Proof

@[simp] theorem State.dropWrite_shape (s : State) (c : Caller) (key : Nat) : (State.dropWrite s c key).shape = s.shape := by
  unfold State.dropWrite; simp

@[simp] theorem State.completeDomain_shape (s : State) (c : Caller) (k : Nat) (idx : Nat) (sub : Nat) (content : Bytes) (extra : State → Bytes → Nat) (eff : Bytes → State → State) (onRefuse : State → State) (heff : ∀ y0 y1, (eff y0 y1).shape = y1.shape) (honRefuse : ∀ y0, (onRefuse y0).shape = y0.shape) : (State.completeDomain s c k idx sub content extra eff onRefuse).shape = s.shape := by
  unfold State.completeDomain; (try dsimp only); (repeat' split) <;> simp_all

@[simp] theorem State.writeSegment_shape (s : State) (c : Caller) (idx : Nat) (sub : Nat) (off : Nat) (data : Bytes) (last : Bool) (extra : State → Bytes → Nat) (eff : Bytes → State → State) (onRefuse : State → State) (heff : ∀ y0 y1, (eff y0 y1).shape = y1.shape) (honRefuse : ∀ y0, (onRefuse y0).shape = y0.shape) : (State.writeSegment s c idx sub off data last extra eff onRefuse).shape = s.shape := by
  unfold State.writeSegment; (try dsimp only); (repeat' split) <;> simp_all

@[simp] theorem State.expireWrites_shape (s : State) : (State.expireWrites s).shape = s.shape := by
  unfold State.expireWrites; simp

@[simp] theorem State.dropSessionWrites_shape (s : State) (n : Nat) : (State.dropSessionWrites s n).shape = s.shape := by
  unfold State.dropSessionWrites; simp

end Sys2Proof.Machine
end

