-- ==== Sys2Proof/Laws/ShapeForward.lean ====
section
/-! SUPPORT. The queue and the numbers of units under the operations of Forward. -/

namespace Sys2Proof.Machine

open Sys2Proof

@[simp] theorem State.putFdb_shape (s : State) (slot : Nat) (x : FdbEntry) : (State.putFdb s slot x).shape = s.shape := by
  unfold State.putFdb; simp

@[simp] theorem State.learn_shape (s : State) (e : Nat) (mac : Nat) (vid : Nat) (p : Nat) : (State.learn s e mac vid p).shape = s.shape := by
  unfold State.learn; (try dsimp only); (repeat' split) <;> simp

@[simp] theorem State.fdbSet_shape (s : State) (e : Nat) (v : Nat) (slot : Nat) (mac : Nat) (vid : Nat) (dest : Nat) : (State.fdbSet s e v slot mac vid dest).shape = s.shape := by
  unfold State.fdbSet; simp

@[simp] theorem State.floodOrKnown_shape (s : State) (e : Nat) (p : Parsed) (v : List Nat) (vid : Nat) : (State.floodOrKnown s e p v vid).1.shape = s.shape := by
  unfold State.floodOrKnown; (try dsimp only); (repeat' split) <;> simp

@[simp] theorem State.learnEvent_shape (s : State) (key : OKey) (mac : Nat) (vid : Nat) (p : Nat) : (State.learnEvent s key mac vid p).shape = s.shape := by
  unfold State.learnEvent; simp

@[simp] theorem State.decideDest_shape (s : State) (key : OKey) (port : Nat) (p : Parsed) (a : Nat) (bypass : Bool) : (State.decideDest s key port p a bypass).1.shape = s.shape := by
  unfold State.decideDest; simp

end Sys2Proof.Machine
end

