-- ==== Sys2Proof/Laws/ShapeFramePath.lean ====
section
/-! SUPPORT. The queue and the numbers of units under the operations of FramePath. -/

namespace Sys2Proof.Machine

open Sys2Proof

@[simp] theorem State.advancePn_shape (s : State) (p : Nat) (rx : SecTag) : (State.advancePn s p rx).shape = s.shape := by
  unfold State.advancePn; (try dsimp only); (repeat' split) <;> simp

@[simp] theorem State.sendPause_shape (s : State) (p : Nat) (time : Nat) : (State.sendPause s p time).shape = s.shape := by
  unfold State.sendPause; simp

@[simp] theorem State.checkXoff_shape (s : State) (p : Nat) : (State.checkXoff s p).shape = s.shape := by
  unfold State.checkXoff; simp

@[simp] theorem State.countReceived_shape (s : State) (p : Nat) (bytes : Bytes) (len : Nat) : (State.countReceived s p bytes len).shape = s.shape := by
  unfold State.countReceived; simp

@[simp] theorem State.mirrorCopy_shape (f : Frame) (verdict : Nat) (judged : Bool) (dest : Nat) (s : State) (n : Nat) : (State.mirrorCopy f verdict judged dest s n).shape = s.shape := by
  unfold State.mirrorCopy; simp

@[simp] theorem State.sampleCopy_shape (s : State) (f : Frame) : (State.sampleCopy s f).shape = s.shape := by
  unfold State.sampleCopy; simp

@[simp] theorem State.verdictMeters_shape (s : State) (f : Frame) (m : Nat) (col : Nat) (words : List Nat) : (State.verdictMeters s f m col words).1.shape = s.shape := by
  unfold State.verdictMeters; simp

@[simp] theorem State.dropFrame_shape (s : State) (f : Frame) (n : Narrowed) : (State.dropFrame s f n).shape = s.shape := by
  unfold State.dropFrame; simp

@[simp] theorem State.makeCopies_shape (s : State) (f : Frame) (plan : List Planned) (n : Narrowed) (named : List Nat) (hostExtra : Bool) : (State.makeCopies s f plan n named hostExtra).shape = s.shape := by
  unfold State.makeCopies; (try dsimp only); (repeat' split) <;> simp

@[simp] theorem State.countSdu_shape (s : State) (f : Frame) : (State.countSdu s f).shape = s.shape := by
  unfold State.countSdu; (try dsimp only); (repeat' split) <;> simp

@[simp] theorem State.frerDecide_shape (s : State) (f : Frame) (rtag : Option Nat) : (State.frerDecide s f rtag).1.shape = s.shape := by
  unfold State.frerDecide; (try dsimp only); (repeat' split) <;> simp

@[simp] theorem State.streamStage_shape (s : State) (f : Frame) (p : Parsed) (n : Narrowed) (shared : Bool) : (State.streamStage s f p n shared).shape = s.shape := by
  unfold State.streamStage; simp

@[simp] theorem State.stageFrame_shape (s : State) (f : Frame) (shared : Bool) : (State.stageFrame s f shared).shape = s.shape := by
  unfold State.stageFrame; simp

@[simp] theorem State.routeFrame_shape (s : State) (f : Frame) (cport : Nat) : (State.routeFrame s f cport).shape = s.shape := by
  unfold State.routeFrame; (try dsimp only); (repeat' split) <;> simp only [removeFrame_shape, countClass_shape, decideDest_shape, stageFrame_shape, modFrame_shape, shape_time_ord]

@[simp] theorem State.journalFrame_shape (s : State) (f : Frame) : (State.journalFrame s f).shape = s.shape := by
  unfold State.journalFrame; simp

@[simp] theorem State.relayFrame_shape (s : State) (f : Frame) : (State.relayFrame s f).shape = s.shape := by
  unfold State.relayFrame; simp

@[simp] theorem State.followFrame_shape (s : State) (f : Frame) : (State.followFrame s f).shape = s.shape := by
  unfold State.followFrame; simp only [shape_ite, keepOwn_shape, modFrame_shape, relayFrame_shape, shape_saddle, ite_self]

@[simp] theorem State.takeFrame_shape (s : State) (p : Nat) (cport : Nat) (src : Nat) (rx : FrameRx) (stamp : Nat) (sec : Nat) (done : Bool) : (State.takeFrame s p cport src rx stamp sec done).shape = s.shape := by
  unfold State.takeFrame; simp only [Bool.and_eq_true, decide_eq_true_eq, Bool.not_eq_eq_eq_not, Bool.not_true, shape_ite, withhold_shape, routeFrame_shape, countReceived_shape, shape_basin, issueKey_shape, ite_self, followFrame_shape, journalFrame_shape]

@[simp] theorem State.noteReceiving_shape (s : State) (p : Nat) (frag : Bool) : (State.noteReceiving s p frag).shape = s.shape := by
  unfold State.noteReceiving; simp

@[simp] theorem State.headerWindow_shape (s : State) (p : Nat) (rx : FrameRx) : (State.headerWindow s p rx).shape = s.shape := by
  unfold State.headerWindow; (try dsimp only); (repeat' split) <;> simp

@[simp] theorem State.presentFrame_shape (s : State) (p : Nat) (rx : FrameRx) : (State.presentFrame s p rx).shape = s.shape := by
  unfold State.presentFrame; simp

@[simp] theorem State.failEnd_shape (s : State) (id : Nat) : (State.failEnd s id).shape = s.shape := by
  unfold State.failEnd; simp

@[simp] theorem State.settle_shape (s : State) (id : Nat) (n : Nat) : (State.settle s id n).shape = s.shape := by
  unfold State.settle; simp

@[simp] theorem State.dropTooLong_shape (s : State) (f : Frame) : (State.dropTooLong s f).shape = s.shape := by
  unfold State.dropTooLong; simp

@[simp] theorem State.goodEnd_shape (s : State) (p : Nat) (f : Frame) (fin : FrameEnd) : (State.goodEnd s p f fin).shape = s.shape := by
  unfold State.goodEnd; (try dsimp only); (repeat' split) <;> simp

@[simp] theorem State.secAtEnd_shape (s : State) (p : Nat) (f : Frame) (icvOk : Bool) : (State.secAtEnd s p f icvOk).1.shape = s.shape := by
  unfold State.secAtEnd; simp

@[simp] theorem State.failGiven_shape (s : State) (cur : Option Nat) : (State.failGiven s cur).shape = s.shape := by
  unfold State.failGiven; (try dsimp only); (repeat' split) <;> simp

@[simp] theorem State.wholeEnd_shape (s : State) (p : Nat) (fin : FrameEnd) (cur : Option Nat) : (State.wholeEnd s p fin cur).shape = s.shape := by
  unfold State.wholeEnd; (try dsimp only); (repeat' split) <;> simp

@[simp] theorem State.joinedEnd_shape (s : State) (p : Nat) (fin : FrameEnd) (cur : Option Nat) : (State.joinedEnd s p fin cur).shape = s.shape := by
  unfold State.joinedEnd; (try dsimp only); (repeat' split) <;> simp

@[simp] theorem State.frameEnd_shape (s : State) (p : Nat) (fin : FrameEnd) : (State.frameEnd s p fin).shape = s.shape := by
  unfold State.frameEnd; simp

end Sys2Proof.Machine
end

