-- ==== Sys2Proof/Laws/ShapeEgress.lean ====
section
/-! SUPPORT. The queue and the numbers of units under the operations of Egress. -/

namespace Sys2Proof.Machine

open Sys2Proof

@[simp] theorem State.dropReceiving_shape (s : State) (b : Nat) : (State.dropReceiving s b).shape = s.shape := by
  unfold State.dropReceiving; simp

@[simp] theorem State.checkLane_shape (s : State) (b : Nat) : (State.checkLane s b).shape = s.shape := by
  unfold State.checkLane; simp

@[simp] theorem State.loseRecords_shape (s : State) (b : Nat) : (State.loseRecords s b).shape = s.shape := by
  unfold State.loseRecords; simp

@[simp] theorem State.retireBank_shape (s : State) (b : Nat) : (State.retireBank s b).shape = s.shape := by
  unfold State.retireBank; (try dsimp only); (repeat' split) <;> simp

@[simp] theorem State.confirmError_shape (s : State) (b : Nat) : (State.confirmError s b).shape = s.shape := by
  unfold State.confirmError; simp

@[simp] theorem State.settleRetiring_shape (s : State) : (State.settleRetiring s).shape = s.shape := by
  unfold State.settleRetiring; simp

@[simp] theorem State.ageOut_shape (s : State) (c : Copy) : (State.ageOut s c).shape = s.shape := by
  unfold State.ageOut; simp

theorem State.headDrop_shape (s : State) (c : Copy) (t : State) (h : s.headDrop c = some t) : t.shape = s.shape := by
  unfold State.headDrop at h
  split at h
  · cases h; simp
  · dsimp only at h
    (repeat' split at h) <;> first | (cases h; simp; done) | cases h

@[simp] theorem dropHeads_shape (a1 : List Copy) (a2 : State) : (dropHeads a1 a2).shape = a2.shape := by
  induction a1 generalizing a2 with
  | nil => rfl
  | cons c cs ih =>
    unfold dropHeads
    split
    · next h => rw [ih, State.headDrop_shape _ _ _ h]
    · rfl

@[simp] theorem State.cleanPort_shape (s : State) (p : Nat) : (State.cleanPort s p).shape = s.shape := by
  unfold State.cleanPort; simp

@[simp] theorem State.winner_shape (p : Nat) (a1 : List Nat) (a2 : State) : (State.winner p a1 a2).1.shape = a2.shape := by
  fun_induction State.winner p a1 a2 <;> simp_all

@[simp] theorem State.preemptNow_shape (s : State) (p : Nat) : (State.preemptNow s p).1.shape = s.shape := by
  unfold State.preemptNow; (try dsimp only); (repeat' split) <;> simp

@[simp] theorem State.yieldTx_shape (s : State) (p : Nat) : (State.yieldTx s p).shape = s.shape := by
  unfold State.yieldTx; (try dsimp only); (repeat' split) <;> simp

@[simp] theorem State.resumeTx_shape (s : State) (p : Nat) : (State.resumeTx s p).shape = s.shape := by
  unfold State.resumeTx; (try dsimp only); (repeat' split) <;> simp

@[simp] theorem State.protect_shape (s : State) (p : Nat) (f : Frame) : (State.protect s p f).1.shape = s.shape := by
  unfold State.protect; simp

@[simp] theorem State.stampStart_shape (s : State) (c : Copy) : (State.stampStart s c).shape = s.shape := by
  unfold State.stampStart; (try dsimp only); (repeat' split) <;> simp

@[simp] theorem State.beginTx_shape (s : State) (p : Nat) (c : Copy) (f : Frame) : (State.beginTx s p c f).shape = s.shape := by
  unfold State.beginTx; simp

@[simp] theorem State.protectStart_shape (s : State) (p : Nat) (c : Copy) (f : Frame) : (State.protectStart s p c f).shape = s.shape := by
  unfold State.protectStart; simp

@[simp] theorem State.startCopy_shape (s : State) (p : Nat) (c : Copy) (read : Option (Nat × Bool)) : (State.startCopy s p c read).shape = s.shape := by
  unfold State.startCopy; (try dsimp only); (repeat' split) <;> simp

@[simp] theorem State.useBurst_shape (s : State) (p : Nat) : (State.useBurst s p).shape = s.shape := by
  unfold State.useBurst; simp

theorem State.sendMac_shape (s : State) (p : Nat) (t : State) (h : s.sendMac p = some t) : t.shape = s.shape := by
  unfold State.sendMac at h
  split at h
  · cases h
  · split at h
    · cases h
    · dsimp only at h
      (repeat' split at h) <;> (cases h; simp)

@[simp] theorem egressSchedule_shape (p : Nat) (accepts : Bool) (read : Option (Nat × Bool)) (s : State) : (egressSchedule p accepts read s).shape = s.shape := by
  unfold egressSchedule
  dsimp only
  split
  · simp
  · split
    · next h => simp [State.sendMac_shape _ _ _ h]
    · split <;> simp

@[simp] theorem State.countSent_shape (s : State) (p : Nat) (bytes : Bytes) (len : Nat) : (State.countSent s p bytes len).shape = s.shape := by
  unfold State.countSent; simp

@[simp] theorem State.countStomp_shape (s : State) (p : Nat) (c : Copy) (f : Frame) : (State.countStomp s p c f).shape = s.shape := by
  unfold State.countStomp; simp

@[simp] theorem State.finishTx_shape (s : State) (p : Nat) : (State.finishTx s p).1.shape = s.shape := by
  unfold State.finishTx; (try dsimp only); (repeat' split) <;> simp

@[simp] theorem ageHeads_shape (a1 : List Copy) (a2 : State) : (ageHeads a1 a2).shape = a2.shape := by
  fun_induction ageHeads a1 a2 <;> simp_all

@[simp] theorem residenceSweep_shape (s : State) : (residenceSweep s).shape = s.shape := by
  unfold residenceSweep; simp

@[simp] theorem gateEntryChange_shape (p : Nat) (s : State) : (gateEntryChange p s).shape = s.shape := by
  unfold gateEntryChange; simp

@[simp] theorem gateListSwitch_shape (stream : Bool) (n : Nat) (s : State) : (gateListSwitch stream n s).shape = s.shape := by
  unfold gateListSwitch; (try dsimp only); (repeat' split) <;> simp

@[simp] theorem holdRequest_shape (p : Nat) (s : State) : (holdRequest p s).shape = s.shape := by
  unfold holdRequest; (try dsimp only); (repeat' split) <;> simp

@[simp] theorem gateMemoryRewrite_shape (p : Nat) (entry : Nat) (done : Bool) (s : State) : (gateMemoryRewrite p entry done s).shape = s.shape := by
  unfold gateMemoryRewrite; simp

end Sys2Proof.Machine
end

