-- ==== Sys2Proof/Laws/ShapeKeyFamily.lean ====
section
/-! SUPPORT. The queue and the numbers of units under the operations of KeyFamily. -/

namespace Sys2Proof.Machine

open Sys2Proof

@[simp] theorem State.setSlot_shape (s : State) (n : Nat) (x : KeySlot) : (State.setSlot s n x).shape = s.shape := by
  unfold State.setSlot; simp

@[simp] theorem State.keyRefused_shape (s : State) : (State.keyRefused s).shape = s.shape := by
  unfold State.keyRefused; simp

@[simp] theorem State.deriveSlots_shape (s : State) (lo : Nat) (hi : Nat) : (State.deriveSlots s lo hi).shape = s.shape := by
  unfold State.deriveSlots; simp

@[simp] theorem State.loadPersistent_shape (s : State) : (State.loadPersistent s).shape = s.shape := by
  unfold State.loadPersistent; simp

@[simp] theorem State.bootFrom_shape (s : State) (loc : Nat) (codes : Nat) (h : BootHeader) (images : List Bytes) : (State.bootFrom s loc codes h images).shape = s.shape := by
  unfold State.bootFrom; (try dsimp only); (repeat' split) <;> (try simp only [shape_ite, ite_self]) <;> (try simp) <;> (try simp [State.shape, State.sizes])

@[simp] theorem boot_shape (a : BootHeader) (b : BootHeader) (images : List Bytes) (s : State) : (boot a b images s).shape = s.shape := by
  unfold boot; (try dsimp only); (repeat' split) <;> (try simp only [shape_ite, ite_self]) <;> (try simp) <;> (try simp [State.shape, State.sizes])

@[simp] theorem State.reqAdvanceRollback_shape (s : State) (c : Caller) : (State.reqAdvanceRollback s c).shape = s.shape := by
  unfold State.reqAdvanceRollback; simp

@[simp] theorem State.reqRevokeRootKey_shape (s : State) (c : Caller) (v : Nat) : (State.reqRevokeRootKey s c v).shape = s.shape := by
  unfold State.reqRevokeRootKey; simp

@[simp] theorem State.reqExtendMr7_shape (s : State) (c : Caller) (digest : Bytes) : (State.reqExtendMr7 s c digest).shape = s.shape := by
  unfold State.reqExtendMr7; simp

@[simp] theorem State.unlockDebug_shape (s : State) : (State.unlockDebug s).shape = s.shape := by
  unfold State.unlockDebug; simp

@[simp] theorem State.newChallenge_shape (s : State) : (State.newChallenge s).shape = s.shape := by
  unfold State.newChallenge; simp

@[simp] theorem State.reqDebugResponse_shape (s : State) (c : Caller) (off : Nat) (data : Bytes) (verified : Bool) : (State.reqDebugResponse s c off data verified).shape = s.shape := by
  unfold State.reqDebugResponse; simp

@[simp] theorem remaskPass_shape (busy : List Nat) (s : State) : (remaskPass busy s).shape = s.shape := by
  unfold remaskPass; (try dsimp only); (repeat' split) <;> (try simp only [shape_ite, ite_self]) <;> (try simp) <;> (try simp [State.shape, State.sizes])

@[simp] theorem State.reqGenerateStatement_shape (s : State) (c : Caller) : (State.reqGenerateStatement s c).shape = s.shape := by
  unfold State.reqGenerateStatement; simp

@[simp] theorem State.reqUpdateMessage_shape (s : State) (c : Caller) (off : Nat) (data : Bytes) (signed : Bool) (unwraps : Bool) (key : Nat) : (State.reqUpdateMessage s c off data signed unwraps key).shape = s.shape := by
  unfold State.reqUpdateMessage; simp only [ite_self, shape_ite, drawFree_shape, shape_keys, setStat_shape, count32_shape, implies_true, id_eq, writeSegment_shape]

@[simp] theorem State.clearSlotSas_shape (s : State) (slot : Nat) : (State.clearSlotSas s slot).shape = s.shape := by
  unfold State.clearSlotSas; simp

@[simp] theorem updateCommit_shape (s : State) : (updateCommit s).shape = s.shape := by
  unfold updateCommit; (try dsimp only); (repeat' split) <;> simp

@[simp] theorem State.zeroise_shape (s : State) : (State.zeroise s).shape = s.shape := by
  unfold State.zeroise; (try dsimp only); (repeat' split) <;> simp [State.shape, State.sizes]

@[simp] theorem State.tamperLow_shape (s : State) : (State.tamperLow s).shape = s.shape := by
  unfold State.tamperLow; (try dsimp only); (repeat' split) <;> simp [State.shape, State.sizes]

@[simp] theorem State.sealStore_shape (s : State) : (State.sealStore s).shape = s.shape := by
  unfold State.sealStore; simp

@[simp] theorem tamperAlarm_shape (n : Nat) (lasts : Bool) (s : State) : (tamperAlarm n lasts s).shape = s.shape := by
  unfold tamperAlarm; simp only [ite_self, shape_ite, Nat.reducePow, shape_keys, State.setStat_shape, State.count32_shape, State.orStat_shape, State.tamperLow_shape, State.raiseFault_shape, State.zeroise_shape, State.sealStore_shape]

@[simp] theorem State.reqTamperAcknowledge_shape (s : State) (c : Caller) (raised : Nat) : (State.reqTamperAcknowledge s c raised).shape = s.shape := by
  unfold State.reqTamperAcknowledge; simp

@[simp] theorem State.installSa_shape (s : State) (port : Nat) (a : SecAssoc) : (State.installSa s port a).shape = s.shape := by
  unfold State.installSa; simp

@[simp] theorem sakInstall_shape (port : Nat) (slot : Nat) (sci : Nat) (an : Nat) (pn : Nat) (tx : Bool) (unwraps : Bool) (s : State) : (sakInstall port slot sci an pn tx unwraps s).shape = s.shape := by
  unfold sakInstall; simp

end Sys2Proof.Machine
end

