-- ==== Sys2Proof/Laws/ShapeLegacy.lean ====
section
/-! SUPPORT. The queue and the numbers of units under the operations of Legacy. -/

namespace Sys2Proof.Machine

open Sys2Proof

@[simp] theorem State.canVerdict_shape (s : State) (key : OKey) (b : Nat) (dir : Nat) (reason : Nat) (v : Nat) (f : BusFrame) : (State.canVerdict s key b dir reason v f).1.shape = s.shape := by
  unfold State.canVerdict; simp

@[simp] theorem State.canFilter_shape (s : State) (key : OKey) (b : Nat) (dir : Nat) (f : BusFrame) : (State.canFilter s key b dir f).1.shape = s.shape := by
  unfold State.canFilter; (try dsimp only); (repeat' split) <;> simp

@[simp] theorem State.modCan_shape (s : State) (n : Nat) (f : CanCtl → CanCtl) : (State.modCan s n f).shape = s.shape := by
  unfold State.modCan; simp

@[simp] theorem State.canQueue_shape (s : State) (n : Nat) (key : OKey) (f : BusFrame) : (State.canQueue s n key f).1.shape = s.shape := by
  unfold State.canQueue; simp

@[simp] theorem State.journalRemoval_shape (s : State) (n : Nat) (cause : Nat) (x : CanEntry) : (State.journalRemoval s n cause x).shape = s.shape := by
  unfold State.journalRemoval; simp

@[simp] theorem State.canRemove_shape (s : State) (n : Nat) (cause : Nat) (p : CanEntry → Bool) : (State.canRemove s n cause p).shape = s.shape := by
  unfold State.canRemove; simp

@[simp] theorem State.offerFord_shape (s : State) (key : OKey) (f : BusFrame) : (State.offerFord s key f).shape = s.shape := by
  unfold State.offerFord; simp

@[simp] theorem State.busArrives_shape (s : State) (key : OKey) (f : BusFrame) : (State.busArrives s key f).shape = s.shape := by
  unfold State.busArrives; simp

@[simp] theorem State.busKeyed_shape (s : State) (src : Nat) (f : BusFrame) : (State.busKeyed s src f).shape = s.shape := by
  unfold State.busKeyed; simp

end Sys2Proof.Machine
end

