-- ==== Sys2Proof/Laws/ShapeFord.lean ====
section
/-! SUPPORT. The queue and the numbers of units under the operations of Ford. -/

namespace Sys2Proof.Machine

open Sys2Proof

@[simp] theorem State.fordCount_shape (s : State) (sub : Nat) (n : Nat) : (State.fordCount s sub n).shape = s.shape := by
  unfold State.fordCount; simp

@[simp] theorem State.setFresh_shape (s : State) (i : Nat) (v : Nat) : (State.setFresh s i v).shape = s.shape := by
  unfold State.setFresh; simp

@[simp] theorem State.applyRaises_shape (s : State) (e : Nat) : (State.applyRaises s e).shape = s.shape := by
  unfold State.applyRaises; simp

@[simp] theorem State.authenticate_shape (s : State) (d : Nat) (p : Bytes) : (State.authenticate s d p).1.shape = s.shape := by
  unfold State.authenticate; simp

@[simp] theorem State.settlePdu_shape (s : State) (e : Nat) (n : Nat) : (State.settlePdu s e n).shape = s.shape := by
  unfold State.settlePdu; simp

@[simp] theorem State.modPdu_shape (s : State) (n : Nat) (f : PduState → PduState) : (State.modPdu s n f).shape = s.shape := by
  unfold State.modPdu; simp

@[simp] theorem State.setImage_shape (s : State) (n : Nat) (b : Bytes) : (State.setImage s n b).shape = s.shape := by
  unfold State.setImage; simp

end Sys2Proof.Machine
end

