-- ==== Sys2Proof/Laws/ShapePairing.lean ====
section
/-! SUPPORT. The queue and the numbers of units under the operations of Pairing. -/

namespace Sys2Proof.Machine

open Sys2Proof

@[simp] theorem State.setRole_shape (s : State) (r : Role) : (State.setRole s r).shape = s.shape := by
  unfold State.setRole; simp

@[simp] theorem State.seePins_shape (s : State) (p : Pins) : (State.seePins s p).shape = s.shape := by
  unfold State.seePins; simp

@[simp] theorem State.becomeSolo_shape (s : State) : (State.becomeSolo s).shape = s.shape := by
  unfold State.becomeSolo; simp

@[simp] theorem claim_shape (pins : Pins) (s : State) : (claim pins s).shape = s.shape := by
  unfold claim; simp

@[simp] theorem State.failNotice_shape (s : State) : (State.failNotice s).shape = s.shape := by
  unfold State.failNotice; simp

@[simp] theorem failNoticeNow_shape (s : State) : (failNoticeNow s).shape = s.shape := by
  unfold failNoticeNow; simp

@[simp] theorem livenessLapse_shape (lapsed : Bool) (s : State) : (livenessLapse lapsed s).shape = s.shape := by
  unfold livenessLapse; simp

@[simp] theorem State.startPairing_shape (s : State) : (State.startPairing s).shape = s.shape := by
  unfold State.startPairing; (try dsimp only); (repeat' split) <;> (try simp only [shape_ite, ite_self]) <;> (try simp) <;> (try simp [State.shape, State.sizes])

@[simp] theorem State.leavePairing_shape (s : State) (preferred : Bool) : (State.leavePairing s preferred).shape = s.shape := by
  unfold State.leavePairing; simp

@[simp] theorem State.refusePairing_shape (s : State) (code : Nat) (tell : Bool) : (State.refusePairing s code tell).shape = s.shape := by
  unfold State.refusePairing; simp

@[simp] theorem hello_shape (m : Bytes) (s : State) : (hello m s).shape = s.shape := by
  unfold hello; (try dsimp only); (repeat' split) <;> simp

@[simp] theorem State.flushAll_shape (s : State) : (State.flushAll s).shape = s.shape := by
  unfold State.flushAll; simp

@[simp] theorem State.dropWaiting_shape (s : State) : (State.dropWaiting s).shape = s.shape := by
  unfold State.dropWaiting; (try dsimp only); (repeat' split) <;> simp [State.shape, State.sizes]

@[simp] theorem State.enterSyncing_shape (s : State) : (State.enterSyncing s).shape = s.shape := by
  unfold State.enterSyncing; simp

@[simp] theorem State.abandonSwap_shape (s : State) : (State.abandonSwap s).shape = s.shape := by
  unfold State.abandonSwap; (try dsimp only); (repeat' split) <;> simp

@[simp] theorem State.startResync_shape (s : State) (tell : Bool) : (State.startResync s tell).shape = s.shape := by
  unfold State.startResync; simp

@[simp] theorem State.paired_shape (s : State) : (State.paired s).shape = s.shape := by
  unfold State.paired; (try dsimp only); (repeat' split) <;> (try simp only [shape_ite, ite_self]) <;> (try simp) <;> (try simp [State.shape, State.sizes])

@[simp] theorem State.becomeActive_shape (s : State) : (State.becomeActive s).shape = s.shape := by
  unfold State.becomeActive; simp

@[simp] theorem proof_shape (m : Bytes) (s : State) : (proof m s).shape = s.shape := by
  unfold proof; (try dsimp only); (repeat' split) <;> simp

@[simp] theorem result_shape (m : Bytes) (s : State) : (result m s).shape = s.shape := by
  unfold result; (try dsimp only); (repeat' split) <;> simp

@[simp] theorem pairingTimeout_shape (s : State) : (pairingTimeout s).shape = s.shape := by
  unfold pairingTimeout; (try dsimp only); (repeat' split) <;> simp

@[simp] theorem pairingRetry_shape (s : State) : (pairingRetry s).shape = s.shape := by
  unfold pairingRetry; (try dsimp only); (repeat' split) <;> simp

end Sys2Proof.Machine
end

