-- ==== Sys2Proof/Laws/ShapeElnarFamily.lean ====
section
/-! SUPPORT. The queue and the numbers of units under the operations of ElnarFamily. -/

namespace Sys2Proof.Machine

open Sys2Proof

@[simp] theorem State.addCandidate_shape (s : State) (r : Nat) (pos : Nat) (exact_ : Bool) : (State.addCandidate s r pos exact_).shape = s.shape := by
  unfold State.addCandidate; simp

@[simp] theorem State.enterSync_shape (s : State) (r : Nat) (pos : Nat) : (State.enterSync s r pos).shape = s.shape := by
  unfold State.enterSync; simp

@[simp] theorem laneFrameReceived_shape (r : Nat) (pos : Nat) (line : Bytes) (s : State) : (laneFrameReceived r pos line s).shape = s.shape := by
  unfold laneFrameReceived; (try dsimp only); (repeat' split) <;> simp

@[simp] theorem losDeclared_shape (r : Nat) (s : State) : (losDeclared r s).shape = s.shape := by
  unfold losDeclared; simp

@[simp] theorem laneEntersUse_shape (r : Nat) (s : State) : (laneEntersUse r s).shape = s.shape := by
  unfold laneEntersUse; simp

@[simp] theorem State.modTxLane_shape (s : State) (r : Nat) (f : TxLane → TxLane) : (State.modTxLane s r f).shape = s.shape := by
  unfold State.modTxLane; simp

@[simp] theorem State.sendStamps_shape (s : State) (r : Nat) : (State.sendStamps s r).shape = s.shape := by
  unfold State.sendStamps; simp

@[simp] theorem laneFrameSent_shape (r : Nat) (fill : Nat) (s : State) : (laneFrameSent r fill s).shape = s.shape := by
  unfold laneFrameSent; simp

@[simp] theorem cellGapTimeout_shape (c : Nat) (s : State) : (cellGapTimeout c s).shape = s.shape := by
  unfold cellGapTimeout; (try dsimp only); (repeat' split) <;> simp

@[simp] theorem journalGap_shape (s : State) : (journalGap s).shape = s.shape := by
  unfold journalGap; simp

@[simp] theorem creditCellDue_shape (s : State) : (creditCellDue s).shape = s.shape := by
  unfold creditCellDue; simp

@[simp] theorem pairTimeStamps_shape (tx : Nat) (rx : Nat) (ptx : Nat) (prx : Nat) (n : Nat) (rate : Int) (s : State) : (pairTimeStamps tx rx ptx prx n rate s).shape = s.shape := by
  unfold pairTimeStamps; simp only [Bool.and_eq_true, shape_ite, shape_time_ord, State.issueKey_shape, shape_elnar, State.consume_shape, ite_self]

@[simp] theorem State.issueReq_shape (s : State) (q : BridgeReq) : (State.issueReq s q).shape = s.shape := by
  unfold State.issueReq; simp

@[simp] theorem State.complete_shape (s : State) (q : BridgeReq) (status : Nat) (data : Bytes) : (State.complete s q status data).shape = s.shape := by
  unfold State.complete; simp

@[simp] theorem State.answer_shape (s : State) (side : BridgeSide) (q : BridgeReq) (status : Nat) (data : Bytes) : (State.answer s side q status data).shape = s.shape := by
  unfold State.answer; simp

@[simp] theorem State.serveReq_shape (s : State) (q : BridgeReq) : (State.serveReq s q).shape = s.shape := by
  unfold State.serveReq; simp

@[simp] theorem payloadFetch_shape (side : BridgeSide) (q : BridgeReq) (s : State) : (payloadFetch side q s).shape = s.shape := by
  unfold payloadFetch; (try dsimp only); (repeat' split) <;> simp

@[simp] theorem windowRead_shape (side : BridgeSide) (q : BridgeReq) (s : State) : (windowRead side q s).shape = s.shape := by
  unfold windowRead; simp

@[simp] theorem State.storeWindow_shape (s : State) (q : BridgeReq) : (State.storeWindow s q).shape = s.shape := by
  unfold State.storeWindow; simp

@[simp] theorem windowWrite_shape (side : BridgeSide) (q : BridgeReq) (s : State) : (windowWrite side q s).shape = s.shape := by
  unfold windowWrite; simp

@[simp] theorem windowWritePosted_shape (side : BridgeSide) (q : BridgeReq) (s : State) : (windowWritePosted side q s).shape = s.shape := by
  unfold windowWritePosted; simp

@[simp] theorem lockAcquire_shape (side : BridgeSide) (q : BridgeReq) (s : State) : (lockAcquire side q s).shape = s.shape := by
  unfold lockAcquire; simp

@[simp] theorem lockRelease_shape (side : BridgeSide) (q : BridgeReq) (s : State) : (lockRelease side q s).shape = s.shape := by
  unfold lockRelease; (try dsimp only); (repeat' split) <;> simp

@[simp] theorem State.answerAcquire_shape (s : State) (a : Acquire) (granted : Bool) : (State.answerAcquire s a granted).shape = s.shape := by
  unfold State.answerAcquire; simp

@[simp] theorem State.decideSem_shape (s : State) (n : Nat) (l : List Acquire) : (State.decideSem s n l).shape = s.shape := by
  unfold State.decideSem; (try dsimp only); (repeat' split) <;> simp

@[simp] theorem semaphoreArbitrate_shape (s : State) : (semaphoreArbitrate s).shape = s.shape := by
  unfold semaphoreArbitrate; simp

@[simp] theorem semaphoreExpiry_shape (n : Nat) (s : State) : (semaphoreExpiry n s).shape = s.shape := by
  unfold semaphoreExpiry; (try dsimp only); (repeat' split) <;> simp

@[simp] theorem State.reqReleaseSemaphore_shape (s : State) (c : Caller) (sem : Nat) : (State.reqReleaseSemaphore s c sem).shape = s.shape := by
  unfold State.reqReleaseSemaphore; simp

@[simp] theorem State.fetchDone_shape (s : State) (key : OKey) (p : Option Bytes) : (State.fetchDone s key p).shape = s.shape := by
  unfold State.fetchDone; (try dsimp only); (repeat' split) <;> simp

@[simp] theorem State.dropOutstanding_shape (s : State) (tag : Nat) : (State.dropOutstanding s tag).shape = s.shape := by
  unfold State.dropOutstanding; simp

@[simp] theorem bridgeCompletion_shape (d : BridgeDone) (s : State) : (bridgeCompletion d s).shape = s.shape := by
  unfold bridgeCompletion; (try dsimp only); (repeat' split) <;> simp

@[simp] theorem bridgeTimeout_shape (tag : Nat) (s : State) : (bridgeTimeout tag s).shape = s.shape := by
  unfold bridgeTimeout; (try dsimp only); (repeat' split) <;> simp

@[simp] theorem orphanNotice_shape (tag : Nat) (status : Nat) (offset : Nat) (issue : Nat) (s : State) : (orphanNotice tag status offset issue s).shape = s.shape := by
  unfold orphanNotice; simp

@[simp] theorem retainedCopyDiscard_shape (s : State) : (retainedCopyDiscard s).shape = s.shape := by
  unfold retainedCopyDiscard; (try dsimp only); (repeat' split) <;> simp [State.shape, State.sizes]

end Sys2Proof.Machine
end

