-- ==== Sys2Proof/Laws/ShapeFordFamily.lean ====
section
/-! SUPPORT. The queue and the numbers of units under the operations of FordFamily. -/

namespace Sys2Proof.Machine

open Sys2Proof

@[simp] theorem State.acfFlush_shape (s : State) (e : Nat) (t : Nat) (d : Nat) : (State.acfFlush s e t d).1.shape = s.shape := by
  unfold State.acfFlush; simp

@[simp] theorem FordAcc.flush_shape (a : FordAcc) (e : Nat) (t : Nat) (d : Nat) : (FordAcc.flush a e t d).s.shape = a.s.shape := by
  unfold FordAcc.flush; simp

@[simp] theorem FordAcc.hit_shape (a : FordAcc) (row : Nat) : (FordAcc.hit a row).s.shape = a.s.shape := by
  unfold FordAcc.hit; simp

@[simp] theorem FordAcc.acf_shape (row : Nat) (a : FordAcc) (e : Nat) (r : Nat) (t : Nat) (d : Nat) (p : Bytes) (f : BusFrame) : (FordAcc.acf row a e r t d p f).s.shape = a.s.shape := by
  unfold FordAcc.acf; (try dsimp only); (repeat' split) <;> simp

@[simp] theorem FordAcc.write_shape (a : FordAcc) (e : Nat) (t : Nat) (new : Bytes) : (FordAcc.write a e t new).s.shape = a.s.shape := by
  unfold FordAcc.write; simp

@[simp] theorem FordAcc.whole_shape (row : Nat) (a : FordAcc) (e : Nat) (r : Nat) (t : Nat) (d : Nat) (p : Bytes) (src : Option BusFrame) : (FordAcc.whole row a e r t d p src).s.shape = a.s.shape := by
  unfold FordAcc.whole; (try dsimp only); (repeat' split) <;> simp

@[simp] theorem FordAcc.signal_shape (row : Nat) (a : FordAcc) (e : Nat) (r : Nat) (t : Nat) (attr : Option Nat) (p : Bytes) : (FordAcc.signal row a e r t attr p).s.shape = a.s.shape := by
  unfold FordAcc.signal; (try dsimp only); (repeat' split) <;> simp

@[simp] theorem FordAcc.route_shape (e : Nat) (n : Nat) (inp : RouteInput) (a : FordAcc) (row : Nat) : (FordAcc.route e n inp a row).s.shape = a.s.shape := by
  unfold FordAcc.route; (try dsimp only); (repeat' split) <;> simp

theorem shape_foldl_acc {α : Type} (f : FordAcc → α → FordAcc) (h : ∀ a x, (f a x).s.shape = a.s.shape) (l : List α)
    (a : FordAcc) : (l.foldl f a).s.shape = a.s.shape := by
  induction l generalizing a with
  | nil => rfl
  | cons x xs ih => simp [List.foldl, ih, h]

@[simp] theorem FordAcc.routes_shape (a : FordAcc) (e : Nat) (n : Nat) (d : Nat) (inp : RouteInput) : (FordAcc.routes a e n d inp).s.shape = a.s.shape := by
  unfold FordAcc.routes
  exact shape_foldl_acc _ (fun a x => by simp) _ _

@[simp] theorem State.aliveCheck_shape (s : State) (n : Nat) (d : Nat) (p : Bytes) : (State.aliveCheck s n d p).1.shape = s.shape := by
  unfold State.aliveCheck; simp

@[simp] theorem FordAcc.receive_shape (a : FordAcc) (e : Nat) (n : Nat) (d : Nat) (data : Bytes) (src : Option BusFrame) : (FordAcc.receive a e n d data src).s.shape = a.s.shape := by
  unfold FordAcc.receive; (try dsimp only); (repeat' split) <;> simp

@[simp] theorem FordAcc.bus_shape (a : FordAcc) (e : Nat) (f : BusFrame) : (FordAcc.bus a e f).s.shape = a.s.shape := by
  unfold FordAcc.bus; (try dsimp only); (repeat' split) <;> simp

@[simp] theorem FordAcc.acfIn_shape (e : Nat) (stamp : Nat) (a : FordAcc) (m : Bytes) : (FordAcc.acfIn e stamp a m).s.shape = a.s.shape := by
  unfold FordAcc.acfIn; (try dsimp only); (repeat' split) <;> simp

@[simp] theorem FordAcc.container_shape (e : Nat) (port : Nat) (a : FordAcc) (c : Nat × Bytes) : (FordAcc.container e port a c).s.shape = a.s.shape := by
  unfold FordAcc.container; (try dsimp only); (repeat' split) <;> simp

@[simp] theorem FordAcc.ethernet_shape (a : FordAcc) (e : Nat) (stamp : Nat) (b : Bytes) : (FordAcc.ethernet a e stamp b).s.shape = a.s.shape := by
  unfold FordAcc.ethernet
  dsimp only
  split
  · have h := shape_foldl_acc (FordAcc.acfIn e stamp) (fun a x => by simp)
    split <;> simp [h]
  · split
    · simp
    · split
      · simp
      · have h := fun o => shape_foldl_acc (FordAcc.container e o) (fun a x => by simp)
        split <;> simp [h]

@[simp] theorem State.committed_shape (s : State) (e : Nat) (t : Nat) (d : Nat) (alive : Nat) (fresh : Nat) (img : Bytes) : (State.committed s e t d alive fresh img).shape = s.shape := by
  unfold State.committed; simp

@[simp] theorem State.sendCan_shape (s : State) (key : OKey) (log : OKey) (t : Nat) (d : Nat) (len : Nat) (img : Bytes) : (State.sendCan s key log t d len img).1.shape = s.shape := by
  unfold State.sendCan; simp

@[simp] theorem State.transmit_shape (s : State) (key : OKey) (log : OKey) (t : Nat) (d : Nat) : (State.transmit s key log t d).shape = s.shape := by
  unfold State.transmit; simp

@[simp] theorem State.trigger__shape (s : State) (e : Nat) (t : Nat) (d : Nat) : (State.trigger_ s e t d).1.shape = s.shape := by
  unfold State.trigger_; (try dsimp only); (repeat' split) <;> simp

@[simp] theorem State.wants_shape (s : State) (e : Nat) (t : Nat) (d : Nat) : (State.wants s e t d).1.shape = s.shape := by
  unfold State.wants; simp

@[simp] theorem State.noteRouted_shape (s : State) : (State.noteRouted s).shape = s.shape := by
  unfold State.noteRouted; simp

@[simp] theorem FordAcc.commitTarget_shape (a : FordAcc) (key : OKey) (deadline : Bool) (extra : List Nat) (s : State) (t : Nat) : (FordAcc.commitTarget a key deadline extra s t).shape = s.shape := by
  unfold FordAcc.commitTarget; (try dsimp only); (repeat' split) <;> simp

@[simp] theorem FordAcc.commit_shape (a : FordAcc) (key : OKey) (deadline : Bool) (extra : List Nat) : (FordAcc.commit a key deadline extra).shape = a.s.shape := by
  unfold FordAcc.commit; simp

@[simp] theorem State.passPeriodic_shape (s : State) (t : Nat) (e : Nat) : (State.passPeriodic s t e).shape = s.shape := by
  unfold State.passPeriodic; simp

@[simp] theorem State.fire_shape (s : State) (e : Nat) (t : Nat) (kind : DeadlineKind) : (State.fire s e t kind).shape = s.shape := by
  unfold State.fire; (try dsimp only); (repeat' split) <;> simp

@[simp] theorem State.workItem_shape (s : State) (x : FordItem) : (State.workItem s x).shape = s.shape := by
  unfold State.workItem; (try dsimp only); (repeat' split) <;> simp

@[simp] theorem State.peakQueue_shape (s : State) : (State.peakQueue s).shape = s.shape := by
  unfold State.peakQueue; simp

@[simp] theorem State.fordEnter_shape (s : State) (key : OKey) (w : FordWork) : (State.fordEnter s key w).shape = s.shape := by
  unfold State.fordEnter; simp

@[simp] theorem State.releaseDeadlines_shape (s : State) (e : Nat) : (State.releaseDeadlines s e).shape = s.shape := by
  unfold State.releaseDeadlines; simp

@[simp] theorem State.loseDeadline_shape (s : State) (e : Nat) (t : Nat) (kind : DeadlineKind) : (State.loseDeadline s e t kind).shape = s.shape := by
  unfold State.loseDeadline; simp

@[simp] theorem State.loseItem_shape (s : State) (n : Nat) (x : FordItem) : (State.loseItem s n x).shape = s.shape := by
  unfold State.loseItem; (try dsimp only); (repeat' split) <;> simp

@[simp] theorem dispatchHead_shape (a1 : Nat) (a2 : State) : (dispatchHead a1 a2).shape = a2.shape := by
  fun_induction dispatchHead a1 a2 <;> (try dsimp only at *) <;> (repeat' split) <;> simp_all +zetaDelta

@[simp] theorem commitRuns_shape (a1 : List FordRun) (a2 : State) : (commitRuns a1 a2).shape = a2.shape := by
  fun_induction commitRuns a1 a2 <;> simp_all

@[simp] theorem State.commitFord_shape (s : State) : (State.commitFord s).shape = s.shape := by
  unfold State.commitFord; simp

@[simp] theorem fordDispatch_shape (s : State) : (fordDispatch s).shape = s.shape := by
  unfold fordDispatch; simp

@[simp] theorem fordItemComplete_shape (p : Nat) (s : State) : (fordItemComplete p s).shape = s.shape := by
  unfold fordItemComplete; simp

@[simp] theorem fordDeadline_shape (due : Nat) (s : State) : (fordDeadline due s).shape = s.shape := by
  unfold fordDeadline; simp

@[simp] theorem State.checkProcessors_shape (s : State) (before : Nat) : (State.checkProcessors s before).shape = s.shape := by
  unfold State.checkProcessors; simp

@[simp] theorem State.failProcessor_shape (s : State) (n : Nat) : (State.failProcessor s n).shape = s.shape := by
  unfold State.failProcessor; (try dsimp only); (repeat' split) <;> simp

@[simp] theorem State.retest_shape (s : State) (mask : Nat) (passed : Nat) : (State.retest s mask passed).shape = s.shape := by
  unfold State.retest; simp

@[simp] theorem State.reqProcessorRetest_shape (s : State) (c : Caller) (mask : Nat) (passed : Nat) : (State.reqProcessorRetest s c mask passed).shape = s.shape := by
  unfold State.reqProcessorRetest; simp

end Sys2Proof.Machine
end

