-- ==== Sys2Proof/Laws/ShapeLegacyFamily.lean ====
section
/-! SUPPORT. The queue and the numbers of units under the operations of LegacyFamily. -/

namespace Sys2Proof.Machine

open Sys2Proof

@[simp] theorem State.canState_shape (s : State) (n : Nat) (tec : Nat) (rec_ : Nat) : (State.canState s n tec rec_).shape = s.shape := by
  unfold State.canState; simp

@[simp] theorem State.canValid_shape (s : State) (n : Nat) (f : BusFrame) : (State.canValid s n f).shape = s.shape := by
  unfold State.canValid; simp

@[simp] theorem canFrameReceived_shape (n : Nat) (f : BusFrame) (fault : Nat) (partner : Bool) (tec : Nat) (rec_ : Nat) (s : State) : (canFrameReceived n f fault partner tec rec_ s).shape = s.shape := by
  unfold canFrameReceived; simp

@[simp] theorem canTransmitOffer_shape (n : Nat) (s : State) : (canTransmitOffer n s).shape = s.shape := by
  unfold canTransmitOffer; (try dsimp only); (repeat' split) <;> simp

@[simp] theorem State.canSent_shape (s : State) (n : Nat) (x : CanEntry) (stamp : Nat) : (State.canSent s n x stamp).shape = s.shape := by
  unfold State.canSent; simp

@[simp] theorem State.lowSent_shape (s : State) (n : Nat) (outcome : Nat) : (State.lowSent s n outcome).shape = s.shape := by
  unfold State.lowSent; simp

@[simp] theorem canTransmitComplete_shape (n : Nat) (outcome : Nat) (stamp : Nat) (tec : Nat) (rec_ : Nat) (s : State) : (canTransmitComplete n outcome stamp tec rec_ s).shape = s.shape := by
  unfold canTransmitComplete; (try dsimp only); (repeat' split) <;> simp

@[simp] theorem busOff_shape (n : Nat) (s : State) : (busOff n s).shape = s.shape := by
  unfold busOff; simp

@[simp] theorem busOffDelayExpired_shape (n : Nat) (s : State) : (busOffDelayExpired n s).shape = s.shape := by
  unfold busOffDelayExpired; simp

@[simp] theorem State.reqRecover_shape (s : State) (c : Caller) (n : Nat) : (State.reqRecover s c n).shape = s.shape := by
  unfold State.reqRecover; simp

@[simp] theorem busOffRecovered_shape (n : Nat) (s : State) : (busOffRecovered n s).shape = s.shape := by
  unfold busOffRecovered; simp

@[simp] theorem State.modLin_shape (s : State) (n : Nat) (f : LinCtl → LinCtl) : (State.modLin s n f).shape = s.shape := by
  unfold State.modLin; simp

@[simp] theorem State.pull_shape (s : State) (t : Option Nat) : (State.pull s t).1.shape = s.shape := by
  unfold State.pull; (try dsimp only); (repeat' split) <;> simp

@[simp] theorem State.linRespond_shape (s : State) (n : Nat) (id : Nat) : (State.linRespond s n id).shape = s.shape := by
  unfold State.linRespond; simp

@[simp] theorem State.linSend_shape (s : State) (n : Nat) (slot : Nat × Nat) : (State.linSend s n slot).shape = s.shape := by
  unfold State.linSend; simp

@[simp] theorem linHeaderDue_shape (n : Nat) (s : State) : (linHeaderDue n s).shape = s.shape := by
  unfold linHeaderDue; (try dsimp only); (repeat' split) <;> simp

@[simp] theorem State.linCollision_shape (s : State) (n : Nat) : (State.linCollision s n).shape = s.shape := by
  unfold State.linCollision; (try dsimp only); (repeat' split) <;> simp

@[simp] theorem linFrameReceived_shape (n : Nat) (f : BusFrame) (fault : Nat) (s : State) : (linFrameReceived n f fault s).shape = s.shape := by
  unfold linFrameReceived; simp

@[simp] theorem linScheduleChange_shape (n : Nat) (s : State) : (linScheduleChange n s).shape = s.shape := by
  unfold linScheduleChange; (try dsimp only); (repeat' split) <;> simp

@[simp] theorem linHeaderReceived_shape (n : Nat) (id : Nat) (s : State) : (linHeaderReceived n id s).shape = s.shape := by
  unfold linHeaderReceived; simp

@[simp] theorem State.linCommit_shape (s : State) (n : Nat) (wasEmpty : Bool) : (State.linCommit s n wasEmpty).shape = s.shape := by
  unfold State.linCommit; simp

@[simp] theorem State.fxCycle_shape (s : State) (cycle : Nat) (start : Nat) : (State.fxCycle s cycle start).shape = s.shape := by
  unfold State.fxCycle; simp

@[simp] theorem State.fxSend_shape (s : State) (slot : Nat) (p : Option Bytes) : (State.fxSend s slot p).shape = s.shape := by
  unfold State.fxSend; simp

@[simp] theorem flexraySlot_shape (buf : Nat) (cycle : Nat) (start : Nat) (room : Bool) (s : State) : (flexraySlot buf cycle start room s).shape = s.shape := by
  unfold flexraySlot; (try dsimp only); (repeat' split) <;> simp

@[simp] theorem flexrayFrameReceived_shape (chan : Nat) (slot : Nat) (cycle : Nat) (start : Nat) (fault : Nat) (syncs : Nat) (sof : Nat) (data : Bytes) (s : State) : (flexrayFrameReceived chan slot cycle start fault syncs sof data s).shape = s.shape := by
  unfold flexrayFrameReceived; (try dsimp only); (repeat' split) <;> simp

@[simp] theorem State.fxCommit_shape (s : State) (before : Nat) : (State.fxCommit s before).shape = s.shape := by
  unfold State.fxCommit; simp

@[simp] theorem State.canCommit_shape (s : State) (n : Nat) (before : List Nat) (after : List Nat) : (State.canCommit s n before after).shape = s.shape := by
  unfold State.canCommit; simp

@[simp] theorem State.errnEvent_shape (s : State) (i : Nat) : (State.errnEvent s i).shape = s.shape := by
  unfold State.errnEvent; simp

@[simp] theorem errnPoll_shape (i : Nat) (low : Bool) (s : State) : (errnPoll i low s).shape = s.shape := by
  unfold errnPoll; simp

end Sys2Proof.Machine
end

