-- ==== Sys2Proof/Laws/ShapePortFamily.lean ====
section
/-! SUPPORT. The queue and the numbers of units under the operations of PortFamily. -/

namespace Sys2Proof.Machine

open Sys2Proof

@[simp] theorem State.setLink_shape (s : State) (p : Nat) (v : Nat) : (State.setLink s p v).shape = s.shape := by
  unfold State.setLink; simp

@[simp] theorem State.flushPort_shape (s : State) (p : Nat) : (State.flushPort s p).shape = s.shape := by
  unfold State.flushPort; simp

@[simp] theorem State.abortTx_shape (s : State) (p : Nat) (t : Option TxFrame) : (State.abortTx s p t).shape = s.shape := by
  unfold State.abortTx; (try dsimp only); (repeat' split) <;> simp

@[simp] theorem State.abortRx_shape (s : State) (p : Nat) (id : Option Nat) : (State.abortRx s p id).shape = s.shape := by
  unfold State.abortRx; (try dsimp only); (repeat' split) <;> simp

@[simp] theorem State.linkDown_shape (s : State) (p : Nat) (forced : Bool) : (State.linkDown s p forced).shape = s.shape := by
  unfold State.linkDown; simp

@[simp] theorem State.leaveUp_shape (s : State) (p : Nat) (next : Nat) (forced : Bool) : (State.leaveUp s p next forced).shape = s.shape := by
  unfold State.leaveUp; simp

@[simp] theorem State.refreshMerge_shape (s : State) (p : Nat) : (State.refreshMerge s p).shape = s.shape := by
  unfold State.refreshMerge; simp

@[simp] theorem linkUp_shape (p : Nat) (s : State) : (linkUp p s).shape = s.shape := by
  unfold linkUp; simp

@[simp] theorem pcsLockLost_shape (p : Nat) (s : State) : (pcsLockLost p s).shape = s.shape := by
  unfold pcsLockLost; simp

@[simp] theorem holdTimerExpired_shape (p : Nat) (s : State) : (holdTimerExpired p s).shape = s.shape := by
  unfold holdTimerExpired; (try dsimp only); (repeat' split) <;> simp

@[simp] theorem State.notePoll_shape (s : State) (p : Nat) : (State.notePoll s p).shape = s.shape := by
  unfold State.notePoll; (try dsimp only); (repeat' split) <;> simp

@[simp] theorem State.pollEvents_shape (s : State) (p : Nat) (v : Nat) : (State.pollEvents s p v).shape = s.shape := by
  unfold State.pollEvents; simp

@[simp] theorem mdioPoll_shape (p : Nat) (value : Option Nat) (s : State) : (mdioPoll p value s).shape = s.shape := by
  unfold mdioPoll; (try dsimp only); (repeat' split) <;> simp

@[simp] theorem State.indirect_shape (s : State) (c : Caller) (p : Nat) (code : Nat) : (State.indirect s c p code).shape = s.shape := by
  unfold State.indirect; simp

@[simp] theorem indirectAccessDone_shape (p : Nat) (value : Nat) (s : State) : (indirectAccessDone p value s).shape = s.shape := by
  unfold indirectAccessDone; (try dsimp only); (repeat' split) <;> simp

@[simp] theorem State.noteSqi_shape (s : State) (p : Nat) (sqi : Nat) : (State.noteSqi s p sqi).shape = s.shape := by
  unfold State.noteSqi; (try dsimp only); (repeat' split) <;> simp

@[simp] theorem sqiUpdate_shape (p : Nat) (sqi : Nat) (s : State) : (sqiUpdate p sqi s).shape = s.shape := by
  unfold sqiUpdate; simp

@[simp] theorem State.reqTdrStart_shape (s : State) (c : Caller) (port : Nat) : (State.reqTdrStart s c port).shape = s.shape := by
  unfold State.reqTdrStart; simp

@[simp] theorem tdrDone_shape (p : Nat) (result : Nat) (distance : Nat) (s : State) : (tdrDone p result distance s).shape = s.shape := by
  unfold tdrDone; simp

@[simp] theorem State.reqTc10Sleep_shape (s : State) (c : Caller) (port : Nat) : (State.reqTc10Sleep s c port).shape = s.shape := by
  unfold State.reqTc10Sleep; simp

@[simp] theorem State.wakePort_shape (s : State) (p : Nat) : (State.wakePort s p).shape = s.shape := by
  unfold State.wakePort; simp

@[simp] theorem State.reqTc10Wake_shape (s : State) (c : Caller) (port : Nat) : (State.reqTc10Wake s c port).shape = s.shape := by
  unfold State.reqTc10Wake; simp

@[simp] theorem State.enterPortSleep_shape (s : State) (p : Nat) : (State.enterPortSleep s p).shape = s.shape := by
  unfold State.enterPortSleep; simp

@[simp] theorem wakePulse_shape (p : Nat) (s : State) : (wakePulse p s).shape = s.shape := by
  unfold wakePulse; simp

@[simp] theorem beaconTimeout_shape (p : Nat) (s : State) : (beaconTimeout p s).shape = s.shape := by
  unfold beaconTimeout; simp

@[simp] theorem foreignBeacon_shape (p : Nat) (s : State) : (foreignBeacon p s).shape = s.shape := by
  unfold foreignBeacon; simp

@[simp] theorem State.collide_shape (s : State) (p : Nat) : (State.collide s p).shape = s.shape := by
  unfold State.collide; (try dsimp only); (repeat' split) <;> simp

@[simp] theorem transmitOpportunity_shape (p : Nat) (collision : Bool) (s : State) : (transmitOpportunity p collision s).shape = s.shape := by
  unfold transmitOpportunity; simp

@[simp] theorem pauseReceived_shape (p : Nat) (quanta : Nat) (s : State) : (pauseReceived p quanta s).shape = s.shape := by
  unfold pauseReceived; simp

@[simp] theorem pfcReceived_shape (p : Nat) (enables : Nat) (quanta : List Nat) (s : State) : (pfcReceived p enables quanta s).shape = s.shape := by
  unfold pfcReceived; simp

@[simp] theorem pauseTimerExpired_shape (p : Nat) (q : Nat) (s : State) : (pauseTimerExpired p q s).shape = s.shape := by
  unfold pauseTimerExpired; (try dsimp only); (repeat' split) <;> simp

@[simp] theorem pauseResend_shape (p : Nat) (s : State) : (pauseResend p s).shape = s.shape := by
  unfold pauseResend; simp

@[simp] theorem verifyAttempt_shape (p : Nat) (s : State) : (verifyAttempt p s).shape = s.shape := by
  unfold verifyAttempt; simp

@[simp] theorem verifyResponse_shape (p : Nat) (s : State) : (verifyResponse p s).shape = s.shape := by
  unfold verifyResponse; simp

end Sys2Proof.Machine
end

