-- ==== Sys2Proof/Laws/ShapeSafetyFamily.lean ====
section
/-! SUPPORT. The queue and the numbers of units under the operations of SafetyFamily. -/

namespace Sys2Proof.Machine

open Sys2Proof

@[simp] theorem State.modPair_shape (s : State) (p : Nat) (f : LockPair → LockPair) : (State.modPair s p f).shape = s.shape := by
  unfold State.modPair; simp

@[simp] theorem State.setPairMode_shape (s : State) (p : Nat) (m : Nat) : (State.setPairMode s p m).shape = s.shape := by
  unfold State.setPairMode; simp

@[simp] theorem State.runSecondWatchdog_shape (s : State) (p : Nat) (on : Bool) : (State.runSecondWatchdog s p on).shape = s.shape := by
  unfold State.runSecondWatchdog; simp

@[simp] theorem State.failPair_shape (s : State) (p : Nat) : (State.failPair s p).shape = s.shape := by
  unfold State.failPair; simp

@[simp] theorem State.storeMismatch_shape (s : State) (p : Nat) (pc : Nat) (kind : Nat) : (State.storeMismatch s p pc kind).shape = s.shape := by
  unfold State.storeMismatch; simp

@[simp] theorem lockstepMismatch_shape (p : Nat) (pc : Nat) (kind : Nat) (s : State) : (lockstepMismatch p pc kind s).shape = s.shape := by
  unfold lockstepMismatch; simp

@[simp] theorem State.passCheckpoint_shape (s : State) (p : Nat) (laneOk : Bool) : (State.passCheckpoint s p laneOk).shape = s.shape := by
  unfold State.passCheckpoint; simp

@[simp] theorem lockstepCheckpoint_shape (p : Nat) (instrs : Nat) (equal : Bool) (laneOk : Bool) (s : State) : (lockstepCheckpoint p instrs equal laneOk s).shape = s.shape := by
  unfold lockstepCheckpoint; simp

@[simp] theorem rollbackComplete_shape (p : Nat) (s : State) : (rollbackComplete p s).shape = s.shape := by
  unfold rollbackComplete; simp

@[simp] theorem reexecutionTimeout_shape (p : Nat) (s : State) : (reexecutionTimeout p s).shape = s.shape := by
  unfold reexecutionTimeout; simp

@[simp] theorem State.reqSplit_shape (s : State) (c : Caller) (p : Nat) : (State.reqSplit s c p).shape = s.shape := by
  unfold State.reqSplit; simp

@[simp] theorem State.reqRejoin_shape (s : State) (c : Caller) (p : Nat) : (State.reqRejoin s c p).shape = s.shape := by
  unfold State.reqRejoin; simp

@[simp] theorem State.restartPair_shape (s : State) (p : Nat) (passed : Bool) : (State.restartPair s p passed).shape = s.shape := by
  unfold State.restartPair; simp

@[simp] theorem State.reqRestart_shape (s : State) (c : Caller) (p : Nat) (passed : Bool) : (State.reqRestart s c p passed).shape = s.shape := by
  unfold State.reqRestart; simp

@[simp] theorem debugHalt_shape (p : Nat) (authorised : Bool) (s : State) : (debugHalt p authorised s).shape = s.shape := by
  unfold debugHalt; simp

@[simp] theorem debugResume_shape (p : Nat) (s : State) : (debugResume p s).shape = s.shape := by
  unfold debugResume; simp

@[simp] theorem State.acknowledge_shape (s : State) (i : Nat) : (State.acknowledge s i).shape = s.shape := by
  unfold State.acknowledge; simp

@[simp] theorem State.reqAcknowledgeFault_shape (s : State) (c : Caller) (i : Nat) : (State.reqAcknowledgeFault s c i).shape = s.shape := by
  unfold State.reqAcknowledgeFault; simp

@[simp] theorem State.reqInputRecordRead_shape (s : State) (c : Caller) : (State.reqInputRecordRead s c).shape = s.shape := by
  unfold State.reqInputRecordRead; simp

@[simp] theorem State.modWatchdog_shape (s : State) (w : Nat) (f : Watchdog → Watchdog) : (State.modWatchdog s w f).shape = s.shape := by
  unfold State.modWatchdog; simp

@[simp] theorem State.violateWatchdog_shape (s : State) (w : Nat) : (State.violateWatchdog s w).shape = s.shape := by
  unfold State.violateWatchdog; simp

@[simp] theorem State.serviceWatchdog_shape (s : State) (w : Nat) (right : Bool) : (State.serviceWatchdog s w right).shape = s.shape := by
  unfold State.serviceWatchdog; simp

@[simp] theorem State.reqWatchdogService_shape (s : State) (c : Caller) (w : Nat) (key : Nat) : (State.reqWatchdogService s c w key).shape = s.shape := by
  unfold State.reqWatchdogService; simp

@[simp] theorem watchdogTimeout_shape (w : Nat) (s : State) : (watchdogTimeout w s).shape = s.shape := by
  unfold watchdogTimeout; simp

@[simp] theorem temperatureLimit_shape (n : Nat) (temp : Int) (s : State) : (temperatureLimit n temp s).shape = s.shape := by
  unfold temperatureLimit; simp

@[simp] theorem State.setPll_shape (s : State) (n : Nat) (locked : Bool) : (State.setPll s n locked).shape = s.shape := by
  unfold State.setPll; simp

@[simp] theorem safeToggle_shape (refreshed : Bool) (s : State) : (safeToggle refreshed s).shape = s.shape := by
  unfold safeToggle; simp

@[simp] theorem State.spiTransfer_shape (s : State) (cmd : Nat) (f : Bytes) (act : State → State) (hact : ∀ y0, (act y0).shape = y0.shape) : (State.spiTransfer s cmd f act).shape = s.shape := by
  unfold State.spiTransfer; (try dsimp only); (repeat' split) <;> simp_all

@[simp] theorem State.serviceSpi_shape (s : State) (answer : Nat) : (State.serviceSpi s answer).shape = s.shape := by
  unfold State.serviceSpi; simp

end Sys2Proof.Machine
end

