-- ==== Sys2Proof/Laws/ShapeEffects.lean ====
section
/-! SUPPORT. The queue and the numbers of units under the operations of Effects. -/

namespace Sys2Proof.Machine

open Sys2Proof

@[simp] theorem State.discardOf_shape (s : State) (p : Caller → Bool) : (State.discardOf s p).shape = s.shape := by
  unfold State.discardOf; (try dsimp only); (repeat' split) <;> simp

@[simp] theorem State.endSession_shape (s : State) (n : Nat) : (State.endSession s n).shape = s.shape := by
  unfold State.endSession; simp

@[simp] theorem State.closeIdle_shape (s : State) (n : Nat) : (State.closeIdle s n).shape = s.shape := by
  unfold State.closeIdle; simp

@[simp] theorem State.overlayPut_shape (s : State) (slot : Nat) (bytes : Nat) (old : Nat → Bool) : (State.overlayPut s slot bytes old).shape = s.shape := by
  unfold State.overlayPut; simp

@[simp] theorem State.overlayRow_shape (s : State) (tbl : Nat) (code : Nat) (pos : Nat) : (State.overlayRow s tbl code pos).shape = s.shape := by
  unfold State.overlayRow; simp

@[simp] theorem State.forceDown_shape (s : State) (p : Nat) (was : Bool) : (State.forceDown s p was).shape = s.shape := by
  unfold State.forceDown; simp

@[simp] theorem State.portApplied_shape (s : State) (a : Applied) (before : State) (p : Nat) : (State.portApplied s a before p).shape = s.shape := by
  unfold State.portApplied; simp

@[simp] theorem State.gatesApplied_shape (a : Applied) (s : State) (p : Nat) : (State.gatesApplied a s p).shape = s.shape := by
  unfold State.gatesApplied; simp

@[simp] theorem State.trigApplied_shape (a : Applied) (s : State) (n : Nat) : (State.trigApplied a s n).shape = s.shape := by
  unfold State.trigApplied; simp

@[simp] theorem State.busesApplied_shape (s : State) (a : Applied) (before : State) : (State.busesApplied s a before).shape = s.shape := by
  unfold State.busesApplied; simp

@[simp] theorem State.watchApplied_shape (a : Applied) (s : State) (w : Nat) : (State.watchApplied a s w).shape = s.shape := by
  unfold State.watchApplied; simp

@[simp] theorem State.smallApplied_shape (a : Applied) (s : State) : (State.smallApplied a s).shape = s.shape := by
  unfold State.smallApplied; simp

@[simp] theorem State.clearRowStats_shape (s : State) (tbl : Nat) (pos : Nat) (lo : Nat) (hi : Nat) : (State.clearRowStats s tbl pos lo hi).shape = s.shape := by
  unfold State.clearRowStats; simp

@[simp] theorem State.loadStreamGate_shape (s : State) (g : Nat) (tl : Nat) (v : List Nat) : (State.loadStreamGate s g tl v).shape = s.shape := by
  unfold State.loadStreamGate; simp

@[simp] theorem State.rowApplied_shape (a : Applied) (s : State) (tbl : Nat) (pos : Nat) : (State.rowApplied a s tbl pos).shape = s.shape := by
  unfold State.rowApplied; (try dsimp only); (repeat' split) <;> simp

@[simp] theorem State.overlayRecord_shape (ops : List (Nat × Nat × Nat)) (s : State) (w : StagedWork) : (State.overlayRecord ops s w).shape = s.shape := by
  unfold State.overlayRecord; (try dsimp only); (repeat' split) <;> simp

@[simp] theorem State.layValue_shape (c : Nat) (by_ : OKey) (s : State) (w : StagedWork) : (State.layValue c by_ s w).shape = s.shape := by
  unfold State.layValue; (try dsimp only); (repeat' split) <;> simp

@[simp] theorem State.layStaged_shape (s : State) (c : Nat) (by_ : OKey) : (State.layStaged s c by_).shape = s.shape := by
  unfold State.layStaged; simp

@[simp] theorem State.endCommit_shape (s : State) (c : Nat) : (State.endCommit s c).shape = s.shape := by
  unfold State.endCommit; simp

end Sys2Proof.Machine
end

