-- ==== Sys2Proof/Laws/ShapeTables.lean ====
section
/-! SUPPORT. The queue and the numbers of units under the operations of Tables. -/

namespace Sys2Proof.Machine

open Sys2Proof

@[simp] theorem State.showRow_shape (s : State) (c : Caller) (k : Nat) (tbl : Nat) (pos : Nat) (vals : List Nat) : (State.showRow s c k tbl pos vals).shape = s.shape := by
  unfold State.showRow; simp

@[simp] theorem State.opReply_shape (s : State) (c : Caller) (tbl : Nat) (st : Nat) : (State.opReply s c tbl st).shape = s.shape := by
  unfold State.opReply; simp

@[simp] theorem State.opAccept_shape (s : State) (c : Caller) (kind : Nat) (k : Nat) (tbl : Nat) (old : Option (List Nat)) (new : Option (List Nat)) : (State.opAccept s c kind k tbl old new).shape = s.shape := by
  unfold State.opAccept; simp

@[simp] theorem State.readOp_shape (s : State) (c : Caller) (k : Nat) (tbl : Nat) (code : Nat) (vals : List Nat) : (State.readOp s c k tbl code vals).shape = s.shape := by
  unfold State.readOp; (try dsimp only); (repeat' split) <;> simp

@[simp] theorem State.stageOp_shape (s : State) (c : Caller) (k : Nat) (tbl : Nat) (code : Nat) (vals : List Nat) : (State.stageOp s c k tbl code vals).shape = s.shape := by
  unfold State.stageOp; simp

@[simp] theorem State.vlanOp_shape (s : State) (c : Caller) (k : Nat) (code : Nat) (vals : List Nat) : (State.vlanOp s c k code vals).shape = s.shape := by
  unfold State.vlanOp; simp

@[simp] theorem State.hideFdb_shape (s : State) (e : Nat) (p : Nat × FdbEntry → Bool) : (State.hideFdb s e p).shape = s.shape := by
  unfold State.hideFdb; simp

@[simp] theorem State.fdbOp_shape (s : State) (c : Caller) (k : Nat) (code : Nat) (vals : List Nat) : (State.fdbOp s c k code vals).shape = s.shape := by
  unfold State.fdbOp; (try dsimp only); (repeat' split) <;> simp

@[simp] theorem State.sessionOp_shape (s : State) (c : Caller) (k : Nat) (code : Nat) (vals : List Nat) : (State.sessionOp s c k code vals).shape = s.shape := by
  unfold State.sessionOp; (try dsimp only); (repeat' split) <;> simp

@[simp] theorem State.freshOp_shape (s : State) (c : Caller) (k : Nat) (vals : List Nat) : (State.freshOp s c k vals).shape = s.shape := by
  unfold State.freshOp; simp

@[simp] theorem State.tableOp_shape (s : State) (c : Caller) (tbl : Nat) (code : Nat) : (State.tableOp s c tbl code).shape = s.shape := by
  unfold State.tableOp; simp

end Sys2Proof.Machine
end

