-- ==== Sys2Proof/Laws/ShapeImage.lean ====
section
/-! SUPPORT. The queue and the numbers of units under the operations of Image. -/

namespace Sys2Proof.Machine

open Sys2Proof

@[simp] theorem State.keepImage_shape (c : Caller) (signed : Bool) (b : Bytes) (s : State) : (State.keepImage c signed b s).shape = s.shape := by
  unfold State.keepImage; (try dsimp only); (repeat' split) <;> simp

@[simp] theorem State.uploadSegment_shape (s : State) (c : Caller) (off : Nat) (data : Bytes) (last : Bool) (signed : Bool) : (State.uploadSegment s c off data last signed).shape = s.shape := by
  unfold State.uploadSegment; simp

@[simp] theorem State.activateImage_shape (s : State) (c : Caller) : (State.activateImage s c).shape = s.shape := by
  unfold State.activateImage; (try dsimp only); (repeat' split) <;> simp

end Sys2Proof.Machine
end

