-- ==== Sys2Proof/Laws/ShapeAccess.lean ====
section
/-! SUPPORT. The queue and the numbers of units under the operations of Access. -/

namespace Sys2Proof.Machine

open Sys2Proof

@[simp] theorem State.refuse_shape (s : State) (c : Caller) (st : Nat) : (State.refuse s c st).shape = s.shape := by
  unfold State.refuse; simp

@[simp] theorem State.discardStaging_shape (s : State) (c : Caller) (data : Bytes) : (State.discardStaging s c data).shape = s.shape := by
  unfold State.discardStaging; simp

@[simp] theorem State.commitResult_shape (s : State) (result : Nat) (refused : Nat) : (State.commitResult s result refused).shape = s.shape := by
  unfold State.commitResult; simp

@[simp] theorem State.armCommit_shape (s : State) (c : Caller) (e : Nat) (b : Option Nat) : (State.armCommit s c e b).shape = s.shape := by
  unfold State.armCommit; simp

@[simp] theorem State.executeCommit_shape (s : State) (c : Caller) (data : Bytes) : (State.executeCommit s c data).shape = s.shape := by
  unfold State.executeCommit; (try dsimp only); (repeat' split) <;> simp

@[simp] theorem dapLockoutEnd_shape (s : State) : (dapLockoutEnd s).shape = s.shape := by
  unfold dapLockoutEnd; (try dsimp only); (repeat' split) <;> simp

@[simp] theorem State.challenge_shape (s : State) (n : Nat) (host : Bool) (slot : Nat) (ip : Nat) (port : Nat) (nc : Nat) (seq : Nat) : (State.challenge s n host slot ip port nc seq).shape = s.shape := by
  unfold State.challenge; simp

@[simp] theorem State.openSession_shape (s : State) (n : Nat) : (State.openSession s n).shape = s.shape := by
  unfold State.openSession; simp

@[simp] theorem State.keyHost_shape (s : State) : (State.keyHost s).shape = s.shape := by
  unfold State.keyHost; simp

@[simp] theorem State.hostOpen_shape (s : State) (slot : Nat) (nonce : Bytes) : (State.hostOpen s slot nonce).shape = s.shape := by
  unfold State.hostOpen; (try dsimp only); (repeat' split) <;> simp

@[simp] theorem State.hostProof_shape (s : State) (sid : Nat) (mac : Bytes) : (State.hostProof s sid mac).shape = s.shape := by
  unfold State.hostProof; simp

@[simp] theorem State.closeOwn_shape (s : State) (c : Caller) : (State.closeOwn s c).shape = s.shape := by
  unfold State.closeOwn; simp

@[simp] theorem State.nop_shape (s : State) (c : Caller) : (State.nop s c).shape = s.shape := by
  unfold State.nop; simp

@[simp] theorem State.closeNamed_shape (s : State) (c : Caller) (n : Nat) : (State.closeNamed s c n).shape = s.shape := by
  unfold State.closeNamed; simp

end Sys2Proof.Machine
end

