-- ==== Sys2Proof/Laws/ShapePowerFamily.lean ====
section
/-! SUPPORT. The queue and the numbers of units under the operations of PowerFamily. -/

namespace Sys2Proof.Machine

open Sys2Proof

@[simp] theorem State.resetCommand_shape (s : State) (c : Caller) (data : Bytes) : (State.resetCommand s c data).shape = s.shape := by
  unfold State.resetCommand; simp

@[simp] theorem State.placeImageRow_shape (s : State) (r : ImageRow) : (State.placeImageRow s r).shape = s.shape := by
  unfold State.placeImageRow; (try dsimp only); (repeat' split) <;> simp

@[simp] theorem State.testResults_shape (s : State) (results : Nat) (procs : Nat) (banks : Nat) : (State.testResults s results procs banks).shape = s.shape := by
  unfold State.testResults; simp

@[simp] theorem State.endTest_shape (s : State) (bad : Bool) : (State.endTest s bad).shape = s.shape := by
  unfold State.endTest; (try dsimp only); (repeat' split) <;> simp [State.shape, State.sizes]

@[simp] theorem State.disablePort_shape (s : State) (p : Nat) : (State.disablePort s p).shape = s.shape := by
  unfold State.disablePort; simp

@[simp] theorem State.beginEntry_shape (s : State) (toSleep : Bool) (e : Nat) : (State.beginEntry s toSleep e).shape = s.shape := by
  unfold State.beginEntry; simp

@[simp] theorem State.powerEffect_shape (s : State) (k : Nat) (v : Nat) : (State.powerEffect s k v).shape = s.shape := by
  unfold State.powerEffect; (try dsimp only); (repeat' split) <;> (try simp only [shape_ite, ite_self]) <;> (try simp) <;> (try simp [State.shape, State.sizes])

@[simp] theorem State.powerCommand_shape (s : State) (c : Caller) (data : Bytes) : (State.powerCommand s c data).shape = s.shape := by
  unfold State.powerCommand; simp

@[simp] theorem idleWakeEvent_shape (pin : Option Nat) (s : State) : (idleWakeEvent pin s).shape = s.shape := by
  unfold idleWakeEvent; simp

@[simp] theorem State.toLowland_shape (s : State) (n : Nat) : (State.toLowland s n).shape = s.shape := by
  unfold State.toLowland; simp

@[simp] theorem State.newWarmKey_shape (s : State) : (State.newWarmKey s).shape = s.shape := by
  unfold State.newWarmKey; simp

@[simp] theorem State.startWake_shape (s : State) : (State.startWake s).shape = s.shape := by
  unfold State.startWake; (try dsimp only); (repeat' split) <;> simp [State.shape, State.sizes]

@[simp] theorem State.enterLow_shape (s : State) (roleIn : Bool) (table : Bytes) (run : List Nat) (mayTx : List Nat) : (State.enterLow s roleIn table run mayTx).shape = s.shape := by
  unfold State.enterLow; (try dsimp only); (repeat' split) <;> simp [State.shape, State.sizes]

@[simp] theorem lowPowerEntryComplete_shape (roleIn : Bool) (s : State) : (lowPowerEntryComplete roleIn s).shape = s.shape := by
  unfold lowPowerEntryComplete; simp

@[simp] theorem State.fireWake_shape (s : State) (n : Nat) : (State.fireWake s n).shape = s.shape := by
  unfold State.fireWake; simp

@[simp] theorem State.lowQueue_shape (f : BusFrame) (s : State) (n : Nat) : (State.lowQueue f s n).shape = s.shape := by
  unfold State.lowQueue; simp

@[simp] theorem quietRoute_shape (f : BusFrame) (s : State) : (quietRoute f s).shape = s.shape := by
  unfold quietRoute; (try dsimp only); (repeat' split) <;> simp

@[simp] theorem State.wakeRecord_shape (before : State) (s : State) : (State.wakeRecord before s).shape = s.shape := by
  unfold State.wakeRecord; simp

@[simp] theorem railsTimeout_shape (s : State) : (railsTimeout s).shape = s.shape := by
  unfold railsTimeout; (try dsimp only); (repeat' split) <;> (try simp only [shape_ite, ite_self]) <;> (try simp) <;> (try simp [State.shape, State.sizes])

end Sys2Proof.Machine
end

