-- ==== Sys2Proof/Laws/ShapeBasinFamily.lean ====
section
/-! SUPPORT. The queue and the numbers of units under the operations of BasinFamily. -/

namespace Sys2Proof.Machine

open Sys2Proof

@[simp] theorem State.reqBankRetire_shape (s : State) (c : Caller) (b : Nat) : (State.reqBankRetire s c b).shape = s.shape := by
  unfold State.reqBankRetire; simp

@[simp] theorem frameBankWalkDone_shape (b : Nat) (s : State) : (frameBankWalkDone b s).shape = s.shape := by
  unfold frameBankWalkDone; simp

@[simp] theorem tableBankRebuildDone_shape (s : State) : (tableBankRebuildDone s).shape = s.shape := by
  unfold tableBankRebuildDone; (try dsimp only); (repeat' split) <;> simp

@[simp] theorem State.markBad_shape (s : State) (rows : List (Nat × Nat)) : (State.markBad s rows).shape = s.shape := by
  unfold State.markBad; simp

@[simp] theorem tableAuditPass_shape (static_ : List (Nat × Nat)) (dynamic : List (Nat × Nat)) (s : State) : (tableAuditPass static_ dynamic s).shape = s.shape := by
  unfold tableAuditPass; simp

@[simp] theorem staticEntryRewrite_shape (tbl : Nat) (pos : Nat) (bank : Nat) (good : Bool) (s : State) : (staticEntryRewrite tbl pos bank good s).shape = s.shape := by
  unfold staticEntryRewrite; simp

@[simp] theorem ternaryRewrite_shape (row : Nat) (detected : Bool) (s : State) : (ternaryRewrite row detected s).shape = s.shape := by
  unfold ternaryRewrite; simp

@[simp] theorem State.clearBadSlot_shape (s : State) (tbl : Nat) (slot : Nat) : (State.clearBadSlot s tbl slot).shape = s.shape := by
  unfold State.clearBadSlot; simp

@[simp] theorem State.invalidateSlot_shape (s : State) (tbl : Nat) (slot : Nat) : (State.invalidateSlot s tbl slot).shape = s.shape := by
  unfold State.invalidateSlot; simp

@[simp] theorem dynamicEntryFetch_shape (tbl : Nat) (slot : Nat) (fetched : Bool) (s : State) : (dynamicEntryFetch tbl slot fetched s).shape = s.shape := by
  unfold dynamicEntryFetch; simp

@[simp] theorem sessionRefetchComplete_shape (slot : Nat) (fetched : Bool) (s : State) : (sessionRefetchComplete slot fetched s).shape = s.shape := by
  unfold sessionRefetchComplete; simp

@[simp] theorem State.strikeCell_shape (s : State) (x : Nat × Nat) : (State.strikeCell s x).shape = s.shape := by
  unfold State.strikeCell; simp

@[simp] theorem State.corruptFrame_shape (s : State) (id : Nat) : (State.corruptFrame s id).shape = s.shape := by
  unfold State.corruptFrame; simp

@[simp] theorem freelistAuditPass_shape (lost : List Nat) (corrupt : List Nat) (s : State) : (freelistAuditPass lost corrupt s).shape = s.shape := by
  unfold freelistAuditPass; simp

@[simp] theorem ledgerTriggerNow_shape (s : State) : (ledgerTriggerNow s).shape = s.shape := by
  unfold ledgerTriggerNow; (try dsimp only); (repeat' split) <;> simp

@[simp] theorem ledgerRestart_shape (s : State) : (ledgerRestart s).shape = s.shape := by
  unfold ledgerRestart; (try dsimp only); (repeat' split) <;> (try simp only [shape_ite, ite_self]) <;> (try simp) <;> (try simp [State.shape, State.sizes])

@[simp] theorem State.reqLedgerRestart_shape (s : State) (c : Caller) : (State.reqLedgerRestart s c).shape = s.shape := by
  unfold State.reqLedgerRestart; simp

@[simp] theorem State.reqLedgerFreeze_shape (s : State) (c : Caller) : (State.reqLedgerFreeze s c).shape = s.shape := by
  unfold State.reqLedgerFreeze; simp

@[simp] theorem State.takeFragment_shape (s : State) (port : Nat) (x : FragInfo) : (State.takeFragment s port x).shape = s.shape := by
  unfold State.takeFragment; (try dsimp only); (repeat' split) <;> simp

@[simp] theorem slowPathFrame_shape (handled : Bool) (s : State) : (slowPathFrame handled s).shape = s.shape := by
  unfold slowPathFrame; (try dsimp only); (repeat' split) <;> simp

@[simp] theorem reassemblyTimeout_shape (s : State) : (reassemblyTimeout s).shape = s.shape := by
  unfold reassemblyTimeout; simp

@[simp] theorem datagramReinject_shape (s : State) : (datagramReinject s).shape = s.shape := by
  unfold datagramReinject; (try dsimp only); (repeat' split) <;> simp

end Sys2Proof.Machine
end

