-- ==== Sys2Proof/Laws/ShapeJournalFamily.lean ====
section
/-! SUPPORT. The queue and the numbers of units under the operations of JournalFamily. -/

namespace Sys2Proof.Machine

open Sys2Proof

@[simp] theorem journalEventRaised_shape (ev : RaisedEvent) (s : State) : (journalEventRaised ev s).shape = s.shape := by
  unfold journalEventRaised; simp

@[simp] theorem journalCommit_shape (s : State) : (journalCommit s).shape = s.shape := by
  unfold journalCommit; simp

@[simp] theorem persistentJournalWrite_shape (s : State) : (persistentJournalWrite s).shape = s.shape := by
  unfold persistentJournalWrite; (try dsimp only); (repeat' split) <;> simp

@[simp] theorem acknowledgeJournal_shape (n : Nat) (s : State) : (acknowledgeJournal n s).shape = s.shape := by
  unfold acknowledgeJournal; simp

@[simp] theorem State.reqJournalAcknowledge_shape (s : State) (c : Caller) (n : Nat) : (State.reqJournalAcknowledge s c n).shape = s.shape := by
  unfold State.reqJournalAcknowledge; simp

@[simp] theorem State.groupConsume_shape (s : State) (c : Caller) (idx : Nat) (sub : Nat) : (State.groupConsume s c idx sub).shape = s.shape := by
  unfold State.groupConsume; simp

@[simp] theorem State.reqCounterGroupRead_shape (s : State) (c : Caller) (idx : Nat) (sub : Nat) : (State.reqCounterGroupRead s c idx sub).shape = s.shape := by
  unfold State.reqCounterGroupRead; simp

@[simp] theorem State.takeImage_shape (s : State) (c : Nat) : (State.takeImage s c).shape = s.shape := by
  unfold State.takeImage; simp

@[simp] theorem State.reqSnapshotRequest_shape (s : State) (c : Caller) (boundary : Nat) : (State.reqSnapshotRequest s c boundary).shape = s.shape := by
  unfold State.reqSnapshotRequest; simp

@[simp] theorem snapshotImage_shape (s : State) : (snapshotImage s).shape = s.shape := by
  unfold snapshotImage; (try dsimp only); (repeat' split) <;> simp

@[simp] theorem measurementRefresh_shape (temps : List Int) (mvs : List Nat) (s : State) : (measurementRefresh temps mvs s).shape = s.shape := by
  unfold measurementRefresh; simp

@[simp] theorem ageMonitor_shape (s : State) (k : Nat) (d : Nat) : (ageMonitor s k d).shape = s.shape := by
  unfold ageMonitor; (try dsimp only); (repeat' split) <;> (try simp only [shape_ite, ite_self]) <;> (try simp) <;> (try simp [State.shape, State.sizes])

@[simp] theorem ageingMeasurement_shape (ppms : List Nat) (mean : Int) (s : State) : (ageingMeasurement ppms mean s).shape = s.shape := by
  unfold ageingMeasurement; simp

@[simp] theorem berUpdate_shape (errs : List Nat) (bits : List Nat) (s : State) : (berUpdate errs bits s).shape = s.shape := by
  unfold berUpdate; simp

end Sys2Proof.Machine
end

