-- ==== Sys2Proof/Laws/ShapeDigest.lean ====
section
/-! SUPPORT. The queue and the numbers of units under the operations of Digest. -/

namespace Sys2Proof.Machine

open Sys2Proof

@[simp] theorem State.takeDigest_shape (s : State) (c : Nat) : (State.takeDigest s c).shape = s.shape := by
  unfold State.takeDigest; simp

end Sys2Proof.Machine
end

