-- ==== Sys2Proof/Laws/ShapeOrdering.lean ====
section
/-! SUPPORT. The queue and the numbers of units under the operations of Ordering. -/

namespace Sys2Proof.Machine

open Sys2Proof

@[simp] theorem State.modUnit_shape (s : State) (u : OrderUnit) (f : SortBuffer → SortBuffer) : (State.modUnit s u f).shape = s.shape := by
  unfold State.modUnit; simp

@[simp] theorem State.runWork_shape (s : State) (key : OKey) (w : Work) : (State.runWork s key w).shape = s.shape := by
  unfold State.runWork; (try dsimp only); (repeat' split) <;> simp

@[simp] theorem State.runLate_shape (s : State) (key : OKey) (w : Work) : (State.runLate s key w).shape = s.shape := by
  unfold State.runLate; (try dsimp only); (repeat' split) <;> simp

@[simp] theorem State.noteLate_shape (s : State) (key : OKey) : (State.noteLate s key).shape = s.shape := by
  unfold State.noteLate; simp

@[simp] theorem State.holdBack_shape (s : State) (u : OrderUnit) (key : OKey) : (State.holdBack s u key).shape = s.shape := by
  unfold State.holdBack; simp

@[simp] theorem State.letGo_shape (s : State) (u : OrderUnit) (key : OKey) : (State.letGo s u key).shape = s.shape := by
  unfold State.letGo; simp

@[simp] theorem State.arriveAt_shape (s : State) (u : OrderUnit) (key : OKey) : (State.arriveAt s u key).shape = s.shape := by
  unfold State.arriveAt; (try dsimp only); (repeat' split) <;> simp

@[simp] theorem sortBufferArrival_shape (u : OrderUnit) (key : OKey) (s : State) : (sortBufferArrival u key s).shape = s.shape := by
  unfold sortBufferArrival; simp

@[simp] theorem releaseAll_shape (u : OrderUnit) (a1 : List Buffered) (a2 : State) : (releaseAll u a1 a2).1.shape = a2.shape := by
  fun_induction releaseAll u a1 a2 <;> (try dsimp only at *) <;> (repeat' split) <;> simp_all +zetaDelta

@[simp] theorem State.releaseUnit_shape (s : State) (u : OrderUnit) (e : Nat) : (State.releaseUnit s u e).shape = s.shape := by
  unfold State.releaseUnit; (try dsimp only); (repeat' split) <;> simp

@[simp] theorem State.releaseJournal_shape (s : State) (e : Nat) : (State.releaseJournal s e).shape = s.shape := by
  unfold State.releaseJournal; (try dsimp only); (repeat' split) <;> simp

@[simp] theorem orderingRelease_shape (u : OrderUnit) (e : Nat) (s : State) : (orderingRelease u e s).shape = s.shape := by
  unfold orderingRelease; simp

@[simp] theorem heldOrderRelease_shape (u : OrderUnit) (s : State) : (heldOrderRelease u s).shape = s.shape := by
  unfold heldOrderRelease; simp

@[simp] theorem stepSuspendEnd_shape (u : OrderUnit) (s : State) : (stepSuspendEnd u s).shape = s.shape := by
  unfold stepSuspendEnd; (try dsimp only); (repeat' split) <;> simp

@[simp] theorem keyLimitWaitEnd_shape (src : Nat) (s : State) : (keyLimitWaitEnd src s).shape = s.shape := by
  unfold keyLimitWaitEnd; simp

@[simp] theorem senderResume_shape (u : OrderUnit) (s : State) : (senderResume u s).shape = s.shape := by
  unfold senderResume; simp

@[simp] theorem dcqWaitTimeout_shape (u : OrderUnit) (s : State) : (dcqWaitTimeout u s).shape = s.shape := by
  unfold dcqWaitTimeout; simp

@[simp] theorem checkpoint_shape (s : State) : (checkpoint s).shape = s.shape := by
  unfold checkpoint; simp

end Sys2Proof.Machine
end

