-- ==== Sys2Proof/Laws/ShapeFrameFamily.lean ====
section
/-! SUPPORT. The queue and the numbers of units under the operations of FrameFamily. -/

namespace Sys2Proof.Machine

open Sys2Proof

@[simp] theorem State.presentFord_shape (s : State) (rx : FrameRx) : (State.presentFord s rx).shape = s.shape := by
  unfold State.presentFord; (try dsimp only); (repeat' split) <;> simp

@[simp] theorem frameHeaderWindow_shape (p : Nat) (rx : FrameRx) (s : State) : (frameHeaderWindow p rx s).shape = s.shape := by
  unfold frameHeaderWindow; simp

@[simp] theorem frameEndReceived_shape (p : Nat) (fin : FrameEnd) (s : State) : (frameEndReceived p fin s).shape = s.shape := by
  unfold frameEndReceived; simp

@[simp] theorem State.deliver_shape (s : State) (p : Nat) (c : Copy) (f : Frame) (b : Bytes) : (State.deliver s p c f b).shape = s.shape := by
  unfold State.deliver; simp

@[simp] theorem frameTransmitEnd_shape (p : Nat) (s : State) : (frameTransmitEnd p s).shape = s.shape := by
  unfold frameTransmitEnd; (try dsimp only); (repeat' split) <;> simp

@[simp] theorem launchTimeReached_shape (p : Nat) (q : Nat) (s : State) : (launchTimeReached p q s).shape = s.shape := by
  unfold launchTimeReached; (try dsimp only); (repeat' split) <;> simp

@[simp] theorem lateLimitExpired_shape (p : Nat) (q : Nat) (s : State) : (lateLimitExpired p q s).shape = s.shape := by
  unfold lateLimitExpired; simp

end Sys2Proof.Machine
end

