-- ==== Sys2Proof/Laws/ShapeReads.lean ====
section
/-! SUPPORT. The queue and the numbers of units under the operations of Reads. -/

namespace Sys2Proof.Machine

open Sys2Proof

@[simp] theorem State.clearRead_shape (s : State) (idx : Nat) (sub : Nat) : (State.clearRead s idx sub).shape = s.shape := by
  unfold State.clearRead; (try dsimp only); (repeat' split) <;> simp

@[simp] theorem State.readEntry_shape (s : State) (c : Caller) (idx : Nat) (sub : Nat) : (State.readEntry s c idx sub).shape = s.shape := by
  unfold State.readEntry; simp

@[simp] theorem State.readLong_shape (s : State) (c : Caller) (idx : Nat) (sub : Nat) : (State.readLong s c idx sub).shape = s.shape := by
  unfold State.readLong; simp

@[simp] theorem State.keepRead_shape (s : State) (c : Caller) (key : Nat) (v : Nat) : (State.keepRead s c key v).shape = s.shape := by
  unfold State.keepRead; simp

@[simp] theorem State.readSegment_shape (s : State) (c : Caller) (idx : Nat) (sub : Nat) (off : Nat) (len : Nat) : (State.readSegment s c idx sub off len).shape = s.shape := by
  unfold State.readSegment; simp

end Sys2Proof.Machine
end

