-- ==== Sys2Proof/Laws/ShapeWrites.lean ====
section
/-! SUPPORT. The queue and the numbers of units under the operations of Writes. -/

namespace Sys2Proof.Machine

open Sys2Proof

@[simp] theorem State.writePlain_shape (s : State) (c : Caller) (idx : Nat) (sub : Nat) (data : Bytes) : (State.writePlain s c idx sub data).shape = s.shape := by
  unfold State.writePlain; simp

@[simp] theorem State.scheduleModes_shape (s : State) (c : Caller) (was : Nat) (v : Nat) : (State.scheduleModes s c was v).shape = s.shape := by
  unfold State.scheduleModes; simp

@[simp] theorem State.writeSystem_shape (s : State) (c : Caller) (idx : Nat) (sub : Nat) (data : Bytes) : (State.writeSystem s c idx sub data).shape = s.shape := by
  unfold State.writeSystem; simp

@[simp] theorem State.writeTime_shape (s : State) (c : Caller) (idx : Nat) (sub : Nat) (data : Bytes) : (State.writeTime s c idx sub data).shape = s.shape := by
  unfold State.writeTime; simp

@[simp] theorem State.writePhy_shape (s : State) (c : Caller) (p : Nat) (sub : Nat) (data : Bytes) : (State.writePhy s c p sub data).shape = s.shape := by
  unfold State.writePhy; simp

@[simp] theorem State.writeMiddle_shape (s : State) (c : Caller) (idx : Nat) (sub : Nat) (data : Bytes) : (State.writeMiddle s c idx sub data).shape = s.shape := by
  unfold State.writeMiddle; simp

@[simp] theorem State.writeSafety_shape (s : State) (c : Caller) (idx : Nat) (sub : Nat) (data : Bytes) : (State.writeSafety s c idx sub data).shape = s.shape := by
  unfold State.writeSafety; simp

@[simp] theorem State.writeHigh_shape (s : State) (c : Caller) (idx : Nat) (sub : Nat) (data : Bytes) : (State.writeHigh s c idx sub data).shape = s.shape := by
  unfold State.writeHigh; simp

@[simp] theorem State.writeEntry_shape (s : State) (c : Caller) (idx : Nat) (sub : Nat) (data : Bytes) : (State.writeEntry s c idx sub data).shape = s.shape := by
  unfold State.writeEntry; simp

@[simp] theorem State.writeSeg_shape (s : State) (c : Caller) (idx : Nat) (sub : Nat) (off : Nat) (data : Bytes) (last : Bool) : (State.writeSeg s c idx sub off data last).shape = s.shape := by
  unfold State.writeSeg; simp

end Sys2Proof.Machine
end

