-- ==== Sys2Proof/Laws/ShapeReplay.lean ====
section
/-! SUPPORT. The queue and the numbers of units under the operations of Replay. -/

namespace Sys2Proof.Machine

open Sys2Proof

@[simp] theorem State.claimOne_shape (s : State) (h : HeldRec) : (State.claimOne s h).1.shape = s.shape := by
  unfold State.claimOne; (try dsimp only); (repeat' split) <;> simp

@[simp] theorem State.matchOwn_shape (s : State) : (State.matchOwn s).shape = s.shape := by
  unfold State.matchOwn; simp

@[simp] theorem State.replayAs_shape (s : State) (key : OKey) (c : Caller) (live : Bool) (f : State → State) (hf : ∀ y0, (f y0).shape = y0.shape) : (State.replayAs s key c live f).shape = s.shape := by
  unfold State.replayAs
  have h := hf (s.actAs key c { Session.free with state := if live then 2 else 0, host := decide (c.iface = .host), idleNs := key.epoch * 32 })
  simp [State.shape, State.sizes, State.actAs, State.actEnd] at h ⊢
  simp [h]

@[simp] theorem State.viewFrom_shape (s : State) (c : Caller) (tbl : Nat) (b : Bytes) : (State.viewFrom s c tbl b).shape = s.shape := by
  unfold State.viewFrom; simp

@[simp] theorem State.replayRequest_shape (s : State) (key : OKey) (arg : Nat) (p : Bytes) : (State.replayRequest s key arg p).shape = s.shape := by
  unfold State.replayRequest; simp

@[simp] theorem State.flushTransit_shape (s : State) : (State.flushTransit s).shape = s.shape := by
  unfold State.flushTransit; simp

@[simp] theorem State.replayFrame_shape (s : State) (r : JRec) (id : Nat) : (State.replayFrame s r id).shape = s.shape := by
  unfold State.replayFrame; (try dsimp only); (repeat' split) <;> simp

@[simp] theorem State.payloadFrame_shape (s : State) (r : JRec) (b : Bytes) : (State.payloadFrame s r b).shape = s.shape := by
  unfold State.payloadFrame; simp

@[simp] theorem State.replayRemoval_shape (s : State) (n : Nat) (p : Bytes) : (State.replayRemoval s n p).shape = s.shape := by
  unfold State.replayRemoval; simp

@[simp] theorem State.replayLoss_shape (s : State) (r : JRec) : (State.replayLoss s r).shape = s.shape := by
  unfold State.replayLoss; simp

@[simp] theorem State.replayRec_shape (s : State) (h : HeldRec) : (State.replayRec s h).shape = s.shape := by
  unfold State.replayRec; (try dsimp only); (repeat' split) <;> simp

@[simp] theorem State.replayAll_shape (s : State) (l : List HeldRec) : (State.replayAll s l).shape = s.shape := by
  unfold State.replayAll; simp

@[simp] theorem State.gainToken_shape (s : State) (n : Nat) : (State.gainToken s n).shape = s.shape := by
  unfold State.gainToken; simp

@[simp] theorem State.fallOut_shape (s : State) (bit : Nat) : (State.fallOut s bit).shape = s.shape := by
  unfold State.fallOut; simp

@[simp] theorem State.keepRecord_shape (s : State) (r : JRec) : (State.keepRecord s r).shape = s.shape := by
  unfold State.keepRecord; simp

@[simp] theorem journalRecord_shape (m : Bytes) (s : State) : (journalRecord m s).shape = s.shape := by
  unfold journalRecord; simp

@[simp] theorem journalAck_shape (recv : Option Nat) (s : State) : (journalAck recv s).shape = s.shape := by
  unfold journalAck; (try dsimp only); (repeat' split) <;> simp

@[simp] theorem State.noteLag_shape (s : State) (e : Nat) : (State.noteLag s e).shape = s.shape := by
  unfold State.noteLag; (try dsimp only); (repeat' split) <;> (try simp only [shape_ite, ite_self]) <;> (try simp) <;> (try simp [State.shape, State.sizes])

@[simp] theorem standbyEpochRelease_shape (e : Nat) (s : State) : (standbyEpochRelease e s).shape = s.shape := by
  unfold standbyEpochRelease; simp

@[simp] theorem State.fetchPayload_shape (s : State) (key : OKey) : (State.fetchPayload s key).shape = s.shape := by
  unfold State.fetchPayload; (try dsimp only); (repeat' split) <;> simp

@[simp] theorem matchWindowExpired_shape (key : OKey) (s : State) : (matchWindowExpired key s).shape = s.shape := by
  unfold matchWindowExpired; simp

@[simp] theorem State.discardOwn_shape (s : State) (p : Unclaimed → Bool) : (State.discardOwn s p).shape = s.shape := by
  unfold State.discardOwn; (try dsimp only); (repeat' split) <;> (try simp only [shape_ite, ite_self]) <;> (try simp) <;> (try simp [State.shape, State.sizes])

@[simp] theorem unclaimedInputDiscard_shape (s : State) : (unclaimedInputDiscard s).shape = s.shape := by
  unfold unclaimedInputDiscard; simp

@[simp] theorem State.relayIn_shape (s : State) (m : Bytes) : (State.relayIn s m).shape = s.shape := by
  unfold State.relayIn; simp

@[simp] theorem State.removalIn_shape (s : State) (m : Bytes) : (State.removalIn s m).shape = s.shape := by
  unfold State.removalIn; simp

@[simp] theorem relayedFrame_shape (kind : Nat) (m : Bytes) (s : State) : (relayedFrame kind m s).shape = s.shape := by
  unfold relayedFrame; simp

@[simp] theorem lagLimitExceeded_shape (s : State) : (lagLimitExceeded s).shape = s.shape := by
  unfold lagLimitExceeded; simp

@[simp] theorem journalOverflow_shape (s : State) : (journalOverflow s).shape = s.shape := by
  unfold journalOverflow; simp

end Sys2Proof.Machine
end

