-- ==== Sys2Proof/Laws/ShapeSaddleFamily.lean ====
section
/-! SUPPORT. The queue and the numbers of units under the operations of SaddleFamily. -/

namespace Sys2Proof.Machine

open Sys2Proof

@[simp] theorem partnerDeclaredFailed_shape (pins : Pins) (s : State) : (partnerDeclaredFailed pins s).shape = s.shape := by
  unfold partnerDeclaredFailed; simp

@[simp] theorem heartbeatPathLost_shape (elnar : Bool) (pins : Pins) (s : State) : (heartbeatPathLost elnar pins s).shape = s.shape := by
  unfold heartbeatPathLost; simp

@[simp] theorem roleLineMismatch_shape (pins : Pins) (s : State) : (roleLineMismatch pins s).shape = s.shape := by
  unfold roleLineMismatch; simp

@[simp] theorem State.enterFenced_shape (s : State) : (State.enterFenced s).shape = s.shape := by
  unfold State.enterFenced; simp

@[simp] theorem fence_shape (pins : Pins) (s : State) : (fence pins s).shape = s.shape := by
  unfold fence; simp

@[simp] theorem takeoverConfirmed_shape (pins : Pins) (s : State) : (takeoverConfirmed pins s).shape = s.shape := by
  unfold takeoverConfirmed; (try dsimp only); (repeat' split) <;> simp

@[simp] theorem State.orderOwn_shape (s : State) (key : OKey) (x : Unclaimed) : (State.orderOwn s key x).shape = s.shape := by
  unfold State.orderOwn; (try dsimp only); (repeat' split) <;> simp

@[simp] theorem State.orderRetained_shape (s : State) (x : OKey × Nat × Nat) : (State.orderRetained s x).shape = s.shape := by
  unfold State.orderRetained; (try dsimp only); (repeat' split) <;> simp

@[simp] theorem State.ownFrom_shape (s : State) (e : Nat) (keyOf : Unclaimed → OKey) : (State.ownFrom s e keyOf).shape = s.shape := by
  unfold State.ownFrom; (try dsimp only); (repeat' split) <;> (try simp only [shape_ite, ite_self]) <;> (try simp) <;> (try simp [State.shape, State.sizes])

@[simp] theorem catchUpDone_shape (s : State) : (catchUpDone s).shape = s.shape := by
  unfold catchUpDone; simp

@[simp] theorem State.enableOutputs_shape (s : State) : (State.enableOutputs s).shape = s.shape := by
  unfold State.enableOutputs; simp

@[simp] theorem outputEnable_shape (s : State) : (outputEnable s).shape = s.shape := by
  unfold outputEnable; simp

@[simp] theorem State.forgetOwn_shape (s : State) (e : Nat) : (State.forgetOwn s e).shape = s.shape := by
  unfold State.forgetOwn; (try dsimp only); (repeat' split) <;> simp [State.shape, State.sizes]

@[simp] theorem roleInReleased_shape (pins : Pins) (s : State) : (roleInReleased pins s).shape = s.shape := by
  unfold roleInReleased; simp

@[simp] theorem digestCompare_shape (m : Bytes) (s : State) : (digestCompare m s).shape = s.shape := by
  unfold digestCompare; (try dsimp only); (repeat' split) <;> simp

@[simp] theorem resyncStart_shape (m : Option Bytes) (s : State) : (resyncStart m s).shape = s.shape := by
  unfold resyncStart; (try dsimp only); (repeat' split) <;> simp

@[simp] theorem resyncPassDone_shape (marked : Nat) (s : State) : (resyncPassDone marked s).shape = s.shape := by
  unfold resyncPassDone; (try dsimp only); (repeat' split) <;> simp

@[simp] theorem resyncFinal_shape (s : State) : (resyncFinal s).shape = s.shape := by
  unfold resyncFinal; (try dsimp only); (repeat' split) <;> simp

@[simp] theorem State.applyCovered_shape (s : State) (v : Machine.Covered) : (State.applyCovered s v).shape = s.shape := by
  unfold State.applyCovered; (try dsimp only); (repeat' split) <;> simp [State.shape, State.sizes]

@[simp] theorem State.standbyFrom_shape (s : State) (f : Nat) (inbox : List HeldRec) : (State.standbyFrom s f inbox).shape = s.shape := by
  unfold State.standbyFrom; (try dsimp only); (repeat' split) <;> simp [State.shape, State.sizes]

@[simp] theorem resyncComplete_shape (f : Nat) (v : Machine.Covered) (s : State) : (resyncComplete f v s).shape = s.shape := by
  unfold resyncComplete; simp

@[simp] theorem resyncRestart_shape (s : State) : (resyncRestart s).shape = s.shape := by
  unfold resyncRestart; (try dsimp only); (repeat' split) <;> simp

@[simp] theorem State.planSwap_shape (s : State) : (State.planSwap s).shape = s.shape := by
  unfold State.planSwap; simp only [shape_saddle, setStat_shape, sendRecord_shape]

@[simp] theorem swapPlan_shape (s : State) : (swapPlan s).shape = s.shape := by
  unfold swapPlan; simp

@[simp] theorem State.flushUnits_shape (s : State) (e : Nat) : (State.flushUnits s e).shape = s.shape := by
  unfold State.flushUnits; simp

@[simp] theorem State.swapDone_shape (s : State) : (State.swapDone s).shape = s.shape := by
  unfold State.swapDone; simp

@[simp] theorem State.giveAuthority_shape (s : State) (b : Nat) : (State.giveAuthority s b).shape = s.shape := by
  unfold State.giveAuthority; simp

@[simp] theorem State.takeAuthority_shape (s : State) (b : Nat) : (State.takeAuthority s b).shape = s.shape := by
  unfold State.takeAuthority; simp

@[simp] theorem swapPointReached_shape (s : State) : (swapPointReached s).shape = s.shape := by
  unfold swapPointReached; (try dsimp only); (repeat' split) <;> simp

@[simp] theorem tokenHandover_shape (m : Bytes) (s : State) : (tokenHandover m s).shape = s.shape := by
  unfold tokenHandover; simp

@[simp] theorem handoverTimeout_shape (n : Nat) (s : State) : (handoverTimeout n s).shape = s.shape := by
  unfold handoverTimeout; (try dsimp only); (repeat' split) <;> simp

@[simp] theorem swapAbandon_shape (s : State) : (swapAbandon s).shape = s.shape := by
  unfold swapAbandon; (try dsimp only); (repeat' split) <;> simp

@[simp] theorem State.detach_shape (s : State) : (State.detach s).shape = s.shape := by
  unfold State.detach; simp

@[simp] theorem State.roleEffect_shape (s : State) (v : Nat) : (State.roleEffect s v).shape = s.shape := by
  unfold State.roleEffect; simp

@[simp] theorem State.roleCommand_shape (s : State) (c : Caller) (data : Bytes) : (State.roleCommand s c data).shape = s.shape := by
  unfold State.roleCommand; simp

end Sys2Proof.Machine
end

