-- ==== Sys2Proof/Laws/Clock.lean ====
section
/-! SUPPORT. The operations that can move order time: it goes forward only, and nothing else of the shape changes; and what a
reset leaves. -/

namespace Sys2Proof.Machine

open Sys2Proof

/-- A later shape: the same queue, units and raw counter, and an order time that is no earlier. -/
def shapeLe (p q : List Instr × List Nat × Nat × Nat) : Prop :=
  q.1 = p.1 ∧ q.2.1 = p.2.1 ∧ q.2.2.1 = p.2.2.1 ∧ p.2.2.2 ≤ q.2.2.2

/-- `t` holds the queue, the units and the raw counter of `s`, and an order time that is no earlier. -/
def State.onward (s t : State) : Prop := shapeLe s.shape t.shape

theorem onward_refl (s : State) : s.onward s := ⟨rfl, rfl, rfl, Nat.le_refl _⟩

theorem onward_of_shape {s t : State} (h : t.shape = s.shape) : s.onward t := by
  unfold State.onward
  rw [h]
  exact ⟨rfl, rfl, rfl, Nat.le_refl _⟩

theorem onward_trans {a b c : State} (h : a.onward b) (k : b.onward c) : a.onward c :=
  ⟨k.1.trans h.1, k.2.1.trans h.2.1, k.2.2.1.trans h.2.2.1, Nat.le_trans h.2.2.2 k.2.2.2⟩

theorem onward_foldl {α : Type} (f : State → α → State) (h : ∀ (s : State) (x : α), s.onward (f s x)) (l : List α) (s : State) :
    s.onward (l.foldl f s) := by
  induction l generalizing s with
  | nil => exact onward_refl s
  | cons x xs ih => exact onward_trans (h s x) (ih _)

/-- Time passing: the queue and the units stay, and neither the raw counter nor order time goes back. -/
theorem advance_pending (s : State) (t : Nat) : (s.advance t).pending = s.pending := rfl
theorem advance_sizes (s : State) (t : Nat) : (s.advance t).sizes = s.sizes := by
  simp [State.sizes, State.advance]

/-- A forward step of the working clock (R30). -/
theorem onward_forwardStep (s : State) (b : Int) : s.onward (s.forwardStep b) := by
  unfold State.forwardStep
  dsimp only
  refine onward_trans (b := { s with
    time := { s.time with orderNs := max s.time.orderNs s.workingNs, forwardStep := true, stepNs := s.workingNs },
    ord := { s.ord with units := s.ord.units.map (fun (u : SortBuffer) => { u with suspend := some (s.time.raw + 64) }) } })
    ⟨rfl, by simp [State.shape, State.sizes], rfl, Nat.le_max_left _ _⟩ (onward_of_shape ?_)
  simp

theorem onward_workingChanged (s : State) (b : Int) : s.onward (s.workingChanged b) := by
  unfold State.workingChanged
  split
  · exact onward_forwardStep s b
  · split
    · exact onward_of_shape (by simp)
    · exact onward_refl s

theorem onward_applyCorrection (s : State) (x : Correction) : s.onward (s.applyCorrection x) := by
  unfold State.applyCorrection
  dsimp only
  generalize h : (if ((s.modSet x.set (TimeSet.correct s.time.raw (s.reg 0x2000 3) (decide (s.reg 0x2000 2 = 1)) x)).timeSet x.set).slewRem = 0 then s.modSet x.set (TimeSet.correct s.time.raw (s.reg 0x2000 3) (decide (s.reg 0x2000 2 = 1)) x)
    else (s.modSet x.set (TimeSet.correct s.time.raw (s.reg 0x2000 3) (decide (s.reg 0x2000 2 = 1)) x)).orStat 0x2000 7 (2 <<< x.set)) = u
  have hu : s.onward u := onward_of_shape (by rw [← h]; split <;> simp)
  split
  · split
    · exact onward_trans hu (onward_workingChanged _ _)
    · exact onward_trans hu (onward_workingChanged _ _)
    · exact hu
  · exact hu

/-- Corrections applied at r0 (R85). -/
theorem onward_applyCorrections (n : Nat) (s : State) : s.onward (applyCorrections n s) := by
  unfold applyCorrections
  split
  · exact onward_trans (onward_of_shape (by simp)) (onward_foldl _ onward_applyCorrection _ _)
  · exact onward_refl s

theorem onward_clockApplied (a : Applied) (s : State) : s.onward (s.clockApplied a) := by
  unfold State.clockApplied
  split
  · exact onward_trans (onward_of_shape (by simp)) (onward_workingChanged _ _)
  · exact onward_refl s

/-- What an applied change of configuration does (R40, R64). -/
theorem onward_applied (s : State) (a : Applied) (before : State) : s.onward (s.applied a before) := by
  unfold State.applied State.onward
  simp
  exact onward_clockApplied a s

/-- A commit at its apply epoch (R64). -/
theorem onward_commitApply (s : State) : s.onward (commitApply s) := by
  unfold commitApply
  dsimp only
  split
  · refine onward_trans (onward_of_shape (t := s.layStaged s.dict.staging.epoch s.dict.staging.armed) (by simp)) ?_
    unfold State.onward
    simp only [State.endCommit_shape, shape_foldl, State.overlayRecord_shape, implies_true]
    exact onward_applied _ _ _
  · exact onward_refl s

theorem onward_applyImage (s : State) : s.onward s.applyImage := by
  unfold State.applyImage State.onward
  simp only [State.noteOut_shape, shape_foldl, State.placeImageRow_shape, implies_true]
  exact onward_applied _ _ _

/-- The end of the self-test (R469). -/
theorem onward_selfTestEnd (results procs banks : Nat) (s : State) : s.onward (selfTestEnd results procs banks s) := by
  unfold selfTestEnd
  split
  · exact onward_trans (onward_of_shape (by simp)) (onward_applyImage _)
  · exact onward_refl s

/-- A standby that takes up from its own image (R319). -/
theorem onward_syncingReload (s : State) : s.onward (syncingReload s) := by
  unfold syncingReload State.reloadCovered
  split
  · unfold State.onward
    simp only [State.enableOutputs_shape, State.forgetOwn_shape]
    refine onward_trans (onward_of_shape ?_) (onward_applyImage _)
    simp [State.shape, State.sizes]
  · exact onward_refl s

/-! ### Resets -/

/-- The shape that every reset leaves: the queue stays, and the units, the raw counter and order time are as after reset. -/
def State.resetShape (s : State) : List Instr × List Nat × Nat × Nat := (s.pending, State.reset.sizes, 0, 0)

/-- A reset of a cause (Table 16.8). -/
@[simp] theorem resetWith_shape (s : State) (cause : Nat) : (s.resetWith cause).shape = s.resetShape := rfl

/-- Reset is held. -/
@[simp] theorem holdReset_shape (s : State) (cause : Nat) : (s.holdReset cause).shape = s.resetShape := rfl

/-- A fatal reaction's reset (R367). -/
theorem fatalResetHoldEnd_cases (s : State) :
    fatalResetHoldEnd s = s ∨ (fatalResetHoldEnd s).shape = s.resetShape := by
  unfold fatalResetHoldEnd
  split
  · split
    · exact .inr (by simp)
    · exact .inl rfl
  · exact .inl rfl

/-- Saddle, power and the keys change together. -/
theorem shape_wake (s : State) (z : Saddle) (x : Power) (y : KeyStore)
    (h : x.lowQueues.length = s.power.lowQueues.length) :
    ({ s with saddle := z, power := x, keys := y } : State).shape = s.shape := by simp [State.shape, State.sizes, h]

/-- A wake (R403). -/
theorem railsGood_cases (macOk : Bool) (s : State) : railsGood macOk s = s ∨ (railsGood macOk s).shape = s.resetShape := by
  unfold railsGood
  split
  · exact .inl rfl
  · right
    dsimp only
    generalize (if (s.slot 5).kind = 0 then 1 else if (!macOk) = true then 2 else 0) = code
    split <;> simp [shape_wake]

end Sys2Proof.Machine
end

