-- ==== Sys2Proof/Laws/Keep.lean ====
section
/-! SUPPORT. What the shared operations of counters, events, faults, pairing and requests leave unchanged, field by field. -/

namespace Sys2Proof.Machine

open Sys2Proof

/-! ### Fields of a fold and of a choice between states -/

@[simp] theorem foldl_time {α : Type} (g : State → α → State) (h : ∀ s x, (g s x).time = s.time) (l : List α) (s : State) : (l.foldl g s).time = s.time := by
  induction l generalizing s with
  | nil => rfl
  | cons x xs ih => rw [List.foldl, ih, h]
@[simp] theorem foldl_ord {α : Type} (g : State → α → State) (h : ∀ s x, (g s x).ord = s.ord) (l : List α) (s : State) : (l.foldl g s).ord = s.ord := by
  induction l generalizing s with
  | nil => rfl
  | cons x xs ih => rw [List.foldl, ih, h]
@[simp] theorem foldl_dict {α : Type} (g : State → α → State) (h : ∀ s x, (g s x).dict = s.dict) (l : List α) (s : State) : (l.foldl g s).dict = s.dict := by
  induction l generalizing s with
  | nil => rfl
  | cons x xs ih => rw [List.foldl, ih, h]
@[simp] theorem foldl_access {α : Type} (g : State → α → State) (h : ∀ s x, (g s x).access = s.access) (l : List α) (s : State) : (l.foldl g s).access = s.access := by
  induction l generalizing s with
  | nil => rfl
  | cons x xs ih => rw [List.foldl, ih, h]
@[simp] theorem foldl_journal {α : Type} (g : State → α → State) (h : ∀ s x, (g s x).journal = s.journal) (l : List α) (s : State) : (l.foldl g s).journal = s.journal := by
  induction l generalizing s with
  | nil => rfl
  | cons x xs ih => rw [List.foldl, ih, h]
@[simp] theorem foldl_safety {α : Type} (g : State → α → State) (h : ∀ s x, (g s x).safety = s.safety) (l : List α) (s : State) : (l.foldl g s).safety = s.safety := by
  induction l generalizing s with
  | nil => rfl
  | cons x xs ih => rw [List.foldl, ih, h]
@[simp] theorem foldl_host {α : Type} (g : State → α → State) (h : ∀ s x, (g s x).host = s.host) (l : List α) (s : State) : (l.foldl g s).host = s.host := by
  induction l generalizing s with
  | nil => rfl
  | cons x xs ih => rw [List.foldl, ih, h]
@[simp] theorem foldl_ports {α : Type} (g : State → α → State) (h : ∀ s x, (g s x).ports = s.ports) (l : List α) (s : State) : (l.foldl g s).ports = s.ports := by
  induction l generalizing s with
  | nil => rfl
  | cons x xs ih => rw [List.foldl, ih, h]
@[simp] theorem foldl_saddle {α : Type} (g : State → α → State) (h : ∀ s x, (g s x).saddle = s.saddle) (l : List α) (s : State) : (l.foldl g s).saddle = s.saddle := by
  induction l generalizing s with
  | nil => rfl
  | cons x xs ih => rw [List.foldl, ih, h]
@[simp] theorem foldl_keys {α : Type} (g : State → α → State) (h : ∀ s x, (g s x).keys = s.keys) (l : List α) (s : State) : (l.foldl g s).keys = s.keys := by
  induction l generalizing s with
  | nil => rfl
  | cons x xs ih => rw [List.foldl, ih, h]
@[simp] theorem foldl_power {α : Type} (g : State → α → State) (h : ∀ s x, (g s x).power = s.power) (l : List α) (s : State) : (l.foldl g s).power = s.power := by
  induction l generalizing s with
  | nil => rfl
  | cons x xs ih => rw [List.foldl, ih, h]
@[simp] theorem foldl_basin {α : Type} (g : State → α → State) (h : ∀ s x, (g s x).basin = s.basin) (l : List α) (s : State) : (l.foldl g s).basin = s.basin := by
  induction l generalizing s with
  | nil => rfl
  | cons x xs ih => rw [List.foldl, ih, h]
@[simp] theorem foldl_narrows {α : Type} (g : State → α → State) (h : ∀ s x, (g s x).narrows = s.narrows) (l : List α) (s : State) : (l.foldl g s).narrows = s.narrows := by
  induction l generalizing s with
  | nil => rfl
  | cons x xs ih => rw [List.foldl, ih, h]
@[simp] theorem foldl_legacy {α : Type} (g : State → α → State) (h : ∀ s x, (g s x).legacy = s.legacy) (l : List α) (s : State) : (l.foldl g s).legacy = s.legacy := by
  induction l generalizing s with
  | nil => rfl
  | cons x xs ih => rw [List.foldl, ih, h]
@[simp] theorem foldl_ford {α : Type} (g : State → α → State) (h : ∀ s x, (g s x).ford = s.ford) (l : List α) (s : State) : (l.foldl g s).ford = s.ford := by
  induction l generalizing s with
  | nil => rfl
  | cons x xs ih => rw [List.foldl, ih, h]
@[simp] theorem foldl_elnar {α : Type} (g : State → α → State) (h : ∀ s x, (g s x).elnar = s.elnar) (l : List α) (s : State) : (l.foldl g s).elnar = s.elnar := by
  induction l generalizing s with
  | nil => rfl
  | cons x xs ih => rw [List.foldl, ih, h]
@[simp] theorem foldl_fresh {α : Type} (g : State → α → State) (h : ∀ s x, (g s x).fresh = s.fresh) (l : List α) (s : State) : (l.foldl g s).fresh = s.fresh := by
  induction l generalizing s with
  | nil => rfl
  | cons x xs ih => rw [List.foldl, ih, h]
@[simp] theorem foldl_pending {α : Type} (g : State → α → State) (h : ∀ s x, (g s x).pending = s.pending) (l : List α) (s : State) : (l.foldl g s).pending = s.pending := by
  induction l generalizing s with
  | nil => rfl
  | cons x xs ih => rw [List.foldl, ih, h]
@[simp] theorem ite_time (p : Prop) [Decidable p] (a b : State) : (if p then a else b).time = if p then a.time else b.time := by split <;> rfl
@[simp] theorem ite_ord (p : Prop) [Decidable p] (a b : State) : (if p then a else b).ord = if p then a.ord else b.ord := by split <;> rfl
@[simp] theorem ite_dict (p : Prop) [Decidable p] (a b : State) : (if p then a else b).dict = if p then a.dict else b.dict := by split <;> rfl
@[simp] theorem ite_access (p : Prop) [Decidable p] (a b : State) : (if p then a else b).access = if p then a.access else b.access := by split <;> rfl
@[simp] theorem ite_journal (p : Prop) [Decidable p] (a b : State) : (if p then a else b).journal = if p then a.journal else b.journal := by split <;> rfl
@[simp] theorem ite_safety (p : Prop) [Decidable p] (a b : State) : (if p then a else b).safety = if p then a.safety else b.safety := by split <;> rfl
@[simp] theorem ite_host (p : Prop) [Decidable p] (a b : State) : (if p then a else b).host = if p then a.host else b.host := by split <;> rfl
@[simp] theorem ite_ports (p : Prop) [Decidable p] (a b : State) : (if p then a else b).ports = if p then a.ports else b.ports := by split <;> rfl
@[simp] theorem ite_saddle (p : Prop) [Decidable p] (a b : State) : (if p then a else b).saddle = if p then a.saddle else b.saddle := by split <;> rfl
@[simp] theorem ite_keys (p : Prop) [Decidable p] (a b : State) : (if p then a else b).keys = if p then a.keys else b.keys := by split <;> rfl
@[simp] theorem ite_power (p : Prop) [Decidable p] (a b : State) : (if p then a else b).power = if p then a.power else b.power := by split <;> rfl
@[simp] theorem ite_basin (p : Prop) [Decidable p] (a b : State) : (if p then a else b).basin = if p then a.basin else b.basin := by split <;> rfl
@[simp] theorem ite_narrows (p : Prop) [Decidable p] (a b : State) : (if p then a else b).narrows = if p then a.narrows else b.narrows := by split <;> rfl
@[simp] theorem ite_legacy (p : Prop) [Decidable p] (a b : State) : (if p then a else b).legacy = if p then a.legacy else b.legacy := by split <;> rfl
@[simp] theorem ite_ford (p : Prop) [Decidable p] (a b : State) : (if p then a else b).ford = if p then a.ford else b.ford := by split <;> rfl
@[simp] theorem ite_elnar (p : Prop) [Decidable p] (a b : State) : (if p then a else b).elnar = if p then a.elnar else b.elnar := by split <;> rfl
@[simp] theorem ite_fresh (p : Prop) [Decidable p] (a b : State) : (if p then a else b).fresh = if p then a.fresh else b.fresh := by split <;> rfl
@[simp] theorem ite_pending (p : Prop) [Decidable p] (a b : State) : (if p then a else b).pending = if p then a.pending else b.pending := by split <;> rfl

@[simp] theorem State.orStat_time (s : State) (idx : Nat) (sub : Nat) (bits : Nat) : (State.orStat s idx sub bits).time = s.time := by
  unfold State.orStat; simp

@[simp] theorem State.orStat_ord (s : State) (idx : Nat) (sub : Nat) (bits : Nat) : (State.orStat s idx sub bits).ord = s.ord := by
  unfold State.orStat; simp

@[simp] theorem State.orStat_access (s : State) (idx : Nat) (sub : Nat) (bits : Nat) : (State.orStat s idx sub bits).access = s.access := by
  unfold State.orStat; simp

@[simp] theorem State.orStat_journal (s : State) (idx : Nat) (sub : Nat) (bits : Nat) : (State.orStat s idx sub bits).journal = s.journal := by
  unfold State.orStat; simp

@[simp] theorem State.orStat_safety (s : State) (idx : Nat) (sub : Nat) (bits : Nat) : (State.orStat s idx sub bits).safety = s.safety := by
  unfold State.orStat; simp

@[simp] theorem State.orStat_host (s : State) (idx : Nat) (sub : Nat) (bits : Nat) : (State.orStat s idx sub bits).host = s.host := by
  unfold State.orStat; simp

@[simp] theorem State.orStat_ports (s : State) (idx : Nat) (sub : Nat) (bits : Nat) : (State.orStat s idx sub bits).ports = s.ports := by
  unfold State.orStat; simp

@[simp] theorem State.orStat_saddle (s : State) (idx : Nat) (sub : Nat) (bits : Nat) : (State.orStat s idx sub bits).saddle = s.saddle := by
  unfold State.orStat; simp

@[simp] theorem State.orStat_keys (s : State) (idx : Nat) (sub : Nat) (bits : Nat) : (State.orStat s idx sub bits).keys = s.keys := by
  unfold State.orStat; simp

@[simp] theorem State.orStat_power (s : State) (idx : Nat) (sub : Nat) (bits : Nat) : (State.orStat s idx sub bits).power = s.power := by
  unfold State.orStat; simp

@[simp] theorem State.orStat_basin (s : State) (idx : Nat) (sub : Nat) (bits : Nat) : (State.orStat s idx sub bits).basin = s.basin := by
  unfold State.orStat; simp

@[simp] theorem State.orStat_narrows (s : State) (idx : Nat) (sub : Nat) (bits : Nat) : (State.orStat s idx sub bits).narrows = s.narrows := by
  unfold State.orStat; simp

@[simp] theorem State.orStat_legacy (s : State) (idx : Nat) (sub : Nat) (bits : Nat) : (State.orStat s idx sub bits).legacy = s.legacy := by
  unfold State.orStat; simp

@[simp] theorem State.orStat_ford (s : State) (idx : Nat) (sub : Nat) (bits : Nat) : (State.orStat s idx sub bits).ford = s.ford := by
  unfold State.orStat; simp

@[simp] theorem State.orStat_elnar (s : State) (idx : Nat) (sub : Nat) (bits : Nat) : (State.orStat s idx sub bits).elnar = s.elnar := by
  unfold State.orStat; simp

@[simp] theorem State.orStat_fresh (s : State) (idx : Nat) (sub : Nat) (bits : Nat) : (State.orStat s idx sub bits).fresh = s.fresh := by
  unfold State.orStat; simp

@[simp] theorem State.orStat_pending (s : State) (idx : Nat) (sub : Nat) (bits : Nat) : (State.orStat s idx sub bits).pending = s.pending := by
  unfold State.orStat; simp

@[simp] theorem State.bumpRow_time (s : State) (tbl : Nat) (pos : Nat) (sub : Nat) : (State.bumpRow s tbl pos sub).time = s.time := by
  unfold State.bumpRow; simp

@[simp] theorem State.bumpRow_ord (s : State) (tbl : Nat) (pos : Nat) (sub : Nat) : (State.bumpRow s tbl pos sub).ord = s.ord := by
  unfold State.bumpRow; simp

@[simp] theorem State.bumpRow_access (s : State) (tbl : Nat) (pos : Nat) (sub : Nat) : (State.bumpRow s tbl pos sub).access = s.access := by
  unfold State.bumpRow; simp

@[simp] theorem State.bumpRow_journal (s : State) (tbl : Nat) (pos : Nat) (sub : Nat) : (State.bumpRow s tbl pos sub).journal = s.journal := by
  unfold State.bumpRow; simp

@[simp] theorem State.bumpRow_safety (s : State) (tbl : Nat) (pos : Nat) (sub : Nat) : (State.bumpRow s tbl pos sub).safety = s.safety := by
  unfold State.bumpRow; simp

@[simp] theorem State.bumpRow_host (s : State) (tbl : Nat) (pos : Nat) (sub : Nat) : (State.bumpRow s tbl pos sub).host = s.host := by
  unfold State.bumpRow; simp

@[simp] theorem State.bumpRow_ports (s : State) (tbl : Nat) (pos : Nat) (sub : Nat) : (State.bumpRow s tbl pos sub).ports = s.ports := by
  unfold State.bumpRow; simp

@[simp] theorem State.bumpRow_saddle (s : State) (tbl : Nat) (pos : Nat) (sub : Nat) : (State.bumpRow s tbl pos sub).saddle = s.saddle := by
  unfold State.bumpRow; simp

@[simp] theorem State.bumpRow_keys (s : State) (tbl : Nat) (pos : Nat) (sub : Nat) : (State.bumpRow s tbl pos sub).keys = s.keys := by
  unfold State.bumpRow; simp

@[simp] theorem State.bumpRow_power (s : State) (tbl : Nat) (pos : Nat) (sub : Nat) : (State.bumpRow s tbl pos sub).power = s.power := by
  unfold State.bumpRow; simp

@[simp] theorem State.bumpRow_basin (s : State) (tbl : Nat) (pos : Nat) (sub : Nat) : (State.bumpRow s tbl pos sub).basin = s.basin := by
  unfold State.bumpRow; simp

@[simp] theorem State.bumpRow_narrows (s : State) (tbl : Nat) (pos : Nat) (sub : Nat) : (State.bumpRow s tbl pos sub).narrows = s.narrows := by
  unfold State.bumpRow; simp

@[simp] theorem State.bumpRow_legacy (s : State) (tbl : Nat) (pos : Nat) (sub : Nat) : (State.bumpRow s tbl pos sub).legacy = s.legacy := by
  unfold State.bumpRow; simp

@[simp] theorem State.bumpRow_ford (s : State) (tbl : Nat) (pos : Nat) (sub : Nat) : (State.bumpRow s tbl pos sub).ford = s.ford := by
  unfold State.bumpRow; simp

@[simp] theorem State.bumpRow_elnar (s : State) (tbl : Nat) (pos : Nat) (sub : Nat) : (State.bumpRow s tbl pos sub).elnar = s.elnar := by
  unfold State.bumpRow; simp

@[simp] theorem State.bumpRow_fresh (s : State) (tbl : Nat) (pos : Nat) (sub : Nat) : (State.bumpRow s tbl pos sub).fresh = s.fresh := by
  unfold State.bumpRow; simp

@[simp] theorem State.bumpRow_pending (s : State) (tbl : Nat) (pos : Nat) (sub : Nat) : (State.bumpRow s tbl pos sub).pending = s.pending := by
  unfold State.bumpRow; simp

@[simp] theorem State.signalVector_time (s : State) (v : Nat) : (State.signalVector s v).time = s.time := by
  unfold State.signalVector; simp

@[simp] theorem State.signalVector_ord (s : State) (v : Nat) : (State.signalVector s v).ord = s.ord := by
  unfold State.signalVector; simp

@[simp] theorem State.signalVector_dict (s : State) (v : Nat) : (State.signalVector s v).dict = s.dict := by
  unfold State.signalVector; simp

@[simp] theorem State.signalVector_access (s : State) (v : Nat) : (State.signalVector s v).access = s.access := by
  unfold State.signalVector; simp

@[simp] theorem State.signalVector_journal (s : State) (v : Nat) : (State.signalVector s v).journal = s.journal := by
  unfold State.signalVector; simp

@[simp] theorem State.signalVector_safety (s : State) (v : Nat) : (State.signalVector s v).safety = s.safety := by
  unfold State.signalVector; simp

@[simp] theorem State.signalVector_ports (s : State) (v : Nat) : (State.signalVector s v).ports = s.ports := by
  unfold State.signalVector; simp

@[simp] theorem State.signalVector_saddle (s : State) (v : Nat) : (State.signalVector s v).saddle = s.saddle := by
  unfold State.signalVector; simp

@[simp] theorem State.signalVector_keys (s : State) (v : Nat) : (State.signalVector s v).keys = s.keys := by
  unfold State.signalVector; simp

@[simp] theorem State.signalVector_power (s : State) (v : Nat) : (State.signalVector s v).power = s.power := by
  unfold State.signalVector; simp

@[simp] theorem State.signalVector_basin (s : State) (v : Nat) : (State.signalVector s v).basin = s.basin := by
  unfold State.signalVector; simp

@[simp] theorem State.signalVector_narrows (s : State) (v : Nat) : (State.signalVector s v).narrows = s.narrows := by
  unfold State.signalVector; simp

@[simp] theorem State.signalVector_legacy (s : State) (v : Nat) : (State.signalVector s v).legacy = s.legacy := by
  unfold State.signalVector; simp

@[simp] theorem State.signalVector_ford (s : State) (v : Nat) : (State.signalVector s v).ford = s.ford := by
  unfold State.signalVector; simp

@[simp] theorem State.signalVector_elnar (s : State) (v : Nat) : (State.signalVector s v).elnar = s.elnar := by
  unfold State.signalVector; simp

@[simp] theorem State.signalVector_fresh (s : State) (v : Nat) : (State.signalVector s v).fresh = s.fresh := by
  unfold State.signalVector; simp

@[simp] theorem State.signalVector_pending (s : State) (v : Nat) : (State.signalVector s v).pending = s.pending := by
  unfold State.signalVector; simp

@[simp] theorem State.flagCounter_time (s : State) (idx : Nat) (sub : Nat) (bit : Nat) : (State.flagCounter s idx sub bit).time = s.time := by
  unfold State.flagCounter; simp

@[simp] theorem State.flagCounter_access (s : State) (idx : Nat) (sub : Nat) (bit : Nat) : (State.flagCounter s idx sub bit).access = s.access := by
  unfold State.flagCounter; simp

@[simp] theorem State.flagCounter_safety (s : State) (idx : Nat) (sub : Nat) (bit : Nat) : (State.flagCounter s idx sub bit).safety = s.safety := by
  unfold State.flagCounter; simp

@[simp] theorem State.flagCounter_host (s : State) (idx : Nat) (sub : Nat) (bit : Nat) : (State.flagCounter s idx sub bit).host = s.host := by
  unfold State.flagCounter; simp

@[simp] theorem State.flagCounter_ports (s : State) (idx : Nat) (sub : Nat) (bit : Nat) : (State.flagCounter s idx sub bit).ports = s.ports := by
  unfold State.flagCounter; simp

@[simp] theorem State.flagCounter_saddle (s : State) (idx : Nat) (sub : Nat) (bit : Nat) : (State.flagCounter s idx sub bit).saddle = s.saddle := by
  unfold State.flagCounter; simp

@[simp] theorem State.flagCounter_keys (s : State) (idx : Nat) (sub : Nat) (bit : Nat) : (State.flagCounter s idx sub bit).keys = s.keys := by
  unfold State.flagCounter; simp

@[simp] theorem State.flagCounter_power (s : State) (idx : Nat) (sub : Nat) (bit : Nat) : (State.flagCounter s idx sub bit).power = s.power := by
  unfold State.flagCounter; simp

@[simp] theorem State.flagCounter_basin (s : State) (idx : Nat) (sub : Nat) (bit : Nat) : (State.flagCounter s idx sub bit).basin = s.basin := by
  unfold State.flagCounter; simp

@[simp] theorem State.flagCounter_narrows (s : State) (idx : Nat) (sub : Nat) (bit : Nat) : (State.flagCounter s idx sub bit).narrows = s.narrows := by
  unfold State.flagCounter; simp

@[simp] theorem State.flagCounter_legacy (s : State) (idx : Nat) (sub : Nat) (bit : Nat) : (State.flagCounter s idx sub bit).legacy = s.legacy := by
  unfold State.flagCounter; simp

@[simp] theorem State.flagCounter_ford (s : State) (idx : Nat) (sub : Nat) (bit : Nat) : (State.flagCounter s idx sub bit).ford = s.ford := by
  unfold State.flagCounter; simp

@[simp] theorem State.flagCounter_elnar (s : State) (idx : Nat) (sub : Nat) (bit : Nat) : (State.flagCounter s idx sub bit).elnar = s.elnar := by
  unfold State.flagCounter; simp

@[simp] theorem State.flagCounter_fresh (s : State) (idx : Nat) (sub : Nat) (bit : Nat) : (State.flagCounter s idx sub bit).fresh = s.fresh := by
  unfold State.flagCounter; simp

@[simp] theorem State.flagCounter_pending (s : State) (idx : Nat) (sub : Nat) (bit : Nat) : (State.flagCounter s idx sub bit).pending = s.pending := by
  unfold State.flagCounter; simp

@[simp] theorem State.count64_time (s : State) (idx : Nat) (sub : Nat) (n : Nat) : (State.count64 s idx sub n).time = s.time := by
  unfold State.count64; simp

@[simp] theorem State.count64_ord (s : State) (idx : Nat) (sub : Nat) (n : Nat) : (State.count64 s idx sub n).ord = s.ord := by
  unfold State.count64; simp

@[simp] theorem State.count64_access (s : State) (idx : Nat) (sub : Nat) (n : Nat) : (State.count64 s idx sub n).access = s.access := by
  unfold State.count64; simp

@[simp] theorem State.count64_journal (s : State) (idx : Nat) (sub : Nat) (n : Nat) : (State.count64 s idx sub n).journal = s.journal := by
  unfold State.count64; simp

@[simp] theorem State.count64_safety (s : State) (idx : Nat) (sub : Nat) (n : Nat) : (State.count64 s idx sub n).safety = s.safety := by
  unfold State.count64; simp

@[simp] theorem State.count64_host (s : State) (idx : Nat) (sub : Nat) (n : Nat) : (State.count64 s idx sub n).host = s.host := by
  unfold State.count64; simp

@[simp] theorem State.count64_ports (s : State) (idx : Nat) (sub : Nat) (n : Nat) : (State.count64 s idx sub n).ports = s.ports := by
  unfold State.count64; simp

@[simp] theorem State.count64_saddle (s : State) (idx : Nat) (sub : Nat) (n : Nat) : (State.count64 s idx sub n).saddle = s.saddle := by
  unfold State.count64; simp

@[simp] theorem State.count64_keys (s : State) (idx : Nat) (sub : Nat) (n : Nat) : (State.count64 s idx sub n).keys = s.keys := by
  unfold State.count64; simp

@[simp] theorem State.count64_power (s : State) (idx : Nat) (sub : Nat) (n : Nat) : (State.count64 s idx sub n).power = s.power := by
  unfold State.count64; simp

@[simp] theorem State.count64_basin (s : State) (idx : Nat) (sub : Nat) (n : Nat) : (State.count64 s idx sub n).basin = s.basin := by
  unfold State.count64; simp

@[simp] theorem State.count64_narrows (s : State) (idx : Nat) (sub : Nat) (n : Nat) : (State.count64 s idx sub n).narrows = s.narrows := by
  unfold State.count64; simp

@[simp] theorem State.count64_legacy (s : State) (idx : Nat) (sub : Nat) (n : Nat) : (State.count64 s idx sub n).legacy = s.legacy := by
  unfold State.count64; simp

@[simp] theorem State.count64_ford (s : State) (idx : Nat) (sub : Nat) (n : Nat) : (State.count64 s idx sub n).ford = s.ford := by
  unfold State.count64; simp

@[simp] theorem State.count64_elnar (s : State) (idx : Nat) (sub : Nat) (n : Nat) : (State.count64 s idx sub n).elnar = s.elnar := by
  unfold State.count64; simp

@[simp] theorem State.count64_fresh (s : State) (idx : Nat) (sub : Nat) (n : Nat) : (State.count64 s idx sub n).fresh = s.fresh := by
  unfold State.count64; simp

@[simp] theorem State.count64_pending (s : State) (idx : Nat) (sub : Nat) (n : Nat) : (State.count64 s idx sub n).pending = s.pending := by
  unfold State.count64; simp

@[simp] theorem State.count32_time (s : State) (idx : Nat) (sub : Nat) : (State.count32 s idx sub).time = s.time := by
  unfold State.count32; simp

@[simp] theorem State.count32_access (s : State) (idx : Nat) (sub : Nat) : (State.count32 s idx sub).access = s.access := by
  unfold State.count32; simp

@[simp] theorem State.count32_safety (s : State) (idx : Nat) (sub : Nat) : (State.count32 s idx sub).safety = s.safety := by
  unfold State.count32; simp

@[simp] theorem State.count32_host (s : State) (idx : Nat) (sub : Nat) : (State.count32 s idx sub).host = s.host := by
  unfold State.count32; simp

@[simp] theorem State.count32_ports (s : State) (idx : Nat) (sub : Nat) : (State.count32 s idx sub).ports = s.ports := by
  unfold State.count32; simp

@[simp] theorem State.count32_saddle (s : State) (idx : Nat) (sub : Nat) : (State.count32 s idx sub).saddle = s.saddle := by
  unfold State.count32; simp

@[simp] theorem State.count32_keys (s : State) (idx : Nat) (sub : Nat) : (State.count32 s idx sub).keys = s.keys := by
  unfold State.count32; simp

@[simp] theorem State.count32_power (s : State) (idx : Nat) (sub : Nat) : (State.count32 s idx sub).power = s.power := by
  unfold State.count32; simp

@[simp] theorem State.count32_basin (s : State) (idx : Nat) (sub : Nat) : (State.count32 s idx sub).basin = s.basin := by
  unfold State.count32; simp

@[simp] theorem State.count32_narrows (s : State) (idx : Nat) (sub : Nat) : (State.count32 s idx sub).narrows = s.narrows := by
  unfold State.count32; simp

@[simp] theorem State.count32_legacy (s : State) (idx : Nat) (sub : Nat) : (State.count32 s idx sub).legacy = s.legacy := by
  unfold State.count32; simp

@[simp] theorem State.count32_ford (s : State) (idx : Nat) (sub : Nat) : (State.count32 s idx sub).ford = s.ford := by
  unfold State.count32; simp

@[simp] theorem State.count32_elnar (s : State) (idx : Nat) (sub : Nat) : (State.count32 s idx sub).elnar = s.elnar := by
  unfold State.count32; simp

@[simp] theorem State.count32_fresh (s : State) (idx : Nat) (sub : Nat) : (State.count32 s idx sub).fresh = s.fresh := by
  unfold State.count32; simp

@[simp] theorem State.count32_pending (s : State) (idx : Nat) (sub : Nat) : (State.count32 s idx sub).pending = s.pending := by
  unfold State.count32; simp

@[simp] theorem State.count32Own_time (s : State) (idx : Nat) (sub : Nat) (fidx : Nat) (fsub : Nat) (bit : Nat) : (State.count32Own s idx sub fidx fsub bit).time = s.time := by
  unfold State.count32Own; simp

@[simp] theorem State.count32Own_ord (s : State) (idx : Nat) (sub : Nat) (fidx : Nat) (fsub : Nat) (bit : Nat) : (State.count32Own s idx sub fidx fsub bit).ord = s.ord := by
  unfold State.count32Own; simp

@[simp] theorem State.count32Own_access (s : State) (idx : Nat) (sub : Nat) (fidx : Nat) (fsub : Nat) (bit : Nat) : (State.count32Own s idx sub fidx fsub bit).access = s.access := by
  unfold State.count32Own; simp

@[simp] theorem State.count32Own_journal (s : State) (idx : Nat) (sub : Nat) (fidx : Nat) (fsub : Nat) (bit : Nat) : (State.count32Own s idx sub fidx fsub bit).journal = s.journal := by
  unfold State.count32Own; simp

@[simp] theorem State.count32Own_safety (s : State) (idx : Nat) (sub : Nat) (fidx : Nat) (fsub : Nat) (bit : Nat) : (State.count32Own s idx sub fidx fsub bit).safety = s.safety := by
  unfold State.count32Own; simp

@[simp] theorem State.count32Own_host (s : State) (idx : Nat) (sub : Nat) (fidx : Nat) (fsub : Nat) (bit : Nat) : (State.count32Own s idx sub fidx fsub bit).host = s.host := by
  unfold State.count32Own; simp

@[simp] theorem State.count32Own_ports (s : State) (idx : Nat) (sub : Nat) (fidx : Nat) (fsub : Nat) (bit : Nat) : (State.count32Own s idx sub fidx fsub bit).ports = s.ports := by
  unfold State.count32Own; simp

@[simp] theorem State.count32Own_saddle (s : State) (idx : Nat) (sub : Nat) (fidx : Nat) (fsub : Nat) (bit : Nat) : (State.count32Own s idx sub fidx fsub bit).saddle = s.saddle := by
  unfold State.count32Own; simp

@[simp] theorem State.count32Own_keys (s : State) (idx : Nat) (sub : Nat) (fidx : Nat) (fsub : Nat) (bit : Nat) : (State.count32Own s idx sub fidx fsub bit).keys = s.keys := by
  unfold State.count32Own; simp

@[simp] theorem State.count32Own_power (s : State) (idx : Nat) (sub : Nat) (fidx : Nat) (fsub : Nat) (bit : Nat) : (State.count32Own s idx sub fidx fsub bit).power = s.power := by
  unfold State.count32Own; simp

@[simp] theorem State.count32Own_basin (s : State) (idx : Nat) (sub : Nat) (fidx : Nat) (fsub : Nat) (bit : Nat) : (State.count32Own s idx sub fidx fsub bit).basin = s.basin := by
  unfold State.count32Own; simp

@[simp] theorem State.count32Own_narrows (s : State) (idx : Nat) (sub : Nat) (fidx : Nat) (fsub : Nat) (bit : Nat) : (State.count32Own s idx sub fidx fsub bit).narrows = s.narrows := by
  unfold State.count32Own; simp

@[simp] theorem State.count32Own_legacy (s : State) (idx : Nat) (sub : Nat) (fidx : Nat) (fsub : Nat) (bit : Nat) : (State.count32Own s idx sub fidx fsub bit).legacy = s.legacy := by
  unfold State.count32Own; simp

@[simp] theorem State.count32Own_ford (s : State) (idx : Nat) (sub : Nat) (fidx : Nat) (fsub : Nat) (bit : Nat) : (State.count32Own s idx sub fidx fsub bit).ford = s.ford := by
  unfold State.count32Own; simp

@[simp] theorem State.count32Own_elnar (s : State) (idx : Nat) (sub : Nat) (fidx : Nat) (fsub : Nat) (bit : Nat) : (State.count32Own s idx sub fidx fsub bit).elnar = s.elnar := by
  unfold State.count32Own; simp

@[simp] theorem State.count32Own_fresh (s : State) (idx : Nat) (sub : Nat) (fidx : Nat) (fsub : Nat) (bit : Nat) : (State.count32Own s idx sub fidx fsub bit).fresh = s.fresh := by
  unfold State.count32Own; simp

@[simp] theorem State.count32Own_pending (s : State) (idx : Nat) (sub : Nat) (fidx : Nat) (fsub : Nat) (bit : Nat) : (State.count32Own s idx sub fidx fsub bit).pending = s.pending := by
  unfold State.count32Own; simp

@[simp] theorem State.countSeq_time (s : State) (idx : Nat) (sub : Nat) (w : Nat) : (State.countSeq s idx sub w).time = s.time := by
  unfold State.countSeq; simp

@[simp] theorem State.countSeq_access (s : State) (idx : Nat) (sub : Nat) (w : Nat) : (State.countSeq s idx sub w).access = s.access := by
  unfold State.countSeq; simp

@[simp] theorem State.countSeq_safety (s : State) (idx : Nat) (sub : Nat) (w : Nat) : (State.countSeq s idx sub w).safety = s.safety := by
  unfold State.countSeq; simp

@[simp] theorem State.countSeq_host (s : State) (idx : Nat) (sub : Nat) (w : Nat) : (State.countSeq s idx sub w).host = s.host := by
  unfold State.countSeq; simp

@[simp] theorem State.countSeq_ports (s : State) (idx : Nat) (sub : Nat) (w : Nat) : (State.countSeq s idx sub w).ports = s.ports := by
  unfold State.countSeq; simp

@[simp] theorem State.countSeq_saddle (s : State) (idx : Nat) (sub : Nat) (w : Nat) : (State.countSeq s idx sub w).saddle = s.saddle := by
  unfold State.countSeq; simp

@[simp] theorem State.countSeq_keys (s : State) (idx : Nat) (sub : Nat) (w : Nat) : (State.countSeq s idx sub w).keys = s.keys := by
  unfold State.countSeq; simp

@[simp] theorem State.countSeq_power (s : State) (idx : Nat) (sub : Nat) (w : Nat) : (State.countSeq s idx sub w).power = s.power := by
  unfold State.countSeq; simp

@[simp] theorem State.countSeq_basin (s : State) (idx : Nat) (sub : Nat) (w : Nat) : (State.countSeq s idx sub w).basin = s.basin := by
  unfold State.countSeq; simp

@[simp] theorem State.countSeq_narrows (s : State) (idx : Nat) (sub : Nat) (w : Nat) : (State.countSeq s idx sub w).narrows = s.narrows := by
  unfold State.countSeq; simp

@[simp] theorem State.countSeq_legacy (s : State) (idx : Nat) (sub : Nat) (w : Nat) : (State.countSeq s idx sub w).legacy = s.legacy := by
  unfold State.countSeq; simp

@[simp] theorem State.countSeq_ford (s : State) (idx : Nat) (sub : Nat) (w : Nat) : (State.countSeq s idx sub w).ford = s.ford := by
  unfold State.countSeq; simp

@[simp] theorem State.countSeq_elnar (s : State) (idx : Nat) (sub : Nat) (w : Nat) : (State.countSeq s idx sub w).elnar = s.elnar := by
  unfold State.countSeq; simp

@[simp] theorem State.countSeq_fresh (s : State) (idx : Nat) (sub : Nat) (w : Nat) : (State.countSeq s idx sub w).fresh = s.fresh := by
  unfold State.countSeq; simp

@[simp] theorem State.countSeq_pending (s : State) (idx : Nat) (sub : Nat) (w : Nat) : (State.countSeq s idx sub w).pending = s.pending := by
  unfold State.countSeq; simp

@[simp] theorem State.commitEvent_time (s : State) (ev : Event) : (State.commitEvent s ev).time = s.time := by
  unfold State.commitEvent; (try dsimp only); (repeat' split) <;> simp

@[simp] theorem State.commitEvent_access (s : State) (ev : Event) : (State.commitEvent s ev).access = s.access := by
  unfold State.commitEvent; (try dsimp only); (repeat' split) <;> simp

@[simp] theorem State.commitEvent_safety (s : State) (ev : Event) : (State.commitEvent s ev).safety = s.safety := by
  unfold State.commitEvent; (try dsimp only); (repeat' split) <;> simp

@[simp] theorem State.commitEvent_ports (s : State) (ev : Event) : (State.commitEvent s ev).ports = s.ports := by
  unfold State.commitEvent; (try dsimp only); (repeat' split) <;> simp

@[simp] theorem State.commitEvent_saddle (s : State) (ev : Event) : (State.commitEvent s ev).saddle = s.saddle := by
  unfold State.commitEvent; (try dsimp only); (repeat' split) <;> simp

@[simp] theorem State.commitEvent_keys (s : State) (ev : Event) : (State.commitEvent s ev).keys = s.keys := by
  unfold State.commitEvent; (try dsimp only); (repeat' split) <;> simp

@[simp] theorem State.commitEvent_power (s : State) (ev : Event) : (State.commitEvent s ev).power = s.power := by
  unfold State.commitEvent; (try dsimp only); (repeat' split) <;> simp

@[simp] theorem State.commitEvent_basin (s : State) (ev : Event) : (State.commitEvent s ev).basin = s.basin := by
  unfold State.commitEvent; (try dsimp only); (repeat' split) <;> simp

@[simp] theorem State.commitEvent_narrows (s : State) (ev : Event) : (State.commitEvent s ev).narrows = s.narrows := by
  unfold State.commitEvent; (try dsimp only); (repeat' split) <;> simp

@[simp] theorem State.commitEvent_legacy (s : State) (ev : Event) : (State.commitEvent s ev).legacy = s.legacy := by
  unfold State.commitEvent; (try dsimp only); (repeat' split) <;> simp

@[simp] theorem State.commitEvent_ford (s : State) (ev : Event) : (State.commitEvent s ev).ford = s.ford := by
  unfold State.commitEvent; (try dsimp only); (repeat' split) <;> simp

@[simp] theorem State.commitEvent_elnar (s : State) (ev : Event) : (State.commitEvent s ev).elnar = s.elnar := by
  unfold State.commitEvent; (try dsimp only); (repeat' split) <;> simp

@[simp] theorem State.commitEvent_fresh (s : State) (ev : Event) : (State.commitEvent s ev).fresh = s.fresh := by
  unfold State.commitEvent; (try dsimp only); (repeat' split) <;> simp

@[simp] theorem State.commitEvent_pending (s : State) (ev : Event) : (State.commitEvent s ev).pending = s.pending := by
  unfold State.commitEvent; (try dsimp only); (repeat' split) <;> simp

@[simp] theorem State.arriveEvent_time (s : State) (ev : Event) : (State.arriveEvent s ev).time = s.time := by
  unfold State.arriveEvent; (try dsimp only); (repeat' split) <;> simp

@[simp] theorem State.arriveEvent_access (s : State) (ev : Event) : (State.arriveEvent s ev).access = s.access := by
  unfold State.arriveEvent; (try dsimp only); (repeat' split) <;> simp

@[simp] theorem State.arriveEvent_safety (s : State) (ev : Event) : (State.arriveEvent s ev).safety = s.safety := by
  unfold State.arriveEvent; (try dsimp only); (repeat' split) <;> simp

@[simp] theorem State.arriveEvent_ports (s : State) (ev : Event) : (State.arriveEvent s ev).ports = s.ports := by
  unfold State.arriveEvent; (try dsimp only); (repeat' split) <;> simp

@[simp] theorem State.arriveEvent_saddle (s : State) (ev : Event) : (State.arriveEvent s ev).saddle = s.saddle := by
  unfold State.arriveEvent; (try dsimp only); (repeat' split) <;> simp

@[simp] theorem State.arriveEvent_keys (s : State) (ev : Event) : (State.arriveEvent s ev).keys = s.keys := by
  unfold State.arriveEvent; (try dsimp only); (repeat' split) <;> simp

@[simp] theorem State.arriveEvent_power (s : State) (ev : Event) : (State.arriveEvent s ev).power = s.power := by
  unfold State.arriveEvent; (try dsimp only); (repeat' split) <;> simp

@[simp] theorem State.arriveEvent_basin (s : State) (ev : Event) : (State.arriveEvent s ev).basin = s.basin := by
  unfold State.arriveEvent; (try dsimp only); (repeat' split) <;> simp

@[simp] theorem State.arriveEvent_narrows (s : State) (ev : Event) : (State.arriveEvent s ev).narrows = s.narrows := by
  unfold State.arriveEvent; (try dsimp only); (repeat' split) <;> simp

@[simp] theorem State.arriveEvent_legacy (s : State) (ev : Event) : (State.arriveEvent s ev).legacy = s.legacy := by
  unfold State.arriveEvent; (try dsimp only); (repeat' split) <;> simp

@[simp] theorem State.arriveEvent_ford (s : State) (ev : Event) : (State.arriveEvent s ev).ford = s.ford := by
  unfold State.arriveEvent; (try dsimp only); (repeat' split) <;> simp

@[simp] theorem State.arriveEvent_elnar (s : State) (ev : Event) : (State.arriveEvent s ev).elnar = s.elnar := by
  unfold State.arriveEvent; (try dsimp only); (repeat' split) <;> simp

@[simp] theorem State.arriveEvent_fresh (s : State) (ev : Event) : (State.arriveEvent s ev).fresh = s.fresh := by
  unfold State.arriveEvent; (try dsimp only); (repeat' split) <;> simp

@[simp] theorem State.arriveEvent_pending (s : State) (ev : Event) : (State.arriveEvent s ev).pending = s.pending := by
  unfold State.arriveEvent; (try dsimp only); (repeat' split) <;> simp

@[simp] theorem State.raiseEvent_time (s : State) (src : Nat) (code : Nat) (args : Nat) : (State.raiseEvent s src code args).time = s.time := by
  unfold State.raiseEvent; simp

@[simp] theorem State.raiseEvent_access (s : State) (src : Nat) (code : Nat) (args : Nat) : (State.raiseEvent s src code args).access = s.access := by
  unfold State.raiseEvent; simp

@[simp] theorem State.raiseEvent_safety (s : State) (src : Nat) (code : Nat) (args : Nat) : (State.raiseEvent s src code args).safety = s.safety := by
  unfold State.raiseEvent; simp

@[simp] theorem State.raiseEvent_ports (s : State) (src : Nat) (code : Nat) (args : Nat) : (State.raiseEvent s src code args).ports = s.ports := by
  unfold State.raiseEvent; simp

@[simp] theorem State.raiseEvent_saddle (s : State) (src : Nat) (code : Nat) (args : Nat) : (State.raiseEvent s src code args).saddle = s.saddle := by
  unfold State.raiseEvent; simp

@[simp] theorem State.raiseEvent_keys (s : State) (src : Nat) (code : Nat) (args : Nat) : (State.raiseEvent s src code args).keys = s.keys := by
  unfold State.raiseEvent; simp

@[simp] theorem State.raiseEvent_power (s : State) (src : Nat) (code : Nat) (args : Nat) : (State.raiseEvent s src code args).power = s.power := by
  unfold State.raiseEvent; simp

@[simp] theorem State.raiseEvent_basin (s : State) (src : Nat) (code : Nat) (args : Nat) : (State.raiseEvent s src code args).basin = s.basin := by
  unfold State.raiseEvent; simp

@[simp] theorem State.raiseEvent_narrows (s : State) (src : Nat) (code : Nat) (args : Nat) : (State.raiseEvent s src code args).narrows = s.narrows := by
  unfold State.raiseEvent; simp

@[simp] theorem State.raiseEvent_legacy (s : State) (src : Nat) (code : Nat) (args : Nat) : (State.raiseEvent s src code args).legacy = s.legacy := by
  unfold State.raiseEvent; simp

@[simp] theorem State.raiseEvent_ford (s : State) (src : Nat) (code : Nat) (args : Nat) : (State.raiseEvent s src code args).ford = s.ford := by
  unfold State.raiseEvent; simp

@[simp] theorem State.raiseEvent_elnar (s : State) (src : Nat) (code : Nat) (args : Nat) : (State.raiseEvent s src code args).elnar = s.elnar := by
  unfold State.raiseEvent; simp

@[simp] theorem State.raiseEvent_fresh (s : State) (src : Nat) (code : Nat) (args : Nat) : (State.raiseEvent s src code args).fresh = s.fresh := by
  unfold State.raiseEvent; simp

@[simp] theorem State.raiseEvent_pending (s : State) (src : Nat) (code : Nat) (args : Nat) : (State.raiseEvent s src code args).pending = s.pending := by
  unfold State.raiseEvent; simp

@[simp] theorem State.raiseKeyed_time (s : State) (key : OKey) (code : Nat) (args : Nat) : (State.raiseKeyed s key code args).time = s.time := by
  unfold State.raiseKeyed; simp

@[simp] theorem State.raiseKeyed_access (s : State) (key : OKey) (code : Nat) (args : Nat) : (State.raiseKeyed s key code args).access = s.access := by
  unfold State.raiseKeyed; simp

@[simp] theorem State.raiseKeyed_safety (s : State) (key : OKey) (code : Nat) (args : Nat) : (State.raiseKeyed s key code args).safety = s.safety := by
  unfold State.raiseKeyed; simp

@[simp] theorem State.raiseKeyed_ports (s : State) (key : OKey) (code : Nat) (args : Nat) : (State.raiseKeyed s key code args).ports = s.ports := by
  unfold State.raiseKeyed; simp

@[simp] theorem State.raiseKeyed_saddle (s : State) (key : OKey) (code : Nat) (args : Nat) : (State.raiseKeyed s key code args).saddle = s.saddle := by
  unfold State.raiseKeyed; simp

@[simp] theorem State.raiseKeyed_keys (s : State) (key : OKey) (code : Nat) (args : Nat) : (State.raiseKeyed s key code args).keys = s.keys := by
  unfold State.raiseKeyed; simp

@[simp] theorem State.raiseKeyed_power (s : State) (key : OKey) (code : Nat) (args : Nat) : (State.raiseKeyed s key code args).power = s.power := by
  unfold State.raiseKeyed; simp

@[simp] theorem State.raiseKeyed_basin (s : State) (key : OKey) (code : Nat) (args : Nat) : (State.raiseKeyed s key code args).basin = s.basin := by
  unfold State.raiseKeyed; simp

@[simp] theorem State.raiseKeyed_narrows (s : State) (key : OKey) (code : Nat) (args : Nat) : (State.raiseKeyed s key code args).narrows = s.narrows := by
  unfold State.raiseKeyed; simp

@[simp] theorem State.raiseKeyed_legacy (s : State) (key : OKey) (code : Nat) (args : Nat) : (State.raiseKeyed s key code args).legacy = s.legacy := by
  unfold State.raiseKeyed; simp

@[simp] theorem State.raiseKeyed_ford (s : State) (key : OKey) (code : Nat) (args : Nat) : (State.raiseKeyed s key code args).ford = s.ford := by
  unfold State.raiseKeyed; simp

@[simp] theorem State.raiseKeyed_elnar (s : State) (key : OKey) (code : Nat) (args : Nat) : (State.raiseKeyed s key code args).elnar = s.elnar := by
  unfold State.raiseKeyed; simp

@[simp] theorem State.raiseKeyed_fresh (s : State) (key : OKey) (code : Nat) (args : Nat) : (State.raiseKeyed s key code args).fresh = s.fresh := by
  unfold State.raiseKeyed; simp

@[simp] theorem State.raiseKeyed_pending (s : State) (key : OKey) (code : Nat) (args : Nat) : (State.raiseKeyed s key code args).pending = s.pending := by
  unfold State.raiseKeyed; simp

@[simp] theorem State.noteDeterminism_time (s : State) (bit : Nat) : (State.noteDeterminism s bit).time = s.time := by
  unfold State.noteDeterminism; simp

@[simp] theorem State.noteDeterminism_access (s : State) (bit : Nat) : (State.noteDeterminism s bit).access = s.access := by
  unfold State.noteDeterminism; simp

@[simp] theorem State.noteDeterminism_safety (s : State) (bit : Nat) : (State.noteDeterminism s bit).safety = s.safety := by
  unfold State.noteDeterminism; simp

@[simp] theorem State.noteDeterminism_ports (s : State) (bit : Nat) : (State.noteDeterminism s bit).ports = s.ports := by
  unfold State.noteDeterminism; simp

@[simp] theorem State.noteDeterminism_saddle (s : State) (bit : Nat) : (State.noteDeterminism s bit).saddle = s.saddle := by
  unfold State.noteDeterminism; simp

@[simp] theorem State.noteDeterminism_keys (s : State) (bit : Nat) : (State.noteDeterminism s bit).keys = s.keys := by
  unfold State.noteDeterminism; simp

@[simp] theorem State.noteDeterminism_power (s : State) (bit : Nat) : (State.noteDeterminism s bit).power = s.power := by
  unfold State.noteDeterminism; simp

@[simp] theorem State.noteDeterminism_basin (s : State) (bit : Nat) : (State.noteDeterminism s bit).basin = s.basin := by
  unfold State.noteDeterminism; simp

@[simp] theorem State.noteDeterminism_narrows (s : State) (bit : Nat) : (State.noteDeterminism s bit).narrows = s.narrows := by
  unfold State.noteDeterminism; simp

@[simp] theorem State.noteDeterminism_legacy (s : State) (bit : Nat) : (State.noteDeterminism s bit).legacy = s.legacy := by
  unfold State.noteDeterminism; simp

@[simp] theorem State.noteDeterminism_ford (s : State) (bit : Nat) : (State.noteDeterminism s bit).ford = s.ford := by
  unfold State.noteDeterminism; simp

@[simp] theorem State.noteDeterminism_elnar (s : State) (bit : Nat) : (State.noteDeterminism s bit).elnar = s.elnar := by
  unfold State.noteDeterminism; simp

@[simp] theorem State.noteDeterminism_fresh (s : State) (bit : Nat) : (State.noteDeterminism s bit).fresh = s.fresh := by
  unfold State.noteDeterminism; simp

@[simp] theorem State.noteDeterminism_pending (s : State) (bit : Nat) : (State.noteDeterminism s bit).pending = s.pending := by
  unfold State.noteDeterminism; simp

@[simp] theorem State.refreshSafety_time (s : State) : (State.refreshSafety s).time = s.time := by
  unfold State.refreshSafety; simp

@[simp] theorem State.refreshSafety_ord (s : State) : (State.refreshSafety s).ord = s.ord := by
  unfold State.refreshSafety; simp

@[simp] theorem State.refreshSafety_access (s : State) : (State.refreshSafety s).access = s.access := by
  unfold State.refreshSafety; simp

@[simp] theorem State.refreshSafety_journal (s : State) : (State.refreshSafety s).journal = s.journal := by
  unfold State.refreshSafety; simp

@[simp] theorem State.refreshSafety_host (s : State) : (State.refreshSafety s).host = s.host := by
  unfold State.refreshSafety; simp

@[simp] theorem State.refreshSafety_ports (s : State) : (State.refreshSafety s).ports = s.ports := by
  unfold State.refreshSafety; simp

@[simp] theorem State.refreshSafety_saddle (s : State) : (State.refreshSafety s).saddle = s.saddle := by
  unfold State.refreshSafety; simp

@[simp] theorem State.refreshSafety_keys (s : State) : (State.refreshSafety s).keys = s.keys := by
  unfold State.refreshSafety; simp

@[simp] theorem State.refreshSafety_power (s : State) : (State.refreshSafety s).power = s.power := by
  unfold State.refreshSafety; simp

@[simp] theorem State.refreshSafety_basin (s : State) : (State.refreshSafety s).basin = s.basin := by
  unfold State.refreshSafety; simp

@[simp] theorem State.refreshSafety_narrows (s : State) : (State.refreshSafety s).narrows = s.narrows := by
  unfold State.refreshSafety; simp

@[simp] theorem State.refreshSafety_legacy (s : State) : (State.refreshSafety s).legacy = s.legacy := by
  unfold State.refreshSafety; simp

@[simp] theorem State.refreshSafety_ford (s : State) : (State.refreshSafety s).ford = s.ford := by
  unfold State.refreshSafety; simp

@[simp] theorem State.refreshSafety_elnar (s : State) : (State.refreshSafety s).elnar = s.elnar := by
  unfold State.refreshSafety; simp

@[simp] theorem State.refreshSafety_fresh (s : State) : (State.refreshSafety s).fresh = s.fresh := by
  unfold State.refreshSafety; simp

@[simp] theorem State.refreshSafety_pending (s : State) : (State.refreshSafety s).pending = s.pending := by
  unfold State.refreshSafety; simp

@[simp] theorem State.fatalActions_time (s : State) : (State.fatalActions s).time = s.time := by
  unfold State.fatalActions; simp

@[simp] theorem State.fatalActions_ord (s : State) : (State.fatalActions s).ord = s.ord := by
  unfold State.fatalActions; simp

@[simp] theorem State.fatalActions_dict (s : State) : (State.fatalActions s).dict = s.dict := by
  unfold State.fatalActions; simp

@[simp] theorem State.fatalActions_access (s : State) : (State.fatalActions s).access = s.access := by
  unfold State.fatalActions; simp

@[simp] theorem State.fatalActions_journal (s : State) : (State.fatalActions s).journal = s.journal := by
  unfold State.fatalActions; simp

@[simp] theorem State.fatalActions_host (s : State) : (State.fatalActions s).host = s.host := by
  unfold State.fatalActions; simp

@[simp] theorem State.fatalActions_ports (s : State) : (State.fatalActions s).ports = s.ports := by
  unfold State.fatalActions; simp

@[simp] theorem State.fatalActions_saddle (s : State) : (State.fatalActions s).saddle = s.saddle := by
  unfold State.fatalActions; simp

@[simp] theorem State.fatalActions_keys (s : State) : (State.fatalActions s).keys = s.keys := by
  unfold State.fatalActions; simp

@[simp] theorem State.fatalActions_power (s : State) : (State.fatalActions s).power = s.power := by
  unfold State.fatalActions; simp

@[simp] theorem State.fatalActions_narrows (s : State) : (State.fatalActions s).narrows = s.narrows := by
  unfold State.fatalActions; simp

@[simp] theorem State.fatalActions_legacy (s : State) : (State.fatalActions s).legacy = s.legacy := by
  unfold State.fatalActions; simp

@[simp] theorem State.fatalActions_ford (s : State) : (State.fatalActions s).ford = s.ford := by
  unfold State.fatalActions; simp

@[simp] theorem State.fatalActions_elnar (s : State) : (State.fatalActions s).elnar = s.elnar := by
  unfold State.fatalActions; simp

@[simp] theorem State.fatalActions_fresh (s : State) : (State.fatalActions s).fresh = s.fresh := by
  unfold State.fatalActions; simp

@[simp] theorem State.fatalActions_pending (s : State) : (State.fatalActions s).pending = s.pending := by
  unfold State.fatalActions; simp

@[simp] theorem State.react_time (s : State) (key : OKey) (i : Nat) (r : Nat) (first : Bool) : (State.react s key i r first).time = s.time := by
  unfold State.react; simp

@[simp] theorem State.react_access (s : State) (key : OKey) (i : Nat) (r : Nat) (first : Bool) : (State.react s key i r first).access = s.access := by
  unfold State.react; simp

@[simp] theorem State.react_ports (s : State) (key : OKey) (i : Nat) (r : Nat) (first : Bool) : (State.react s key i r first).ports = s.ports := by
  unfold State.react; simp

@[simp] theorem State.react_saddle (s : State) (key : OKey) (i : Nat) (r : Nat) (first : Bool) : (State.react s key i r first).saddle = s.saddle := by
  unfold State.react; simp

@[simp] theorem State.react_keys (s : State) (key : OKey) (i : Nat) (r : Nat) (first : Bool) : (State.react s key i r first).keys = s.keys := by
  unfold State.react; simp

@[simp] theorem State.react_power (s : State) (key : OKey) (i : Nat) (r : Nat) (first : Bool) : (State.react s key i r first).power = s.power := by
  unfold State.react; simp

@[simp] theorem State.react_narrows (s : State) (key : OKey) (i : Nat) (r : Nat) (first : Bool) : (State.react s key i r first).narrows = s.narrows := by
  unfold State.react; simp

@[simp] theorem State.react_legacy (s : State) (key : OKey) (i : Nat) (r : Nat) (first : Bool) : (State.react s key i r first).legacy = s.legacy := by
  unfold State.react; simp

@[simp] theorem State.react_ford (s : State) (key : OKey) (i : Nat) (r : Nat) (first : Bool) : (State.react s key i r first).ford = s.ford := by
  unfold State.react; simp

@[simp] theorem State.react_elnar (s : State) (key : OKey) (i : Nat) (r : Nat) (first : Bool) : (State.react s key i r first).elnar = s.elnar := by
  unfold State.react; simp

@[simp] theorem State.react_fresh (s : State) (key : OKey) (i : Nat) (r : Nat) (first : Bool) : (State.react s key i r first).fresh = s.fresh := by
  unfold State.react; simp

@[simp] theorem State.react_pending (s : State) (key : OKey) (i : Nat) (r : Nat) (first : Bool) : (State.react s key i r first).pending = s.pending := by
  unfold State.react; simp

@[simp] theorem State.raiseFault_time (s : State) (i : Nat) (stays : Bool) : (State.raiseFault s i stays).time = s.time := by
  unfold State.raiseFault; simp

@[simp] theorem State.raiseFault_access (s : State) (i : Nat) (stays : Bool) : (State.raiseFault s i stays).access = s.access := by
  unfold State.raiseFault; simp

@[simp] theorem State.raiseFault_ports (s : State) (i : Nat) (stays : Bool) : (State.raiseFault s i stays).ports = s.ports := by
  unfold State.raiseFault; simp

@[simp] theorem State.raiseFault_saddle (s : State) (i : Nat) (stays : Bool) : (State.raiseFault s i stays).saddle = s.saddle := by
  unfold State.raiseFault; simp

@[simp] theorem State.raiseFault_keys (s : State) (i : Nat) (stays : Bool) : (State.raiseFault s i stays).keys = s.keys := by
  unfold State.raiseFault; simp

@[simp] theorem State.raiseFault_power (s : State) (i : Nat) (stays : Bool) : (State.raiseFault s i stays).power = s.power := by
  unfold State.raiseFault; simp

@[simp] theorem State.raiseFault_narrows (s : State) (i : Nat) (stays : Bool) : (State.raiseFault s i stays).narrows = s.narrows := by
  unfold State.raiseFault; simp

@[simp] theorem State.raiseFault_legacy (s : State) (i : Nat) (stays : Bool) : (State.raiseFault s i stays).legacy = s.legacy := by
  unfold State.raiseFault; simp

@[simp] theorem State.raiseFault_ford (s : State) (i : Nat) (stays : Bool) : (State.raiseFault s i stays).ford = s.ford := by
  unfold State.raiseFault; simp

@[simp] theorem State.raiseFault_elnar (s : State) (i : Nat) (stays : Bool) : (State.raiseFault s i stays).elnar = s.elnar := by
  unfold State.raiseFault; simp

@[simp] theorem State.raiseFault_fresh (s : State) (i : Nat) (stays : Bool) : (State.raiseFault s i stays).fresh = s.fresh := by
  unfold State.raiseFault; simp

@[simp] theorem State.raiseFault_pending (s : State) (i : Nat) (stays : Bool) : (State.raiseFault s i stays).pending = s.pending := by
  unfold State.raiseFault; simp

@[simp] theorem State.clearCause_time (s : State) (i : Nat) : (State.clearCause s i).time = s.time := by
  unfold State.clearCause; simp

@[simp] theorem State.clearCause_ord (s : State) (i : Nat) : (State.clearCause s i).ord = s.ord := by
  unfold State.clearCause; simp

@[simp] theorem State.clearCause_dict (s : State) (i : Nat) : (State.clearCause s i).dict = s.dict := by
  unfold State.clearCause; simp

@[simp] theorem State.clearCause_access (s : State) (i : Nat) : (State.clearCause s i).access = s.access := by
  unfold State.clearCause; simp

@[simp] theorem State.clearCause_journal (s : State) (i : Nat) : (State.clearCause s i).journal = s.journal := by
  unfold State.clearCause; simp

@[simp] theorem State.clearCause_host (s : State) (i : Nat) : (State.clearCause s i).host = s.host := by
  unfold State.clearCause; simp

@[simp] theorem State.clearCause_ports (s : State) (i : Nat) : (State.clearCause s i).ports = s.ports := by
  unfold State.clearCause; simp

@[simp] theorem State.clearCause_saddle (s : State) (i : Nat) : (State.clearCause s i).saddle = s.saddle := by
  unfold State.clearCause; simp

@[simp] theorem State.clearCause_keys (s : State) (i : Nat) : (State.clearCause s i).keys = s.keys := by
  unfold State.clearCause; simp

@[simp] theorem State.clearCause_power (s : State) (i : Nat) : (State.clearCause s i).power = s.power := by
  unfold State.clearCause; simp

@[simp] theorem State.clearCause_basin (s : State) (i : Nat) : (State.clearCause s i).basin = s.basin := by
  unfold State.clearCause; simp

@[simp] theorem State.clearCause_narrows (s : State) (i : Nat) : (State.clearCause s i).narrows = s.narrows := by
  unfold State.clearCause; simp

@[simp] theorem State.clearCause_legacy (s : State) (i : Nat) : (State.clearCause s i).legacy = s.legacy := by
  unfold State.clearCause; simp

@[simp] theorem State.clearCause_ford (s : State) (i : Nat) : (State.clearCause s i).ford = s.ford := by
  unfold State.clearCause; simp

@[simp] theorem State.clearCause_elnar (s : State) (i : Nat) : (State.clearCause s i).elnar = s.elnar := by
  unfold State.clearCause; simp

@[simp] theorem State.clearCause_fresh (s : State) (i : Nat) : (State.clearCause s i).fresh = s.fresh := by
  unfold State.clearCause; simp

@[simp] theorem State.clearCause_pending (s : State) (i : Nat) : (State.clearCause s i).pending = s.pending := by
  unfold State.clearCause; simp

@[simp] theorem State.setTokens_time (s : State) (v : Nat) : (State.setTokens s v).time = s.time := by
  unfold State.setTokens; simp

@[simp] theorem State.setTokens_access (s : State) (v : Nat) : (State.setTokens s v).access = s.access := by
  unfold State.setTokens; simp

@[simp] theorem State.setTokens_safety (s : State) (v : Nat) : (State.setTokens s v).safety = s.safety := by
  unfold State.setTokens; simp

@[simp] theorem State.setTokens_host (s : State) (v : Nat) : (State.setTokens s v).host = s.host := by
  unfold State.setTokens; simp

@[simp] theorem State.setTokens_ports (s : State) (v : Nat) : (State.setTokens s v).ports = s.ports := by
  unfold State.setTokens; simp

@[simp] theorem State.setTokens_saddle (s : State) (v : Nat) : (State.setTokens s v).saddle = s.saddle := by
  unfold State.setTokens; simp

@[simp] theorem State.setTokens_keys (s : State) (v : Nat) : (State.setTokens s v).keys = s.keys := by
  unfold State.setTokens; simp

@[simp] theorem State.setTokens_power (s : State) (v : Nat) : (State.setTokens s v).power = s.power := by
  unfold State.setTokens; simp

@[simp] theorem State.setTokens_basin (s : State) (v : Nat) : (State.setTokens s v).basin = s.basin := by
  unfold State.setTokens; simp

@[simp] theorem State.setTokens_narrows (s : State) (v : Nat) : (State.setTokens s v).narrows = s.narrows := by
  unfold State.setTokens; simp

@[simp] theorem State.setTokens_legacy (s : State) (v : Nat) : (State.setTokens s v).legacy = s.legacy := by
  unfold State.setTokens; simp

@[simp] theorem State.setTokens_ford (s : State) (v : Nat) : (State.setTokens s v).ford = s.ford := by
  unfold State.setTokens; simp

@[simp] theorem State.setTokens_elnar (s : State) (v : Nat) : (State.setTokens s v).elnar = s.elnar := by
  unfold State.setTokens; simp

@[simp] theorem State.setTokens_fresh (s : State) (v : Nat) : (State.setTokens s v).fresh = s.fresh := by
  unfold State.setTokens; simp

@[simp] theorem State.setTokens_pending (s : State) (v : Nat) : (State.setTokens s v).pending = s.pending := by
  unfold State.setTokens; simp

@[simp] theorem State.journalInput_time (s : State) (key : OKey) (kind : Nat) (arg : Nat) (tag : Nat) (relayed : Bool) (payload : Option Bytes) : (State.journalInput s key kind arg tag relayed payload).time = s.time := by
  unfold State.journalInput; simp

@[simp] theorem State.journalInput_ord (s : State) (key : OKey) (kind : Nat) (arg : Nat) (tag : Nat) (relayed : Bool) (payload : Option Bytes) : (State.journalInput s key kind arg tag relayed payload).ord = s.ord := by
  unfold State.journalInput; simp

@[simp] theorem State.journalInput_dict (s : State) (key : OKey) (kind : Nat) (arg : Nat) (tag : Nat) (relayed : Bool) (payload : Option Bytes) : (State.journalInput s key kind arg tag relayed payload).dict = s.dict := by
  unfold State.journalInput; simp

@[simp] theorem State.journalInput_access (s : State) (key : OKey) (kind : Nat) (arg : Nat) (tag : Nat) (relayed : Bool) (payload : Option Bytes) : (State.journalInput s key kind arg tag relayed payload).access = s.access := by
  unfold State.journalInput; simp

@[simp] theorem State.journalInput_journal (s : State) (key : OKey) (kind : Nat) (arg : Nat) (tag : Nat) (relayed : Bool) (payload : Option Bytes) : (State.journalInput s key kind arg tag relayed payload).journal = s.journal := by
  unfold State.journalInput; simp

@[simp] theorem State.journalInput_safety (s : State) (key : OKey) (kind : Nat) (arg : Nat) (tag : Nat) (relayed : Bool) (payload : Option Bytes) : (State.journalInput s key kind arg tag relayed payload).safety = s.safety := by
  unfold State.journalInput; simp

@[simp] theorem State.journalInput_host (s : State) (key : OKey) (kind : Nat) (arg : Nat) (tag : Nat) (relayed : Bool) (payload : Option Bytes) : (State.journalInput s key kind arg tag relayed payload).host = s.host := by
  unfold State.journalInput; simp

@[simp] theorem State.journalInput_ports (s : State) (key : OKey) (kind : Nat) (arg : Nat) (tag : Nat) (relayed : Bool) (payload : Option Bytes) : (State.journalInput s key kind arg tag relayed payload).ports = s.ports := by
  unfold State.journalInput; simp

@[simp] theorem State.journalInput_keys (s : State) (key : OKey) (kind : Nat) (arg : Nat) (tag : Nat) (relayed : Bool) (payload : Option Bytes) : (State.journalInput s key kind arg tag relayed payload).keys = s.keys := by
  unfold State.journalInput; simp

@[simp] theorem State.journalInput_power (s : State) (key : OKey) (kind : Nat) (arg : Nat) (tag : Nat) (relayed : Bool) (payload : Option Bytes) : (State.journalInput s key kind arg tag relayed payload).power = s.power := by
  unfold State.journalInput; simp

@[simp] theorem State.journalInput_basin (s : State) (key : OKey) (kind : Nat) (arg : Nat) (tag : Nat) (relayed : Bool) (payload : Option Bytes) : (State.journalInput s key kind arg tag relayed payload).basin = s.basin := by
  unfold State.journalInput; simp

@[simp] theorem State.journalInput_narrows (s : State) (key : OKey) (kind : Nat) (arg : Nat) (tag : Nat) (relayed : Bool) (payload : Option Bytes) : (State.journalInput s key kind arg tag relayed payload).narrows = s.narrows := by
  unfold State.journalInput; simp

@[simp] theorem State.journalInput_legacy (s : State) (key : OKey) (kind : Nat) (arg : Nat) (tag : Nat) (relayed : Bool) (payload : Option Bytes) : (State.journalInput s key kind arg tag relayed payload).legacy = s.legacy := by
  unfold State.journalInput; simp

@[simp] theorem State.journalInput_ford (s : State) (key : OKey) (kind : Nat) (arg : Nat) (tag : Nat) (relayed : Bool) (payload : Option Bytes) : (State.journalInput s key kind arg tag relayed payload).ford = s.ford := by
  unfold State.journalInput; simp

@[simp] theorem State.journalInput_elnar (s : State) (key : OKey) (kind : Nat) (arg : Nat) (tag : Nat) (relayed : Bool) (payload : Option Bytes) : (State.journalInput s key kind arg tag relayed payload).elnar = s.elnar := by
  unfold State.journalInput; simp

@[simp] theorem State.journalInput_fresh (s : State) (key : OKey) (kind : Nat) (arg : Nat) (tag : Nat) (relayed : Bool) (payload : Option Bytes) : (State.journalInput s key kind arg tag relayed payload).fresh = s.fresh := by
  unfold State.journalInput; simp

@[simp] theorem State.journalInput_pending (s : State) (key : OKey) (kind : Nat) (arg : Nat) (tag : Nat) (relayed : Bool) (payload : Option Bytes) : (State.journalInput s key kind arg tag relayed payload).pending = s.pending := by
  unfold State.journalInput; simp

@[simp] theorem State.journalFrer_time (s : State) (key : OKey) (drop : Bool) (seq : Option Nat) : (State.journalFrer s key drop seq).time = s.time := by
  unfold State.journalFrer; simp

@[simp] theorem State.journalFrer_ord (s : State) (key : OKey) (drop : Bool) (seq : Option Nat) : (State.journalFrer s key drop seq).ord = s.ord := by
  unfold State.journalFrer; simp

@[simp] theorem State.journalFrer_dict (s : State) (key : OKey) (drop : Bool) (seq : Option Nat) : (State.journalFrer s key drop seq).dict = s.dict := by
  unfold State.journalFrer; simp

@[simp] theorem State.journalFrer_access (s : State) (key : OKey) (drop : Bool) (seq : Option Nat) : (State.journalFrer s key drop seq).access = s.access := by
  unfold State.journalFrer; simp

@[simp] theorem State.journalFrer_journal (s : State) (key : OKey) (drop : Bool) (seq : Option Nat) : (State.journalFrer s key drop seq).journal = s.journal := by
  unfold State.journalFrer; simp

@[simp] theorem State.journalFrer_safety (s : State) (key : OKey) (drop : Bool) (seq : Option Nat) : (State.journalFrer s key drop seq).safety = s.safety := by
  unfold State.journalFrer; simp

@[simp] theorem State.journalFrer_host (s : State) (key : OKey) (drop : Bool) (seq : Option Nat) : (State.journalFrer s key drop seq).host = s.host := by
  unfold State.journalFrer; simp

@[simp] theorem State.journalFrer_ports (s : State) (key : OKey) (drop : Bool) (seq : Option Nat) : (State.journalFrer s key drop seq).ports = s.ports := by
  unfold State.journalFrer; simp

@[simp] theorem State.journalFrer_keys (s : State) (key : OKey) (drop : Bool) (seq : Option Nat) : (State.journalFrer s key drop seq).keys = s.keys := by
  unfold State.journalFrer; simp

@[simp] theorem State.journalFrer_power (s : State) (key : OKey) (drop : Bool) (seq : Option Nat) : (State.journalFrer s key drop seq).power = s.power := by
  unfold State.journalFrer; simp

@[simp] theorem State.journalFrer_basin (s : State) (key : OKey) (drop : Bool) (seq : Option Nat) : (State.journalFrer s key drop seq).basin = s.basin := by
  unfold State.journalFrer; simp

@[simp] theorem State.journalFrer_narrows (s : State) (key : OKey) (drop : Bool) (seq : Option Nat) : (State.journalFrer s key drop seq).narrows = s.narrows := by
  unfold State.journalFrer; simp

@[simp] theorem State.journalFrer_legacy (s : State) (key : OKey) (drop : Bool) (seq : Option Nat) : (State.journalFrer s key drop seq).legacy = s.legacy := by
  unfold State.journalFrer; simp

@[simp] theorem State.journalFrer_ford (s : State) (key : OKey) (drop : Bool) (seq : Option Nat) : (State.journalFrer s key drop seq).ford = s.ford := by
  unfold State.journalFrer; simp

@[simp] theorem State.journalFrer_elnar (s : State) (key : OKey) (drop : Bool) (seq : Option Nat) : (State.journalFrer s key drop seq).elnar = s.elnar := by
  unfold State.journalFrer; simp

@[simp] theorem State.journalFrer_fresh (s : State) (key : OKey) (drop : Bool) (seq : Option Nat) : (State.journalFrer s key drop seq).fresh = s.fresh := by
  unfold State.journalFrer; simp

@[simp] theorem State.journalFrer_pending (s : State) (key : OKey) (drop : Bool) (seq : Option Nat) : (State.journalFrer s key drop seq).pending = s.pending := by
  unfold State.journalFrer; simp

@[simp] theorem State.keepOwn_time (s : State) (key : OKey) (tag : Nat) (x : OwnInput) : (State.keepOwn s key tag x).time = s.time := by
  unfold State.keepOwn; simp

@[simp] theorem State.keepOwn_ord (s : State) (key : OKey) (tag : Nat) (x : OwnInput) : (State.keepOwn s key tag x).ord = s.ord := by
  unfold State.keepOwn; simp

@[simp] theorem State.keepOwn_dict (s : State) (key : OKey) (tag : Nat) (x : OwnInput) : (State.keepOwn s key tag x).dict = s.dict := by
  unfold State.keepOwn; simp

@[simp] theorem State.keepOwn_access (s : State) (key : OKey) (tag : Nat) (x : OwnInput) : (State.keepOwn s key tag x).access = s.access := by
  unfold State.keepOwn; simp

@[simp] theorem State.keepOwn_journal (s : State) (key : OKey) (tag : Nat) (x : OwnInput) : (State.keepOwn s key tag x).journal = s.journal := by
  unfold State.keepOwn; simp

@[simp] theorem State.keepOwn_safety (s : State) (key : OKey) (tag : Nat) (x : OwnInput) : (State.keepOwn s key tag x).safety = s.safety := by
  unfold State.keepOwn; simp

@[simp] theorem State.keepOwn_host (s : State) (key : OKey) (tag : Nat) (x : OwnInput) : (State.keepOwn s key tag x).host = s.host := by
  unfold State.keepOwn; simp

@[simp] theorem State.keepOwn_ports (s : State) (key : OKey) (tag : Nat) (x : OwnInput) : (State.keepOwn s key tag x).ports = s.ports := by
  unfold State.keepOwn; simp

@[simp] theorem State.keepOwn_keys (s : State) (key : OKey) (tag : Nat) (x : OwnInput) : (State.keepOwn s key tag x).keys = s.keys := by
  unfold State.keepOwn; simp

@[simp] theorem State.keepOwn_power (s : State) (key : OKey) (tag : Nat) (x : OwnInput) : (State.keepOwn s key tag x).power = s.power := by
  unfold State.keepOwn; simp

@[simp] theorem State.keepOwn_basin (s : State) (key : OKey) (tag : Nat) (x : OwnInput) : (State.keepOwn s key tag x).basin = s.basin := by
  unfold State.keepOwn; simp

@[simp] theorem State.keepOwn_narrows (s : State) (key : OKey) (tag : Nat) (x : OwnInput) : (State.keepOwn s key tag x).narrows = s.narrows := by
  unfold State.keepOwn; simp

@[simp] theorem State.keepOwn_legacy (s : State) (key : OKey) (tag : Nat) (x : OwnInput) : (State.keepOwn s key tag x).legacy = s.legacy := by
  unfold State.keepOwn; simp

@[simp] theorem State.keepOwn_ford (s : State) (key : OKey) (tag : Nat) (x : OwnInput) : (State.keepOwn s key tag x).ford = s.ford := by
  unfold State.keepOwn; simp

@[simp] theorem State.keepOwn_elnar (s : State) (key : OKey) (tag : Nat) (x : OwnInput) : (State.keepOwn s key tag x).elnar = s.elnar := by
  unfold State.keepOwn; simp

@[simp] theorem State.keepOwn_fresh (s : State) (key : OKey) (tag : Nat) (x : OwnInput) : (State.keepOwn s key tag x).fresh = s.fresh := by
  unfold State.keepOwn; simp

@[simp] theorem State.keepOwn_pending (s : State) (key : OKey) (tag : Nat) (x : OwnInput) : (State.keepOwn s key tag x).pending = s.pending := by
  unfold State.keepOwn; simp

@[simp] theorem State.withhold_time (s : State) : (State.withhold s).time = s.time := by
  unfold State.withhold; simp

@[simp] theorem State.withhold_ord (s : State) : (State.withhold s).ord = s.ord := by
  unfold State.withhold; simp

@[simp] theorem State.withhold_access (s : State) : (State.withhold s).access = s.access := by
  unfold State.withhold; simp

@[simp] theorem State.withhold_journal (s : State) : (State.withhold s).journal = s.journal := by
  unfold State.withhold; simp

@[simp] theorem State.withhold_safety (s : State) : (State.withhold s).safety = s.safety := by
  unfold State.withhold; simp

@[simp] theorem State.withhold_host (s : State) : (State.withhold s).host = s.host := by
  unfold State.withhold; simp

@[simp] theorem State.withhold_ports (s : State) : (State.withhold s).ports = s.ports := by
  unfold State.withhold; simp

@[simp] theorem State.withhold_saddle (s : State) : (State.withhold s).saddle = s.saddle := by
  unfold State.withhold; simp

@[simp] theorem State.withhold_keys (s : State) : (State.withhold s).keys = s.keys := by
  unfold State.withhold; simp

@[simp] theorem State.withhold_power (s : State) : (State.withhold s).power = s.power := by
  unfold State.withhold; simp

@[simp] theorem State.withhold_basin (s : State) : (State.withhold s).basin = s.basin := by
  unfold State.withhold; simp

@[simp] theorem State.withhold_narrows (s : State) : (State.withhold s).narrows = s.narrows := by
  unfold State.withhold; simp

@[simp] theorem State.withhold_legacy (s : State) : (State.withhold s).legacy = s.legacy := by
  unfold State.withhold; simp

@[simp] theorem State.withhold_ford (s : State) : (State.withhold s).ford = s.ford := by
  unfold State.withhold; simp

@[simp] theorem State.withhold_elnar (s : State) : (State.withhold s).elnar = s.elnar := by
  unfold State.withhold; simp

@[simp] theorem State.withhold_fresh (s : State) : (State.withhold s).fresh = s.fresh := by
  unfold State.withhold; simp

@[simp] theorem State.withhold_pending (s : State) : (State.withhold s).pending = s.pending := by
  unfold State.withhold; simp

@[simp] theorem State.touchSession_time (s : State) (c : Caller) : (State.touchSession s c).time = s.time := by
  unfold State.touchSession; simp

@[simp] theorem State.touchSession_ord (s : State) (c : Caller) : (State.touchSession s c).ord = s.ord := by
  unfold State.touchSession; simp

@[simp] theorem State.touchSession_dict (s : State) (c : Caller) : (State.touchSession s c).dict = s.dict := by
  unfold State.touchSession; simp

@[simp] theorem State.touchSession_journal (s : State) (c : Caller) : (State.touchSession s c).journal = s.journal := by
  unfold State.touchSession; simp

@[simp] theorem State.touchSession_safety (s : State) (c : Caller) : (State.touchSession s c).safety = s.safety := by
  unfold State.touchSession; simp

@[simp] theorem State.touchSession_host (s : State) (c : Caller) : (State.touchSession s c).host = s.host := by
  unfold State.touchSession; simp

@[simp] theorem State.touchSession_ports (s : State) (c : Caller) : (State.touchSession s c).ports = s.ports := by
  unfold State.touchSession; simp

@[simp] theorem State.touchSession_saddle (s : State) (c : Caller) : (State.touchSession s c).saddle = s.saddle := by
  unfold State.touchSession; simp

@[simp] theorem State.touchSession_keys (s : State) (c : Caller) : (State.touchSession s c).keys = s.keys := by
  unfold State.touchSession; simp

@[simp] theorem State.touchSession_power (s : State) (c : Caller) : (State.touchSession s c).power = s.power := by
  unfold State.touchSession; simp

@[simp] theorem State.touchSession_basin (s : State) (c : Caller) : (State.touchSession s c).basin = s.basin := by
  unfold State.touchSession; simp

@[simp] theorem State.touchSession_narrows (s : State) (c : Caller) : (State.touchSession s c).narrows = s.narrows := by
  unfold State.touchSession; simp

@[simp] theorem State.touchSession_legacy (s : State) (c : Caller) : (State.touchSession s c).legacy = s.legacy := by
  unfold State.touchSession; simp

@[simp] theorem State.touchSession_ford (s : State) (c : Caller) : (State.touchSession s c).ford = s.ford := by
  unfold State.touchSession; simp

@[simp] theorem State.touchSession_elnar (s : State) (c : Caller) : (State.touchSession s c).elnar = s.elnar := by
  unfold State.touchSession; simp

@[simp] theorem State.touchSession_fresh (s : State) (c : Caller) : (State.touchSession s c).fresh = s.fresh := by
  unfold State.touchSession; simp

@[simp] theorem State.touchSession_pending (s : State) (c : Caller) : (State.touchSession s c).pending = s.pending := by
  unfold State.touchSession; simp

@[simp] theorem State.acceptBytes_time (s : State) (c : Caller) (kind : Nat) (idx : Nat) (sub : Nat) (old : Bytes) (new : Bytes) (value : Nat) (epoch : Nat) : (State.acceptBytes s c kind idx sub old new value epoch).time = s.time := by
  unfold State.acceptBytes; simp

@[simp] theorem State.acceptBytes_ord (s : State) (c : Caller) (kind : Nat) (idx : Nat) (sub : Nat) (old : Bytes) (new : Bytes) (value : Nat) (epoch : Nat) : (State.acceptBytes s c kind idx sub old new value epoch).ord = s.ord := by
  unfold State.acceptBytes; simp

@[simp] theorem State.acceptBytes_access (s : State) (c : Caller) (kind : Nat) (idx : Nat) (sub : Nat) (old : Bytes) (new : Bytes) (value : Nat) (epoch : Nat) : (State.acceptBytes s c kind idx sub old new value epoch).access = s.access := by
  unfold State.acceptBytes; simp

@[simp] theorem State.acceptBytes_journal (s : State) (c : Caller) (kind : Nat) (idx : Nat) (sub : Nat) (old : Bytes) (new : Bytes) (value : Nat) (epoch : Nat) : (State.acceptBytes s c kind idx sub old new value epoch).journal = s.journal := by
  unfold State.acceptBytes; simp

@[simp] theorem State.acceptBytes_safety (s : State) (c : Caller) (kind : Nat) (idx : Nat) (sub : Nat) (old : Bytes) (new : Bytes) (value : Nat) (epoch : Nat) : (State.acceptBytes s c kind idx sub old new value epoch).safety = s.safety := by
  unfold State.acceptBytes; simp

@[simp] theorem State.acceptBytes_host (s : State) (c : Caller) (kind : Nat) (idx : Nat) (sub : Nat) (old : Bytes) (new : Bytes) (value : Nat) (epoch : Nat) : (State.acceptBytes s c kind idx sub old new value epoch).host = s.host := by
  unfold State.acceptBytes; simp

@[simp] theorem State.acceptBytes_ports (s : State) (c : Caller) (kind : Nat) (idx : Nat) (sub : Nat) (old : Bytes) (new : Bytes) (value : Nat) (epoch : Nat) : (State.acceptBytes s c kind idx sub old new value epoch).ports = s.ports := by
  unfold State.acceptBytes; simp

@[simp] theorem State.acceptBytes_saddle (s : State) (c : Caller) (kind : Nat) (idx : Nat) (sub : Nat) (old : Bytes) (new : Bytes) (value : Nat) (epoch : Nat) : (State.acceptBytes s c kind idx sub old new value epoch).saddle = s.saddle := by
  unfold State.acceptBytes; simp

@[simp] theorem State.acceptBytes_keys (s : State) (c : Caller) (kind : Nat) (idx : Nat) (sub : Nat) (old : Bytes) (new : Bytes) (value : Nat) (epoch : Nat) : (State.acceptBytes s c kind idx sub old new value epoch).keys = s.keys := by
  unfold State.acceptBytes; simp

@[simp] theorem State.acceptBytes_power (s : State) (c : Caller) (kind : Nat) (idx : Nat) (sub : Nat) (old : Bytes) (new : Bytes) (value : Nat) (epoch : Nat) : (State.acceptBytes s c kind idx sub old new value epoch).power = s.power := by
  unfold State.acceptBytes; simp

@[simp] theorem State.acceptBytes_basin (s : State) (c : Caller) (kind : Nat) (idx : Nat) (sub : Nat) (old : Bytes) (new : Bytes) (value : Nat) (epoch : Nat) : (State.acceptBytes s c kind idx sub old new value epoch).basin = s.basin := by
  unfold State.acceptBytes; simp

@[simp] theorem State.acceptBytes_narrows (s : State) (c : Caller) (kind : Nat) (idx : Nat) (sub : Nat) (old : Bytes) (new : Bytes) (value : Nat) (epoch : Nat) : (State.acceptBytes s c kind idx sub old new value epoch).narrows = s.narrows := by
  unfold State.acceptBytes; simp

@[simp] theorem State.acceptBytes_legacy (s : State) (c : Caller) (kind : Nat) (idx : Nat) (sub : Nat) (old : Bytes) (new : Bytes) (value : Nat) (epoch : Nat) : (State.acceptBytes s c kind idx sub old new value epoch).legacy = s.legacy := by
  unfold State.acceptBytes; simp

@[simp] theorem State.acceptBytes_ford (s : State) (c : Caller) (kind : Nat) (idx : Nat) (sub : Nat) (old : Bytes) (new : Bytes) (value : Nat) (epoch : Nat) : (State.acceptBytes s c kind idx sub old new value epoch).ford = s.ford := by
  unfold State.acceptBytes; simp

@[simp] theorem State.acceptBytes_elnar (s : State) (c : Caller) (kind : Nat) (idx : Nat) (sub : Nat) (old : Bytes) (new : Bytes) (value : Nat) (epoch : Nat) : (State.acceptBytes s c kind idx sub old new value epoch).elnar = s.elnar := by
  unfold State.acceptBytes; simp

@[simp] theorem State.acceptBytes_fresh (s : State) (c : Caller) (kind : Nat) (idx : Nat) (sub : Nat) (old : Bytes) (new : Bytes) (value : Nat) (epoch : Nat) : (State.acceptBytes s c kind idx sub old new value epoch).fresh = s.fresh := by
  unfold State.acceptBytes; simp

@[simp] theorem State.acceptBytes_pending (s : State) (c : Caller) (kind : Nat) (idx : Nat) (sub : Nat) (old : Bytes) (new : Bytes) (value : Nat) (epoch : Nat) : (State.acceptBytes s c kind idx sub old new value epoch).pending = s.pending := by
  unfold State.acceptBytes; simp

@[simp] theorem State.acceptWrite_time (s : State) (c : Caller) (kind : Nat) (idx : Nat) (sub : Nat) (old : Nat) (new : Nat) (value : Nat) (epoch : Nat) : (State.acceptWrite s c kind idx sub old new value epoch).time = s.time := by
  unfold State.acceptWrite; simp

@[simp] theorem State.acceptWrite_ord (s : State) (c : Caller) (kind : Nat) (idx : Nat) (sub : Nat) (old : Nat) (new : Nat) (value : Nat) (epoch : Nat) : (State.acceptWrite s c kind idx sub old new value epoch).ord = s.ord := by
  unfold State.acceptWrite; simp

@[simp] theorem State.acceptWrite_access (s : State) (c : Caller) (kind : Nat) (idx : Nat) (sub : Nat) (old : Nat) (new : Nat) (value : Nat) (epoch : Nat) : (State.acceptWrite s c kind idx sub old new value epoch).access = s.access := by
  unfold State.acceptWrite; simp

@[simp] theorem State.acceptWrite_journal (s : State) (c : Caller) (kind : Nat) (idx : Nat) (sub : Nat) (old : Nat) (new : Nat) (value : Nat) (epoch : Nat) : (State.acceptWrite s c kind idx sub old new value epoch).journal = s.journal := by
  unfold State.acceptWrite; simp

@[simp] theorem State.acceptWrite_safety (s : State) (c : Caller) (kind : Nat) (idx : Nat) (sub : Nat) (old : Nat) (new : Nat) (value : Nat) (epoch : Nat) : (State.acceptWrite s c kind idx sub old new value epoch).safety = s.safety := by
  unfold State.acceptWrite; simp

@[simp] theorem State.acceptWrite_host (s : State) (c : Caller) (kind : Nat) (idx : Nat) (sub : Nat) (old : Nat) (new : Nat) (value : Nat) (epoch : Nat) : (State.acceptWrite s c kind idx sub old new value epoch).host = s.host := by
  unfold State.acceptWrite; simp

@[simp] theorem State.acceptWrite_ports (s : State) (c : Caller) (kind : Nat) (idx : Nat) (sub : Nat) (old : Nat) (new : Nat) (value : Nat) (epoch : Nat) : (State.acceptWrite s c kind idx sub old new value epoch).ports = s.ports := by
  unfold State.acceptWrite; simp

@[simp] theorem State.acceptWrite_saddle (s : State) (c : Caller) (kind : Nat) (idx : Nat) (sub : Nat) (old : Nat) (new : Nat) (value : Nat) (epoch : Nat) : (State.acceptWrite s c kind idx sub old new value epoch).saddle = s.saddle := by
  unfold State.acceptWrite; simp

@[simp] theorem State.acceptWrite_keys (s : State) (c : Caller) (kind : Nat) (idx : Nat) (sub : Nat) (old : Nat) (new : Nat) (value : Nat) (epoch : Nat) : (State.acceptWrite s c kind idx sub old new value epoch).keys = s.keys := by
  unfold State.acceptWrite; simp

@[simp] theorem State.acceptWrite_power (s : State) (c : Caller) (kind : Nat) (idx : Nat) (sub : Nat) (old : Nat) (new : Nat) (value : Nat) (epoch : Nat) : (State.acceptWrite s c kind idx sub old new value epoch).power = s.power := by
  unfold State.acceptWrite; simp

@[simp] theorem State.acceptWrite_basin (s : State) (c : Caller) (kind : Nat) (idx : Nat) (sub : Nat) (old : Nat) (new : Nat) (value : Nat) (epoch : Nat) : (State.acceptWrite s c kind idx sub old new value epoch).basin = s.basin := by
  unfold State.acceptWrite; simp

@[simp] theorem State.acceptWrite_narrows (s : State) (c : Caller) (kind : Nat) (idx : Nat) (sub : Nat) (old : Nat) (new : Nat) (value : Nat) (epoch : Nat) : (State.acceptWrite s c kind idx sub old new value epoch).narrows = s.narrows := by
  unfold State.acceptWrite; simp

@[simp] theorem State.acceptWrite_legacy (s : State) (c : Caller) (kind : Nat) (idx : Nat) (sub : Nat) (old : Nat) (new : Nat) (value : Nat) (epoch : Nat) : (State.acceptWrite s c kind idx sub old new value epoch).legacy = s.legacy := by
  unfold State.acceptWrite; simp

@[simp] theorem State.acceptWrite_ford (s : State) (c : Caller) (kind : Nat) (idx : Nat) (sub : Nat) (old : Nat) (new : Nat) (value : Nat) (epoch : Nat) : (State.acceptWrite s c kind idx sub old new value epoch).ford = s.ford := by
  unfold State.acceptWrite; simp

@[simp] theorem State.acceptWrite_elnar (s : State) (c : Caller) (kind : Nat) (idx : Nat) (sub : Nat) (old : Nat) (new : Nat) (value : Nat) (epoch : Nat) : (State.acceptWrite s c kind idx sub old new value epoch).elnar = s.elnar := by
  unfold State.acceptWrite; simp

@[simp] theorem State.acceptWrite_fresh (s : State) (c : Caller) (kind : Nat) (idx : Nat) (sub : Nat) (old : Nat) (new : Nat) (value : Nat) (epoch : Nat) : (State.acceptWrite s c kind idx sub old new value epoch).fresh = s.fresh := by
  unfold State.acceptWrite; simp

@[simp] theorem State.acceptWrite_pending (s : State) (c : Caller) (kind : Nat) (idx : Nat) (sub : Nat) (old : Nat) (new : Nat) (value : Nat) (epoch : Nat) : (State.acceptWrite s c kind idx sub old new value epoch).pending = s.pending := by
  unfold State.acceptWrite; simp

@[simp] theorem State.keyRequest_time (s : State) (c : Caller) (op : Nat) (idx : Nat) (sub : Nat) (data : Bytes) : (State.keyRequest s c op idx sub data).time = s.time := by
  unfold State.keyRequest; simp

@[simp] theorem State.keyRequest_dict (s : State) (c : Caller) (op : Nat) (idx : Nat) (sub : Nat) (data : Bytes) : (State.keyRequest s c op idx sub data).dict = s.dict := by
  unfold State.keyRequest; simp

@[simp] theorem State.keyRequest_access (s : State) (c : Caller) (op : Nat) (idx : Nat) (sub : Nat) (data : Bytes) : (State.keyRequest s c op idx sub data).access = s.access := by
  unfold State.keyRequest; simp

@[simp] theorem State.keyRequest_journal (s : State) (c : Caller) (op : Nat) (idx : Nat) (sub : Nat) (data : Bytes) : (State.keyRequest s c op idx sub data).journal = s.journal := by
  unfold State.keyRequest; simp

@[simp] theorem State.keyRequest_safety (s : State) (c : Caller) (op : Nat) (idx : Nat) (sub : Nat) (data : Bytes) : (State.keyRequest s c op idx sub data).safety = s.safety := by
  unfold State.keyRequest; simp

@[simp] theorem State.keyRequest_host (s : State) (c : Caller) (op : Nat) (idx : Nat) (sub : Nat) (data : Bytes) : (State.keyRequest s c op idx sub data).host = s.host := by
  unfold State.keyRequest; simp

@[simp] theorem State.keyRequest_ports (s : State) (c : Caller) (op : Nat) (idx : Nat) (sub : Nat) (data : Bytes) : (State.keyRequest s c op idx sub data).ports = s.ports := by
  unfold State.keyRequest; simp

@[simp] theorem State.keyRequest_keys (s : State) (c : Caller) (op : Nat) (idx : Nat) (sub : Nat) (data : Bytes) : (State.keyRequest s c op idx sub data).keys = s.keys := by
  unfold State.keyRequest; simp

@[simp] theorem State.keyRequest_power (s : State) (c : Caller) (op : Nat) (idx : Nat) (sub : Nat) (data : Bytes) : (State.keyRequest s c op idx sub data).power = s.power := by
  unfold State.keyRequest; simp

@[simp] theorem State.keyRequest_basin (s : State) (c : Caller) (op : Nat) (idx : Nat) (sub : Nat) (data : Bytes) : (State.keyRequest s c op idx sub data).basin = s.basin := by
  unfold State.keyRequest; simp

@[simp] theorem State.keyRequest_narrows (s : State) (c : Caller) (op : Nat) (idx : Nat) (sub : Nat) (data : Bytes) : (State.keyRequest s c op idx sub data).narrows = s.narrows := by
  unfold State.keyRequest; simp

@[simp] theorem State.keyRequest_legacy (s : State) (c : Caller) (op : Nat) (idx : Nat) (sub : Nat) (data : Bytes) : (State.keyRequest s c op idx sub data).legacy = s.legacy := by
  unfold State.keyRequest; simp

@[simp] theorem State.keyRequest_ford (s : State) (c : Caller) (op : Nat) (idx : Nat) (sub : Nat) (data : Bytes) : (State.keyRequest s c op idx sub data).ford = s.ford := by
  unfold State.keyRequest; simp

@[simp] theorem State.keyRequest_elnar (s : State) (c : Caller) (op : Nat) (idx : Nat) (sub : Nat) (data : Bytes) : (State.keyRequest s c op idx sub data).elnar = s.elnar := by
  unfold State.keyRequest; simp

@[simp] theorem State.keyRequest_fresh (s : State) (c : Caller) (op : Nat) (idx : Nat) (sub : Nat) (data : Bytes) : (State.keyRequest s c op idx sub data).fresh = s.fresh := by
  unfold State.keyRequest; simp

@[simp] theorem State.keyRequest_pending (s : State) (c : Caller) (op : Nat) (idx : Nat) (sub : Nat) (data : Bytes) : (State.keyRequest s c op idx sub data).pending = s.pending := by
  unfold State.keyRequest; simp

@[simp] theorem State.storeWrite_time (s : State) (c : Caller) (k : Nat) (idx : Nat) (sub : Nat) (e : EntryDef) (v : Nat) : (State.storeWrite s c k idx sub e v).time = s.time := by
  unfold State.storeWrite; (try dsimp only); (repeat' split) <;> simp

@[simp] theorem State.storeWrite_ord (s : State) (c : Caller) (k : Nat) (idx : Nat) (sub : Nat) (e : EntryDef) (v : Nat) : (State.storeWrite s c k idx sub e v).ord = s.ord := by
  unfold State.storeWrite; (try dsimp only); (repeat' split) <;> simp

@[simp] theorem State.storeWrite_access (s : State) (c : Caller) (k : Nat) (idx : Nat) (sub : Nat) (e : EntryDef) (v : Nat) : (State.storeWrite s c k idx sub e v).access = s.access := by
  unfold State.storeWrite; (try dsimp only); (repeat' split) <;> simp

@[simp] theorem State.storeWrite_journal (s : State) (c : Caller) (k : Nat) (idx : Nat) (sub : Nat) (e : EntryDef) (v : Nat) : (State.storeWrite s c k idx sub e v).journal = s.journal := by
  unfold State.storeWrite; (try dsimp only); (repeat' split) <;> simp

@[simp] theorem State.storeWrite_safety (s : State) (c : Caller) (k : Nat) (idx : Nat) (sub : Nat) (e : EntryDef) (v : Nat) : (State.storeWrite s c k idx sub e v).safety = s.safety := by
  unfold State.storeWrite; (try dsimp only); (repeat' split) <;> simp

@[simp] theorem State.storeWrite_host (s : State) (c : Caller) (k : Nat) (idx : Nat) (sub : Nat) (e : EntryDef) (v : Nat) : (State.storeWrite s c k idx sub e v).host = s.host := by
  unfold State.storeWrite; (try dsimp only); (repeat' split) <;> simp

@[simp] theorem State.storeWrite_ports (s : State) (c : Caller) (k : Nat) (idx : Nat) (sub : Nat) (e : EntryDef) (v : Nat) : (State.storeWrite s c k idx sub e v).ports = s.ports := by
  unfold State.storeWrite; (try dsimp only); (repeat' split) <;> simp

@[simp] theorem State.storeWrite_saddle (s : State) (c : Caller) (k : Nat) (idx : Nat) (sub : Nat) (e : EntryDef) (v : Nat) : (State.storeWrite s c k idx sub e v).saddle = s.saddle := by
  unfold State.storeWrite; (try dsimp only); (repeat' split) <;> simp

@[simp] theorem State.storeWrite_keys (s : State) (c : Caller) (k : Nat) (idx : Nat) (sub : Nat) (e : EntryDef) (v : Nat) : (State.storeWrite s c k idx sub e v).keys = s.keys := by
  unfold State.storeWrite; (try dsimp only); (repeat' split) <;> simp

@[simp] theorem State.storeWrite_power (s : State) (c : Caller) (k : Nat) (idx : Nat) (sub : Nat) (e : EntryDef) (v : Nat) : (State.storeWrite s c k idx sub e v).power = s.power := by
  unfold State.storeWrite; (try dsimp only); (repeat' split) <;> simp

@[simp] theorem State.storeWrite_basin (s : State) (c : Caller) (k : Nat) (idx : Nat) (sub : Nat) (e : EntryDef) (v : Nat) : (State.storeWrite s c k idx sub e v).basin = s.basin := by
  unfold State.storeWrite; (try dsimp only); (repeat' split) <;> simp

@[simp] theorem State.storeWrite_narrows (s : State) (c : Caller) (k : Nat) (idx : Nat) (sub : Nat) (e : EntryDef) (v : Nat) : (State.storeWrite s c k idx sub e v).narrows = s.narrows := by
  unfold State.storeWrite; (try dsimp only); (repeat' split) <;> simp

@[simp] theorem State.storeWrite_legacy (s : State) (c : Caller) (k : Nat) (idx : Nat) (sub : Nat) (e : EntryDef) (v : Nat) : (State.storeWrite s c k idx sub e v).legacy = s.legacy := by
  unfold State.storeWrite; (try dsimp only); (repeat' split) <;> simp

@[simp] theorem State.storeWrite_ford (s : State) (c : Caller) (k : Nat) (idx : Nat) (sub : Nat) (e : EntryDef) (v : Nat) : (State.storeWrite s c k idx sub e v).ford = s.ford := by
  unfold State.storeWrite; (try dsimp only); (repeat' split) <;> simp

@[simp] theorem State.storeWrite_elnar (s : State) (c : Caller) (k : Nat) (idx : Nat) (sub : Nat) (e : EntryDef) (v : Nat) : (State.storeWrite s c k idx sub e v).elnar = s.elnar := by
  unfold State.storeWrite; (try dsimp only); (repeat' split) <;> simp

@[simp] theorem State.storeWrite_fresh (s : State) (c : Caller) (k : Nat) (idx : Nat) (sub : Nat) (e : EntryDef) (v : Nat) : (State.storeWrite s c k idx sub e v).fresh = s.fresh := by
  unfold State.storeWrite; (try dsimp only); (repeat' split) <;> simp

@[simp] theorem State.storeWrite_pending (s : State) (c : Caller) (k : Nat) (idx : Nat) (sub : Nat) (e : EntryDef) (v : Nat) : (State.storeWrite s c k idx sub e v).pending = s.pending := by
  unfold State.storeWrite; (try dsimp only); (repeat' split) <;> simp

end Sys2Proof.Machine
end

