-- ==== Sys2Proof/Laws/Faults.lean ====
section
/-! SUPPORT. Bits of a number, and what raising a fault input does to the fault collection unit. -/

namespace Sys2Proof.Machine

open Sys2Proof

/-! ### Bits -/

@[simp] theorem bitOf_setBitAt (n i : Nat) : bitOf (setBitAt n i) i = true := by
  simp [bitOf, setBitAt, Nat.testBit_or, Nat.testBit_shiftLeft]

theorem bitOf_setBitAt_ne (n i j : Nat) (h : j ≠ i) : bitOf (setBitAt n i) j = bitOf n j := by
  simp only [bitOf, setBitAt, Nat.testBit_or, Nat.one_shiftLeft, Nat.testBit_two_pow]
  rw [decide_eq_false (fun e => h e.symm), Bool.or_false]

@[simp] theorem bitOf_clearBitAt (n i : Nat) : bitOf (clearBitAt n i) i = false := by
  simp [bitOf, clearBitAt, Nat.testBit_xor, Nat.testBit_and, Nat.one_shiftLeft, Nat.testBit_two_pow]

theorem bitOf_clearBitAt_ne (n i j : Nat) (h : j ≠ i) : bitOf (clearBitAt n i) j = bitOf n j := by
  simp only [bitOf, clearBitAt, Nat.testBit_xor, Nat.testBit_and, Nat.one_shiftLeft, Nat.testBit_two_pow]
  rw [decide_eq_false (fun e => h e.symm)]
  simp

@[simp] theorem bitOf_putBitAt (n i : Nat) (b : Bool) : bitOf (putBitAt n i b) i = b := by
  cases b <;> simp [putBitAt]

/-! ### Raising a fault input (R366 to R368) -/

/-- The fault inputs' records, which the reactions do not change. -/
def Safety.inputs (f : Safety) : Nat × Nat × List (Nat × FaultRec) × List (Nat × Nat) := (f.active, f.latched, f.recs, f.reactions)

theorem refreshSafety_inputs (s : State) : s.refreshSafety.safety.inputs = s.safety.inputs := by
  unfold State.refreshSafety
  dsimp only
  (repeat' split) <;> rfl

theorem fatalActions_inputs (s : State) : s.fatalActions.safety.inputs = s.safety.inputs := by
  unfold State.fatalActions
  split <;> rfl

theorem react_inputs (s : State) (key : OKey) (i r : Nat) (first : Bool) : (s.react key i r first).safety.inputs = s.safety.inputs := by
  unfold State.react
  dsimp only
  split
  · rw [fatalActions_inputs]
    split <;> split <;> simp [Safety.inputs]
  · split <;> split <;> simp [Safety.inputs]

/-- Raising an input latches it, marks it active while its cause lasts, and advances its record. -/
theorem raiseFault_inputs (s : State) (i : Nat) (stays : Bool) :
    (s.raiseFault i stays).safety.active = (if stays then setBitAt s.safety.active i else s.safety.active) ∧
    (s.raiseFault i stays).safety.latched = setBitAt s.safety.latched i ∧
    ((s.raiseFault i stays).faultRec i).count =
      (if (s.faultRec i).count = 0xFFFFFFFF then 0xFFFFFFFF else (s.faultRec i).count + 1) := by
  unfold State.raiseFault
  dsimp only
  generalize hf : ({ s.issueKey 0x0800 with safety := _ } : State) = u
  have h := (refreshSafety_inputs (u.react (s.nextKey 0x0800) i (s.reactionOf i) (!bitOf s.safety.latched i))).trans
    (react_inputs u (s.nextKey 0x0800) i (s.reactionOf i) (!bitOf s.safety.latched i))
  simp only [Safety.inputs, Prod.mk.injEq] at h
  obtain ⟨h1, h2, h3, h4⟩ := h
  refine ⟨?_, ?_, ?_⟩
  · rw [h1, ← hf]; rfl
  · rw [h2, ← hf]; rfl
  · unfold State.faultRec
    rw [h3, ← hf]
    simp only [State.issueKey_safety]
    rw [kput, if_neg, kget_kins_same]
    · show (if (s.faultRec i).count = 0xFFFFFFFF then (s.faultRec i).count else (s.faultRec i).count + 1)
        = if (s.faultRec i).count = 0xFFFFFFFF then 0xFFFFFFFF else (s.faultRec i).count + 1
      split
      · rename_i e
        exact e
      · rfl
    · intro e
      simp only [FaultRec.mk.injEq] at e
      have := e.1
      split at this <;> omega

end Sys2Proof.Machine
end

