-- ==== Sys2Proof/Laws/Registers.lean ====
section
/-! SUPPORT. Status entries and ports read back after each operation that writes one. -/

namespace Sys2Proof.Machine

open Sys2Proof

/-! ### Status entries -/

/-- A status entry after one entry is written. -/
theorem stat_setStat (s : State) (i j v a b : Nat) :
    (s.setStat i j v).stat a b = if a * 256 + b = i * 256 + j then v else s.stat a b := by
  split
  · next e =>
    have : dkey a b = dkey i j := e
    unfold State.stat
    rw [this]
    exact stat_setStat_same s i j v
  · next e => exact stat_setStat_ne s a b i j v e

/-- A status entry after one counter counts. -/
theorem stat_count64 (s : State) (i j n a b : Nat) :
    (s.count64 i j n).stat a b = if a * 256 + b = i * 256 + j then (s.stat i j + n) % 2 ^ 64 else s.stat a b :=
  stat_setStat s i j _ a b

/-- A status entry after bits of one entry are set. -/
theorem stat_orStat (s : State) (i j n a b : Nat) :
    (s.orStat i j n).stat a b = if a * 256 + b = i * 256 + j then s.stat i j ||| n else s.stat a b :=
  stat_setStat s i j _ a b

@[simp] theorem stat_modPort (s : State) (p : Nat) (f : Port → Port) (a b : Nat) : (s.modPort p f).stat a b = s.stat a b := rfl
@[simp] theorem reg_modPort (s : State) (p : Nat) (f : Port → Port) (a b : Nat) : (s.modPort p f).reg a b = s.reg a b := rfl
@[simp] theorem reg_count64 (s : State) (i j n a b : Nat) : (s.count64 i j n).reg a b = s.reg a b := rfl
@[simp] theorem reg_orStat (s : State) (i j n a b : Nat) : (s.orStat i j n).reg a b = s.reg a b := rfl

/-! ### Ports -/

/-- The port that is changed. -/
theorem port_modPort_same (s : State) (p : Nat) (f : Port → Port) (h : p < s.ports.length) :
    (s.modPort p f).port p = f (s.port p) := by
  simp [State.port, State.modPort, nth_modNth_same, h]

/-- The other ports. -/
theorem port_modPort_ne (s : State) (p q : Nat) (f : Port → Port) (h : q ≠ p) : (s.modPort p f).port q = s.port q := by
  simp [State.port, State.modPort, nth_modNth_ne, h]

/-- A port depends on the list of ports alone. -/
theorem port_congr {s u : State} (h : u.ports = s.ports) (p : Nat) : u.port p = s.port p := by simp [State.port, h]

@[simp] theorem port_setStat (s : State) (i j v p : Nat) : (s.setStat i j v).port p = s.port p := rfl
@[simp] theorem port_count64 (s : State) (i j v p : Nat) : (s.count64 i j v).port p = s.port p := rfl
@[simp] theorem port_orStat (s : State) (i j v p : Nat) : (s.orStat i j v).port p = s.port p := rfl
@[simp] theorem port_advance (s : State) (t p : Nat) : (s.advance t).port p = s.port p := rfl
@[simp] theorem length_modPort (s : State) (p : Nat) (f : Port → Port) : (s.modPort p f).ports.length = s.ports.length := by
  simp [State.modPort]

end Sys2Proof.Machine
end

