-- ==== Sys2Proof/Laws/Requests.lean ====
section
/-! SUPPORT. What a dictionary request does, once its checks are known: an accepted write, a refused one, an answered read. -/

namespace Sys2Proof.Machine

open Sys2Proof

/-- The configuration and order time decide what an entry reads as for an input keyed now. -/
theorem reg_congr {s u : State} (hd : u.dict = s.dict) (ht : u.time = s.time) (idx sub : Nat) : u.reg idx sub = s.reg idx sub := by
  unfold State.reg State.regAt State.keyEpoch
  rw [hd, ht]

/-- Keying a request changes the keys issued, the outbox and the session, and nothing else. -/
@[simp] theorem afterKey_time (s : State) (c : Caller) (op i j : Nat) (d : Bytes) : (s.afterKey c op i j d).time = s.time := by simp [State.afterKey]
@[simp] theorem afterKey_dict (s : State) (c : Caller) (op i j : Nat) (d : Bytes) : (s.afterKey c op i j d).dict = s.dict := by simp [State.afterKey]
@[simp] theorem afterKey_journal (s : State) (c : Caller) (op i j : Nat) (d : Bytes) : (s.afterKey c op i j d).journal = s.journal := by simp [State.afterKey]
@[simp] theorem afterKey_safety (s : State) (c : Caller) (op i j : Nat) (d : Bytes) : (s.afterKey c op i j d).safety = s.safety := by simp [State.afterKey]
@[simp] theorem afterKey_host (s : State) (c : Caller) (op i j : Nat) (d : Bytes) : (s.afterKey c op i j d).host = s.host := by simp [State.afterKey]
@[simp] theorem afterKey_ports (s : State) (c : Caller) (op i j : Nat) (d : Bytes) : (s.afterKey c op i j d).ports = s.ports := by simp [State.afterKey]
@[simp] theorem afterKey_keys (s : State) (c : Caller) (op i j : Nat) (d : Bytes) : (s.afterKey c op i j d).keys = s.keys := by simp [State.afterKey]
@[simp] theorem afterKey_power (s : State) (c : Caller) (op i j : Nat) (d : Bytes) : (s.afterKey c op i j d).power = s.power := by simp [State.afterKey]
@[simp] theorem afterKey_basin (s : State) (c : Caller) (op i j : Nat) (d : Bytes) : (s.afterKey c op i j d).basin = s.basin := by simp [State.afterKey]
@[simp] theorem afterKey_narrows (s : State) (c : Caller) (op i j : Nat) (d : Bytes) : (s.afterKey c op i j d).narrows = s.narrows := by simp [State.afterKey]
@[simp] theorem afterKey_legacy (s : State) (c : Caller) (op i j : Nat) (d : Bytes) : (s.afterKey c op i j d).legacy = s.legacy := by simp [State.afterKey]
@[simp] theorem afterKey_ford (s : State) (c : Caller) (op i j : Nat) (d : Bytes) : (s.afterKey c op i j d).ford = s.ford := by simp [State.afterKey]
@[simp] theorem afterKey_elnar (s : State) (c : Caller) (op i j : Nat) (d : Bytes) : (s.afterKey c op i j d).elnar = s.elnar := by simp [State.afterKey]
@[simp] theorem afterKey_fresh (s : State) (c : Caller) (op i j : Nat) (d : Bytes) : (s.afterKey c op i j d).fresh = s.fresh := by simp [State.afterKey]
@[simp] theorem afterKey_pending (s : State) (c : Caller) (op i j : Nat) (d : Bytes) : (s.afterKey c op i j d).pending = s.pending := by simp [State.afterKey]
@[simp] theorem afterKey_reg (s : State) (c : Caller) (op i j : Nat) (d : Bytes) (a b : Nat) : (s.afterKey c op i j d).reg a b = s.reg a b := reg_congr (by simp) (by simp) a b
@[simp] theorem afterKey_stat (s : State) (c : Caller) (op i j : Nat) (d : Bytes) (a b : Nat) : (s.afterKey c op i j d).stat a b = s.stat a b := by simp [State.stat]
@[simp] theorem afterKey_timeSet (s : State) (c : Caller) (op i j : Nat) (d : Bytes) (a : Nat) : (s.afterKey c op i j d).timeSet a = s.timeSet a := by simp [State.timeSet]

/-- A write that every check accepts is stored, and its own effect follows. -/
theorem dictWrite_accepted (s : State) (c : Caller) (idx sub : Nat) (data : Bytes) (extra : State → Nat → Nat)
    (eff : Nat → State → State) (e : EntryDef) (he : entryDef idx sub = some e) (h : s.writeCheck c idx sub data = 0)
    (hx : extra (s.afterKey c 2 idx sub data) (leNat data) = 0) :
    s.dictWrite c idx sub data extra eff
      = eff (leNat data) ((s.afterKey c 2 idx sub data).storeWrite c s.keyEpoch idx sub e (leNat data)) := by
  simp only [State.writeCheck, State.afterKey] at h hx
  simp only [State.dictWrite, State.afterKey, h, hx, he, ne_eq, not_true_eq_false, if_false, if_true]

/-- A write that a check refuses is answered with the status of the first check that fails. -/
theorem dictWrite_refused (s : State) (c : Caller) (idx sub : Nat) (data : Bytes) (extra : State → Nat → Nat)
    (eff : Nat → State → State) (h : s.writeCheck c idx sub data ≠ 0) :
    s.dictWrite c idx sub data extra eff
      = (if (s.afterKey c 2 idx sub data).follows && sharedEntry idx sub then (s.afterKey c 2 idx sub data).withhold
          else s.afterKey c 2 idx sub data).reply c (s.writeCheck c idx sub data) 0 0 := by
  simp only [State.writeCheck, State.afterKey] at h
  simp [State.dictWrite, State.writeCheck, State.afterKey, h]

/-- A write that only the entry's own condition refuses is answered with that condition's status. -/
theorem dictWrite_extra (s : State) (c : Caller) (idx sub : Nat) (data : Bytes) (extra : State → Nat → Nat)
    (eff : Nat → State → State) (h : s.writeCheck c idx sub data = 0) (hx : extra (s.afterKey c 2 idx sub data) (leNat data) ≠ 0) :
    s.dictWrite c idx sub data extra eff
      = (if (s.afterKey c 2 idx sub data).follows && sharedEntry idx sub then (s.afterKey c 2 idx sub data).withhold
          else s.afterKey c 2 idx sub data).reply c (extra (s.afterKey c 2 idx sub data) (leNat data)) 0 0 := by
  simp only [State.writeCheck, State.afterKey] at h hx
  simp only [State.dictWrite, State.afterKey, h, hx, ne_eq, not_false_eq_true, if_true]
  rfl

/-- The key a source issued last is the one it would have issued next before (R32). -/
theorem lastKey_issueKey (s : State) (src : Nat) : ((s.issueKey src).lastKey src).epoch = (s.nextKey src).epoch := by
  unfold State.lastKey State.sourceKeys State.issueKey
  dsimp only
  rw [kput, if_neg, kget_kins_same]
  intro h
  simp only [SourceKeys.none, SourceKeys.mk.injEq] at h
  have := h.2.2
  split at this <;> omega

/-- The key under which a request was taken. -/
theorem lastKey_afterKey (s : State) (c : Caller) (op idx sub : Nat) (data : Bytes) :
    ((s.afterKey c op idx sub data).lastKey (ifaceSource c.iface)).epoch = (s.nextKey (ifaceSource c.iface)).epoch := by
  have h : (s.afterKey c op idx sub data).ord = (s.issueKey (ifaceSource c.iface)).ord := by
    unfold State.afterKey State.keyRequest
    dsimp only
    split <;> simp
  unfold State.lastKey State.sourceKeys
  rw [h]
  exact lastKey_issueKey s _

/-- Storing an accepted write issues no key. -/
theorem lastKey_storeWrite (s : State) (c : Caller) (k i j : Nat) (e : EntryDef) (v src : Nat) :
    (s.storeWrite c k i j e v).lastKey src = s.lastKey src := by simp [State.lastKey, State.sourceKeys]

/-- A read that every check accepts is answered with the value, and what it clears is cleared. -/
theorem dictRead_answered (s : State) (c : Caller) (idx sub : Nat) (extra : State → Nat) (val : State → Nat) (len : Nat)
    (eff : State → State) (h : s.readCheck c idx sub = 0) (hx : extra (s.afterKey c 1 idx sub []) = 0) :
    s.dictRead c idx sub extra val len eff
      = eff ((s.afterKey c 1 idx sub []).reply c 0 (val (s.afterKey c 1 idx sub [])) len) := by
  simp only [State.readCheck, State.afterKey] at h hx
  simp only [State.dictRead, State.afterKey, h, hx, ne_eq, not_true_eq_false, if_false, if_true]

/-- The reply of an interface that has just been given one. -/
theorem replyOf_reply (s : State) (c : Caller) (status value len : Nat) :
    (s.reply c status value len).replyOf c.iface = some ⟨c, status, value, len⟩ := by
  simp only [State.replyOf, State.reply, List.find?_append]
  have : (s.dict.replies.filter (fun r => decide (r.caller.iface ≠ c.iface))).find? (fun r => decide (r.caller.iface = c.iface)) = none := by
    rw [List.find?_eq_none]
    intro r hr
    simp at hr
    simp [hr.2]
  rw [this]
  simp

/-- The reply of an interface, where the replies are those of a state that has just given one. -/
theorem replyOf_eq {s u : State} {c : Caller} {status value len : Nat}
    (h : u.dict.replies = (s.reply c status value len).dict.replies) : u.replyOf c.iface = some ⟨c, status, value, len⟩ := by
  rw [← replyOf_reply s c status value len]
  unfold State.replyOf
  rw [h]

/-- An accepted write leaves a response that waits (R56). -/
theorem acceptWrite_accepted (s : State) (c : Caller) (kind idx sub old new value epoch : Nat) :
    (s.acceptWrite c kind idx sub old new value epoch).accepted c = true := by
  simp [State.acceptWrite, State.acceptBytes, State.accepted]

theorem storeWrite_accepted (s : State) (c : Caller) (k idx sub : Nat) (e : EntryDef) (v : Nat) :
    (s.storeWrite c k idx sub e v).accepted c = true := by
  unfold State.storeWrite
  split
  · exact acceptWrite_accepted ..
  · split
    · exact acceptWrite_accepted ..
    · exact acceptWrite_accepted ..
    · have h := acceptWrite_accepted (s.addSetting (k + 4) k (ifaceSource c.iface) (dkey idx sub) v) c 0 idx sub (s.regAt k (dkey idx sub)) v 0 (k + 4)
      simpa [State.accepted] using h
    · exact acceptWrite_accepted ..

end Sys2Proof.Machine
end

