-- ==== Sys2Proof/Laws/ShapeServe.lean ====
section
/-! SUPPORT. The queue and the numbers of units under the operations of Serve. -/

namespace Sys2Proof.Machine

open Sys2Proof

@[simp] theorem State.refuseLength_shape (s : State) (c : Caller) (idx : Nat) (sub : Nat) (write : Bool) : (State.refuseLength s c idx sub write).shape = s.shape := by
  unfold State.refuseLength; simp

@[simp] theorem State.writeAny_shape (s : State) (c : Caller) (idx : Nat) (sub : Nat) (data : Bytes) : (State.writeAny s c idx sub data).shape = s.shape := by
  unfold State.writeAny; (try dsimp only); (repeat' split) <;> simp

@[simp] theorem State.forgetReply_shape (s : State) (i : Iface) : (State.forgetReply s i).shape = s.shape := by
  unfold State.forgetReply; simp

@[simp] theorem State.runOp_shape (s : State) (c : Caller) (f : State → State) (hf : ∀ y0, (f y0).shape = y0.shape) : (State.runOp s c f).1.shape = s.shape := by
  unfold State.runOp; (try dsimp only); (repeat' split) <;> simp_all

@[simp] theorem State.moderate_shape (s : State) (v : Nat) (md : Nat) : (State.moderate s v md).shape = s.shape := by
  unfold State.moderate; simp

@[simp] theorem State.hostWrite_shape (s : State) (addr : Nat) (data : Bytes) : (State.hostWrite s addr data).shape = s.shape := by
  unfold State.hostWrite; simp

@[simp] theorem State.ringOut_shape (s : State) (entry : Bytes) (data : Option (Nat × Bytes)) : (State.ringOut s entry data).shape = s.shape := by
  unfold State.ringOut; (try dsimp only); (repeat' split) <;> simp

@[simp] theorem State.emit_shape (s : State) (a : Awaiting) : (State.emit s a).shape = s.shape := by
  unfold State.emit; (try dsimp only); (repeat' split) <;> simp

@[simp] theorem State.respond_shape (s : State) (c : Caller) (epoch : Option Nat) (carry : Carry) : (State.respond s c epoch carry).shape = s.shape := by
  unfold State.respond; simp

@[simp] theorem sendFollowing_shape (i : Iface) (a1 : Nat) (a2 : State) : (sendFollowing i a1 a2).shape = a2.shape := by
  fun_induction sendFollowing i a1 a2 <;> (try dsimp only at *) <;> (repeat' split) <;> simp_all +zetaDelta

@[simp] theorem writeResponse_shape (s : State) : (writeResponse s).shape = s.shape := by
  unfold writeResponse; (try dsimp only); (repeat' split) <;> simp

@[simp] theorem State.runRecord_shape (s : State) (c : Caller) (r : OpRecord) : (State.runRecord s c r).1.shape = s.shape := by
  unfold State.runRecord; simp

@[simp] theorem runRecords_shape (c : Caller) (b : Bytes) (a1 : List (Option OpRecord)) (a2 : State) (a3 : Bytes) (a4 : Option Nat) : (runRecords c b a1 a2 a3 a4).1.shape = a2.shape := by
  fun_induction runRecords c b a1 a2 a3 a4 <;> (try dsimp only at *) <;> (repeat' split) <;> simp_all +zetaDelta

@[simp] theorem State.dropDatagram_shape (s : State) : (State.dropDatagram s).shape = s.shape := by
  unfold State.dropDatagram; simp

@[simp] theorem State.sendDap_shape (s : State) (n : Nat) (kind : Nat) (payload : Bytes) (epoch : Option Nat) : (State.sendDap s n kind payload epoch).shape = s.shape := by
  unfold State.sendDap; simp

@[simp] theorem State.dapRequest_shape (s : State) (d : DapDatagram) : (State.dapRequest s d).shape = s.shape := by
  unfold State.dapRequest; simp

@[simp] theorem State.dapOpen_shape (s : State) (d : DapDatagram) : (State.dapOpen s d).shape = s.shape := by
  unfold State.dapOpen; (try dsimp only); (repeat' split) <;> simp

@[simp] theorem State.proofFailed_shape (s : State) : (State.proofFailed s).shape = s.shape := by
  unfold State.proofFailed
  simp only [shape_ite, raiseEvent_shape, shape_access, count32_shape, ite_self]

@[simp] theorem State.dapProof_shape (s : State) (d : DapDatagram) : (State.dapProof s d).shape = s.shape := by
  unfold State.dapProof; simp

@[simp] theorem State.dapReceive_shape (s : State) (d : DapDatagram) : (State.dapReceive s d).shape = s.shape := by
  unfold State.dapReceive; simp

@[simp] theorem State.setSdo_shape (s : State) (x : Option SdoTransfer) : (State.setSdo s x).shape = s.shape := by
  unfold State.setSdo; simp

@[simp] theorem State.sendSdo_shape (s : State) (epoch : Option Nat) (frame : Bytes) : (State.sendSdo s epoch frame).shape = s.shape := by
  unfold State.sendSdo; simp

@[simp] theorem State.abortSdo_shape (s : State) (idx : Nat) (sub : Nat) (code : Nat) : (State.abortSdo s idx sub code).shape = s.shape := by
  unfold State.abortSdo; simp

@[simp] theorem State.sdoWrite_shape (s : State) (idx : Nat) (sub : Nat) (data : Bytes) : (State.sdoWrite s idx sub data).1.shape = s.shape := by
  unfold State.sdoWrite; (try dsimp only); (repeat' split) <;> simp

@[simp] theorem State.sdoStored_shape (s : State) (idx : Nat) (sub : Nat) (data : Bytes) (ok : Bytes) : (State.sdoStored s idx sub data ok).shape = s.shape := by
  unfold State.sdoStored; simp

@[simp] theorem State.sdoDownload_shape (s : State) (f : Bytes) : (State.sdoDownload s f).shape = s.shape := by
  unfold State.sdoDownload; simp

@[simp] theorem State.sdoUpload_shape (s : State) (f : Bytes) : (State.sdoUpload s f).shape = s.shape := by
  unfold State.sdoUpload; simp

@[simp] theorem State.sdoDownSegment_shape (s : State) (x : SdoTransfer) (f : Bytes) : (State.sdoDownSegment s x f).shape = s.shape := by
  unfold State.sdoDownSegment; simp

@[simp] theorem State.sdoUpSegment_shape (s : State) (x : SdoTransfer) : (State.sdoUpSegment s x).shape = s.shape := by
  unfold State.sdoUpSegment; simp

@[simp] theorem State.sdoFrame_shape (s : State) (f : Bytes) : (State.sdoFrame s f).shape = s.shape := by
  unfold State.sdoFrame; (try dsimp only); (repeat' split) <;> simp

@[simp] theorem sdoTimeout_shape (s : State) : (sdoTimeout s).shape = s.shape := by
  unfold sdoTimeout; (try dsimp only); (repeat' split) <;> simp

@[simp] theorem partnerRequest_shape (r : OpRecord) (s : State) : (partnerRequest r s).shape = s.shape := by
  unfold partnerRequest; (try dsimp only); (repeat' split) <;> simp

end Sys2Proof.Machine
end

