-- ==== Sys2Proof/Laws/ShapeHostRing.lean ====
section
/-! SUPPORT. The queue and the numbers of units under the operations of HostRing. -/

namespace Sys2Proof.Machine

open Sys2Proof

@[simp] theorem State.modRing_shape (s : State) (rx : Bool) (n : Nat) (f : Ring → Ring) : (State.modRing s rx n f).shape = s.shape := by
  unfold State.modRing; simp

@[simp] theorem State.refuseWrite_shape (s : State) (bar : Nat) (off : Nat) : (State.refuseWrite s bar off).shape = s.shape := by
  unfold State.refuseWrite; simp

@[simp] theorem writeVectors_shape (w : Nat) (a1 : Nat) (a2 : Nat) (a3 : State) : (writeVectors w a1 a2 a3).shape = a3.shape := by
  fun_induction writeVectors w a1 a2 a3 <;> (try dsimp only at *) <;> (repeat' split) <;> simp_all +zetaDelta

@[simp] theorem State.setReg_shape (s : State) (v : Nat) (a1 : HostReg) : (State.setReg s v a1).shape = s.shape := by
  unfold State.setReg; (try dsimp only); (repeat' split) <;> simp

@[simp] theorem State.registerWrite_shape (s : State) (bar : Nat) (off : Nat) (v : Nat) (a : HostAccess) : (State.registerWrite s bar off v a).shape = s.shape := by
  unfold State.registerWrite; (try dsimp only); (repeat' split) <;> simp

@[simp] theorem State.postedWrite_shape (s : State) (bar : Nat) (off : Nat) (width : Nat) (v : Nat) : (State.postedWrite s bar off width v).shape = s.shape := by
  unfold State.postedWrite; (try dsimp only); (repeat' split) <;> simp

@[simp] theorem invalidPosted_shape (bar : Nat) (off : Nat) (width : Nat) (v : Nat) (s : State) : (invalidPosted bar off width v s).shape = s.shape := by
  unfold invalidPosted; simp

@[simp] theorem State.ringRead_shape (s : State) (c : Caller) (idx : Nat) (sub : Nat) (ptr : Bool) : (State.ringRead s c idx sub ptr).shape = s.shape := by
  unfold State.ringRead; simp

@[simp] theorem State.ringReadSeg_shape (s : State) (c : Caller) (idx : Nat) (sub : Nat) (off : Nat) (len : Nat) (ptr : Bool) : (State.ringReadSeg s c idx sub off len ptr).shape = s.shape := by
  unfold State.ringReadSeg; simp

@[simp] theorem State.ringWriteSeg_shape (s : State) (c : Caller) (idx : Nat) (sub : Nat) (off : Nat) (len : Nat) (ptr : Bool) (data : Bytes) (last : Bool) : (State.ringWriteSeg s c idx sub off len ptr data last).shape = s.shape := by
  unfold State.ringWriteSeg; simp

@[simp] theorem State.ringExec_shape (s : State) (r : RingEntry) : (State.ringExec s r).1.shape = s.shape := by
  unfold State.ringExec; simp

@[simp] theorem serveRing_shape (a1 : Nat) (a2 : State) : (serveRing a1 a2).shape = a2.shape := by
  fun_induction serveRing a1 a2 <;> (try dsimp only at *) <;> (repeat' split) <;> simp_all +zetaDelta

@[simp] theorem State.serveRings_shape (s : State) : (State.serveRings s).shape = s.shape := by
  unfold State.serveRings; simp

@[simp] theorem drqTail_shape (v : Nat) (entries : List RingEntry) (s : State) : (drqTail v entries s).shape = s.shape := by
  unfold drqTail; simp

@[simp] theorem drsHead_shape (v : Nat) (s : State) : (drsHead v s).shape = s.shape := by
  unfold drsHead; simp

@[simp] theorem State.dropResponses_shape (s : State) : (State.dropResponses s).shape = s.shape := by
  unfold State.dropResponses; simp

@[simp] theorem State.enableDict_shape (s : State) (v : Nat) : (State.enableDict s v).shape = s.shape := by
  unfold State.enableDict; simp

@[simp] theorem State.enableRing_shape (s : State) (rx : Bool) (n : Nat) (v : Nat) : (State.enableRing s rx n v).shape = s.shape := by
  unfold State.enableRing; simp

@[simp] theorem ringEnable_shape (ring : RingId) (v : Nat) (s : State) : (ringEnable ring v s).shape = s.shape := by
  unfold ringEnable; (try dsimp only); (repeat' split) <;> simp

end Sys2Proof.Machine
end

