-- ==== Sys2Proof/Laws/ShapeHostFamily.lean ====
section
/-! SUPPORT. The queue and the numbers of units under the operations of HostFamily. -/

namespace Sys2Proof.Machine

open Sys2Proof

@[simp] theorem txTail_shape (ring : Nat) (v : Nat) (s : State) : (txTail ring v s).shape = s.shape := by
  unfold txTail; simp

@[simp] theorem State.noteFetched_shape (s : State) (n : Nat) (st : Nat) (d : TxDescriptor) : (State.noteFetched s n st d).shape = s.shape := by
  unfold State.noteFetched; simp

@[simp] theorem State.countRefused_shape (s : State) (rx : Bool) (n : Nat) : (State.countRefused s rx n).shape = s.shape := by
  unfold State.countRefused; simp

@[simp] theorem txFetch_shape (n : Nat) (d : TxDescriptor) (s : State) : (txFetch n d s).shape = s.shape := by
  unfold txFetch; (try dsimp only); (repeat' split) <;> simp

@[simp] theorem State.advanceHead_shape (s : State) (rx : Bool) (ring : Nat) (n : Nat) : (State.advanceHead s rx ring n).shape = s.shape := by
  unfold State.advanceHead; simp

@[simp] theorem txComplete_shape (n : Nat) (s : State) : (txComplete n s).shape = s.shape := by
  unfold txComplete; (try dsimp only); (repeat' split) <;> simp

@[simp] theorem rxTail_shape (n : Nat) (v : Nat) (bufs : List (Nat × Nat)) (s : State) : (rxTail n v bufs s).shape = s.shape := by
  unfold rxTail; simp

@[simp] theorem writeBuffers_shape (base : Nat) (flags : Nat) (q : Nat) (a1 : List RxBuffer) (a2 : Bytes) (a3 : State) : (writeBuffers base flags q a1 a2 a3).shape = a3.shape := by
  fun_induction writeBuffers base flags q a1 a2 a3 <;> (try dsimp only at *) <;> (repeat' split) <;> simp_all +zetaDelta

@[simp] theorem State.rxDeliver_shape (s : State) (n : Nat) (q : Nat) (c : Copy) (data : Bytes) (bufs : List RxBuffer) : (State.rxDeliver s n q c data bufs).shape = s.shape := by
  unfold State.rxDeliver; simp

@[simp] theorem State.rxStarve_shape (s : State) (n : Nat) (c : Copy) : (State.rxStarve s n c).shape = s.shape := by
  unfold State.rxStarve; simp

@[simp] theorem rxCopyWrite_shape (q : Nat) (s : State) : (rxCopyWrite q s).shape = s.shape := by
  unfold rxCopyWrite; (try dsimp only); (repeat' split) <;> simp

@[simp] theorem moderationExpired_shape (v : Nat) (s : State) : (moderationExpired v s).shape = s.shape := by
  unfold moderationExpired; simp

@[simp] theorem State.dropHostResponses_shape (s : State) : (State.dropHostResponses s).shape = s.shape := by
  unfold State.dropHostResponses; simp

@[simp] theorem State.endHostSessions_shape (s : State) : (State.endHostSessions s).shape = s.shape := by
  unfold State.endHostSessions; simp

@[simp] theorem restart_tx_length (h : HostIf) : h.restart.tx.length = h.tx.length := by simp [HostIf.restart]
@[simp] theorem restart_rx_length (h : HostIf) : h.restart.rx.length = h.rx.length := by simp [HostIf.restart]

@[simp] theorem pcieLinkReset_shape (s : State) : (pcieLinkReset s).shape = s.shape := by
  unfold pcieLinkReset; simp

@[simp] theorem pcieLinkUp_shape (lanes : Nat) (gen : Nat) (s : State) : (pcieLinkUp lanes gen s).shape = s.shape := by
  unfold pcieLinkUp; simp

end Sys2Proof.Machine
end

