-- ==== Sys2Proof/Laws/ShapeStep.lean ====
section
/-! SUPPORT. The queue and the numbers of units under the operations of Step. -/

namespace Sys2Proof.Machine

open Sys2Proof

@[simp] theorem State.withFetchWord_shape (s : State) (nbits : Nat) (w : Nat) : (State.withFetchWord s nbits w).shape = s.shape := by
  rfl

end Sys2Proof.Machine
end

