-- ==== Sys2Proof/Laws/Time.lean ====
section
/-! SUPPORT. Time sets: what a correction does to a reading. -/

namespace Sys2Proof.Machine

open Sys2Proof

/-- The changed set. -/
theorem timeSet_modSet_same (s : State) (n : Nat) (f : TimeSet → TimeSet) (h : n < s.time.sets.length) :
    (s.modSet n f).timeSet n = f (s.timeSet n) := nth_modNth_same _ _ _ _ h

/-- The other sets. -/
theorem timeSet_modSet_ne (s : State) (n m : Nat) (f : TimeSet → TimeSet) (h : m ≠ n) :
    (s.modSet n f).timeSet m = s.timeSet m := nth_modNth_ne _ _ _ _ _ h

@[simp] theorem modSet_raw (s : State) (n : Nat) (f : TimeSet → TimeSet) : (s.modSet n f).time.raw = s.time.raw := rfl
@[simp] theorem modSet_corrections (s : State) (n : Nat) (f : TimeSet → TimeSet) :
    (s.modSet n f).time.corrections = s.time.corrections := rfl
@[simp] theorem orStat_timeSet (s : State) (i j b n : Nat) : (s.orStat i j b).timeSet n = s.timeSet n := rfl
@[simp] theorem setStat_timeSet (s : State) (i j b n : Nat) : (s.setStat i j b).timeSet n = s.timeSet n := rfl

/-- A change of what sets a set's scale leaves its reading at that raw tick as it was (R86). -/
theorem q32_rescale (raw : Nat) (f : TimeSet → TimeSet) (ts : TimeSet) : (ts.rescale raw f).q32 raw = ts.q32 raw := by
  have h : (ts.rescale raw f).scale = (f ts).scale := rfl
  have g : (ts.rescale raw f).given = 0 := rfl
  have o : (ts.rescale raw f).offset = ts.q32 raw - ((raw * (f ts).scale / 256 : Nat) : Int) := rfl
  unfold TimeSet.q32 at o ⊢
  rw [h, g, o]
  simp

/-- A rate keeps the reading (R86). -/
theorem correct_rate (raw limit : Nat) (back : Bool) (n : Nat) (v : Int) (k : OKey) (ts : TimeSet) :
    (ts.correct raw limit back ⟨n, .rate, v, k⟩).rate = v ∧
    (ts.correct raw limit back ⟨n, .rate, v, k⟩).q32 raw = ts.q32 raw := by
  constructor
  · simp only [TimeSet.correct, TimeSet.rescale, TimeSet.reslew]
  · simp only [TimeSet.correct, q32_rescale]

/-- A step with nothing left of a slew, forward or with backward steps permitted, moves the reading by its size (R88). -/
theorem correct_step (raw limit : Nat) (back : Bool) (n : Nat) (d : Int) (k : OKey) (ts : TimeSet) (h : ts.slewRem = 0)
    (hd : 0 ≤ d ∨ back = true) :
    (ts.correct raw limit back ⟨n, .step, d, k⟩).q32 raw = ts.q32 raw + d * 65536 := by
  unfold TimeSet.correct
  dsimp only
  rw [q32_rescale]
  unfold TimeSet.stepBy
  split
  · simp only [h, Nat.zero_min, Nat.sub_zero, TimeSet.q32, TimeSet.scale]
    omega
  · rename_i hn
    have : back = true := by
      rcases hd with hd | hd
      · omega
      · exact hd
    rw [if_pos this]
    simp only [TimeSet.q32, TimeSet.scale]
    omega

/-- A negative step that is not permitted is left to the slew: the reading stays (R88). -/
theorem correct_slew (raw limit : Nat) (n : Nat) (d : Int) (k : OKey) (ts : TimeSet) (hd : d < 0) :
    (ts.correct raw limit false ⟨n, .step, d, k⟩).q32 raw = ts.q32 raw ∧
    (ts.correct raw limit false ⟨n, .step, d, k⟩).slewRem = ts.slewRem + d.natAbs * 2 ^ 24 := by
  unfold TimeSet.correct
  dsimp only
  rw [q32_rescale]
  have e : ts.stepBy false (d * 65536) = { ts with slewRem := ts.slewRem + (-(d * 65536)).toNat * 256 } := by
    unfold TimeSet.stepBy
    rw [if_neg (by omega)]
    rfl
  rw [e]
  refine ⟨by simp only [TimeSet.q32, TimeSet.scale], ?_⟩
  simp only [TimeSet.rescale, TimeSet.reslew]
  omega

end Sys2Proof.Machine
end

