-- ==== Sys2Proof/Tests/Slice0.lean ====
section
/-! SUPPORT. The model's own tests: ill-formed commands refused, the spec's worked examples, and for every statement with conditions
a state and operands that meet them. -/

namespace Tests

open Sys2Proof Sys2Proof.Machine

set_option linter.unusedVariables false
set_option Elab.async false

/-! ### Small states and operands -/

/-- A state with a configuration entry at a value from the start. -/
def cfg (idx sub v : Nat) (s : State) : State :=
  { s with dict := { s.dict with settings := insertSetting ⟨0, 0, 0, dkey idx sub, v⟩ s.dict.settings } }

/-- A state with a status entry at a value. -/
def st (idx sub v : Nat) (s : State) : State := s.setStat idx sub v

/-- A state with a table row from the start. -/
def row (tbl pos : Nat) (vals : List Nat) (s : State) : State :=
  { s with dict := { s.dict with rowOps := ⟨0, 0, 0, tbl, pos, some vals⟩ :: s.dict.rowOps } }

/-- The host, with session slot 0. -/
def host : Caller := ⟨.host, 0⟩
/-- The cluster's firmware. -/
def firm : Caller := ⟨.firmware, 0⟩
/-- A management session. -/
def mgmt : Caller := ⟨.mgmt, 1⟩

/-- After reset. -/
def R : State := State.reset
/-- In RUN, self-test ended, member safe. -/
def run : State := (st 0xA000 1 1 { R with power := { R.power with phase := .run } })

/-- A change of one port. -/
def prt (p : Nat) (f : Port → Port) (s : State) : State := s.modPort p f

/-- Port `p` enabled and in link state `v`. -/
def link (p v : Nat) (s : State) : State := st (0x3040 + p) 1 v (cfg (0x3000 + p) 1 1 s)

/-- An SP port with node ID `id`, enabled and UP. -/
def sp (p id : Nat) (s : State) : State := link p 3 (cfg (0x7080 + p - 20) 1 id s)

/-- A change of one time set. -/
def tset (n : Nat) (f : TimeSet → TimeSet) (s : State) : State := s.modSet n f

/-- A change of the time base. -/
def tim (f : TimeBase → TimeBase) (s : State) : State := { s with time := f s.time }

/-- A frame as it arrives, of 64 bytes. -/
def rx0 : FrameRx := ⟨List.replicate 60 1#8, 64, 0, .none, false, none⟩

/-- A frame in the device. -/
def fr (id p : Nat) : Frame := newFrame id ⟨0, p, 0⟩ p rx0 0 0 true

/-- A change of Basin. -/
def bas (f : Basin → Basin) (s : State) : State := { s with basin := f s.basin }

/-- A change of the ordering units. -/
def ordr (f : Machine.Ordering → Machine.Ordering) (s : State) : State := { s with ord := f s.ord }

/-- A copy of frame `i` in queue `q` of port `p`. -/
def cp (i p q : Nat) : Copy := ⟨1, i, p, q, .plain, 1, 0, false, 0, 0, none, 0⟩

/-- A gate list of one entry. -/
def gl : GateList := ⟨0, 1000000, [⟨1, 0xFF, 1000000, 0⟩]⟩

/-- A stream gate with a pending list. -/
def sg : StreamGate := ⟨{ GateEngine.reset with pending := some (gl, 900) }, false, false, 0, none⟩

/-- A caller's own value of a per-interface entry. -/
def own (c : Caller) (idx sub v : Nat) (s : State) : State := s.setOwn c idx sub v

/-- A change of the dictionary. -/
def dic (f : Dict → Dict) (s : State) : State := { s with dict := f s.dict }

/-- A staging area with records, open for a caller. -/
def stg (c : Caller) (recs : List StagedWork) (s : State) : State :=
  dic (fun d => { d with staging := { d.staging with state := .open_, owner := some c, recs := recs } }) s

/-- A change of the sessions of management. -/
def acc (f : Access → Access) (s : State) : State := { s with access := f s.access }

/-- The definition of an entry. -/
def ent (idx sub : Nat) : EntryDef := (entryDef idx sub).getD ⟨0, 0, 0, 0, .bool, .ro, 0, 0, false, false, .any⟩

/-- A usable key in slot `n`. -/
def key (n : Nat) (s : State) : State :=
  { s with keys := { s.keys with slots := [(n, ⟨1, 0xFFFFFFFF, 0xFFFFFFFF, 0, 0, 0, 0, 0⟩)] } }

/-- Session `n` as given. -/
def ses (n : Nat) (x : Session) (s : State) : State := s.modSession n (fun _ => x)

/-- A session of the host, or of a peer at address 9 and port 99. -/
def hostSes (state : Nat) : Session := ⟨state, true, 5, 0, 0, 0, 0, 1, 2, 1000000000, 0, 1, 0⟩
def peerSes (state : Nat) : Session := ⟨state, false, 5, 9, 99, 0, 0, 1, 2, 1000000000, 0, 1, 3⟩

/-- A datagram of that peer to session 8. -/
def dg (kind : Nat) (plain : Bytes) : DapDatagram := ⟨0x4F56, 1, kind, 8, 1, 100, 9, 99, true, plain⟩

/-- A change of the Elnar link. -/
def eln (f : Elnar → Elnar) (s : State) : State := { s with elnar := f s.elnar }

/-- A change of Saddle. -/
def sad (f : Saddle → Saddle) (s : State) : State := { s with saddle := f s.saddle }

/-- A paired standby on a link in SYNC. -/
def paired : State := st 0x9100 3 1 (sad (fun x => { x with role := .standby, enabled := true }) run)

/-- A change of the bus controllers. -/
def leg (f : Legacy → Legacy) (s : State) : State := { s with legacy := f s.legacy }

/-- A classic CAN frame with identifier `id`. -/
def cf (id : Nat) : BusFrame := ⟨1, 3, id, 0, false, false, 0, 500, [1, 2]⟩

/-- CAN controller `n` enabled, with entries in its queue. -/
def can (n : Nat) (q : List CanEntry) (s : State) : State :=
  (cfg (0x7000 + n) 1 1 s).modCan n (fun c => { c with queue := q })

/-- A queue entry. -/
def ce (id : Nat) (started : Bool) : CanEntry := ⟨cf id, ⟨5, 1, id⟩, 3, started⟩

/-- LIN channel `n` as given. -/
def linc (n : Nat) (x : LinCtl) (s : State) : State := s.modLin n (fun _ => x)

/-- A FlexRay configuration of one static slot 5 (bit 0 of flags sends) and FX enabled. -/
def fx (flags slot : Nat) (s : State) : State :=
  leg (fun l => { l with fx := ⟨List.replicate 8 0 ++ [10, 0, 0, 0] ++ List.replicate 116 0 ++ [1, 0, 0, 0] ++
    [BitVec.ofNat 8 slot, 0, 0, 1, BitVec.ofNat 8 flags, 0, 7, 0], none⟩ }) (cfg 0x7060 1 1 (cfg 0x7060 2 3 s))

/-- Definition `n` in force and settled: kind, flags (1 valid, 2 transmit), bus, identifier and length as given. -/
def pdef (n kind flags bus ident len : Nat) (s : State) : State :=
  (row 0x8100 n [n, kind + 2 ^ 8 * flags + 2 ^ 16 * bus + 2 ^ 32 * ident + 2 ^ 64 * len] s).settlePdu 0 n

/-- A change of Ford. -/
def fo (f : Ford → Ford) (s : State) : State := { s with ford := f s.ford }

/-- An item of Ford, and one in work on processor `p`. -/
def fi (e : Nat) : FordItem := ⟨⟨e, 0x100, 0⟩, .bus (cf 5)⟩
def fw (p e : Nat) (done : Bool) : FordRun := ⟨p, fi e, done⟩

/-- A HELLO of device `n`, without claims. -/
def hi (n : Nat) : Bytes := [1, BitVec.ofNat 8 n] ++ List.replicate 74 0

/-- A handshake in progress. -/
def hs (proved : Bool) : Handshake := ⟨0, hi 0, some (hi 1), proved⟩

/-- The record of kind `k` as its 16 bytes of epoch 9 and argument `a`. -/
def jr (k a : Nat) : Bytes := recBytes ⟨9, 0, 0, k, false, false, none, a, 0, none⟩

/-- A member of a pair in a role, on a link in SYNC. -/
def rol (r : Role) (f : Saddle → Saddle) (s : State) : State :=
  st 0x9100 3 1 (sad (fun x => f { x with role := r, enabled := true }) s)

/-- A request of the bridge: tag, initiator, offset and data. -/
def bq (tag init off : Nat) (data : Bytes) : BridgeReq := ⟨3, tag, init, off, data.length, 0, data⟩

/-- An outstanding request with that tag, issued at raw tick 10. -/
def os (tag : Nat) (ended : Bool) : Outstanding := ⟨{ bq tag 2 0 [] with kind := 3 }, 10, 0, ended⟩

/-- A change of the key store. -/
def ky (f : KeyStore → KeyStore) (s : State) : State := { s with keys := f s.keys }

/-- The header of a location, accepted or not. -/
def bh (ok : Bool) (index version : Nat) : BootHeader := ⟨ok, true, true, index, true, true, true, version, [1, 2]⟩

/-- A slot's content and a shadow of it for slot 20. -/
def slt (v : Nat) : KeySlot := ⟨1, 8, 15, 1, 3, v, 0, v⟩
def shd : KeyShadow := ⟨20, 9, some (slt 77)⟩

/-- An association under slot `n`. -/
def sa (n : Nat) : SecAssoc := ⟨true, 5, 1, 1, true, n⟩

/-- Booted. -/
def bt (s : State) : State := ky (fun k => { k with bootDone := true }) s

/-- A change of the safety unit. -/
def sf (f : Safety → Safety) (s : State) : State := { s with safety := f s.safety }

/-- Pair `p` in mode `m`, changed. -/
def lp (p m : Nat) (f : LockPair → LockPair) (s : State) : State := st (0xA010 + p) 1 m (s.modPair p f)

/-- A valid frame of the safety SPI. -/
def spf (cmd b : Nat) : Bytes :=
  [BitVec.ofNat 8 cmd, BitVec.ofNat 8 b] ++ List.replicate 13 0 ++
    toLE 1 (spiCrc ([BitVec.ofNat 8 cmd, BitVec.ofNat 8 b] ++ List.replicate 13 0))

/-- Watchdog `w` running since raw tick 5. -/
def wd (w : Nat) (aa : Bool) (s : State) : State := s.modWatchdog w (fun _ => ⟨true, 5, aa⟩)

/-- A change of the power state. -/
def pw (f : Power → Power) (s : State) : State := { s with power := f s.power }

/-- In phase `p`. -/
def ph (p : PowerPhase) (s : State) : State := pw (fun x => { x with phase := p }) s

/-- A quiet route of CN3, identifier 5, to CN3 and CN4. -/
def qr : Bytes := toLE 8 (5 + 3 * 2 ^ 32 + 24 * 2 ^ 40 + 2 ^ 48)

/-- In QUIET with CN3 and CN4 under Lowland. -/
def qt : State := pw (fun x => { x with routes := qr, lowBuses := 24, tokens := 24, lowQueues := List.replicate 8 [] }) (ph .quiet run)

/-- A change of the event journal. -/
def jn (f : Journal → Journal) (s : State) : State := { s with journal := f s.journal }

/-- A raised event of code `c` keyed at epoch `e` from source `src`, and a journal entry of one. -/
def rev (c e src args : Nat) : RaisedEvent := ⟨⟨e, src, 0⟩, 3, c, args⟩
def jev (c e src : Nat) : Event := ⟨⟨e, src, 0⟩, 3, c, 2, 0⟩
def jen (n c src : Nat) : JEntry := ⟨n, jev c 1 src, 0, false, false⟩

/-- A change of the host interface, and the link up. -/
def hst (f : HostIf → HostIf) (s : State) : State := { s with host := f s.host }
def lk (s : State) : State := hst (fun h => { h with linkUp := true }) s

/-- The dictionary rings running with 8 entries each. -/
def dr (f : HostIf → HostIf) : State :=
  hst (fun h => f { h with drqSize := 8, drsSize := 8, drCtrl := 1, drStatus := 1, drsBase := 4096 }) (lk run)

/-- A ring of 8 descriptors that runs, and HP enabled and UP with transmit ring 2 and receive ring 3 so. -/
def ri : Ring := ⟨8192, 8, 0, 0, 0x101, 0, 1, 0, 0, 0⟩
def hp (f : HostIf → HostIf) : State :=
  hst (fun h => f { h with tx := modNth h.tx 2 (fun _ => { ri with tail := 4 }), rx := modNth h.rx 3 (fun _ => ri) })
    (cfg 0x301C 1 1 (lk run))

/-- A transmit descriptor of a frame of 64 octets. -/
def td : TxDescriptor := ⟨64, 0, 0, 0, 0, 0, 0, 0, 0, List.replicate 64 1#8, true⟩

/-- A NOP entry with tag 9. -/
def nopEntry : RingEntry := ⟨[8, 9] ++ List.replicate 30 0, none⟩


/-! ### Ill-formed commands, one for each check, refused by WellFormed -/

/-- Ports, queues, sets and pulses that do not exist. -/
theorem test_wf_ports : [Instr.frameHeaderWindow 9 32 rx0, .syncTxStamp 9 0 28 0 0 0 0, .indirectRead 9 host 20,
    .mdioPoll 9 8 none, .launchTimeReached 9 3 8, .rateWrite 9 host 4 [], .triggerLeadingEdge 9 16,
    .frameHeaderWindow 9 3 { rx0 with length := 59 }, .gateListSwitch 9 false 32, .gateListSwitch 9 true 256].all
      (fun i => !i.wf) = true := by decide +kernel

/-- Bus controllers, processors and outputs that do not exist. -/
theorem test_wf_buses : [Instr.sdoRequest 9 24 0 [], .linHeaderDue 9 8, .flexraySlot 9 128 0 0 true,
    .flexrayFrameReceived 9 2 0 0 0 0 0 0 [], .errnPoll 9 26 true, .fordItemComplete 9 32, .handoverTimeout 9 49].all
      (fun i => !i.wf) = true := by decide +kernel

/-- Lanes, classes, tags and semaphores that do not exist. -/
theorem test_wf_link : [Instr.laneFrameReceived 9 4 0 [], .cellGapTimeout 9 6, .cellGapTimeout 9 0, .bridgeTimeout 9 256,
    .semaphoreExpiry 9 64].all (fun i => !i.wf) = true := by decide +kernel

/-- Safety units, wake sources and banks that do not exist. -/
theorem test_wf_units : [Instr.faultInputRaised 9 256 false, .watchdogService 9 host 8 0, .supplyOutOfWindow 9 10 0,
    .temperatureLimit 9 8 0, .tamperAlarm 9 4 true, .wakeSource 9 34, .frameBankWalkDone 9 64, .ternaryRewrite 9 8192 true,
    .openProofTimeout 9 0, .openProofTimeout 9 9].all (fun i => !i.wf) = true := by decide +kernel

/-- Host units that do not exist, and operands of no width the hardware has. -/
theorem test_wf_host : [Instr.ringEnable 9 (.tx 16) 1, .ringEnable 9 (.rx 16) 1, .txTailWrite 9 16 0, .msixModerationExpired 9 64,
    .pcieLinkUp 9 3 1, .pcieLinkUp 9 4 5, .read 9 ⟨.host, 65536⟩ 0x1000 1, .read 9 host 65536 1, .read 9 host 0x1000 256,
    .lookup 9 host 0x1000, .nop (2 ^ 64) host].all (fun i => !i.wf) = true := by decide +kernel

/-- The same commands within the hardware are well formed. -/
theorem test_wf_good : [Instr.frameHeaderWindow 9 31 rx0, .errnPoll 9 25 true, .laneFrameReceived 9 3 0 [],
    .faultInputRaised 9 255 false, .wakeSource 9 33, .ringEnable 9 (.tx 15) 1, .pcieLinkUp 9 4 4, .read 9 host 0xFFFF 255,
    .lookup 9 host 0x5100, .nop (2 ^ 64 - 1) host].all (fun i => i.wf) = true := by decide +kernel

/-! ### What commands do: expected values from the spec's worked examples and tables, or worked out by hand from its rules -/

/-- Whether an outcome is a next state with a property. -/
def got (o : Out) (p : State → Bool) : Bool := match o with
  | .next u => p u
  | _ => false

/-- Key epochs of Table 2.4. -/
theorem test_key_epochs : [29, 31, 32, 33].map (fun x => (tim (fun t => { t with orderNs := 1000000000 + x }) run).keyEpoch) =
    [31250001, 31250001, 31250001, 31250002] := by decide +kernel

/-- The order of Table 2.5: B, C, A, D. -/
theorem test_key_order : okeyLt ⟨31250001, 2, 12001⟩ ⟨31250001, 2, 12002⟩ ∧ okeyLt ⟨31250001, 2, 12002⟩ ⟨31250001, 11, 900⟩ ∧
    okeyLt ⟨31250001, 11, 900⟩ ⟨31250002, 28, 77⟩ := by decide

/-- Sequence numbers wrap: 65,535 precedes 0, and not the other way round (R33). -/
theorem test_key_wrap : okeyLt ⟨9, 2, 65535⟩ ⟨9, 2, 0⟩ = true ∧ okeyLt ⟨9, 2, 0⟩ ⟨9, 2, 65535⟩ = false := by decide

/-- The rate example of 04_time_base: the reading stays at r0, and 1,000,000 ticks on it is 1,000,244 ns and 9,216 / 65,536. -/
theorem test_rate_example :
    let ts := (({ TimeSet.reset with offset := 1699999995904000000 * 2 ^ 32 } : TimeSet).correct 4096000000 0 false
      ⟨0, .rate, 268435456, ⟨0, 0, 0⟩⟩)
    ts.offset = 1699999995903000000 * 2 ^ 32 ∧ ts.q32 4096000000 = 1700000000000000000 * 2 ^ 32 ∧
    ts.q32 4097000000 = 1700000000001000244 * 2 ^ 32 + 9216 * 65536 := by decide

/-- The bucket example of 07_narrows_firewall: 31,250 epochs at 1,000 per second add one token exactly, one epoch 137,438 units. -/
theorem test_bucket_example : (⟨0, 1000⟩ : Bucket).refill 1000 4 32250 = ⟨2 ^ 32, 32250⟩ ∧
    (⟨0, 32250⟩ : Bucket).refill 1000 4 32251 = ⟨137438, 32251⟩ := by decide

/-- The grant examples of 01_device_organisation: EP0 (p = 8) in epoch 1,000,003 has its second grant on lane 1, its first on 5. -/
theorem test_grant_example : grantLane 8 1000003 1 = 1 ∧ grantLane 8 1000003 0 = 5 := by decide

/-- The gate list example of 09_queues_shapers_gates: X = 5,000,250,000 ns. -/
theorem test_gate_start : (⟨0, 250000, []⟩ : GateList).firstAfter 5000249984 = 5000250000 := by decide

/-- The justification examples of 13_elnar_link: a majority of 0b01, and copies without one. -/
theorem test_justification : jcDecode 0b000101 = (1, true) ∧ jcDecode 0b001001 = (0, false) ∧
    (frameData 1 (List.replicate 256 0)).length = 243 := by decide +kernel

/-- The wheel speed of 11_ford_signal_gateway: bits 16…31 of the frame read 8,000, which rescales to 10,240. -/
theorem test_wheel_speed : getSignal [0x00, 0x00, 0x40, 0x1F, 0x00, 0x00, 0x05, 0] 16 16 false = 8000 ∧
    (rescale (100 + 16 * 2 ^ 16 + 16 * 2 ^ 32 + 40 * 2 ^ 48 + 7 * 2 ^ 64 + 16 * 2 ^ 80 + 2 ^ 88 + 5497558139 * 2 ^ 96) none 8000).1 =
      10240 ∧
    putSignal [0, 0, 0, 0, 0, 0, 0, 0] 7 16 true 10240 = [0x28, 0, 0, 0, 0, 0, 0, 0] := by decide +kernel

/-- The clock offsets of 20_dictionary_reference_b. -/
theorem test_clock_offsets : clockOffset 2499940 2500000 = -24000 ∧ clockOffset 15627500 15625000 = 160000 ∧
    clockOffset 9999980 10000000 = -2000 ∧ clockOffset 1628000 1600000 = 17500000 := by decide

/-- The counts of error windows (R340): 4,883, 5 and 4,882,813 frames. -/
theorem test_error_windows : (10 ^ 7 + 2047) / 2048 = 4883 ∧ (10 ^ 4 + 2047) / 2048 = 5 ∧ (10 ^ 10 + 2047) / 2048 = 4882813 := by
  decide

/-- A mean on a boundary belongs to the higher band (R420). -/
theorem test_bands : [-1, 0, 639, 640, 1840].map temperatureBand = [0, 1, 1, 2, 6] := by decide

/-- CRC-32 of "123456789" is 0xCBF43926, and CRC-64 with ECMA-182's polynomial is 0x6C40DF5F0B497347. -/
theorem test_checksums : crc32 [0x31, 0x32, 0x33, 0x34, 0x35, 0x36, 0x37, 0x38, 0x39] = 0xCBF43926 ∧
    crc64 [0x31, 0x32, 0x33, 0x34, 0x35, 0x36, 0x37, 0x38, 0x39] = 0x6C40DF5F0B497347 := by decide +kernel

/-- READ of a constant entry by the host is answered. -/
theorem test_read_const : got (exec (.read 9 host 0x3000 0) run) (fun u => decide (u.replyOf .host ≠ none)) = true := by decide +kernel

/-- WRITE of a constant entry is refused with 0x0003. -/
theorem test_write_const : got (exec (.write 9 host 0x3000 0 [1]) run)
    (fun u => decide ((u.replyOf .host).map (fun r => r.status) = some 3)) = true := by decide +kernel

/-- READ of an index that does not exist is refused with 0x0001, and of a sub-index that does not with 0x0002. -/
theorem test_read_absent : got (exec (.read 9 host 0x0123 1) run)
    (fun u => decide ((u.replyOf .host).map (fun r => r.status) = some 1)) = true ∧
    got (exec (.read 9 host 0x3000 0xFE) run)
      (fun u => decide ((u.replyOf .host).map (fun r => r.status) = some 2)) = true := by decide +kernel

/-- CN5 going bus-off raises fault input 72 (20_dictionary_reference_b). -/
theorem test_bus_off_input : got (exec (.busOff 9 5) (can 5 [] run)) (fun u => bitOf u.safety.latched 72) = true := by
  decide +kernel

/-- A reset clears time and leaves the queue (R405, Table 16.8). -/
theorem test_reset : got (exec (.powerOnReset 99) { run with pending := [.nop 9 host] })
    (fun u => decide (u.time.raw = 0) && decide (u.power.phase = .held) && decide (u.pending = [.nop 9 host])) = true := by
  decide +kernel

/-- A frame that HP's host sends is padded to 60 octets (R427). -/
theorem test_host_padding : (run.hostFrame { td with length := 14, frame := List.replicate 14 1#8 }).bytes =
    List.replicate 14 1#8 ++ List.replicate 46 0#8 := by decide +kernel

/-- A write above SIZE of a ring index is invalid (R426): counted once, and the tail stays. -/
theorem test_invalid_tail : got (exec (.txTailWrite 9 2 8) (hp (fun h => h)))
    (fun u => decide (u.host.invalidWr = 1) && decide ((u.ring false 2).tail = 4)) = true := by decide +kernel

/-! ### Conditions of statements that opaque functions or types without decision stand in, by hand -/

/-- An image without records, below its hash and signatures, and the whole of it. -/
def imgBody : Bytes :=
  toLE 4 0x5A4F4449 ++ toLE 2 1 ++ toLE 2 176 ++ toLE 4 72 ++ toLE 4 0 ++ toLE 4 0 ++ toLE 4 1 ++ List.replicate 40 0 ++ toLE 8 0xFF
def imgData : Bytes := imgBody ++ toBE 48 (Config.sha384 imgBody).toNat ++ List.replicate 3405 0

theorem imgData_valid : ∃ i, run.imageOf imgData true = some i := by
  have hl : leAt imgData 8 4 = 72 := by decide +kernel
  have hb : imgData.take 72 = imgBody := by rfl
  have hh : leAt imgData 72 48 = leNat (toBE 48 (Config.sha384 imgBody).toNat) := by rfl
  unfold State.imageOf
  simp only [hl, hb]
  rw [if_neg]
  · have ht : tlvs (72 / 8) (imgBody.drop 64) = some [] := by decide +kernel
    have hr : takeRecords [] = some DictImage.none := rfl
    have hc : leAt imgData 20 4 = 1 := by decide +kernel
    have hp : DictImage.none.partitionOk = true ∧ DictImage.none.rowsFit = true ∧ DictImage.none.consistent = true := by
      decide +kernel
    simp only [ht, hr, hc, List.length_nil, Nat.zero_add, ne_eq, not_true_eq_false, if_false, if_pos hp]
    exact ⟨_, rfl⟩
  · rintro (h | h | h | h | h | h | h | h | h | h)
    · exact absurd h (by decide +kernel)
    · exact absurd h (by decide +kernel)
    · exact absurd h (by decide +kernel)
    · exact absurd h (by decide +kernel)
    · exact absurd h (by decide +kernel)
    · exact absurd h (by decide +kernel)
    · exact absurd h (by have : leAt imgData 16 4 = 0 := by decide +kernel
                         omega)
    · exact absurd h (by decide +kernel)
    · exact h hh
    · exact absurd h (by decide)

/-- A valid image, sent alone (clause 7 of SegmentsAndDomains). -/
theorem test_meets_SegmentsAndDomains_7 : ∃ (s : State) (t : Nat) (c : Caller) (data : Bytes) (signed : Bool) (i : DictImage),
    s.awake = true ∧ c.iface ≠ .partner ∧ s.openWrite c (dkey 0x1300 0x10) = none ∧
    ((s.advance t).afterKey c 3 0x1300 0x10 (toBE 1 1 ++ toBE 4 0 ++ data)).segmentStatus c (s.advance t).keyEpoch 0x1300 0x10
      data = 0 ∧ s.imageOf data signed = some i := by
  obtain ⟨i, h⟩ := imgData_valid
  exact ⟨run, 9, firm, imgData, true, i, by decide +kernel, by decide, by decide +kernel, by decide +kernel, h⟩

/-- A session that answers its proof: the proof is what an opaque function gives (clause 3 of ManagementOverEthernet). -/
theorem test_meets_ManagementOverEthernet_3 : ∃ (s : State) (t n : Nat) (d : DapDatagram),
    s.awake = true ∧ d.magic = 0x4F56 ∧ d.version = 1 ∧ d.kind = 5 ∧ d.len ≤ 1280 ∧ d.sid = n ∧
    s.access.sessions.length = 8 ∧ s.fromPeer n d = true ∧ (s.session n).state = 1 ∧
    (s.advance t).time.orderNs ≤ (s.session n).dueNs ∧ (s.advance t).slotUsable (s.session n).slot 0 0 = true ∧
    d.plain = s.expectedProof n ∧ s.waitsOn .mgmt = false :=
  ⟨key 5 (ses 8 (peerSes 1) run), 9, 8, dg 5 ((key 5 (ses 8 (peerSes 1) run)).expectedProof 8), by decide +kernel, rfl, rfl, rfl,
    by decide +kernel, rfl, by decide +kernel, by decide +kernel, by decide +kernel, by decide +kernel, by decide +kernel, rfl,
    by decide +kernel⟩

/-- A proof that is right (clause 6 of PairsForm). -/
theorem test_meets_PairsForm_6 : ∃ (s : State) (t : Nat) (m o : Bytes) (h : Handshake), s.awake = true ∧
    s.saddle.handshake = some h ∧ h.theirs = some o ∧ slice m 2 16 = s.proofOf o h.mine ∧ bitOf (byteAt h.mine 56) 1 = false ∧
    bitOf (byteAt o 56) 1 = false ∧ bitOf (byteAt h.mine 56) 2 = false ∧ (s.advance t).reg 0x9000 2 = s.pairId :=
  ⟨rol .pairing (fun x => { x with handshake := some (hs false) }) run, 9, [2, 1] ++ run.proofOf (hi 1) (hi 0), hi 1, hs false,
    by decide +kernel, rfl, rfl, rfl, by decide +kernel, by decide +kernel, by decide +kernel, by decide +kernel⟩

/-- A proof that is wrong, whatever the right one is (clause 7 of PairsForm). -/
theorem test_meets_PairsForm_7 : ∃ (s : State) (t : Nat) (m o : Bytes) (h : Handshake), s.awake = true ∧
    s.saddle.handshake = some h ∧ h.theirs = some o ∧ slice m 2 16 ≠ s.proofOf o h.mine := by
  by_cases e : List.replicate 16 0 = (rol .pairing (fun x => { x with handshake := some (hs false) }) run).proofOf (hi 1) (hi 0)
  · refine ⟨rol .pairing (fun x => { x with handshake := some (hs false) }) run, 9, List.replicate 18 1, hi 1, hs false,
      by decide +kernel, rfl, rfl, fun h => ?_⟩
    exact absurd (h.trans e.symm) (by decide)
  · exact ⟨rol .pairing (fun x => { x with handshake := some (hs false) }) run, 9, List.replicate 18 0, hi 1, hs false,
      by decide +kernel, rfl, rfl, fun h => e ((by decide : List.replicate 16 (0 : Byte) = slice (List.replicate 18 0) 2 16).trans h)⟩

/-- An update message for this device: it names the hash of the device's own keys, which opaque functions give. -/
def updMsg : Bytes := toLE 4 0x4F564B55 ++ [1, 3, 20, 0, 0, 0, 0, 0] ++ toLE 8 1 ++ toBE 48 run.identityHash ++ List.replicate 3421 0

/-- A key update that is right (clause 2 of KeysAreUpdatedAndProtected). -/
theorem test_meets_KeysAreUpdatedAndProtected_2 : ∃ (s : State) (t : Nat) (c : Caller) (m : Bytes) (signed unwraps : Bool),
    s.awake = true ∧ c.iface ≠ .partner ∧ m.length ≤ 8192 ∧ s.openWrite c (dkey 0xB100 1) = none ∧
    ((s.advance t).afterKey c 3 0xB100 1 (toBE 1 1 ++ toBE 4 0 ++ m)).segmentStatus c (s.advance t).keyEpoch 0xB100 1 m = 0 ∧
    s.updateStatus m signed unwraps = 0 := by
  refine ⟨run, 9, firm, updMsg, true, true, by decide +kernel, by decide, by decide +kernel, by decide +kernel,
    by decide +kernel, ?_⟩
  have hs : beAt updMsg 20 48 = run.identityHash := by
    have e : beAt updMsg 20 48 = beNat (toBE 48 run.identityHash) := by rfl
    rw [e, beNat_toBE]
    exact Nat.mod_eq_of_lt (BitVec.isLt _)
  unfold State.updateStatus
  dsimp only
  rw [if_neg (by decide +kernel), if_neg (fun h => h hs), if_neg (by decide +kernel), if_neg (by decide +kernel),
    if_neg (by decide +kernel), if_neg (by decide +kernel), if_neg (by decide +kernel)]

/-- A margin below the threshold, whatever the fused limit is (clause 11 of SnapshotsImagesAndMeasurements). -/
theorem test_meets_SnapshotsImagesAndMeasurements_11 : ∃ (s : State) (t : Nat) (d : Nat), s.awake = true ∧
    s.journal.aged = [1, 2, 3, 4, 5, 6, 7] ∧
    1000 - 1000 * d / (Config.ageLimit 0).toNat < (s.advance t).reg 0xC300 0x30 ∧ s.journal.lastKey = none ∧
    s.journal.reorder = [] ∧ (s.advance t).time.orderNs < ((s.advance t).nextKey 0x0810).epoch * 32 + 512 * 32 := by
  refine ⟨cfg 0xC300 0x30 1001 (jn (fun j => { j with aged := [1, 2, 3, 4, 5, 6, 7] }) run), 9, 800, by decide +kernel,
    by decide +kernel, ?_, by decide +kernel, by decide +kernel, by decide +kernel⟩
  have h : ((cfg 0xC300 0x30 1001 (jn (fun j => { j with aged := [1, 2, 3, 4, 5, 6, 7] }) run)).advance 9).reg 0xC300 0x30 = 1001 := by
    decide +kernel
  rw [h]
  exact Nat.lt_of_le_of_lt (Nat.sub_le _ _) (by decide)

/-- A step of each kind that the invariants speak of: one that goes on, one that resets, one that idles. -/
theorem test_meets_EveryStepKeepsTheUnits : ∃ (s u : State), s.unitsOk = true ∧ step s = .next u :=
  ⟨{ run with pending := [.journalCommit 9] }, _, by decide +kernel, rfl⟩
theorem test_meets_AQueueOfWellFormedCommandsRuns : ∃ (s : State), QueueWf s ∧ s.pending ≠ [] :=
  ⟨{ run with pending := [.journalCommit 9] }, by simp only [QueueWf, List.mem_singleton, forall_eq]; decide +kernel, by decide⟩
theorem test_meets_OrderTimeNeverDecreases : ∃ (s u : State) (i : Instr), exec i s = .next u :=
  ⟨run, _, .journalCommit 9, rfl⟩
theorem test_meets_NothingAltersTheRawCounter : ∃ (s u : State) (i : Instr), exec i s = .next u :=
  ⟨run, _, .powerOnReset 9, rfl⟩
theorem test_meets_HeldInResetNothingHappens : ∃ (s : State) (i : Instr), s.power.phase = .held ∧ i.operandsOk = true ∧
    (∀ t, i ≠ .powerOnReset t) ∧ ∀ t b, i ≠ .resetRelease t b :=
  ⟨ph .held run, .journalCommit 9, by decide, by decide, fun _ => by simp, fun _ _ => by simp⟩
theorem test_meets_EveryUnitThatExistsAnswers_3 : ∃ (s v : State) (i : Instr) (f : Fault), exec i s = .fault f ∧ v ≠ s :=
  ⟨R, run, .frameTransmitEnd 9 32, .noSuchUnit, rfl, by decide +kernel⟩

/-! ### Conditions of the other statements -/

/-- Every clause of StepRunsTheFrontCommand with conditions has a state and operands that meet them together. -/
theorem test_meets_StepRunsTheFrontCommand :
    (∃ (s : State) (c : Instr) (rest : List Instr), s.pending = c :: rest) :=
  ⟨{ run with pending := [.journalCommit 9, .nop 10 host] }, .journalCommit 9, [.nop 10 host], by decide +kernel⟩

/-- Every clause of AnEmptyQueueIdles with conditions has a state and operands that meet them together. -/
theorem test_meets_AnEmptyQueueIdles :
    (∃ (s : State), s.pending = []) :=
  ⟨run, by decide +kernel⟩

/-- Every clause of EveryUnitThatExistsAnswers with conditions has a state and operands that meet them together. -/
theorem test_meets_EveryUnitThatExistsAnswers :
    (∃ (s : State) (i : Instr), i.operandsOk = true) :=
  ⟨R, .frameTransmitEnd 9 31, by decide +kernel⟩

/-- Every clause of WithRailsOffOnlyLowlandActs with conditions has a state and operands that meet them together. -/
theorem test_meets_WithRailsOffOnlyLowlandActs :
    (∃ (s : State) (i : Instr), (s.power.phase = .quiet ∨ s.power.phase = .sleep ∨ s.power.phase = .wake) ∧
      i.operandsOk = true ∧ reachesLowland i = false) :=
  ⟨qt, .journalCommit 99, by decide +kernel⟩

/-- Every clause of SourcesIssueThirtyTwoKeysAnEpoch with conditions has a state and operands that meet them together. -/
theorem test_meets_SourcesIssueThirtyTwoKeysAnEpoch :
    (∃ (s : State) (src : Nat) (n : Nat) (i : Nat), s.time.held = false ∧ (s.sourceKeys src).epoch < (s.time.orderNs +
      31) / 32 ∧ i < n ∧ (s.sourceKeys src).seq < 65536) :=
  ⟨tim (fun t => { t with orderNs := 320 }) run, 5, 40, 39, by decide +kernel⟩

/-- Every clause of SignalsReadBack with conditions has a state and operands that meet them together. -/
theorem test_meets_SignalsReadBack :
    (∃ (p : Bytes) (start : Nat) (n : Nat) (v : Nat) (big : Bool), (∀ b ∈ signalBits start n big, b < 8 * p.length)) :=
  ⟨[1, 2, 3, 4], 7, 12, 0xABC, true, by decide +kernel⟩

/-- Every clause of LinkLinesAndCellsCarryWhole with conditions has a state and operands that meet them together. -/
theorem test_meets_LinkLinesAndCellsCarryWhole :
    (∃ (m : Bytes), m ≠ []) :=
  ⟨List.replicate 61 7, by decide +kernel⟩

/-- Every clause of KeyEpochIsTheNextBoundary with conditions has a state and operands that meet them together. -/
theorem test_meets_KeyEpochIsTheNextBoundary :
    (∃ (s : State) (n : Nat), s.time.orderNs = n * 32) ∧
    (∃ (s : State) (n : Nat), n * 32 < s.time.orderNs ∧ s.time.orderNs < (n + 1) * 32) ∧
    (∃ (s : State) (src : Nat), s.time.held = false ∧ (s.sourceKeys src).epoch < s.keyEpoch) :=
  ⟨⟨tim (fun t => { t with orderNs := 320 }) run, 10, by decide +kernel⟩,
   ⟨tim (fun t => { t with orderNs := 321 }) run, 10, by decide +kernel⟩,
   ⟨tim (fun t => { t with orderNs := 321 }) run, 10, by decide +kernel⟩⟩

/-- Every clause of TimeWritesWaitForTheirTick with conditions has a state and operands that meet them together. -/
theorem test_meets_TimeWritesWaitForTheirTick :
    (∃ (s : State) (t : Nat) (n : Nat) (c : Caller) (data : Bytes), s.awake = true ∧ n < 4 ∧ c.iface ≠ .partner ∧
      (s.advance t).writeCheck c 0x2001 (n + 1) data = 0) ∧
    (∃ (s : State) (t : Nat) (n : Nat) (c : Caller) (data : Bytes), s.awake = true ∧ n < 4 ∧ c.iface ≠ .partner ∧
      (s.advance t).writeCheck c 0x2002 (n + 1) data = 0 ∧ (s.advance t).stepStatus n (leNat data) = 0) ∧
    (∃ (s : State) (t : Nat) (n : Nat) (c : Caller) (data : Bytes), s.awake = true ∧ n < 4 ∧ c.iface ≠ .partner ∧
      (s.advance t).writeCheck c 0x2002 (n + 5) data = 0) ∧
    (∃ (s : State) (t : Nat) (n : Nat) (c : Caller) (data : Bytes), s.awake = true ∧ n < 4 ∧ c.iface ≠ .partner ∧
      (s.advance t).writeCheck c 0x2003 (n + 1) data = 0) :=
  ⟨⟨run, 5, 0, host, toLE 4 7, by decide +kernel⟩,
   ⟨run, 5, 0, host, toLE 8 9, by decide +kernel⟩,
   ⟨run, 5, 3, host, toLE 10 (2 ^ 40), by decide +kernel⟩,
   ⟨run, 5, 0, host, toLE 8 (2 ^ 40 + 5), by decide +kernel⟩⟩

/-- Every clause of NegativeTimeIsRefused with conditions has a state and operands that meet them together. -/
theorem test_meets_NegativeTimeIsRefused :
    (∃ (s : State) (t : Nat) (n : Nat) (c : Caller) (data : Bytes), s.awake = true ∧ n < 4 ∧ c.iface ≠ .partner ∧
      (s.advance t).writeCheck c 0x2002 (n + 1) data = 0 ∧ (s.advance t).reg 0x2000 2 = 1 ∧ sgnOf 64 (leNat data) < 0 ∧
      ((s.advance t).timeSet n).q32 (s.advance t).time.raw / 65536 - s.stepsAhead n < -sgnOf 64 (leNat data)) :=
  ⟨cfg 0x2000 2 1 run, 5, 1, host, toLE 8 (2 ^ 64 - 6 * 65536), by decide +kernel⟩

/-- Every clause of CorrectionsTakeTheirTick with conditions has a state and operands that meet them together. -/
theorem test_meets_CorrectionsTakeTheirTick :
    (∃ (s : State) (t : Nat) (n : Nat) (v : Int) (k : OKey), s.awake = true ∧ n < 4 ∧ s.time.sets.length = 4 ∧
      (s.advance t).time.raw % 256 = 0 ∧ s.time.corrections.filter (fun x => (s.advance t).correctionDue n x) = [⟨n,
      .rate, v, k⟩]) ∧
    (∃ (s : State) (t : Nat) (n : Nat) (d : Int) (k : OKey), s.awake = true ∧ n < 4 ∧ s.time.sets.length = 4 ∧
      (s.advance t).time.raw % 256 = 0 ∧ n ≠ s.time.working ∧ ((s.advance t).timeSet n).slewRem = 0 ∧
      s.time.corrections.filter (fun x => (s.advance t).correctionDue n x) = [⟨n, .step, d, k⟩] ∧ (0 ≤ d ∨ (s.advance
      t).reg 0x2000 2 = 1)) ∧
    (∃ (s : State) (t : Nat) (n : Nat) (d : Int) (k : OKey), s.awake = true ∧ n < 4 ∧ s.time.sets.length = 4 ∧
      (s.advance t).time.raw % 256 = 0 ∧ n ≠ s.time.working ∧ d < 0 ∧ (s.advance t).reg 0x2000 2 = 0 ∧
      s.time.corrections.filter (fun x => (s.advance t).correctionDue n x) = [⟨n, .step, d, k⟩]) ∧
    (∃ (s : State) (t : Nat) (n : Nat), s.awake = true ∧ n < 4 ∧ s.time.sets.length = 4 ∧ (s.advance t).time.raw % 256
      = 0 ∧ ((s.advance t).timeSet n).slewRem = 0) :=
  ⟨⟨tim (fun x => { x with corrections := [⟨3, .rate, 100, ⟨0, 0x0200, 0⟩⟩] }) run, 512, 3, 100, ⟨0, 0x0200, 0⟩,
     by decide +kernel⟩,
   ⟨tim (fun x => { x with corrections := [⟨3, .step, 100, ⟨0, 0x0200, 0⟩⟩] }) run, 512, 3, 100, ⟨0, 0x0200, 0⟩,
     by decide +kernel⟩,
   ⟨tim (fun x => { x with corrections := [⟨1, .step, -100, ⟨0, 0x0200, 0⟩⟩] }) run, 512, 1, -100, ⟨0, 0x0200, 0⟩,
     by decide +kernel⟩,
   ⟨tset 2 (fun x => { x with slewTerm := 109951162, slewRem := 5 }) run, 512, 2, by decide +kernel⟩⟩

/-- Every clause of ReferencesAndHoldover with conditions has a state and operands that meet them together. -/
theorem test_meets_ReferencesAndHoldover :
    (∃ (s : State) (t : Nat), s.awake = true ∧ s.time.onRefclk = false) ∧
    (∃ (s : State) (t : Nat), s.awake = true) ∧
    (∃ (s : State) (t : Nat) (n : Nat), s.awake = true ∧ n < 4 ∧ s.time.sets.length = 4 ∧ (s.timeSet n).fallMode =
      false ∧ (s.timeSet n).status = 1) ∧
    (∃ (s : State) (t : Nat), s.awake = true ∧ ((s.advance t).timeSet s.time.working).status = 2 ∧ (s.advance t).reg
      0x2004 9 ≠ 0 ∧ (s.advance t).reg 0x2004 9 * 1000000 < (s.advance t).time.raw - ((s.advance t).timeSet
      s.time.working).holdRaw ∧ s.time.holdSignalled = false) ∧
    (∃ (s : State) (t : Nat) (n : Nat) (gm : Nat) (offset : Int) (ratio : Int), s.awake = true ∧ n < 4 ∧
      s.time.sets.length = 4 ∧ (s.timeSet n).fallMode = false ∧ offset.natAbs ≤ (s.advance t).reg (0x2100 + n) 0x0B *
      65536) ∧
    (∃ (s : State) (t : Nat) (n : Nat) (port : Nat) (rx : Nat) (tx : Nat) (ratio : Int) (c : Int), s.awake = true ∧ n <
      4 ∧ port < 28) ∧
    (∃ (s : State) (t : Nat), s.awake = true ∧ s.time.held = true ∧ (s.advance t).time.orderNs ≤ (s.advance
      t).workingNs) :=
  ⟨⟨run, 7, by decide +kernel⟩,
   ⟨run, 7, by decide +kernel⟩,
   ⟨tset 3 (fun x => { x with status := 1 }) run, 7, 3, by decide +kernel⟩,
   ⟨cfg 0x2004 9 1 (tset 0 (fun x => { x with status := 2 }) run), 1000001, by decide +kernel⟩,
   ⟨run, 7, 2, 5, -3, 0, by decide +kernel⟩,
   ⟨run, 7, 3, 27, 100, 200, 0, 4, by decide +kernel⟩,
   ⟨tim (fun x => { x with held := true }) run, 7, by decide +kernel⟩⟩

/-- Every clause of StampQueuesAndTriggers with conditions has a state and operands that meet them together. -/
theorem test_meets_StampQueuesAndTriggers :
    (∃ (s : State) (t : Nat) (p : Nat) (c : Caller), s.awake = true ∧ p < 28 ∧ c.iface ≠ .partner ∧
      s.time.txStamps.length = 28 ∧ (s.advance t).readCheck c (0x3140 + p) 1 = 0) ∧
    (∃ (s : State) (t : Nat) (n : Nat) (c : Caller), s.awake = true ∧ n < 16 ∧ c.iface ≠ .partner ∧
      s.time.captures.length = 16 ∧ (s.advance t).readCheck c (0x2220 + n) 3 = 0) ∧
    (∃ (s : State) (t : Nat) (n : Nat), s.awake = true ∧ n < 16 ∧ s.time.triggers.length = 16 ∧ (s.advance t).triggerOn
      n = true ∧ (s.trigger n).done = false ∧ (s.advance t).pulseEdge n (s.trigger n).nextPulse ≤ (s.advance
      t).workingQ16) ∧
    (∃ (s : State) (t : Nat) (n : Nat), s.awake = true ∧ n < 16 ∧ s.time.triggers.length = 16 ∧ (s.trigger n).active =
      true ∧ (s.advance t).reg (0x2210 + n) 1 ≠ 3 ∧ (s.trigger n).edgeNs + (s.advance t).reg (0x2210 + n) 4 ≤
      (s.advance t).workingNs ∧ s.saddle.handovers = []) ∧
    (∃ (s : State) (t : Nat) (n : Nat) (width : Nat) (falling : Bool), s.awake = true ∧ n < 16 ∧ s.time.captures.length
      = 16 ∧ bitOf ((s.advance t).reg 0x2200 2) n = true ∧ edgeSelected ((s.advance t).reg (0x2220 + n) 1) falling =
      true ∧ (s.advance t).reg (0x2220 + n) 2 ≤ width ∧ s.follows = false ∧ (s.capture n).lastEdge = none ∧ (s.capture
      n).queue.length < 8) ∧
    (∃ (s : State) (t : Nat) (a : Nat) (b : Nat) (c : Nat) (d : Nat) (x : Option Nat), s.awake = true) ∧
    (∃ (s : State) (t : Nat), s.awake = true ∧ (s.advance t).reg 0xC200 4 = 1 ∧ bitOf (s.stat 0xC200 2) 9 = false) :=
  ⟨⟨run, 7, 27, host, by decide +kernel⟩,
   ⟨run, 7, 15, host, by decide +kernel⟩,
   ⟨cfg 0x2200 1 4 (cfg 0x2212 1 2 (cfg 0x2212 2 0 run)), 700, 2, by decide +kernel⟩,
   ⟨cfg 0x2212 1 2 (cfg 0x2212 4 10 (tim (fun x =>
     { x with triggers := modNth x.triggers 2 (fun g => { g with active := true }) }) run)), 700, 2, by decide +kernel⟩,
   ⟨cfg 0x2200 2 8 (cfg 0x2223 1 1 (cfg 0x2223 2 100 run)), 700, 3, 100, false, by decide +kernel⟩,
   ⟨run, 7, 100, 200, 300, 400, none, by decide +kernel⟩,
   ⟨cfg 0xC200 4 1 run, 7, by decide +kernel⟩⟩

/-- Every clause of LinksComeUpAndGoDown with conditions has a state and operands that meet them together. -/
theorem test_meets_LinksComeUpAndGoDown :
    (∃ (s : State) (t : Nat) (p : Nat), s.awake = true ∧ p < 28 ∧ s.ports.length = 32 ∧ (s.advance t).linkState p = 2 ∧
      (s.advance t).pollUnmet p = false) ∧
    (∃ (s : State) (t : Nat) (p : Nat), s.awake = true ∧ p < 28 ∧ (s.advance t).linkState p = 1) ∧
    (∃ (s : State) (t : Nat) (p : Nat), s.awake = true ∧ p < 28 ∧ (s.advance t).linkState p = 2) ∧
    (∃ (s : State) (t : Nat) (p : Nat), s.awake = true ∧ p < 28 ∧ (s.advance t).portUp p = true) ∧
    (∃ (s : State) (t : Nat) (p : Nat), s.awake = true ∧ p < 8 ∧ (s.advance t).portUp p = false) ∧
    (∃ (s : State) (t : Nat) (p : Nat) (d : Nat), s.awake = true ∧ p < 32 ∧ s.ports.length = 32 ∧ (s.port p).holdEnd =
      some d ∧ d ≤ (s.advance t).time.raw) :=
  ⟨⟨link 3 2 run, 7, 3, by decide +kernel⟩,
   ⟨link 3 1 run, 7, 3, by decide +kernel⟩,
   ⟨link 9 2 run, 7, 9, by decide +kernel⟩,
   ⟨link 3 3 run, 7, 3, by decide +kernel⟩,
   ⟨link 7 2 run, 7, 7, by decide +kernel⟩,
   ⟨prt 31 (fun x => { x with holdEnd := some 10 }) run, 10, 31, 10, by decide +kernel⟩⟩

/-- Every clause of PhyManagement with conditions has a state and operands that meet them together. -/
theorem test_meets_PhyManagement :
    (∃ (s : State) (t : Nat) (p : Nat) (v : Nat), s.awake = true ∧ p < 8 ∧ s.ports.length = 32 ∧ (s.advance t).reg
      (0x30C0 + p) 3 ≠ 0 ∧ (s.port p).polled = false ∧ (v % 65536) &&& (s.advance t).reg (0x30C0 + p) 5 = (s.advance
      t).reg (0x30C0 + p) 6 ∧ (v % 65536) &&& (s.advance t).reg (0x30C0 + p) 7 = 0) ∧
    (∃ (s : State) (t : Nat) (p : Nat) (c : Caller), s.awake = true ∧ p < 20 ∧ s.ports.length = 32 ∧ c.iface ≠ .partner
      ∧ (s.advance t).writeCheck c (0x30C0 + p) 0x0B [1] = 0 ∧ (s.port p).indirect = none) ∧
    (∃ (s : State) (t : Nat) (p : Nat) (c : Caller), s.awake = true ∧ p < 20 ∧ s.ports.length = 32 ∧ c.iface ≠ .partner
      ∧ (s.advance t).writeCheck c (0x30C0 + p) 0x0B [2] = 0 ∧ (s.port p).indirect = none) ∧
    (∃ (s : State) (t : Nat) (p : Nat) (c : Caller) (x : Bool × Nat × Nat), s.awake = true ∧ p < 20 ∧ c.iface ≠
      .partner ∧ (s.port p).indirect = some x ∧ (s.advance t).writeCheck c (0x30C0 + p) 0x0B [1] = 0) ∧
    (∃ (s : State) (t : Nat) (p : Nat) (c : Caller) (x : Bool × Nat × Nat), s.awake = true ∧ p < 20 ∧ c.iface ≠
      .partner ∧ (s.port p).indirect = some x ∧ (s.advance t).writeCheck c (0x30C0 + p) 0x0B [2] = 0) ∧
    (∃ (s : State) (t : Nat) (p : Nat) (v : Nat) (a : Nat) (d : Nat), s.awake = true ∧ p < 8 ∧ s.ports.length = 32 ∧
      (s.port p).indirect = some (false, a, d)) ∧
    (∃ (s : State) (t : Nat) (p : Nat) (q : Nat), s.awake = true ∧ 8 ≤ p ∧ p < 20 ∧ s.ports.length = 32 ∧ (s.advance
      t).portUp p = true ∧ (s.port p).sqiLow = false ∧ (s.advance t).reg (0x30C0 + p) 0x13 ≤ min q 7) ∧
    (∃ (s : State) (t : Nat) (p : Nat) (c : Caller), s.awake = true ∧ p < 20 ∧ s.ports.length = 32 ∧ c.iface ≠ .partner
      ∧ (s.advance t).writeCheck c (0x30C0 + p) 0x14 [1] = 0 ∧ (s.advance t).linkState p ≤ 1) ∧
    (∃ (s : State) (t : Nat) (p : Nat) (r : Nat) (d : Nat), s.awake = true ∧ p < 20 ∧ (s.advance t).linkState p = 5) :=
  ⟨⟨link 3 3 (cfg 0x30C3 3 1 (cfg 0x30C3 5 4 (cfg 0x30C3 6 4 run))), 10, 3, 0x10004, by decide +kernel⟩,
   ⟨run, 10, 7, host, by decide +kernel⟩,
   ⟨run, 10, 0, host, by decide +kernel⟩,
   ⟨prt 7 (fun x => { x with indirect := some (true, 1, 2) }) run, 10, 7, host, (true, 1, 2), by decide +kernel⟩,
   ⟨prt 7 (fun x => { x with indirect := some (true, 1, 2) }) run, 10, 7, host, (true, 1, 2), by decide +kernel⟩,
   ⟨prt 7 (fun x => { x with indirect := some (false, 1, 2) }) run, 10, 7, 5, 1, 2, by decide +kernel⟩,
   ⟨link 8 3 (cfg 0x30C8 0x13 3 run), 10, 8, 3, by decide +kernel⟩,
   ⟨link 19 1 run, 10, 19, host, by decide +kernel⟩,
   ⟨link 19 5 run, 10, 19, 2, 5, by decide +kernel⟩⟩

/-- Every clause of SleepWakeAndPlca with conditions has a state and operands that meet them together. -/
theorem test_meets_SleepWakeAndPlca :
    (∃ (s : State) (t : Nat) (p : Nat) (c : Caller), s.awake = true ∧ p < 20 ∧ c.iface ≠ .partner ∧ (s.advance
      t).writeCheck c (0x30C0 + p) 0x18 [1] = 0 ∧ (s.advance t).portUp p = true) ∧
    (∃ (s : State) (t : Nat) (p : Nat) (c : Caller), s.awake = true ∧ p < 20 ∧ c.iface ≠ .partner ∧ (s.advance
      t).writeCheck c (0x30C0 + p) 0x18 [2] = 0 ∧ (s.advance t).linkState p = 4) ∧
    (∃ (s : State) (t : Nat) (p : Nat), s.awake = true ∧ 8 ≤ p ∧ p < 20 ∧ (s.advance t).portUp p = true ∧ s.stat
      (0x30C0 + p) 0x1A = 1) ∧
    (∃ (s : State) (t : Nat) (p : Nat), s.awake = true ∧ 8 ≤ p ∧ p < 20 ∧ (s.advance t).portUp p = true ∧ (s.advance
      t).reg (0x30C0 + p) 0x17 = 1) ∧
    (∃ (s : State) (t : Nat) (p : Nat), s.awake = true ∧ 8 ≤ p ∧ p < 20 ∧ (s.advance t).linkState p = 4 ∧ (s.advance
      t).reg (0x30C0 + p) 0x19 = 0) ∧
    (∃ (s : State) (t : Nat) (p : Nat), s.awake = true ∧ 20 ≤ p ∧ p < 28 ∧ (s.advance t).portUp p = true ∧ (s.advance
      t).reg (0x7080 + p - 20) 1 ≠ 0) ∧
    (∃ (s : State) (t : Nat) (p : Nat), s.awake = true ∧ 20 ≤ p ∧ p < 28 ∧ (s.advance t).reg (0x7080 + p - 20) 1 = 0) ∧
    (∃ (s : State) (t : Nat) (p : Nat), s.awake = true ∧ 20 ≤ p ∧ p < 28 ∧ (s.advance t).portUp p = true) :=
  ⟨⟨link 8 3 run, 10, 8, host, by decide +kernel⟩,
   ⟨link 19 4 run, 10, 19, host, by decide +kernel⟩,
   ⟨st 0x30C8 0x1A 1 (link 8 3 run), 10, 8, by decide +kernel⟩,
   ⟨link 19 3 (cfg 0x30D3 0x17 1 run), 10, 19, by decide +kernel⟩,
   ⟨link 19 4 run, 10, 19, by decide +kernel⟩,
   ⟨sp 20 1 run, 10, 20, by decide +kernel⟩,
   ⟨sp 27 0 run, 10, 27, by decide +kernel⟩,
   ⟨sp 27 0 run, 10, 27, by decide +kernel⟩⟩

/-- Every clause of PauseAndVerify with conditions has a state and operands that meet them together. -/
theorem test_meets_PauseAndVerify :
    (∃ (s : State) (t : Nat) (p : Nat) (q : Nat), s.awake = true ∧ p < 8 ∧ s.ports.length = 32 ∧ bitOf ((s.advance
      t).reg (0x3000 + p) 7) 0 = true) ∧
    (∃ (s : State) (t : Nat) (p : Nat) (q : Nat), s.awake = true ∧ p < 28 ∧ bitOf ((s.advance t).reg (0x3000 + p) 7) 0
      = false) ∧
    (∃ (s : State) (t : Nat) (p : Nat) (e : Nat) (quanta : List Nat), s.awake = true ∧ p < 8 ∧ s.ports.length = 32 ∧
      (s.advance t).reg (0x3000 + p) 8 ≠ 0) ∧
    (∃ (s : State) (t : Nat) (p : Nat) (q : Nat) (d : Nat), s.awake = true ∧ p < 28 ∧ q < 8 ∧ s.ports.length = 32 ∧ nth
      (s.port p).pauseUntil q none = some d ∧ d ≤ (s.advance t).time.raw) ∧
    (∃ (s : State) (t : Nat) (p : Nat), s.awake = true ∧ p < 8 ∧ s.ports.length = 32 ∧ (s.port p).xoff = true ∧ (s.port
      p).resendAt ≤ (s.advance t).time.raw ∧ (s.advance t).reg (0x3000 + p) 0x0C < (s.advance t).ingressBytes p) ∧
    (∃ (s : State) (t : Nat) (p : Nat), s.awake = true ∧ p < 20 ∧ s.ports.length = 32 ∧ (s.advance t).reg (0x3580 + p)
      1 = 1 ∧ (s.advance t).reg (0x3580 + p) 2 = 0 ∧ (s.advance t).portUp p = true ∧ s.stat (0x3580 + p) 6 ≤ 2 ∧
      (s.port p).verifyTries < 3) ∧
    (∃ (s : State) (t : Nat) (p : Nat), s.awake = true ∧ p < 20 ∧ (s.advance t).reg (0x3580 + p) 1 = 1 ∧ (s.advance
      t).reg (0x3580 + p) 2 = 0 ∧ (s.advance t).portUp p = true ∧ s.stat (0x3580 + p) 6 ≤ 2 ∧ 3 ≤ (s.port
      p).verifyTries) ∧
    (∃ (s : State) (t : Nat) (p : Nat), s.awake = true ∧ p < 20 ∧ (s.advance t).reg (0x3580 + p) 1 = 1 ∧ s.stat (0x3580
      + p) 6 = 2) :=
  ⟨⟨link 7 3 (cfg 0x3007 7 1 run), 10, 7, 0xFFFF, by decide +kernel⟩,
   ⟨run, 10, 27, 5, by decide +kernel⟩,
   ⟨link 7 3 (cfg 0x3007 8 0xFF (cfg 0x3007 0x0A 2 run)), 10, 7, 0x83, [5, 6, 0, 0, 0, 0, 0, 7], by decide +kernel⟩,
   ⟨prt 7 (fun x => { x with pauseUntil := [none, some 5, some 6, none, none, none, none, none] }) run, 10, 7, 1, 5,
     by decide +kernel⟩,
   ⟨link 7 3 (cfg 0x3007 7 3 (cfg 0x3007 0x0C 100 (cfg 0x3007 0x0D 1000 (prt 7 (fun x =>
     { x with xoff := true, resendAt := 9 }) (bas (fun x => { x with frames := [{ fr 1 7 with need := 5 }] }) run))))),
     10, 7, by decide +kernel⟩,
   ⟨link 19 3 (cfg 0x3593 1 1 run), 10, 19, by decide +kernel⟩,
   ⟨link 19 3 (cfg 0x3593 1 1 (prt 19 (fun x => { x with verifyTries := 3 }) (st 0x3593 6 2 run))), 10, 19,
     by decide +kernel⟩,
   ⟨st 0x3593 6 2 (cfg 0x3593 1 1 run), 10, 19, by decide +kernel⟩⟩

/-- Every clause of FramesComeIn with conditions has a state and operands that meet them together. -/
theorem test_meets_FramesComeIn :
    (∃ (s : State) (t : Nat) (p : Nat) (rx : FrameRx), s.awake = true ∧ p < 28 ∧ (s.advance t).portUp p = true ∧
      rx.frag = false ∧ (s.port p).receiving = none ∧ 64 ≤ rx.length ∧ beAt rx.bytes 12 2 ≠ 0x8808 ∧ (s.advance
      t).secyOn p = false ∧ s.ingressBytes p + 64 ≤ s.bufferSize p) ∧
    (∃ (s : State) (t : Nat) (p : Nat) (rx : FrameRx), s.awake = true ∧ p < 28 ∧ (s.advance t).portUp p = true ∧
      rx.frag = false ∧ (s.port p).receiving = none ∧ 64 ≤ rx.length ∧ beAt rx.bytes 12 2 ≠ 0x8808 ∧ (s.advance
      t).secyOn p = false ∧ s.bufferSize p < s.ingressBytes p + 64) ∧
    (∃ (s : State) (t : Nat) (p : Nat) (rx : FrameRx), s.awake = true ∧ p < 28 ∧ (s.advance t).portUp p = true ∧
      rx.frag = false ∧ (s.port p).receiving = none ∧ 64 ≤ rx.length ∧ (s.advance t).secyOn p = true ∧ (s.advance
      t).reg (0x3100 + p) 3 = 2 ∧ uncontrolled rx.bytes = false ∧ beAt rx.bytes 12 2 ≠ 0x8808 ∧ rx.sec = .none) ∧
    (∃ (s : State) (t : Nat) (p : Nat) (rx : FrameRx), s.awake = true ∧ p < 28 ∧ (s.advance t).portUp p = false) ∧
    (∃ (s : State) (t : Nat) (p : Nat) (rx : FrameRx), s.awake = true ∧ (p = 28 ∨ p = 29) ∧ (s.advance t).portUp p =
      true) ∧
    (∃ (s : State) (t : Nat) (rx : FrameRx) (b : Bytes) (rest : List Bytes), s.awake = true ∧ (s.advance t).portUp 30 =
      true ∧ s.ford.out = b :: rest) ∧
    (∃ (s : State) (t : Nat) (p : Nat) (fin : FrameEnd), s.awake = true ∧ p < 28 ∧ fin.frags = 0 ∧ fin.merge = 0 ∧
      (s.port p).receiving = none ∧ fin.bytes.length < 60) ∧
    (∃ (s : State) (t : Nat) (p : Nat) (fin : FrameEnd), s.awake = true ∧ p < 28 ∧ fin.frags = 0 ∧ fin.merge = 0 ∧
      (s.port p).receiving = none ∧ 60 ≤ fin.bytes.length ∧ fin.bytes.length + 4 ≤ (s.advance t).maxLen p ∧ fin.rxError
      = false ∧ fin.fcsOk = false) ∧
    (∃ (s : State) (t : Nat) (p : Nat) (fin : FrameEnd), s.awake = true ∧ 28 ≤ p ∧ p < 32) ∧
    (∃ (s : State) (t : Nat) (p : Nat) (fin : FrameEnd), s.awake = true ∧ p < 28 ∧ fin.frags = 0 ∧ fin.merge = 0) :=
  ⟨⟨link 3 3 run, 100, 3, rx0, by decide +kernel⟩,
   ⟨link 20 3 (sp 20 1 (bas (fun x => { x with frames := [{ fr 1 20 with need := 64 }] }) run)), 100, 20, rx0,
     by decide +kernel⟩,
   ⟨link 19 3 (cfg 0x3113 1 1 (cfg 0x3113 3 2 run)), 100, 19, rx0, by decide +kernel⟩,
   ⟨run, 100, 27, rx0, by decide +kernel⟩,
   ⟨cfg 0x301D 1 1 run, 100, 29, rx0, by decide +kernel⟩,
   ⟨cfg 0x301E 1 1 (cfg 0x8000 1 1 (st 0x8300 1 1
     { run with ford := { run.ford with out := [List.replicate 60 1#8] } })), 100, rx0, List.replicate 60 1#8, [],
     by decide +kernel⟩,
   ⟨run, 100, 27,
     { bytes := List.replicate 59 1#8, fcsOk := true, icvOk := true, rxError := false, frags := 0, merge := 0 },
     by decide +kernel⟩,
   ⟨run, 100, 0,
     { bytes := List.replicate 60 1#8, fcsOk := false, icvOk := true, rxError := false, frags := 0, merge := 0 },
     by decide +kernel⟩,
   ⟨run, 100, 28,
     { bytes := List.replicate 60 1#8, fcsOk := false, icvOk := true, rxError := false, frags := 0, merge := 0 },
     by decide +kernel⟩,
   ⟨run, 100, 0,
     { bytes := List.replicate 60 1#8, fcsOk := true, icvOk := true, rxError := false, frags := 0, merge := 0 },
     by decide +kernel⟩⟩

/-- Every clause of FramesGoOut with conditions has a state and operands that meet them together. -/
theorem test_meets_FramesGoOut :
    (∃ (s : State) (t : Nat) (p : Nat) (c : Copy) (f : Frame), s.awake = true ∧ p < 20 ∧ s.basin.tx.length = 32 ∧
      (s.advance t).canStart p true = true ∧ (s.port p).macOut = [] ∧ (s.advance t).secyOn p = false ∧ (s.ptx p).cur =
      none ∧ (s.ptx p).held = none ∧ s.basin.copies = [c] ∧ c.port = p ∧ c.queue < 8 ∧ s.frame c.frame = some f ∧
      (s.advance t).headDrop c = none ∧ (s.advance t).headState p c.queue c f = .yes ∧ s.readFault f none = none) ∧
    (∃ (s : State) (t : Nat) (p : Nat) (m : MacFrame) (ms : List MacFrame), s.awake = true ∧ p < 20 ∧ s.ports.length =
      32 ∧ (s.advance t).canStart p true = true ∧ (s.port p).macOut = m :: ms ∧ m.kind = 0 ∧ (s.ptx p).cur = none ∧
      s.basin.copies = []) ∧
    (∃ (s : State) (t : Nat) (p : Nat) (x : TxFrame) (f : Frame), s.awake = true ∧ p < 28 ∧ s.basin.tx.length = 32 ∧
      (s.ptx p).cur = some x ∧ s.frame x.copy.frame = some f ∧ x.copy.cut = false ∧ x.stomp = false) ∧
    (∃ (s : State) (t : Nat) (p : Nat), s.awake = true ∧ p < 32 ∧ (s.ptx p).cur = none) ∧
    (∃ (s : State) (t : Nat) (p : Nat) (q : Nat) (c : Copy) (cs : List Copy), s.awake = true ∧ p < 32 ∧ q < 8 ∧
      s.queueOf p q = c :: cs ∧ c.launch ≠ 0 ∧ c.launch ≤ (s.advance t).workingNs) ∧
    (∃ (s : State) (t : Nat) (p : Nat) (q : Nat) (c : Copy) (f : Frame), s.awake = true ∧ p < 32 ∧ q < 8 ∧ s.queueOf p
      q = [c] ∧ s.frame c.frame = some f ∧ (s.advance t).aged c = false ∧ c.launch ≠ 0 ∧ (s.advance t).qparam p q 0x0C
      ≠ 0 ∧ c.launch + (s.advance t).qparam p q 0x0C < (s.advance t).workingNs ∧ c.stamp = none ∧ s.stat (0x3400 + p)
      (q * 16 + 0x0D) < 0xFFFFFFFE) ∧
    (∃ (s : State) (t : Nat) (c : Copy), s.awake = true ∧ s.basin.copies = [c] ∧ s.begun c = false ∧ c.queue < 8 ∧
      (s.advance t).aged c = true) :=
  ⟨⟨link 3 3 (bas (fun x => { x with frames := [fr 1 7], copies := [cp 1 3 7] }) run), 1000, 3, cp 1 3 7, fr 1 7,
     by decide +kernel⟩,
   ⟨link 3 3 (prt 3 (fun x => { x with macOut := [⟨0, 5, 0⟩] }) run), 1000, 3, ⟨0, 5, 0⟩, [], by decide +kernel⟩,
   ⟨link 27 3 (bas (fun x =>
     { x with frames := [{ fr 1 7 with copies := 1 }], copies := [cp 1 27 7], tx := modNth x.tx 27 (fun y => { y with cur := some ⟨cp 1 27 7, 0, 5, false, 0, false⟩ }) })
     run), 1000, 27, ⟨cp 1 27 7, 0, 5, false, 0, false⟩, { fr 1 7 with copies := 1 }, by decide +kernel⟩,
   ⟨run, 1000, 31, by decide +kernel⟩,
   ⟨bas (fun x => { x with frames := [fr 1 7], copies := [{ cp 1 31 7 with launch := 500 }] }) run, 1000, 31, 7,
     { cp 1 31 7 with launch := 500 }, [], by decide +kernel⟩,
   ⟨cfg 0x341F 0x7C 10 (bas (fun x => { x with frames := [fr 1 7], copies := [{ cp 1 31 7 with launch := 500 }] })
     run), 1000, 31, 7, { cp 1 31 7 with launch := 500 }, fr 1 7, by decide +kernel⟩,
   ⟨cfg 0x341F 0x7E 1 (bas (fun x => { x with frames := [fr 1 7], copies := [cp 1 31 7] }) run), 2000, cp 1 31 7,
     by decide +kernel⟩⟩

/-- Every clause of GatesFollowTheirLists with conditions has a state and operands that meet them together. -/
theorem test_meets_GatesFollowTheirLists :
    (∃ (s : State) (t : Nat) (p : Nat) (x : Nat) (l : GateList), s.awake = true ∧ p < 32 ∧ s.basin.gates.length = 32 ∧
      (s.gate p).pending = some (l, x) ∧ x ≤ (s.advance t).workingNs) ∧
    (∃ (s : State) (t : Nat) (n : Nat) (x : Nat) (l : GateList) (g : StreamGate), s.awake = true ∧ n < 256 ∧ kfind
      s.basin.streamGates n = some g ∧ g.engine.pending = some (l, x) ∧ x ≤ (s.advance t).workingNs) ∧
    (∃ (s : State) (t : Nat) (p : Nat) (x : Nat) (l : GateList), s.awake = true ∧ p < 32 ∧ (s.gate p).pending = some
      (l, x) ∧ (s.advance t).workingNs < x) ∧
    (∃ (s : State) (t : Nat) (p : Nat), s.awake = true ∧ p < 32 ∧ s.basin.tx.length = 32 ∧ (s.ptx p).cur = none) ∧
    (∃ (s : State) (t : Nat) (p : Nat) (d : Nat), s.awake = true ∧ p < 32 ∧ s.basin.tx.length = 32 ∧ (s.ptx p).cur =
      none ∧ (s.gate p).untilHold (s.advance t).workingNs = some d ∧ s.stat (0x3580 + p) 7 = 1 ∧ d ≤ (s.advance t).reg
      (0x3500 + p) 0x16) ∧
    (∃ (s : State) (t : Nat) (p : Nat) (n : Nat), s.awake = true ∧ p < 32 ∧ s.basin.gates.length = 32) ∧
    (∃ (s : State) (t : Nat) (p : Nat) (n : Nat), s.awake = true ∧ p < 32 ∧ s.basin.gates.length = 32) :=
  ⟨⟨bas (fun x => { x with gates := modNth x.gates 31 (fun g => { g with pending := some (gl, 900) }) }) run, 900, 31,
     900, gl, by decide +kernel⟩,
   ⟨bas (fun x => { x with streamGates := [(255, sg)] }) run, 900, 255, 900, gl, sg, by decide +kernel⟩,
   ⟨bas (fun x => { x with gates := modNth x.gates 0 (fun g => { g with pending := some (gl, 900) }) }) run, 899, 0,
     900, gl, by decide +kernel⟩,
   ⟨bas (fun x => { x with tx := modNth x.tx 31 (fun g => { g with hold := true }) }) run, 900, 31, by decide +kernel⟩,
   ⟨st 0x3580 7 1 (bas (fun x =>
     { x with gates := modNth x.gates 0 (fun g => { g with enabled := true, oper := some gl }) }) run), 1000, 0, 0,
     by decide +kernel⟩,
   ⟨run, 5, 31, 1023, by decide +kernel⟩,
   ⟨run, 5, 0, 0, by decide +kernel⟩⟩

/-- Every clause of InputsAreOrdered with conditions has a state and operands that meet them together. -/
theorem test_meets_InputsAreOrdered :
    (∃ (s : State) (t : Nat) (w : OrderUnit) (k : OKey) (x : InTransit) (rest : List InTransit), s.awake = true ∧
      s.follows = false ∧ s.ord.units.length = 6 ∧ takeFirst (sameInput w k) s.ord.transit = some (x, rest) ∧
      (s.orderUnit w).released ≤ k.epoch ∧ (s.orderUnit w).buf.length < 256) ∧
    (∃ (s : State) (t : Nat) (w : OrderUnit) (k : OKey) (x : InTransit) (rest : List InTransit), s.awake = true ∧
      s.follows = false ∧ takeFirst (sameInput w k) s.ord.transit = some (x, rest) ∧ (s.orderUnit w).released ≤ k.epoch
      ∧ 256 ≤ (s.orderUnit w).buf.length ∧ s.ord.heldBack.any (fun y => decide (y.queue = unitNum w) && decide (y.key =
      k)) = false) ∧
    (∃ (s : State) (t : Nat) (w : OrderUnit) (k : OKey) (x : InTransit) (rest : List InTransit), s.awake = true ∧
      s.follows = false ∧ takeFirst (sameInput w k) s.ord.transit = some (x, rest) ∧ k.epoch < (s.orderUnit w).released
      ∧ s.time.held = false) ∧
    (∃ (s : State) (t : Nat) (e : Nat) (w : OrderUnit), s.awake = true ∧ (s.advance t).time.orderNs < (e + 2) * 32) ∧
    (∃ (s : State) (t : Nat) (e : Nat) (w : OrderUnit), s.awake = true ∧ s.follows = false ∧ s.ord.units.length = 6 ∧ w
      ≠ .ford ∧ w ≠ .saddle ∧ (e + 2) * 32 ≤ (s.advance t).time.orderNs ∧ (s.orderUnit w).released ≤ e ∧ (s.orderUnit
      w).suspend = none ∧ (∀ b ∈ (s.orderUnit w).buf, e < b.key.epoch)) ∧
    (∃ (s : State) (t : Nat) (w : OrderUnit), s.awake = true ∧ s.follows = false ∧ (s.advance t).orderHeld = true ∧
      (s.orderUnit w).buf = []) ∧
    (∃ (s : State) (t : Nat) (r : Nat) (w : OrderUnit), s.awake = true ∧ (s.orderUnit w).suspend = some r ∧ (s.advance
      t).time.raw < r) ∧
    (∃ (s : State) (t : Nat) (r : Nat) (w : OrderUnit), s.awake = true ∧ (s.orderUnit w).suspend = some r ∧ r ≤
      (s.advance t).time.raw ∧ 64 ≤ (s.advance t).time.orderNs) ∧
    (∃ (s : State) (t : Nat) (src : Nat), s.awake = true) ∧
    (∃ (s : State) (t : Nat) (w : OrderUnit) (x : HeldSender), s.awake = true ∧ s.ord.heldBack.filter (fun y => decide
      (y.queue = unitNum w)) = [x]) ∧
    (∃ (s : State) (t : Nat) (w : OrderUnit) (x : HeldSender), s.awake = true ∧ x ∈ s.ord.heldBack ∧ x.queue = unitNum
      w ∧ x.told = false ∧ x.since + 10000 < (s.advance t).time.raw) ∧
    (∃ (s : State) (t : Nat), s.awake = true ∧ s.inStep = false ∧ (s.advance t).passed ((s.ord.lastCheck / 65536 + 1) *
      65536) = true) :=
  ⟨⟨ordr (fun x => { x with transit := [⟨.fdb, ⟨⟨0, 3, 0⟩, 0, .learn 5 1 1⟩⟩] }) run, 5, .fdb, ⟨0, 3, 0⟩, ⟨.fdb, ⟨⟨0,
     3, 0⟩, 0, .learn 5 1 1⟩⟩, [], by decide +kernel⟩,
   ⟨ordr (fun x =>
     { x with transit := [⟨.fdb, ⟨⟨0, 3, 0⟩, 0, .learn 5 1 1⟩⟩], units := modNth x.units 4 (fun b => { b with buf := List.replicate 256 ⟨⟨0, 3, 0⟩, 0, .learn 5 1 1⟩ }) })
     run, 5, .fdb, ⟨0, 3, 0⟩, ⟨.fdb, ⟨⟨0, 3, 0⟩, 0, .learn 5 1 1⟩⟩, [], by decide +kernel⟩,
   ⟨ordr (fun x =>
     { x with transit := [⟨.fdb, ⟨⟨0, 3, 0⟩, 0, .learn 5 1 1⟩⟩], units := modNth x.units 4 (fun b => { b with released := 1 }) })
     run, 100, .fdb, ⟨0, 3, 0⟩, ⟨.fdb, ⟨⟨0, 3, 0⟩, 0, .learn 5 1 1⟩⟩, [], by decide +kernel⟩,
   ⟨run, 63, 0, .saddle, by decide +kernel⟩,
   ⟨run, 64, 0, .narrows, by decide +kernel⟩,
   ⟨tim (fun x => { x with held := true }) run, 64, .ford, by decide +kernel⟩,
   ⟨ordr (fun x => { x with units := modNth x.units 4 (fun b => { b with suspend := some 200 }) }) run, 199, 200, .fdb,
     by decide +kernel⟩,
   ⟨ordr (fun x => { x with units := modNth x.units 4 (fun b => { b with suspend := some 200 }) }) run, 200, 200, .fdb,
     by decide +kernel⟩,
   ⟨ordr (fun x => { x with waits := [⟨1, 5, 32⟩, ⟨9, 5, 33⟩] }) run, 64, 5, by decide +kernel⟩,
   ⟨ordr (fun x => { x with heldBack := [⟨1, ⟨0, 3, 0⟩, 5, false⟩] }) run, 64, .ford, ⟨1, ⟨0, 3, 0⟩, 5, false⟩,
     by decide +kernel⟩,
   ⟨ordr (fun x => { x with heldBack := [⟨1, ⟨0, 3, 0⟩, 5, false⟩] }) run, 10006, .ford, ⟨1, ⟨0, 3, 0⟩, 5, false⟩,
     by decide +kernel⟩,
   ⟨run, 65537 * 32, by decide +kernel⟩⟩

/-- Every clause of BanksAuditsAndRewrites with conditions has a state and operands that meet them together. -/
theorem test_meets_BanksAuditsAndRewrites :
    (∃ (s : State) (t : Nat) (b : Nat) (c : Caller), s.awake = true ∧ c.iface ≠ .partner ∧ b < 64 ∧ (s.advance
      t).writeCheck c 0x4001 0x41 (toLE 1 b) = 0 ∧ s.bankServes b = true ∧ s.bankType b = 1 ∧ s.basin.rebuild = none ∧
      s.basin.rebuildWait = [] ∧ s.basin.spareUsed = false) ∧
    (∃ (s : State) (t : Nat) (b : Nat) (c : Caller), s.awake = true ∧ c.iface ≠ .partner ∧ b < 64 ∧ (s.advance
      t).writeCheck c 0x4001 0x41 (toLE 1 b) = 0 ∧ s.bankServes b = true ∧ s.bankType b = 1 ∧ s.basin.rebuild = none ∧
      s.basin.rebuildWait = [] ∧ s.basin.spareUsed = true) ∧
    (∃ (s : State) (t : Nat) (b : Nat), s.awake = true ∧ b < 64 ∧ s.basin.retiring = [b] ∧ (∀ f ∈ s.basin.frames, ∀ c ∈
      f.cells, c / 8192 ≠ b)) ∧
    (∃ (s : State) (t : Nat) (b : Nat), s.awake = true ∧ s.basin.rebuild = some b) ∧
    (∃ (s : State) (t : Nat) (st : List (Nat × Nat)) (dy : List (Nat × Nat)), s.awake = true) ∧
    (∃ (s : State) (t : Nat) (tbl : Nat) (pos : Nat) (bank : Nat), s.awake = true ∧ bank < 64 ∧ (tbl, pos) ∈
      s.basin.bad) ∧
    (∃ (s : State) (t : Nat) (tbl : Nat) (pos : Nat) (bank : Nat), s.awake = true ∧ bank < 64 ∧ (tbl, pos) ∈
      s.basin.bad ∧ kget (fun _ => 0) s.basin.second bank = 0 ∧ 1 ≤ (s.advance t).time.raw / 1000000000 ∧ 1 <
      (s.advance t).reg 0x4000 5) ∧
    (∃ (s : State) (t : Nat) (r : Nat), s.awake = true ∧ r < 8192) ∧
    (∃ (s : State) (t : Nat) (r : Nat), s.awake = true ∧ r < 8192) ∧
    (∃ (s : State) (t : Nat) (tbl : Nat) (slot : Nat), s.awake = true ∧ (tbl, slot) ∈ s.basin.badSlots ∧ (s.advance
      t).internalUp 31 = true) ∧
    (∃ (s : State) (t : Nat) (slot : Nat), s.awake = true ∧ (0x4101, slot) ∈ s.basin.badSlots) ∧
    (∃ (s : State) (t : Nat) (slot : Nat), s.awake = true ∧ (0x6200, slot) ∈ s.basin.badSlots) ∧
    (∃ (s : State) (t : Nat), s.awake = true ∧ s.basin.leaked = [] ∧ (∀ f ∈ s.basin.frames, f.need = 0)) ∧
    (∃ (s : State) (t : Nat) (cell : Nat), s.awake = true ∧ s.basin.leaked = [(cell, 1)] ∧ (∀ f ∈ s.basin.frames,
      f.need = 0) ∧ s.stat 0x4020 2 < 2 ^ 32) :=
  ⟨⟨run, 9, 50, firm, by decide +kernel⟩,
   ⟨bas (fun b => { b with spareUsed := true }) run, 9, 50, firm, by decide +kernel⟩,
   ⟨bas (fun b => { b with retiring := [5], frames := [{ fr 1 0 with cells := [7] }] }) run, 9, 5, by decide +kernel⟩,
   ⟨bas (fun b => { b with rebuild := some 45, rebuildWait := [44] }) run, 9, 45, by decide +kernel⟩,
   ⟨bas (fun b => { b with bad := [(0x5100, 3)] }) run, 9, [(0x5100, 3), (0x5200, 4)], [(0x4101, 9)],
     by decide +kernel⟩,
   ⟨bas (fun b => { b with bad := [(0x5100, 3), (0x5200, 4)] }) run, 9, 0x5200, 4, 45, by decide +kernel⟩,
   ⟨bas (fun b => { b with bad := [(0x5200, 4)] }) run, 1000000000, 0x5200, 4, 45, by decide +kernel⟩,
   ⟨bas (fun b => { b with bad := [(0x5200, 4)] }) run, 9, 8191, by decide +kernel⟩,
   ⟨bas (fun b => { b with bad := [(0x5200, 4), (0x5100, 7)] }) run, 9, 7, by decide +kernel⟩,
   ⟨bas (fun b => { b with badSlots := [(0x5B00, 4)] }) paired, 9, 0x5B00, 4, by decide +kernel⟩,
   ⟨bas (fun b => { b with badSlots := [(0x4101, 4)], fdb := [(4, ⟨1, 1, false, 2, none, 0, 0, none⟩)] }) run, 9, 4,
     by decide +kernel⟩,
   ⟨bas (fun b => { b with badSlots := [(0x6200, 4)] }) run, 9, 4, by decide +kernel⟩,
   ⟨run, 9, by decide +kernel⟩,
   ⟨bas (fun b => { b with leaked := [(77, 1)] }) run, 9, 77, by decide +kernel⟩⟩

/-- Every clause of LedgerAndSlowPath with conditions has a state and operands that meet them together. -/
theorem test_meets_LedgerAndSlowPath :
    (∃ (s : State) (t : Nat) (cause : Nat) (key : OKey), s.awake = true ∧ s.journal.trigger = some (cause, key) ∧
      s.ledgerState = 1) ∧
    (∃ (s : State) (t : Nat) (cause : Nat) (key : OKey), s.awake = true ∧ s.journal.trigger = some (cause, key) ∧
      s.ledgerState ≠ 1) ∧
    (∃ (s : State) (t : Nat) (c : Caller), s.awake = true ∧ c.iface ≠ .partner ∧ s.ledgerState = 1 ∧ (s.advance
      t).writeCheck c 0x4400 2 [2] = 0) ∧
    (∃ (s : State) (t : Nat) (c : Caller), s.awake = true ∧ c.iface ≠ .partner ∧ s.ledgerServing ≠ 0 ∧ (s.advance
      t).writeCheck c 0x4400 2 [1] = 0) ∧
    (∃ (s : State) (t : Nat) (d : Datagram) (e : Datagram), s.awake = true ∧ s.basin.datagrams = [d, e] ∧ d.whole =
      false ∧ d.since + (s.advance t).reg 0x5300 0x23 * 1000000 ≤ (s.advance t).time.raw ∧ (e.whole = true ∨ (s.advance
      t).time.raw < e.since + (s.advance t).reg 0x5300 0x23 * 1000000)) ∧
    (∃ (s : State) (t : Nat), s.awake = true ∧ ((s.advance t).portUp 29 = false ∨ ∀ d ∈ s.basin.datagrams, d.whole =
      false)) ∧
    (∃ (s : State) (t : Nat) (d : Datagram) (rest : List Datagram), s.awake = true ∧ (s.advance t).portUp 29 = true ∧
      s.follows = true ∧ s.basin.datagrams = d :: rest ∧ d.whole = true ∧ uncontrolled (d.frame (typeOffset d.header +
      2) (decide (beAt d.header (typeOffset d.header) 2 = 0x86DD))) = false) ∧
    (∃ (s : State) (t : Nat) (d : Datagram) (rest : List Datagram), s.awake = true ∧ (s.advance t).portUp 29 = true ∧
      s.follows = false ∧ s.basin.datagrams = d :: rest ∧ d.whole = true) ∧
    (∃ (s : State) (t : Nat) (handled : Bool) (f : ClusterFrame) (rest : List ClusterFrame), s.awake = true ∧
      s.basin.cluster = f :: rest ∧ f.exc ≠ 0) :=
  ⟨⟨{ run with journal := { run.journal with trigger := some (2, ⟨3, 4, 5⟩) } }, 9, 2, ⟨3, 4, 5⟩, by decide +kernel⟩,
   ⟨st 0x4400 1 3 { run with journal := { run.journal with trigger := some (2, ⟨3, 4, 5⟩) } }, 9, 2, ⟨3, 4, 5⟩,
     by decide +kernel⟩,
   ⟨run, 9, firm, by decide +kernel⟩,
   ⟨st 0x4400 1 3 run, 9, host, by decide +kernel⟩,
   ⟨bas (fun b => { b with datagrams := [⟨1, 2, 0, [], [], none⟩, ⟨1, 3, 5000000000, [], [], none⟩] }) run, 5000000000,
     ⟨1, 2, 0, [], [], none⟩, ⟨1, 3, 5000000000, [], [], none⟩, by decide +kernel⟩,
   ⟨run, 9, by decide +kernel⟩,
   ⟨bas (fun b => { b with datagrams := [⟨1, 2, 0, List.replicate 34 8, [(0, [1, 2])], some 2⟩] }) (cfg 0x301D 1 1
     paired), 9, ⟨1, 2, 0, List.replicate 34 8, [(0, [1, 2])], some 2⟩, [], by decide +kernel⟩,
   ⟨bas (fun b => { b with datagrams := [⟨1, 2, 0, List.replicate 34 8, [(0, [1, 2])], some 2⟩] }) (cfg 0x301D 1 1
     run), 9, ⟨1, 2, 0, List.replicate 34 8, [(0, [1, 2])], some 2⟩, [], by decide +kernel⟩,
   ⟨bas (fun b => { b with cluster := [⟨1, ⟨3, 2, 1⟩, 5, 2, 4, [1, 2, 3]⟩] }) run, 9, false, ⟨1, ⟨3, 2, 1⟩, 5, 2, 4,
     [1, 2, 3]⟩, [], by decide +kernel⟩⟩

/-- Every clause of ReadsAndWrites with conditions has a state and operands that meet them together. -/
theorem test_meets_ReadsAndWrites :
    (∃ (s : State) (t : Nat) (idx : Nat) (sub : Nat) (c : Caller), s.awake = true ∧ c.iface ≠ .partner ∧ 0x5000 ≤ idx ∧
      idx < 0x7000 ∧ isLong idx sub = false ∧ groupRange idx sub = none ∧ (s.advance t).readCheck c idx sub = 0) ∧
    (∃ (s : State) (t : Nat) (idx : Nat) (sub : Nat) (c : Caller), s.awake = true ∧ c.iface ≠ .partner ∧ 0x5000 ≤ idx ∧
      idx < 0x7000 ∧ groupRange idx sub = none ∧ (s.advance t).readCheck c idx sub ≠ 0) ∧
    (∃ (s : State) (t : Nat) (idx : Nat) (sub : Nat) (c : Caller) (data : Bytes) (e : EntryDef), s.awake = true ∧
      c.iface ≠ .partner ∧ (idx = 0x2004 ∧ sub = 9 ∨ 0x30C0 ≤ idx ∧ idx < 0x30D4 ∧ (sub = 9 ∨ sub = 0x0A)) ∧ entryDef
      idx sub = some e ∧ (s.advance t).writeCheck c idx sub data = 0 ∧ (∀ x ∈ s.dict.settings, x.epoch < (s.advance
      t).keyEpoch + 4)) ∧
    (∃ (s : State) (t : Nat) (idx : Nat) (sub : Nat) (c : Caller) (data : Bytes) (e : EntryDef), s.awake = true ∧
      c.iface ≠ .partner ∧ 0x5000 ≤ idx ∧ idx < 0x7000 ∧ isTable idx = false ∧ entryDef idx sub = some e ∧ e.ty ≠ .dom
      ∧ (s.advance t).writeCheck c idx sub data ≠ 0) ∧
    (∃ (s : State) (t : Nat) (idx : Nat) (sub : Nat) (c : Caller) (data : Bytes) (e : EntryDef), s.awake = true ∧
      c.iface ≠ .partner ∧ 0x5000 ≤ idx ∧ idx < 0x7000 ∧ isTable idx = false ∧ entryDef idx sub = some e ∧ e.ty ≠ .dom
      ∧ e.acc = .rws ∧ e.perIface = false ∧ (s.advance t).writeCheck c idx sub data = 0) ∧
    (∃ (s : State) (t : Nat) (a : Awaiting), s.awake = true ∧ s.dict.awaiting = [a] ∧ a.carry = .reply ∧ (s.advance
      t).responseReady a = true) :=
  ⟨⟨run, 9, 0x6000, 1, host, by decide +kernel⟩,
   ⟨run, 9, 0x5FFF, 0x20, host, by decide +kernel⟩,
   ⟨run, 9, 0x2004, 9, host, toLE 4 77, (ent 0x2004 9), by decide +kernel⟩,
   ⟨run, 9, 0x6000, 1, host, [], (ent 0x6000 1), by decide +kernel⟩,
   ⟨run, 9, 0x6000, 1, host, toLE (ent 0x6000 1).ty.bytes 1, (ent 0x6000 1), by decide +kernel⟩,
   ⟨dic (fun d => { d with awaiting := [⟨host, 5, 3, .reply⟩] }) run, 9, ⟨host, 5, 3, .reply⟩, by decide +kernel⟩⟩

/-- Every clause of SegmentsAndDomains with conditions has a state and operands that meet them together. -/
theorem test_meets_SegmentsAndDomains :
    (∃ (s : State) (t : Nat) (idx : Nat) (sub : Nat) (len : Nat) (c : Caller), s.awake = true ∧ c.iface ≠ .partner ∧
      isLong idx sub = true ∧ (s.advance t).readCheck c idx sub = 0 ∧ len ≤ ((s.advance t).longValue c idx sub).length) ∧
    (∃ (s : State) (t : Nat) (idx : Nat) (sub : Nat) (off : Nat) (len : Nat) (c : Caller), s.awake = true ∧ c.iface ≠
      .partner ∧ isLong idx sub = true ∧ (s.advance t).readCheck c idx sub = 0 ∧ ((s.advance t).longValue c idx
      sub).length < off + len) ∧
    (∃ (s : State) (t : Nat) (idx : Nat) (sub : Nat) (c : Caller) (data : Bytes), s.awake = true ∧ c.iface ≠ .partner ∧
      idx ≠ 0x1300 ∧ idx ≠ 0xC000 ∧ s.openWrite c (dkey idx sub) = none ∧ ((s.advance t).afterKey c 3 idx sub (toBE 1 0
      ++ toBE 4 0 ++ data)).segmentStatus c (s.advance t).keyEpoch idx sub data = 0) ∧
    (∃ (s : State) (t : Nat) (idx : Nat) (sub : Nat) (off : Nat) (c : Caller) (data : Bytes), s.awake = true ∧ c.iface
      ≠ .partner ∧ idx ≠ 0x1300 ∧ idx ≠ 0xC000 ∧ off ≠ 0 ∧ s.openWrite c (dkey idx sub) = none) ∧
    (∃ (s : State) (t : Nat), s.awake = true) ∧
    (∃ (s : State) (t : Nat) (c : Caller) (data : Bytes) (signed : Bool), s.awake = true ∧ c.iface ≠ .partner ∧
      s.openWrite c (dkey 0x1300 0x10) = none ∧ ((s.advance t).afterKey c 3 0x1300 0x10 (toBE 1 1 ++ toBE 4 0 ++
      data)).segmentStatus c (s.advance t).keyEpoch 0x1300 0x10 data = 0 ∧ s.imageOf data signed = none) ∧
    (∃ (s : State) (t : Nat) (c : Caller) (x : Candidate), s.awake = true ∧ c.iface ≠ .partner ∧ s.dict.candidate =
      some x ∧ (s.advance t).writeCheck c 0x1300 0x12 [1] = 0) ∧
    (∃ (s : State) (t : Nat) (c : Caller), s.awake = true ∧ c.iface ≠ .partner ∧ s.dict.candidate = none ∧ (s.advance
      t).writeCheck c 0x1300 0x12 [1] = 0) :=
  ⟨⟨{ run with keys := { run.keys with statement := [1, 2, 3] } }, 9, 0xB200, 5, 3, firm, by decide +kernel⟩,
   ⟨run, 9, 0xB200, 5, 2, 2, host, by decide +kernel⟩,
   ⟨run, 9, 0x7060, 0x10, host, [1, 2, 3], by decide +kernel⟩,
   ⟨run, 9, 0x7060, 0x10, 1, host, [1, 2, 3], by decide +kernel⟩,
   ⟨run, 9, by decide +kernel⟩,
   ⟨run, 9, firm, [1, 2, 3], true, by decide +kernel⟩,
   ⟨dic (fun d => { d with candidate := some ⟨d.image, false⟩ }) run, 9, firm, ⟨run.dict.image, false⟩,
     by decide +kernel⟩,
   ⟨run, 9, firm, by decide +kernel⟩⟩

/-- Every clause of CommitsTakeEffectTogether with conditions has a state and operands that meet them together. -/
theorem test_meets_CommitsTakeEffectTogether :
    (∃ (s : State) (t : Nat) (c : Caller), s.awake = true ∧ c.iface ≠ .partner ∧ s.dict.staging.state = .open_ ∧
      s.dict.staging.owner = some c ∧ (s.advance t).writeCheck c 0x1300 1 [1] = 0) ∧
    (∃ (s : State) (t : Nat) (c : Caller), s.awake = true ∧ c.iface ≠ .partner ∧ s.dict.staging.state = .open_ ∧
      s.dict.staging.owner ≠ some c ∧ (s.advance t).writeCheck c 0x1300 1 [1] = 0) ∧
    (∃ (s : State) (t : Nat) (c : Caller), s.awake = true ∧ c.iface ≠ .partner ∧ s.dict.staging.state = .open_ ∧
      s.dict.staging.owner = some c ∧ (s.advance t).writeCheck c 0x1301 4 [1] = 0 ∧ s.ownVal c 0x1301 1 = 0 ∧ s.ownVal
      c 0x1301 2 = 0 ∧ s.armingFault ((s.advance t).keyEpoch + 4) = none) ∧
    (∃ (s : State) (t : Nat) (n : Nat) (a : Nat) (c : Caller), s.awake = true ∧ c.iface ≠ .partner ∧
      s.dict.staging.state = .open_ ∧ s.dict.staging.owner = some c ∧ (s.advance t).writeCheck c 0x1301 4 [1] = 0 ∧
      s.ownVal c 0x1301 1 = 0 ∧ s.ownVal c 0x1301 2 = 0 ∧ s.armingFault ((s.advance t).keyEpoch + 4) = some (n, a)) ∧
    (∃ (s : State) (t : Nat), s.awake = true ∧ s.dict.staging.state = .armed ∧ s.dict.staging.epoch ≤ (s.advance
      t).keyEpoch) ∧
    (∃ (s : State) (t : Nat), s.awake = true ∧ (s.dict.staging.state ≠ .armed ∨ (s.advance t).keyEpoch <
      s.dict.staging.epoch)) ∧
    (∃ (s : State) (t : Nat), s.awake = true) :=
  ⟨⟨stg host [.value (dkey 0x6000 1) 1] run, 9, host, by decide +kernel⟩,
   ⟨stg firm [.value (dkey 0x6000 1) 1] run, 9, host, by decide +kernel⟩,
   ⟨stg host [.value (dkey 0x6000 1) 1] run, 9, host, by decide +kernel⟩,
   ⟨stg host [.value (dkey 0x6000 1) 1, .value (dkey 0x4010 1) 0] run, 9, 5, dkey 0x4010 1, host, by decide +kernel⟩,
   ⟨dic (fun d => { d with staging := { d.staging with state := .armed, epoch := 4 } }) (stg host [.value (dkey 0x6000
     1) 1] run), 128, by decide +kernel⟩,
   ⟨dic (fun d => { d with staging := { d.staging with state := .armed, epoch := 4 } }) (stg host [.value (dkey 0x6000
     1) 1] run), 96, by decide +kernel⟩,
   ⟨run, 9, by decide +kernel⟩⟩

/-- Every clause of TablesThroughTheirViews with conditions has a state and operands that meet them together. -/
theorem test_meets_TablesThroughTheirViews :
    (∃ (s : State) (t : Nat) (tbl : Nat) (pos : Nat) (v : List Nat) (c : Caller), s.awake = true ∧ isTable tbl = true ∧
      c.iface ≠ .partner ∧ c.session < 16 ∧ (s.advance t).opCheck c tbl 1 = 0 ∧ ((s.advance t).opKeyed c tbl
      1).tableFind (s.advance t).keyEpoch tbl (s.opRow c tbl) = some (pos, v)) ∧
    (∃ (s : State) (t : Nat) (tbl : Nat) (v : List Nat) (c : Caller), s.awake = true ∧ isTable tbl = true ∧ c.iface ≠
      .partner ∧ c.session < 16 ∧ (s.advance t).opCheck c tbl 5 = 0 ∧ ((s.advance t).opKeyed c tbl 5).tableAt
      (s.advance t).keyEpoch tbl (s.ownVal c tbl 5) = some v) ∧
    (∃ (s : State) (t : Nat) (tbl : Nat) (pos : Nat) (v : List Nat) (c : Caller), s.awake = true ∧ isTable tbl = true ∧
      c.iface ≠ .partner ∧ c.session < 16 ∧ (s.advance t).opCheck c tbl 6 = 0 ∧ ((s.advance t).opKeyed c tbl
      6).tableNext (s.advance t).keyEpoch tbl (s.ownVal c tbl 5) = some (pos, v)) ∧
    (∃ (s : State) (t : Nat) (tbl : Nat) (c : Caller), s.awake = true ∧ isTable tbl = true ∧ c.iface ≠ .partner ∧
      (s.advance t).opCheck c tbl 1 = 0 ∧ ((s.advance t).opKeyed c tbl 1).tableFind (s.advance t).keyEpoch tbl (s.opRow
      c tbl) = none) ∧
    (∃ (s : State) (t : Nat) (tbl : Nat) (c : Caller), s.awake = true ∧ isTable tbl = true ∧ c.iface ≠ .partner ∧
      (s.advance t).opCheck c tbl 6 = 0 ∧ ((s.advance t).opKeyed c tbl 6).tableNext (s.advance t).keyEpoch tbl
      (s.ownVal c tbl 5) = none) ∧
    (∃ (s : State) (t : Nat) (tbl : Nat) (c : Caller), s.awake = true ∧ isTable tbl = true ∧ isDynamic tbl = false ∧
      c.iface ≠ .partner ∧ (s.advance t).opCheck c tbl 2 = 0 ∧ posOfKey tbl (s.stagedRows (s.advance t).keyEpoch tbl)
      (s.opRow c tbl) = none ∧ s.tableFull tbl (s.stagedRows (s.advance t).keyEpoch tbl) (s.opRow c tbl) = false ∧
      s.stagingFull (.rowOp tbl 2 (s.opRow c tbl)) = false) ∧
    (∃ (s : State) (t : Nat) (tbl : Nat) (p : Nat) (c : Caller), s.awake = true ∧ isTable tbl = true ∧ isDynamic tbl =
      false ∧ c.iface ≠ .partner ∧ (s.advance t).opCheck c tbl 3 = 0 ∧ posOfKey tbl (s.stagedRows (s.advance
      t).keyEpoch tbl) (s.opRow c tbl) = some p ∧ s.stagingFull (.rowOp tbl 3 (s.opRow c tbl)) = false) ∧
    (∃ (s : State) (t : Nat) (tbl : Nat) (p : Nat) (c : Caller), s.awake = true ∧ isTable tbl = true ∧ isDynamic tbl =
      false ∧ c.iface ≠ .partner ∧ (s.advance t).opCheck c tbl 4 = 0 ∧ posOfKey tbl (s.stagedRows (s.advance
      t).keyEpoch tbl) (s.opRow c tbl) = some p ∧ s.stagingFull (.rowOp tbl 4 (s.opRow c tbl)) = false) ∧
    (∃ (s : State) (t : Nat) (tbl : Nat) (c : Caller), s.awake = true ∧ isTable tbl = true ∧ isDynamic tbl = false ∧
      c.iface ≠ .partner ∧ (s.advance t).opCheck c tbl 7 = 0 ∧ s.stagingFull (.rowOp tbl 7 []) = false) ∧
    (∃ (s : State) (t : Nat) (tbl : Nat) (p : Nat) (c : Caller), s.awake = true ∧ isTable tbl = true ∧ isDynamic tbl =
      false ∧ c.iface ≠ .partner ∧ (s.advance t).opCheck c tbl 2 = 0 ∧ posOfKey tbl (s.stagedRows (s.advance
      t).keyEpoch tbl) (s.opRow c tbl) = some p) ∧
    (∃ (s : State) (t : Nat) (tbl : Nat) (c : Caller), s.awake = true ∧ isTable tbl = true ∧ isDynamic tbl = false ∧
      c.iface ≠ .partner ∧ (s.advance t).opCheck c tbl 4 = 0 ∧ posOfKey tbl (s.stagedRows (s.advance t).keyEpoch tbl)
      (s.opRow c tbl) = none) ∧
    (∃ (s : State) (t : Nat) (c : Caller), s.awake = true ∧ c.iface ≠ .partner ∧ (s.advance t).opCheck c 0x4200 3 = 0 ∧
      overlayBytes (rowBytes 0x4200) ≤ s.overlayFree ∧ s.keyStatus 0x4200 3 (s.rowsAt ((s.advance t).keyEpoch + 4)
      0x4200) (s.opRow c 0x4200) = 0) ∧
    (∃ (s : State) (t : Nat) (c : Caller), s.awake = true ∧ c.iface ≠ .partner ∧ (s.advance t).opCheck c 0x6200 7 = 0) :=
  ⟨⟨row 0x5B00 7 [7, 0, 0, 0, 0, 0, 255, 0, 0, 0, 0, 0] (own host 0x5B00 6 7 run), 9, 0x5B00, 7, [7, 0, 0, 0, 0, 0,
     255, 0, 0, 0, 0, 0], host, by decide +kernel⟩,
   ⟨row 0x5B00 7 [7, 0, 0, 0, 0, 0, 255, 0, 0, 0, 0, 0] (own host 0x5B00 5 7 run), 9, 0x5B00, [7, 0, 0, 0, 0, 0, 255,
     0, 0, 0, 0, 0], host, by decide +kernel⟩,
   ⟨row 0x5B00 7 [7, 0, 0, 0, 0, 0, 255, 0, 0, 0, 0, 0] (own host 0x5B00 5 6 run), 9, 0x5B00, 7, [7, 0, 0, 0, 0, 0,
     255, 0, 0, 0, 0, 0], host, by decide +kernel⟩,
   ⟨run, 9, 0x8200, host, by decide +kernel⟩,
   ⟨run, 9, 0x8200, host, by decide +kernel⟩,
   ⟨own host 0x5B00 6 7 run, 9, 0x5B00, host, by decide +kernel⟩,
   ⟨row 0x5B00 7 [7, 0, 0, 0, 0, 0, 255, 0, 0, 0, 0, 0] (own host 0x5B00 6 7 run), 9, 0x5B00, 7, host,
     by decide +kernel⟩,
   ⟨row 0x5B00 7 [7, 0, 0, 0, 0, 0, 255, 0, 0, 0, 0, 0] (own host 0x5B00 6 7 run), 9, 0x5B00, 7, host,
     by decide +kernel⟩,
   ⟨run, 9, 0x3503, host, by decide +kernel⟩,
   ⟨row 0x5B00 7 [7, 0, 0, 0, 0, 0, 255, 0, 0, 0, 0, 0] (own host 0x5B00 6 7 run), 9, 0x5B00, 7, host,
     by decide +kernel⟩,
   ⟨own host 0x5B00 6 7 run, 9, 0x5B00, host, by decide +kernel⟩,
   ⟨own host 0x4200 6 5 run, 9, host, by decide +kernel⟩,
   ⟨run, 9, host, by decide +kernel⟩⟩

/-- Every clause of SessionsOpenAndClose with conditions has a state and operands that meet them together. -/
theorem test_meets_SessionsOpenAndClose :
    (∃ (s : State) (t : Nat) (slot : Nat) (n : Nat) (nonce : Bytes), s.awake = true ∧ nonce.length = 16 ∧
      s.access.sessions.length = 8 ∧ (s.advance t).slotUsable slot 0 0 = true ∧ s.freeSession = some n) ∧
    (∃ (s : State) (t : Nat) (slot : Nat) (nonce : Bytes), s.awake = true ∧ nonce.length = 16 ∧ (s.advance
      t).slotUsable slot 0 0 = true ∧ s.freeSession = none) ∧
    (∃ (s : State) (t : Nat) (n : Nat), s.awake = true ∧ 1 ≤ n ∧ n ≤ 8 ∧ s.access.sessions.length = 8 ∧ (s.session
      n).state = 1 ∧ (s.session n).host = true ∧ (s.advance t).time.orderNs ≤ (s.session n).dueNs ∧ (s.advance
      t).slotUsable (s.session n).slot 0 0 = true) ∧
    (∃ (s : State) (t : Nat) (n : Nat) (mac : Bytes), s.awake = true ∧ (n = 0 ∨ 8 < n ∨ (s.session n).state ≠ 1)) ∧
    (∃ (s : State) (t : Nat) (c : Caller), s.awake = true ∧ c.iface ≠ .partner ∧ s.access.sessions.length = 8 ∧
      (s.advance t).sessionLive c (s.advance t).keyEpoch = true) ∧
    (∃ (s : State) (t : Nat) (c : Caller), s.awake = true ∧ c.iface ≠ .partner ∧ c.session = 0) ∧
    (∃ (s : State) (t : Nat) (n : Nat) (c : Caller), s.awake = true ∧ c.iface ≠ .partner ∧ 1 ≤ n ∧ n ≤ 8 ∧
      s.access.sessions.length = 8 ∧ (s.advance t).writeCheck c 0x1020 6 (toLE 1 n) = 0 ∧ (s.session n).state ≠ 0) ∧
    (∃ (s : State) (t : Nat) (n : Nat), s.awake = true ∧ 1 ≤ n ∧ n ≤ 8 ∧ s.access.sessions.length = 8 ∧ (s.session
      n).state = 2 ∧ (s.session n).idleNs + (s.advance t).reg 0x1020 2 * 1000000 < (s.advance t).time.orderNs) ∧
    (∃ (s : State) (t : Nat) (n : Nat), s.awake = true ∧ 1 ≤ n ∧ n ≤ 8 ∧ s.access.sessions.length = 8 ∧ (s.session
      n).state = 1 ∧ (s.session n).dueNs < (s.advance t).time.orderNs) ∧
    (∃ (s : State) (t : Nat) (e : Nat), s.awake = true ∧ s.access.lockout = some e ∧ e ≤ (s.advance t).time.orderNs) :=
  ⟨⟨key 5 run, 9, 5, 1, List.replicate 16 7#8, by decide +kernel⟩,
   ⟨key 5 (acc (fun a => { a with sessions := List.replicate 8 (hostSes 2) }) run), 9, 5, List.replicate 16 7#8,
     by decide +kernel⟩,
   ⟨key 5 (ses 8 (hostSes 1) run), 9, 8, by decide +kernel⟩,
   ⟨run, 9, 0, [], by decide +kernel⟩,
   ⟨ses 8 (hostSes 2) run, 9, ⟨.host, 8⟩, by decide +kernel⟩,
   ⟨run, 9, firm, by decide +kernel⟩,
   ⟨ses 8 (hostSes 2) run, 9, 8, firm, by decide +kernel⟩,
   ⟨cfg 0x1020 2 1 (ses 8 (hostSes 2) run), 1000033, 8, by decide +kernel⟩,
   ⟨ses 1 (hostSes 1) run, 1000000001, 1, by decide +kernel⟩,
   ⟨acc (fun a => { a with lockout := some 5 }) run, 5, 5, by decide +kernel⟩⟩

/-- Every clause of ManagementOverEthernet with conditions has a state and operands that meet them together. -/
theorem test_meets_ManagementOverEthernet :
    (∃ (s : State) (t : Nat) (d : DapDatagram), s.awake = true ∧ d.magic ≠ 0x4F56) ∧
    (∃ (s : State) (t : Nat) (n : Nat) (d : DapDatagram), s.awake = true ∧ d.magic = 0x4F56 ∧ d.version = 1 ∧ d.kind =
      3 ∧ d.len ≤ 1280 ∧ 20 ≤ d.plain.length ∧ s.access.lockout = none ∧ s.access.sessions.length = 8 ∧ (s.advance
      t).slotUsable (byteAt d.plain 0) 0 0 = true ∧ s.freeSession = some n ∧ s.waitsOn .mgmt = false) ∧
    (∃ (s : State) (t : Nat) (n : Nat) (tag : Nat) (d : DapDatagram), s.awake = true ∧ d.magic = 0x4F56 ∧ d.version = 1
      ∧ d.kind = 1 ∧ d.len ≤ 1280 ∧ d.sid = n ∧ s.access.sessions.length = 8 ∧ s.fromPeer n d = true ∧ d.tagOk = true ∧
      tag < 256 ∧ (s.advance t).sessionLive ⟨.mgmt, n⟩ (s.advance t).keyEpoch = true ∧ d.plain = recordBytes ⟨8, tag,
      0, 0, 0, 0, [], 0⟩ 0 0 [] ∧ s.waitsOn .mgmt = false) ∧
    (∃ (s : State) (t : Nat) (d : DapDatagram), s.awake = true ∧ d.kind = 1 ∧ d.tagOk = false) :=
  ⟨⟨run, 9, { dg 1 [] with magic := 0 }, by decide +kernel⟩,
   ⟨key 5 run, 9, 1, dg 3 ([5, 0, 0, 0] ++ List.replicate 16 7#8), by decide +kernel⟩,
   ⟨ses 8 (peerSes 2) run, 9, 8, 7, dg 1 (recordBytes ⟨8, 7, 0, 0, 0, 0, [], 0⟩ 0 0 []), by decide +kernel⟩,
   ⟨run, 9, { dg 1 [] with tagOk := false }, by decide +kernel⟩⟩

/-- Every clause of CanAndPartnerRequests with conditions has a state and operands that meet them together. -/
theorem test_meets_CanAndPartnerRequests :
    (∃ (s : State) (t : Nat) (bus : Nat) (ident : Nat) (data : Bytes), s.awake = true ∧ bus < 24 ∧ ((s.advance t).reg
      0x1010 5 ≠ bus ∨ ident ≠ (s.advance t).reg 0x1010 7 % 2048 ∨ data.length ≠ 8)) ∧
    (∃ (s : State) (t : Nat) (bus : Nat) (ident : Nat) (data : Bytes), s.awake = true ∧ bus < 24 ∧ (s.advance t).reg
      0x1010 5 = bus ∧ ident = (s.advance t).reg 0x1010 7 % 2048 ∧ data.length = 8 ∧ s.follows = false ∧ s.access.sdo =
      none ∧ byteAt data 0 / 32 = 0 ∧ s.waitsOn .can = false) ∧
    (∃ (s : State) (t : Nat) (bus : Nat) (ident : Nat) (data : Bytes), s.awake = true ∧ bus < 24 ∧ (s.advance t).reg
      0x1010 5 = bus ∧ ident = (s.advance t).reg 0x1010 7 % 2048 ∧ data.length = 8 ∧ s.follows = false ∧ byteAt data 0
      = 0x21 ∧ s.waitsOn .can = false) ∧
    (∃ (s : State) (t : Nat) (x : SdoTransfer), s.awake = true ∧ s.access.sdo = some x ∧ s.follows = false ∧ x.lastNs +
      (s.advance t).reg 0x1010 9 * 1000000 ≤ (s.advance t).time.orderNs ∧ s.waitsOn .can = false) ∧
    (∃ (s : State) (t : Nat) (x : SdoTransfer), s.awake = true ∧ s.access.sdo = some x ∧ (s.advance t).time.orderNs <
      x.lastNs + (s.advance t).reg 0x1010 9 * 1000000) ∧
    (∃ (s : State) (t : Nat) (r : OpRecord) (m : LinkMsg), s.awake = true ∧ s.elnar.received.find? (fun m => decide
      (m.cls = 4)) = some m ∧ m.kind = 1 ∧ m.body.drop 20 = requestBytes r ∧ s.servesPartner = true ∧ s.waitsOn
      .partner = false ∧ r.op = 8 ∧ r.flags = 0) ∧
    (∃ (s : State) (t : Nat) (r : OpRecord) (m : LinkMsg), s.awake = true ∧ s.elnar.received.find? (fun m => decide
      (m.cls = 4)) = some m ∧ m.kind = 1 ∧ m.body.drop 20 = requestBytes r ∧ s.servesPartner = false ∧ s.waitsOn
      .partner = false) :=
  ⟨⟨run, 9, 0, 5, [], by decide +kernel⟩,
   ⟨cfg 0x1010 5 3 (cfg 0x1010 7 0x601 run), 9, 3, 0x601, [0, 0, 0, 0, 0, 0, 0, 0], by decide +kernel⟩,
   ⟨cfg 0x1010 5 3 (cfg 0x1010 7 0x601 run), 9, 3, 0x601, [0x21, 4, 0x20, 9, 4, 0, 0, 0], by decide +kernel⟩,
   ⟨cfg 0x1010 9 1 (acc (fun a => { a with sdo := some ⟨true, 0x2004, 9, [], 0, false, 0⟩ }) run), 1000000, ⟨true,
     0x2004, 9, [], 0, false, 0⟩, by decide +kernel⟩,
   ⟨cfg 0x1010 9 1 (acc (fun a => { a with sdo := some ⟨true, 0x2004, 9, [], 0, false, 0⟩ }) run), 999999, ⟨true,
     0x2004, 9, [], 0, false, 0⟩, by decide +kernel⟩,
   ⟨eln (fun x => { x with received := [⟨4, 1, 0, List.replicate 20 0 ++ requestBytes ⟨8, 7, 0, 0, 0, 0, [], 0⟩⟩] })
     paired, 9, ⟨8, 7, 0, 0, 0, 0, [], 0⟩, ⟨4, 1, 0, List.replicate 20 0 ++ requestBytes ⟨8, 7, 0, 0, 0, 0, [], 0⟩⟩,
     by decide +kernel⟩,
   ⟨eln (fun x => { x with received := [⟨4, 1, 0, List.replicate 20 0 ++ requestBytes ⟨8, 7, 0, 0, 0, 0, [], 0⟩⟩] })
     run, 9, ⟨8, 7, 0, 0, 0, 0, [], 0⟩, ⟨4, 1, 0, List.replicate 20 0 ++ requestBytes ⟨8, 7, 0, 0, 0, 0, [], 0⟩⟩,
     by decide +kernel⟩⟩

/-- Every clause of CanControllersSendAndReceive with conditions has a state and operands that meet them together. -/
theorem test_meets_CanControllersSendAndReceive :
    (∃ (s : State) (t : Nat) (n : Nat) (tec : Nat) (rec_ : Nat) (f : BusFrame), s.awake = true ∧ n < 24 ∧
      (s.saddle.role = .disabled ∨ s.saddle.role = .solo) ∧ (s.advance t).canRuns n = true ∧ (s.advance t).formatOn n f
      = true ∧ (s.advance t).drives (outCan n) = true ∧ (s.advance t).canAccepts n ((s.advance t).canFrame n f) = true
      ∧ (s.advance t).regAt ((s.advance t).nextKey (0x0100 + n)).epoch (dkey 0x6000 1) = 0) ∧
    (∃ (s : State) (t : Nat) (n : Nat) (tec : Nat) (rec_ : Nat) (f : BusFrame), s.awake = true ∧ n < 24 ∧ (s.advance
      t).canRuns n = true ∧ (s.advance t).formatOn n f = true ∧ (s.advance t).canAccepts n ((s.advance t).canFrame n f)
      = false) ∧
    (∃ (s : State) (t : Nat) (n : Nat) (fault : Nat) (tec : Nat) (rec_ : Nat) (partner : Bool) (f : BusFrame), s.awake
      = true ∧ n < 24 ∧ (s.advance t).canRuns n = true ∧ (s.advance t).formatOn n f = false) ∧
    (∃ (s : State) (t : Nat) (n : Nat) (tec : Nat) (rec_ : Nat) (partner : Bool) (f : BusFrame), s.awake = true ∧ n <
      24 ∧ (s.advance t).canRuns n = true ∧ (s.advance t).formatOn n f = true ∧ (s.advance t).drives (outCan n) = true) ∧
    (∃ (s : State) (t : Nat) (n : Nat) (x : CanEntry), s.awake = true ∧ n < 24 ∧ s.legacy.can.length = 24 ∧
      s.power.phase ≠ .entering ∧ (s.advance t).canRuns n = true ∧ (s.advance t).drives (outCan n) = true ∧ (s.advance
      t).handing (outCan n) = false ∧ (s.can n).queue.any CanEntry.started = false ∧ (s.advance t).reg (0x7000 + n)
      0x0E = 0 ∧ (s.can n).queue.Nodup ∧ x ∈ (s.can n).queue ∧ (∀ y ∈ (s.can n).queue, y = x ∨ arbitration x.frame <
      arbitration y.frame)) ∧
    (∃ (s : State) (t : Nat) (n : Nat) (stamp : Nat) (tec : Nat) (rec_ : Nat) (x : CanEntry), s.awake = true ∧ n < 24 ∧
      s.legacy.can.length = 24 ∧ s.saddle.enabled = false ∧ s.saddle.handovers = [] ∧ (s.can n).queue.find?
      CanEntry.started = some x ∧ (s.advance t).canRuns n = true ∧ (s.advance t).reg (0x7000 + n) 0x0F ≠ 1) ∧
    (∃ (s : State) (t : Nat) (n : Nat) (stamp : Nat) (tec : Nat) (rec_ : Nat) (x : CanEntry), s.awake = true ∧ n < 24 ∧
      s.legacy.can.length = 24 ∧ s.saddle.handovers = [] ∧ (s.can n).queue.find? CanEntry.started = some x ∧ (s.advance
      t).canRuns n = true) ∧
    (∃ (s : State) (t : Nat) (n : Nat), s.awake = true ∧ n < 24 ∧ s.legacy.can.length = 24 ∧ (s.advance t).canRuns n =
      true ∧ (s.advance t).drives (outCan n) = true ∧ bitOf ((s.advance t).reg (0x7000 + n) 9) 7 = false) ∧
    (∃ (s : State) (t : Nat) (n : Nat), s.awake = true ∧ n < 24 ∧ s.legacy.can.length = 24 ∧ (s.can n).wait = .delay ∧
      (s.can n).since + (s.advance t).reg (0x7000 + n) 0x0A * 1000000 ≤ (s.advance t).time.raw) ∧
    (∃ (s : State) (t : Nat) (n : Nat) (c : Caller), s.awake = true ∧ n < 24 ∧ c.iface ≠ .partner ∧ s.legacy.can.length
      = 24 ∧ s.stat (0x7000 + n) 0x20 = 4 ∧ (s.advance t).writeCheck c (0x7000 + n) 0x0C [1] = 0) ∧
    (∃ (s : State) (t : Nat) (n : Nat) (c : Caller), s.awake = true ∧ n < 24 ∧ c.iface ≠ .partner ∧ s.stat (0x7000 + n)
      0x20 ≠ 4 ∧ (s.advance t).writeCheck c (0x7000 + n) 0x0C [1] = 0) ∧
    (∃ (s : State) (t : Nat) (n : Nat), s.awake = true ∧ n < 24 ∧ s.legacy.can.length = 24 ∧ (s.can n).wait = .sequence
      ∧ (s.advance t).drives (outCan n) = true) :=
  ⟨⟨cfg 0x7003 0x14 100 (can 3 [] run), 9, 3, 7, 130, cf 0x55, by decide +kernel⟩,
   ⟨cfg 0x7003 0x10 1 (can 3 [] run), 9, 3, 7, 8, cf 0x55, by decide +kernel⟩,
   ⟨can 3 [] run, 9, 3, 0, 1, 2, false, { cf 5 with fmt := 3 }, by decide +kernel⟩,
   ⟨can 3 [] run, 9, 3, 7, 8, true, cf 0x55, by decide +kernel⟩,
   ⟨can 3 [ce 0x100 false, ce 0x50 false, ce 0x51 false] run, 9, 3, ce 0x50 false, by decide +kernel⟩,
   ⟨can 3 [ce 0x100 false, ce 0x50 true] run, 9, 3, 4, 0, 0, ce 0x50 true, by decide +kernel⟩,
   ⟨can 3 [ce 0x100 false, ce 0x50 true] run, 9, 3, 4, 0, 0, ce 0x50 true, by decide +kernel⟩,
   ⟨cfg 0x7003 9 1 (can 3 [ce 0x50 true] run), 9, 3, by decide +kernel⟩,
   ⟨cfg 0x7003 0x0A 2 ((can 3 [] run).modCan 3 (fun c => { c with wait := .delay, since := 5 })), 2000005, 3,
     by decide +kernel⟩,
   ⟨st 0x7003 0x20 4 ((can 3 [] run).modCan 3 (fun c => { c with wait := .command, forced := true })), 9, 3, firm,
     by decide +kernel⟩,
   ⟨st 0x7003 0x20 2 (can 3 [] run), 9, 3, host, by decide +kernel⟩,
   ⟨st 0x7003 0x20 4 ((can 3 [] run).modCan 3 (fun c => { c with wait := .sequence })), 9, 3, by decide +kernel⟩⟩

/-- Every clause of LinFlexRayAndErrorPins with conditions has a state and operands that meet them together. -/
theorem test_meets_LinFlexRayAndErrorPins :
    (∃ (s : State) (t : Nat) (n : Nat), s.awake = true ∧ n < 8 ∧ s.legacy.lin.length = 8 ∧ (s.lin n).mode = 1 ∧
      (s.advance t).linSlots n (s.lin n).sched ≠ [] ∧ s.stat (0x7040 + n) 0x22 < 0xFFFFFFFE ∧ headerStart (s.lin
      n).base ((s.advance t).linSlots n (s.lin n).sched) (s.lin n).passed ≤ (s.advance t).workingNs ∧ headerStart
      (s.lin n).base ((s.advance t).linSlots n (s.lin n).sched) (s.lin n).passed < s.time.stepNs) ∧
    (∃ (s : State) (t : Nat) (n : Nat), s.awake = true ∧ n < 8 ∧ (s.advance t).workingNs < headerStart (s.lin n).base
      ((s.advance t).linSlots n (s.lin n).sched) (s.lin n).passed) ∧
    (∃ (s : State) (t : Nat) (n : Nat) (f : BusFrame), s.awake = true ∧ n < 8 ∧ (s.saddle.role = .disabled ∨
      s.saddle.role = .solo) ∧ s.legacy.lin.length = 8 ∧ (s.lin n).mode ≠ 0 ∧ (s.lin n).sent = none) ∧
    (∃ (s : State) (t : Nat) (n : Nat) (f : BusFrame), s.awake = true ∧ n < 8 ∧ (s.lin n).mode ≠ 0) ∧
    (∃ (s : State) (t : Nat) (n : Nat) (j : Nat), s.awake = true ∧ n < 8 ∧ s.legacy.lin.length = 8 ∧ (s.lin n).want =
      some j ∧ (s.lin n).wantAt ≤ (s.advance t).workingNs) ∧
    (∃ (s : State) (t : Nat) (n : Nat) (id : Nat), s.awake = true ∧ n < 8 ∧ s.legacy.lin.length = 8 ∧ bitOf ((s.advance
      t).reg (0x7040 + n) 0x20) (id % 64) = false) ∧
    (∃ (s : State) (t : Nat) (n : Nat) (id : Nat) (p : Nat) (b : Bytes), s.awake = true ∧ n < 8 ∧ s.legacy.lin.length =
      8 ∧ (s.lin n).mode = 2 ∧ bitOf ((s.advance t).reg (0x7040 + n) 0x20) (id % 64) = true ∧ (s.advance t).linPdu n
      (id % 64) = some p ∧ kfind ((s.advance t).settlePdu (s.advance t).keyEpoch p).ford.pulled p = some b ∧ (s.advance
      t).drives (outLin n) = true) ∧
    (∃ (s : State) (t : Nat) (buf : Nat) (cycle : Nat) (start : Nat) (b : Nat) (room : Bool), s.awake = true ∧ buf <
      128 ∧ s.saddle.handovers = [] ∧ (fxBuffers s.legacy.fx.config)[buf]? = some b ∧ (s.advance t).fxRuns = true ∧
      bitOf (subBytes b 4 1) 0 = true ∧ bitOf (subBytes b 4 1) 3 = false ∧ fxOwns b cycle = true ∧ (s.advance t).drives
      outFx = true ∧ subBytes b 0 2 ≤ leAt s.legacy.fx.config 8 4 ∧ (s.advance t).updatedPdu (some (subBytes b 6 2)) =
      false) ∧
    (∃ (s : State) (t : Nat) (buf : Nat) (cycle : Nat) (start : Nat) (b : Nat) (room : Bool), s.awake = true ∧ buf <
      128 ∧ s.saddle.handovers = [] ∧ (fxBuffers s.legacy.fx.config)[buf]? = some b ∧ (s.advance t).fxRuns = true ∧
      bitOf (subBytes b 4 1) 0 = true ∧ fxOwns b cycle = true ∧ (s.advance t).drives outFx = true ∧ leAt
      s.legacy.fx.config 8 4 < subBytes b 0 2 ∧ (s.advance t).updatedPdu (some (subBytes b 6 2)) = false) ∧
    (∃ (s : State) (t : Nat) (chan : Nat) (slot : Nat) (cycle : Nat) (start : Nat) (syncs : Nat) (sof : Nat) (b : Nat)
      (data : Bytes), s.awake = true ∧ chan < 2 ∧ (s.saddle.role = .disabled ∨ s.saddle.role = .solo) ∧ (s.advance
      t).fxRuns = true ∧ bitOf ((s.advance t).reg 0x7060 2) chan = true ∧ s.fxRxBuffer chan slot cycle = some b) ∧
    (∃ (s : State) (t : Nat) (chan : Nat) (slot : Nat) (cycle : Nat) (start : Nat) (fault : Nat) (syncs : Nat) (sof :
      Nat) (data : Bytes), s.awake = true ∧ chan < 2 ∧ 1 ≤ fault ∧ fault ≤ 3 ∧ (s.advance t).fxRuns = true ∧ bitOf
      ((s.advance t).reg 0x7060 2) chan = true) ∧
    (∃ (s : State) (t : Nat) (i : Nat), s.awake = true ∧ i < 24 ∧ s.legacy.errn.length = 26 ∧ s.power.phase = .run ∧
      (s.advance t).errnInterval i ≠ 0 ∧ (s.advance t).canOn (s.advance t).keyEpoch i = true ∧ nth s.legacy.errn i
      ⟨false, false, none⟩ = ⟨true, false, none⟩ ∧ s.stat (0x7000 + i) 0x26 < 0xFFFFFFFE) ∧
    (∃ (s : State) (t : Nat) (i : Nat), s.awake = true ∧ i < 24 ∧ s.legacy.errn.length = 26 ∧ s.power.phase = .run ∧
      (s.advance t).errnInterval i ≠ 0 ∧ (s.advance t).canOn (s.advance t).keyEpoch i = true ∧ nth s.legacy.errn i
      ⟨false, false, none⟩ = ⟨true, true, none⟩) :=
  ⟨⟨cfg 0x7042 0x10 0x100 (cfg 0x7042 0x40 0x000027100200000A (tim (fun x => { x with stepNs := 50 }) (linc 2 ⟨1, 0,
     10, 0, none, 0, [], none, none⟩ run))), 60, 2, by decide +kernel⟩,
   ⟨linc 2 ⟨1, 0, 1000, 0, none, 0, [], none, none⟩ run, 60, 2, by decide +kernel⟩,
   ⟨linc 2 ⟨2, 0, 0, 0, none, 0, [], some (1, 5), none⟩ run, 60, 2, cf 5, by decide +kernel⟩,
   ⟨linc 2 ⟨1, 0, 0, 0, none, 0, [], some (1, 5), none⟩ run, 60, 2, cf 5, by decide +kernel⟩,
   ⟨linc 2 ⟨1, 0, 0, 4, some 3, 50, [], none, none⟩ run, 60, 2, 3, by decide +kernel⟩,
   ⟨linc 2 ⟨2, 0, 0, 0, none, 0, [], none, some (1, [])⟩ run, 60, 2, 5, by decide +kernel⟩,
   ⟨fo (fun x => { x with pulled := [(7, [1, 2])] }) (cfg 0x7042 0x20 0x20 (pdef 7 2 3 2 5 2 (linc 2 ⟨2, 0, 0, 0, none,
     0, [], none, none⟩ run))), 9, 2, 5, 7, [1, 2], by decide +kernel⟩,
   ⟨fx 1 5 run, 9, 0, 64, 77, 1970329148719109, true, by decide +kernel⟩,
   ⟨fx 1 11 run, 9, 0, 3, 77, 1970329148719115, true, by decide +kernel⟩,
   ⟨fx 6 5 run, 9, 1, 5, 3, 77, 2, 88, 1970350623555589, [1, 2], by decide +kernel⟩,
   ⟨fx 6 5 run, 9, 1, 5, 3, 77, 1, 2, 88, [], by decide +kernel⟩,
   ⟨leg (fun l => { l with errn := modNth l.errn 3 (fun _ => ⟨true, false, none⟩) }) (can 3 [] run), 9, 3,
     by decide +kernel⟩,
   ⟨leg (fun l => { l with errn := modNth l.errn 3 (fun _ => ⟨true, true, none⟩) }) (can 3 [] run), 9, 3,
     by decide +kernel⟩⟩

/-- Every clause of FordWorksInKeyOrder with conditions has a state and operands that meet them together. -/
theorem test_meets_FordWorksInKeyOrder :
    (∃ (s : State) (t : Nat) (p : Nat) (stamp : Nat) (f : BusFrame) (b : Bytes) (x : FordItem) (rest : List FordItem),
      s.awake = true ∧ s.power.phase ≠ .entering ∧ s.ford.queue = x :: rest ∧ (x.work = .bus f ∨ x.work = .eth b stamp)
      ∧ s.fordMask ≠ 0 ∧ s.idleProc = some p) ∧
    (∃ (s : State) (t : Nat) (stamp : Nat) (f : BusFrame) (b : Bytes) (x : FordItem) (rest : List FordItem), s.awake =
      true ∧ s.ford.queue = x :: rest ∧ (x.work = .bus f ∨ x.work = .eth b stamp) ∧ s.fordMask ≠ 0 ∧ s.idleProc = none) ∧
    (∃ (s : State) (t : Nat) (stamp : Nat) (f : BusFrame) (b : Bytes) (x : FordItem), s.awake = true ∧ s.power.phase ≠
      .entering ∧ s.ford.queue = [x] ∧ (x.work = .bus f ∨ x.work = .eth b stamp) ∧ s.fordMask = 0 ∧ (s.saddle.role =
      .disabled ∨ s.saddle.role = .solo)) ∧
    (∃ (s : State) (t : Nat) (p : Nat) (r : FordRun) (rs : List FordRun), s.awake = true ∧ p < 32 ∧ s.ford.running = r
      :: rs ∧ r.done = false ∧ r.proc ≠ p) ∧
    (∃ (s : State) (t : Nat) (p : Nat) (f : BusFrame) (k : OKey), s.awake = true ∧ p < 32 ∧ s.ford.running = [⟨p, ⟨k,
      .bus f⟩, false⟩] ∧ s.pduDefs k.epoch = [] ∧ f.kind ≠ 3) ∧
    (∃ (s : State) (t : Nat) (due : Nat), s.awake = true ∧ s.follows = false ∧ (due + 2) * 32 ≤ (s.advance
      t).time.orderNs ∧ (∀ x ∈ s.ord.units, x.unit = .ford → x.suspend = none ∧ ∀ b ∈ x.buf, due ≤ b.key.epoch) ∧
      s.ford.nextDue ≤ due) ∧
    (∃ (s : State) (t : Nat) (due : Nat) (x : SortBuffer) (b : Buffered), s.awake = true ∧ s.follows = false ∧
      ((s.advance t).time.orderNs < (due + 2) * 32 ∨ (x ∈ s.ord.units ∧ x.unit = .ford ∧ b ∈ x.buf ∧ b.key.epoch <
      due))) ∧
    (∃ (s : State) (t : Nat) (n : Nat), s.awake = true ∧ n < 32 ∧ bitOf s.fordMask n = true ∧ s.ford.running = [] ∧
      s.fordMask < 2 ^ 32) ∧
    (∃ (s : State) (t : Nat) (mask : Nat) (c : Caller), s.awake = true ∧ c.iface ≠ .partner ∧ mask < 2 ^ 32 ∧
      (s.advance t).writeCheck c 0x8300 3 (toLE 4 mask) = 0 ∧ (s.advance t).reg 0x8000 2 ≤ popCount (s.fordMask |||
      mask) 32) :=
  ⟨⟨st 0x8300 1 0xFFFFFFFF (fo (fun x => { x with queue := [fi 3, fi 4], running := [fw 0 2 false] }) run), 9, 1, 0, cf
     5, [], fi 3, [fi 4], by decide +kernel⟩,
   ⟨st 0x8300 1 1 (fo (fun x => { x with queue := [fi 3, fi 4], running := [fw 0 2 false] }) run), 9, 0, cf 5, [], fi
     3, [fi 4], by decide +kernel⟩,
   ⟨st 0x8300 1 0 (fo (fun x => { x with queue := [fi 3] }) run), 9, 0, cf 5, [], fi 3, by decide +kernel⟩,
   ⟨fo (fun x => { x with running := [fw 0 2 false, fw 1 3 false] }) run, 9, 1, fw 0 2 false, [fw 1 3 false],
     by decide +kernel⟩,
   ⟨fo (fun x => { x with running := [fw 31 2 false] }) run, 9, 31, cf 5, ⟨2, 0x100, 0⟩, by decide +kernel⟩,
   ⟨fo (fun x => { x with queue := [fi 3] }) run, 96, 1, by decide +kernel⟩,
   ⟨run, 95, 1, ⟨.ford, [], 0, none⟩, ⟨⟨1, 2, 3⟩, 0, .bus (cf 5)⟩, by decide +kernel⟩,
   ⟨st 0x8300 1 0xFFFFFFFF run, 96, 31, by decide +kernel⟩,
   ⟨st 0x8300 1 0x7FFFFFFF run, 96, 0x80000000, firm, by decide +kernel⟩⟩

/-- Every clause of PairsForm with conditions has a state and operands that meet them together. -/
theorem test_meets_PairsForm :
    (∃ (s : State) (t : Nat), s.awake = true ∧ s.saddle.role = .start ∧ (s.advance t).debugRefuses = false ∧ (s.advance
      t).elnarHeard ((s.advance t).reg 0x9000 6 * 1000 * (if s.pairId = 1 then 5 else 1)) = false ∧ s.saddle.claimFrom
      + (s.advance t).reg 0x9000 6 * 1000 * (if s.pairId = 1 then 5 else 1) ≤ (s.advance t).time.raw) ∧
    (∃ (s : State) (t : Nat) (p : Pins), s.awake = true ∧ (s.saddle.role ≠ .start ∨ p.roleIn = true ∨ (s.advance
      t).time.raw < s.saddle.claimFrom + (s.advance t).reg 0x9000 6 * 1000)) ∧
    (∃ (s : State) (t : Nat) (lapsed : Bool), s.awake = true) ∧
    (∃ (s : State) (t : Nat) (r : Nat), s.awake = true ∧ s.saddle.enabled = true ∧ s.safety.fatalRaw = some r ∧
      s.saddle.role ≠ .halted) ∧
    (∃ (s : State) (t : Nat) (m : Bytes), s.awake = true ∧ s.saddle.role = .start ∧ s.saddle.detached = false ∧ s.live
      = true ∧ s.linkSync = true ∧ byteAt m 1 = s.pairId) ∧
    (∃ (s : State) (t : Nat) (m : Bytes) (h : Handshake), s.awake = true ∧ s.saddle.handshake = some h ∧ h.proved =
      true ∧ s.saddle.role = .pairing ∧ beAt m 2 2 = 0 ∧ byteAt m 4 ≠ 1) ∧
    (∃ (s : State) (t : Nat) (m : Bytes) (h : Handshake), s.awake = true ∧ s.saddle.handshake = some h ∧ beAt m 2 2 ≠
      0) ∧
    (∃ (s : State) (t : Nat) (h : Handshake), s.awake = true ∧ s.saddle.handshake = some h ∧ h.since + 10000000 ≤
      (s.advance t).time.raw) ∧
    (∃ (s : State) (t : Nat), s.awake = true ∧ (∀ h, s.saddle.handshake = some h → (s.advance t).time.raw < h.since +
      10000000)) ∧
    (∃ (s : State) (t : Nat) (r : Nat), s.awake = true ∧ s.saddle.retryAt = some r ∧ r ≤ (s.advance t).time.raw ∧
      s.mayPair = true ∧ s.live = true ∧ s.linkSync = true) :=
  ⟨⟨rol .start id run, 20000, by decide +kernel⟩,
   ⟨rol .start id run, 9, ⟨false, false⟩, by decide +kernel⟩,
   ⟨run, 9, true, by decide +kernel⟩,
   ⟨{ rol .active id run with safety := { run.safety with fatalRaw := some 3 } }, 9, 3, by decide +kernel⟩,
   ⟨rol .start id run, 9, hi 0, by decide +kernel⟩,
   ⟨rol .pairing (fun x => { x with handshake := some (hs true) }) run, 9, [3, 1, 0, 0, 0], hs true, by decide +kernel⟩,
   ⟨rol .pairing (fun x => { x with handshake := some (hs true) }) run, 9, [3, 1, 0, 7, 0], hs true, by decide +kernel⟩,
   ⟨rol .pairing (fun x => { x with handshake := some (hs true) }) run, 10000000, hs true, by decide +kernel⟩,
   ⟨rol .pairing (fun x => { x with handshake := some (hs true) }) run, 9999999, by decide +kernel⟩,
   ⟨rol .start (fun x => { x with retryAt := some 100 }) run, 100, 100, by decide +kernel⟩⟩

/-- Every clause of StandbyReplaysTheJournal with conditions has a state and operands that meet them together. -/
theorem test_meets_StandbyReplaysTheJournal :
    (∃ (s : State) (t : Nat) (m : Bytes), s.awake = true ∧ s.saddle.role = .standby ∧ s.elnar.received = [] ∧
      (recOfBytes (s.advance t).keyEpoch m).kind = 0x0C) ∧
    (∃ (s : State) (t : Nat) (m : Bytes), s.awake = true ∧ s.elnar.received = [] ∧ (recOfBytes (s.advance t).keyEpoch
      m).kind = 0x0E) ∧
    (∃ (s : State) (t : Nat) (m : Bytes), s.awake = true ∧ s.saddle.role ≠ .standby ∧ s.saddle.role ≠ .syncing ∧
      (recOfBytes (s.advance t).keyEpoch m).kind ≠ 0x0E) ∧
    (∃ (s : State) (t : Nat) (e : Nat), s.awake = true ∧ s.saddle.role = .active) ∧
    (∃ (s : State) (t : Nat), s.awake = true ∧ s.saddle.role = .standby ∧ s.saddle.inbox = []) ∧
    (∃ (s : State) (t : Nat) (e : Nat), s.awake = true ∧ s.saddle.role = .standby ∧ s.saddle.inbox = [] ∧
      s.saddle.released ≤ e ∧ s.ford.nextDue = e + 1 ∧ e ≤ s.saddle.mark ∧ (e + 2) * 32 ≤ (s.advance t).time.orderNs) ∧
    (∃ (s : State) (t : Nat) (e : Nat), s.awake = true ∧ s.saddle.inbox = [] ∧ ((s.saddle.role ≠ .standby ∧
      s.saddle.role ≠ .takeover) ∨ s.saddle.mark < e ∨ (s.advance t).time.orderNs < (e + 2) * 32)) ∧
    (∃ (s : State) (t : Nat) (key : OKey), s.awake = true ∧ s.saddle.inbox = []) ∧
    (∃ (s : State) (t : Nat), s.awake = true ∧ s.saddle.role = .standby ∧ s.saddle.inbox = []) ∧
    (∃ (s : State) (t : Nat) (kind : Nat) (m : Bytes), s.awake = true ∧ s.saddle.role ≠ .active) ∧
    (∃ (s : State) (t : Nat) (m : Bytes), s.awake = true ∧ s.saddle.role = .active ∧ byteAt m 0 < 24 ∧
      s.legacy.can.length = 24) ∧
    (∃ (s : State) (t : Nat), s.awake = true ∧ s.saddle.role = .standby ∧ (s.advance t).lagTooLong = true) ∧
    (∃ (s : State) (t : Nat), s.awake = true ∧ s.saddle.role = .active ∧ s.saddle.journaling = true ∧ s.saddle.swap =
      none ∧ 393216 < s.journalUse) :=
  ⟨⟨rol .standby id run, 9, jr 0x0C 0, by decide +kernel⟩,
   ⟨rol .standby id run, 9, jr 0x0E 48, by decide +kernel⟩,
   ⟨rol .active id run, 9, jr 1 0, by decide +kernel⟩,
   ⟨rol .active id run, 9, 77, by decide +kernel⟩,
   ⟨rol .standby id run, 9, by decide +kernel⟩,
   ⟨fo (fun x => { x with nextDue := 4 }) (rol .standby (fun x => { x with mark := 3 }) run), 200, 3,
     by decide +kernel⟩,
   ⟨rol .standby (fun x => { x with mark := 2 }) run, 200, 3, by decide +kernel⟩,
   ⟨rol .standby id run, 9, ⟨1, 2, 3⟩, by decide +kernel⟩,
   ⟨rol .standby (fun x =>
     { x with mark := 2, own := [⟨⟨2, 0x100, 0⟩, 1, 0, .bus (cf 5)⟩, ⟨⟨3, 0x100, 0⟩, 1, 0, .bus (cf 5)⟩] }) run,
     100000, by decide +kernel⟩,
   ⟨rol .standby id run, 9, 1, [1, 2], by decide +kernel⟩,
   ⟨can 3 [⟨cf 0x100, ⟨0, 0x200, 0⟩, 0, false⟩, ce 0x50 false] (rol .active id run), 9, [3] ++ toBE 8 0 ++ toBE 2 0x200
     ++ toBE 2 0 ++ [0], by decide +kernel⟩,
   ⟨rol .standby (fun x => { x with lagSince := some 0 }) run, 100000000, by decide +kernel⟩,
   ⟨eln (fun x =>
     { x with classes := modNth x.classes 0 (fun c => { c with out := List.replicate 12289 (false, []) }) }) (rol
     .active (fun x => { x with journaling := true }) run), 9, by decide +kernel⟩⟩

/-- Every clause of PartnersFailAndAreTakenOver with conditions has a state and operands that meet them together. -/
theorem test_meets_PartnersFailAndAreTakenOver :
    (∃ (s : State) (t : Nat) (roleIn : Bool), s.awake = true ∧ s.paired? = true ∧ s.saddle.declared = none ∧ (s.advance
      t).elnarHeard 2000 = false) ∧
    (∃ (s : State) (t : Nat) (roleIn : Bool), s.awake = true ∧ s.failNoticed = false) ∧
    (∃ (s : State) (t : Nat) (roleIn : Bool), s.awake = true ∧ s.paired? = true ∧ (s.advance t).elnarHeard 2000 =
      false) ∧
    (∃ (s : State) (t : Nat) (p : Pins), s.awake = true ∧ s.paired? = true ∧ p.roleIn ≠ (s.advance t).expectedRoleIn) ∧
    (∃ (s : State) (t : Nat), s.awake = true ∧ s.saddle.role = .standby ∧ s.saddle.declared = none ∧ (s.advance
      t).elnarHeard 2000 = false) ∧
    (∃ (s : State) (t : Nat) (d : Nat), s.awake = true ∧ s.saddle.role = .standby ∧ s.saddle.declared = some d ∧
      s.saddle.confirmed = false ∧ d + 1000 ≤ (s.advance t).time.raw ∧ (∀ r, s.saddle.heardElnar = some r → r ≤ d)) ∧
    (∃ (s : State) (t : Nat) (d : Nat) (p : Pins), s.awake = true ∧ s.saddle.declared = some d ∧ (s.advance t).time.raw
      < d + 1000) ∧
    (∃ (s : State) (t : Nat), s.awake = true ∧ s.saddle.role = .takeover ∧ s.saddle.caughtUp = false ∧ s.saddle.mark <
      s.saddle.released ∧ s.saddle.own = [] ∧ s.saddle.retained = []) ∧
    (∃ (s : State) (t : Nat), s.awake = true ∧ ((s.saddle.role = .takeover ∧ s.saddle.caughtUp = true) ∨ (s.saddle.role
      = .active ∧ s.saddle.confirmed = true)) ∧ (s.advance t).debugRefuses = false) ∧
    (∃ (s : State) (t : Nat) (pin : Bool), s.awake = true ∧ s.saddle.role = .active ∧ s.saddle.journaling = false ∧
      s.saddle.resync = none ∧ (s.advance t).debugRefuses = false) ∧
    (∃ (s : State) (t : Nat), s.awake = true ∧ s.saddle.role = .syncing ∧ s.saddle.confirmed = true ∧ (∀ p, p < 4 →
      s.stat (0xA010 + p) 1 ≠ 4)) :=
  ⟨⟨rol .standby id run, 9, true, by decide +kernel⟩,
   ⟨rol .standby id run, 9, true, by decide +kernel⟩,
   ⟨rol .active id run, 9, true, by decide +kernel⟩,
   ⟨rol .standby id run, 9, ⟨false, true⟩, by decide +kernel⟩,
   ⟨rol .standby id run, 9, by decide +kernel⟩,
   ⟨rol .standby (fun x => { x with declared := some 5 }) run, 1005, 5, by decide +kernel⟩,
   ⟨rol .standby (fun x => { x with declared := some 5 }) run, 1004, 5, ⟨false, false⟩, by decide +kernel⟩,
   ⟨rol .takeover (fun x => { x with mark := 5, released := 6 }) run, 9, by decide +kernel⟩,
   ⟨rol .takeover (fun x => { x with caughtUp := true, declared := some 5 }) run, 2000, by decide +kernel⟩,
   ⟨rol .active id run, 9, false, by decide +kernel⟩,
   ⟨rol .syncing (fun x => { x with confirmed := true }) run, 9, by decide +kernel⟩⟩

/-- Every clause of ResynchronisationAndDigests with conditions has a state and operands that meet them together. -/
theorem test_meets_ResynchronisationAndDigests :
    (∃ (s : State) (t : Nat) (m : Bytes) (x : Nat × List Nat), s.awake = true ∧ s.saddle.digests = [x] ∧ x.1 = beAt m 0
      8 ∧ x.2 = (List.range 8).map (fun i => beAt m (8 + 8 * i) 8) ∧ s.stat 0x9000 0x1C < 2 ^ 32) ∧
    (∃ (s : State) (t : Nat) (m : Bytes) (x : Nat × List Nat), s.awake = true ∧ s.saddle.role = .active ∧
      s.saddle.journaling = false ∧ s.saddle.digests = [x] ∧ x.1 = beAt m 0 8 ∧ nth x.2 0 0 ≠ beAt m 8 8 ∧ s.stat
      0x9000 0x1D < 0xFFFFFFFE) ∧
    (∃ (s : State) (t : Nat) (m : Bytes), s.awake = true ∧ s.saddle.role = .active ∧ s.saddle.swap = none ∧ byteAt m 8
      = 0x0F) ∧
    (∃ (s : State) (t : Nat), s.awake = true ∧ s.saddle.role = .active ∧ s.saddle.swap = none ∧ s.saddle.journaling =
      false ∧ s.saddle.resync = none ∧ s.journalUse < 65536) ∧
    (∃ (s : State) (t : Nat) (marked : Nat) (r : Resync), s.awake = true ∧ s.saddle.role = .active ∧ s.saddle.resync =
      some r ∧ r.final = none ∧ r.again = none ∧ marked ≤ 65536) ∧
    (∃ (s : State) (t : Nat) (marked : Nat) (r : Resync), s.awake = true ∧ s.saddle.role = .active ∧ s.saddle.resync =
      some r ∧ r.final = none ∧ r.again = none ∧ 65536 < marked ∧ r.pass < 4) ∧
    (∃ (s : State) (t : Nat) (marked : Nat) (r : Resync), s.awake = true ∧ s.saddle.role = .active ∧ s.saddle.resync =
      some r ∧ r.final = none ∧ r.again = none ∧ 65536 < marked ∧ 4 ≤ r.pass) ∧
    (∃ (s : State) (t : Nat) (f : Nat) (r : Resync), s.awake = true ∧ s.saddle.role = .active ∧ s.saddle.resync = some
      r ∧ r.final = some f ∧ f * 32 ≤ (s.advance t).time.orderNs ∧ s.stat 0x9000 0x1B < 2 ^ 32) ∧
    (∃ (s : State) (t : Nat) (f : Nat) (v : Machine.Covered), s.awake = true ∧ s.saddle.role = .syncing ∧
      s.legacy.can.length = 24) ∧
    (∃ (s : State) (t : Nat) (a : Nat) (r : Resync), s.awake = true ∧ s.saddle.role = .active ∧ s.saddle.resync = some
      r ∧ s.saddle.swap = none ∧ r.again = some a ∧ a ≤ (s.advance t).time.raw) :=
  ⟨⟨rol .standby (fun x => { x with digests := [(5, [1, 2, 3, 4, 5, 6, 7, 8])] }) run, 9, toBE 8 5 ++ ([1, 2, 3, 4, 5,
     6, 7, 8] : List Nat).flatMap (toBE 8), (5, [1, 2, 3, 4, 5, 6, 7, 8]), by decide +kernel⟩,
   ⟨rol .active (fun x => { x with digests := [(5, [1, 2, 3, 4, 5, 6, 7, 8])] }) run, 9, toBE 8 5 ++ ([9, 2, 3, 4, 5,
     6, 7, 8] : List Nat).flatMap (toBE 8), (5, [1, 2, 3, 4, 5, 6, 7, 8]), by decide +kernel⟩,
   ⟨rol .active (fun x => { x with journaling := true }) run, 64, jr 0x0F 0, by decide +kernel⟩,
   ⟨rol .active id run, 64, by decide +kernel⟩,
   ⟨rol .active (fun x => { x with resync := some ⟨2, 1, none, none⟩ }) run, 64, 65536, ⟨2, 1, none, none⟩,
     by decide +kernel⟩,
   ⟨rol .active (fun x => { x with resync := some ⟨2, 3, none, none⟩ }) run, 64, 65537, ⟨2, 3, none, none⟩,
     by decide +kernel⟩,
   ⟨rol .active (fun x => { x with resync := some ⟨2, 4, none, none⟩ }) run, 64, 65537, ⟨2, 4, none, none⟩,
     by decide +kernel⟩,
   ⟨rol .active (fun x => { x with resync := some ⟨2, 4, some 2, none⟩ }) run, 64, 2, ⟨2, 4, some 2, none⟩,
     by decide +kernel⟩,
   ⟨rol .syncing (fun x => { x with mark := 9 }) run, 64, 7, ⟨.reset, [], [], [], [], [(3, [1])], [], [], [], [],
     run.dict.staging, [], [], [[ce 5 false]]⟩, by decide +kernel⟩,
   ⟨rol .active (fun x => { x with resync := some ⟨2, 4, none, some 60⟩ }) run, 64, 60, ⟨2, 4, none, some 60⟩,
     by decide +kernel⟩⟩

/-- Every clause of SwapsAndRoleCommands with conditions has a state and operands that meet them together. -/
theorem test_meets_SwapsAndRoleCommands :
    (∃ (s : State) (t : Nat), s.awake = true ∧ s.saddle.role = .active ∧ s.saddle.journaling = true ∧ (s.advance t).reg
      0x9010 1 = 1 ∧ (s.advance t).pairReady = true ∧ s.saddle.swap = none ∧ s.saddle.swapped + (s.advance t).reg
      0x9010 2 * 1000000000 ≤ (s.advance t).time.orderNs) ∧
    (∃ (s : State) (t : Nat) (c : Caller), s.awake = true ∧ c.iface ≠ .partner ∧ s.saddle.role = .active ∧ (s.advance
      t).pairReady = true ∧ s.saddle.swap = none ∧ (s.advance t).writeCheck c 0x9001 1 [1] = 0) ∧
    (∃ (s : State) (t : Nat) (w : Swap), s.awake = true ∧ s.saddle.role = .standby ∧ s.saddle.swap = some w ∧ w.epoch *
      32 ≤ (s.advance t).time.orderNs ∧ w.epoch ≤ s.saddle.released ∧ s.saddle.own = [] ∧ s.saddle.retained = [] ∧
      s.saddle.inbox = [] ∧ s.stat 0x9010 5 < 2 ^ 32) ∧
    (∃ (s : State) (t : Nat) (w : Swap), s.awake = true ∧ s.saddle.swap = some w ∧ (s.advance t).time.orderNs < w.epoch
      * 32) ∧
    (∃ (s : State) (t : Nat) (m : Bytes), s.awake = true ∧ byteAt m 8 = 0x0E ∧ beAt m 10 2 < 49) ∧
    (∃ (s : State) (t : Nat) (n : Nat) (since : Nat), s.awake = true ∧ n < 24 ∧ s.legacy.can.length = 24 ∧
      s.saddle.handovers = [⟨n, since⟩] ∧ since + (s.advance t).reg 0x9010 7 * 1000000 ≤ (s.advance t).time.raw ∧
      (s.can n).queue.any CanEntry.started = true) ∧
    (∃ (s : State) (t : Nat) (n : Nat) (since : Nat), s.awake = true ∧ n < 24 ∧ s.saddle.handovers = [⟨n, since⟩] ∧
      (s.advance t).time.raw < since + (s.advance t).reg 0x9010 7 * 1000000 ∧ (s.can n).queue.any CanEntry.started =
      true) ∧
    (∃ (s : State) (t : Nat) (w : Swap), s.awake = true ∧ s.saddle.swap = some w ∧ s.saddle.role = .standby ∧
      (s.advance t).time.orderNs < w.epoch * 32 ∧ w.pointNs ≤ (s.advance t).workingNs + 10000 ∧ (s.advance t).pairReady
      = false) ∧
    (∃ (s : State) (t : Nat) (c : Caller), s.awake = true ∧ c.iface ≠ .partner ∧ s.saddle.role = .standby ∧ (s.advance
      t).writeCheck c 0x9001 1 [2] = 0) ∧
    (∃ (s : State) (t : Nat) (c : Caller), s.awake = true ∧ c.iface ≠ .partner ∧ s.saddle.role = .start ∧
      s.saddle.detached = true ∧ s.linkSync = false ∧ (s.advance t).writeCheck c 0x9001 1 [3] = 0) ∧
    (∃ (s : State) (t : Nat) (c : Caller), s.awake = true ∧ c.iface ≠ .partner ∧ s.saddle.role = .active ∧
      s.saddle.swap = none ∧ (s.advance t).writeCheck c 0x9001 1 [4] = 0) ∧
    (∃ (s : State) (t : Nat) (c : Caller), s.awake = true ∧ c.iface ≠ .partner ∧ s.saddle.enabled = true ∧
      s.saddle.role ≠ .halted ∧ (s.advance t).writeCheck c 0x9001 1 [5] = 0) ∧
    (∃ (s : State) (t : Nat) (c : Caller), s.awake = true ∧ c.iface ≠ .partner ∧ s.saddle.role ≠ .active ∧ (s.advance
      t).writeCheck c 0x9001 1 [4] = 0) :=
  ⟨⟨cfg 0x9010 1 1 (cfg 0x9010 2 60 (rol .active (fun x => { x with journaling := true, acked := 1874999998 }) run)),
     60000000000, by decide +kernel⟩,
   ⟨rol .active (fun x => { x with journaling := true }) run, 64, firm, by decide +kernel⟩,
   ⟨rol .standby (fun x => { x with swap := some ⟨64, 2⟩, released := 2 }) run, 64, ⟨64, 2⟩, by decide +kernel⟩,
   ⟨rol .standby (fun x => { x with swap := some ⟨64, 2⟩, released := 2 }) run, 63, ⟨64, 2⟩, by decide +kernel⟩,
   ⟨rol .standby id run, 64, jr 0x0E 48, by decide +kernel⟩,
   ⟨cfg 0x9010 7 10 (can 3 [ce 5 true] (rol .standby (fun x => { x with handovers := [⟨3, 4⟩] }) run)), 10000004, 3, 4,
     by decide +kernel⟩,
   ⟨cfg 0x9010 7 10 (can 3 [ce 5 true] (rol .standby (fun x => { x with handovers := [⟨3, 4⟩] }) run)), 10000003, 3, 4,
     by decide +kernel⟩,
   ⟨rol .standby (fun x => { x with swap := some ⟨200000, 6250⟩ }) run, 190000, ⟨200000, 6250⟩, by decide +kernel⟩,
   ⟨rol .standby id run, 64, firm, by decide +kernel⟩,
   ⟨sad (fun x => { x with role := .start, enabled := true, detached := true }) run, 64, firm, by decide +kernel⟩,
   ⟨rol .active id run, 64, firm, by decide +kernel⟩,
   ⟨rol .standby id run, 64, firm, by decide +kernel⟩,
   ⟨rol .standby id run, 64, firm, by decide +kernel⟩⟩

/-- Every clause of LanesAlignAndCarry with conditions has a state and operands that meet them together. -/
theorem test_meets_LanesAlignAndCarry :
    (∃ (s : State) (t : Nat) (r : Nat) (pos : Nat) (line : Bytes), s.awake = true ∧ r < 4 ∧ s.elnar.rx.length = 4 ∧
      bitOf (s.stat (0x9110 + r) 3) 0 = false ∧ s.stat (0x9110 + r) 2 = 0 ∧ (s.rxLane r).cands = [] ∧ beAt line 0 6 =
      0xB31E9C4D72E5) ∧
    (∃ (s : State) (t : Nat) (r : Nat) (pos : Nat) (line : Bytes), s.awake = true ∧ r < 4 ∧ bitOf (s.stat (0x9110 + r)
      3) 0 = true) ∧
    (∃ (s : State) (t : Nat) (r : Nat), s.awake = true ∧ r < 4 ∧ s.elnar.rx.length = 4 ∧ bitOf (s.stat (0x9110 + r) 3)
      0 = false ∧ s.stat (0x9110 + r) 2 ≠ 2 ∧ s.laneInUse r = false) ∧
    (∃ (s : State) (t : Nat) (r : Nat), s.awake = true ∧ r < 4 ∧ s.stat (0x9110 + r) 3 = 1) ∧
    (∃ (s : State) (t : Nat) (r : Nat), s.awake = true ∧ r < 4 ∧ (s.advance t).useConditions r = true ∧ 128 ≤ (s.rxLane
      r).good ∧ s.laneInUse r = false ∧ s.stat 0x9100 4 ≠ 0) ∧
    (∃ (s : State) (t : Nat) (r : Nat), s.awake = true ∧ r < 4 ∧ s.elnar.tx.length = 4 ∧ (s.advance t).reg 0x9100 1 = 1
      ∧ s.laneInUse r = false ∧ (s.txLane r).code = 0 ∧ (s.txLane r).recent = [] ∧ (s.txLane r).mfc ≠ 0) ∧
    (∃ (s : State) (t : Nat) (r : Nat) (fill : Nat), s.awake = true ∧ r < 4 ∧ (s.advance t).reg 0x9100 1 ≠ 1) ∧
    (∃ (s : State) (t : Nat) (c : Nat), s.awake = true ∧ 1 ≤ c ∧ c ≤ 5 ∧ (s.cellClass c).early = []) ∧
    (∃ (s : State) (t : Nat), s.awake = true ∧ s.linkSync = true) ∧
    (∃ (s : State) (t : Nat) (tx : Nat) (rx : Nat) (ptx : Nat) (prx : Nat) (n : Nat) (rate : Int), s.awake = true ∧ n <
      4 ∧ s.follows = false ∧ s.elnar.received = []) ∧
    (∃ (s : State) (t : Nat) (tx : Nat) (rx : Nat) (ptx : Nat) (prx : Nat) (n : Nat) (rate : Int), s.awake = true ∧ n <
      4 ∧ s.follows = true ∧ s.linkSync = true ∧ s.elnar.received = [] ∧ s.time.corrections = []) :=
  ⟨⟨run, 9, 3, 77, toBE 6 0xB31E9C4D72E5, by decide +kernel⟩,
   ⟨st 0x9113 3 1 run, 9, 3, 77, [], by decide +kernel⟩,
   ⟨run, 9, 3, by decide +kernel⟩,
   ⟨st 0x9113 3 1 run, 9, 3, by decide +kernel⟩,
   ⟨st 0x9100 4 1 (st 0x9113 2 2 (cfg 0x9113 1 1 (cfg 0x9100 1 1 (eln (fun x =>
     { x with rx := modNth x.rx 3 (fun y => { y with good := 128 }) }) run)))), 9, 3, by decide +kernel⟩,
   ⟨cfg 0x9100 1 1 (eln (fun x => { x with tx := modNth x.tx 2 (fun y => { y with mfc := 255 }) }) run), 9, 2,
     by decide +kernel⟩,
   ⟨cfg 0x9100 1 0 run, 9, 2, 64, by decide +kernel⟩,
   ⟨run, 9, 5, by decide +kernel⟩,
   ⟨st 0x9100 3 1 run, 9, by decide +kernel⟩,
   ⟨run, 9, 10, 200, 50, 120, 3, -5, by decide +kernel⟩,
   ⟨paired, 9, 10, 200, 50, 120, 3, -5, by decide +kernel⟩⟩

/-- Every clause of BridgeWindowAndPayloads with conditions has a state and operands that meet them together. -/
theorem test_meets_BridgeWindowAndPayloads :
    (∃ (s : State) (t : Nat) (q : BridgeReq), s.awake = true ∧ s.linkSync = true ∧ q.tag < 256 ∧ (∀ o ∈ s.elnar.out,
      o.req.tag ≠ q.tag)) ∧
    (∃ (s : State) (t : Nat) (q : BridgeReq), s.awake = true ∧ s.linkSync = false ∧ q.tag < 256) ∧
    (∃ (s : State) (t : Nat) (q : BridgeReq), s.awake = true ∧ winOk q.offset q.len = true) ∧
    (∃ (s : State) (t : Nat) (q : BridgeReq), s.awake = true ∧ winOk q.offset q.len = true ∧ q.data.length = q.len ∧
      winWf s.elnar.window = true) ∧
    (∃ (s : State) (t : Nat) (q : BridgeReq), s.awake = true ∧ winOk q.offset q.len = true ∧ q.data.length = q.len ∧
      winWf s.elnar.window = true) ∧
    (∃ (s : State) (t : Nat) (q : BridgeReq), s.awake = true ∧ winOk q.offset q.len = false) ∧
    (∃ (s : State) (t : Nat) (q : BridgeReq), s.awake = true ∧ winOk q.offset q.len = false ∧ s.stat 0x9130 7 <
      0xFFFFFFFE) ∧
    (∃ (s : State) (t : Nat) (q : BridgeReq) (f : Frame), s.awake = true ∧ s.basin.frames.find? (fun x => decide (x.key
      = keyOfBytes q.data)) = some f) ∧
    (∃ (s : State) (t : Nat) (q : BridgeReq), s.awake = true ∧ (∀ f ∈ s.basin.frames, f.key ≠ keyOfBytes q.data) ∧
      s.ord.transit = [] ∧ (∀ x ∈ s.ord.units, x.buf = []) ∧ s.ford.queue = [] ∧ s.ford.running = []) ∧
    (∃ (s : State) (t : Nat) (q : BridgeReq), s.awake = true) :=
  ⟨⟨st 0x9100 3 1 (eln (fun x => { x with out := [os 4 false] }) run), 9, bq 255 7 0 [1, 2, 3, 4], by decide +kernel⟩,
   ⟨run, 9, bq 255 7 0 [1, 2, 3, 4], by decide +kernel⟩,
   ⟨eln (fun x => { x with window := [(65533, 5)] }) run, 9, { bq 255 7 65532 [] with len := 4 }, by decide +kernel⟩,
   ⟨eln (fun x => { x with window := [(8, 5), (12, 5)] }) run, 9, bq 255 7 8 [0, 2, 3, 4], by decide +kernel⟩,
   ⟨run, 9, bq 255 7 65280 (List.replicate 256 1), by decide +kernel⟩,
   ⟨run, 9, bq 255 7 65536 [1, 2, 3, 4], by decide +kernel⟩,
   ⟨run, 9, bq 255 7 2 [1, 2, 3, 4], by decide +kernel⟩,
   ⟨bas (fun b => { b with frames := [{ fr 1 0 with key := ⟨5, 6, 7⟩ }] }) run, 9, bq 255 7 0 (toBE 8 5 ++ toBE 2 6 ++
     toBE 2 7), { fr 1 0 with key := ⟨5, 6, 7⟩ }, by decide +kernel⟩,
   ⟨run, 9, bq 255 7 0 (toBE 8 5 ++ toBE 2 6 ++ toBE 2 7), by decide +kernel⟩,
   ⟨run, 9, bq 255 7 0 [1, 2, 3, 4], by decide +kernel⟩⟩

/-- Every clause of SemaphoresAndCompletions with conditions has a state and operands that meet them together. -/
theorem test_meets_SemaphoresAndCompletions :
    (∃ (s : State) (t : Nat) (q : BridgeReq), s.awake = true ∧ q.offset < 64 ∧ q.init < 8 ∧ q.tag < 256) ∧
    (∃ (s : State) (t : Nat) (q : BridgeReq), s.awake = true ∧ 64 ≤ q.offset) ∧
    (∃ (s : State) (t : Nat) (a : Acquire), s.awake = true ∧ s.elnar.acquires = [a] ∧ a.partner = false ∧ kfind
      s.elnar.sems a.sem = none) ∧
    (∃ (s : State) (t : Nat) (a : Acquire) (x : Semaphore), s.awake = true ∧ s.elnar.acquires = [a] ∧ a.partner = false
      ∧ kfind s.elnar.sems a.sem = some x ∧ ¬ (x.holder = 1 ∧ x.init = a.init)) ∧
    (∃ (s : State) (t : Nat) (since : Nat) (q : BridgeReq), s.awake = true ∧ q.offset < 64 ∧ q.init < 8 ∧ kfind
      s.elnar.sems q.offset = some ⟨1, q.init, since⟩) ∧
    (∃ (s : State) (t : Nat) (q : BridgeReq), s.awake = true ∧ q.offset < 64 ∧ q.init < 8 ∧ (∀ x, kfind s.elnar.sems
      q.offset = some x → ¬ (x.holder = 1 ∧ x.init = q.init))) ∧
    (∃ (s : State) (t : Nat) (n : Nat) (x : Semaphore), s.awake = true ∧ n < 64 ∧ kfind s.elnar.sems n = some x ∧
      x.since + 100000 ≤ (s.advance t).time.raw) ∧
    (∃ (s : State) (t : Nat) (n : Nat), s.awake = true ∧ n < 64 ∧ (∀ x, kfind s.elnar.sems n = some x → (s.advance
      t).time.raw < x.since + 100000)) ∧
    (∃ (s : State) (t : Nat) (n : Nat) (c : Caller), s.awake = true ∧ c.iface ≠ .partner ∧ n < 64 ∧ (s.advance
      t).writeCheck c 0x9140 0x43 (toLE 1 n) = 0) ∧
    (∃ (s : State) (t : Nat) (d : BridgeDone) (o : Outstanding), s.awake = true ∧ s.elnar.received = [] ∧
      s.elnar.out.find? (fun x => decide (x.req.tag = d.tag) && decide (x.req.kind + 0x80 = d.kind)) = some o ∧ o.ended
      = false ∧ o.req.kind ≠ 2) ∧
    (∃ (s : State) (t : Nat) (d : BridgeDone) (o : Outstanding), s.awake = true ∧ s.elnar.received = [] ∧
      s.elnar.out.find? (fun x => decide (x.req.tag = d.tag) && decide (x.req.kind + 0x80 = d.kind)) = some o ∧ o.ended
      = true) ∧
    (∃ (s : State) (t : Nat) (tag : Nat) (o : Outstanding), s.awake = true ∧ tag < 256 ∧ s.elnar.out.find? (fun x =>
      decide (x.req.tag = tag) && decide (x.req.kind ≠ 5)) = some o ∧ o.ended = false ∧ o.req.kind ≠ 2 ∧ o.raw +
      (s.advance t).reg 0x9130 1 * 1000 ≤ (s.advance t).time.raw) ∧
    (∃ (s : State) (t : Nat) (tag : Nat) (o : Outstanding), s.awake = true ∧ tag < 256 ∧ s.elnar.out.find? (fun x =>
      decide (x.req.tag = tag) && decide (x.req.kind ≠ 5)) = some o ∧ o.ended = true ∧ o.raw + 4 * ((s.advance t).reg
      0x9130 1 * 1000) ≤ (s.advance t).time.raw) ∧
    (∃ (s : State) (t : Nat) (tag : Nat) (status : Nat) (offset : Nat) (issue : Nat), s.awake = true ∧ tag < 256 ∧
      s.elnar.received = [] ∧ s.stat 0x9130 7 < 0xFFFFFFFE) ∧
    (∃ (s : State) (t : Nat), s.awake = true) :=
  ⟨⟨run, 9, bq 255 7 63 [], by decide +kernel⟩,
   ⟨run, 9, bq 255 7 64 [], by decide +kernel⟩,
   ⟨eln (fun x => { x with acquires := [⟨63, false, 7, 255⟩], sems := [(62, ⟨1, 7, 0⟩)] }) run, 9, ⟨63, false, 7, 255⟩,
     by decide +kernel⟩,
   ⟨eln (fun x => { x with acquires := [⟨63, false, 7, 255⟩], sems := [(63, ⟨1, 6, 0⟩)] }) run, 9, ⟨63, false, 7, 255⟩,
     ⟨1, 6, 0⟩, by decide +kernel⟩,
   ⟨eln (fun x => { x with sems := [(63, ⟨1, 7, 0⟩)] }) run, 9, 0, bq 255 7 63 [], by decide +kernel⟩,
   ⟨run, 9, bq 255 7 63 [], by decide +kernel⟩,
   ⟨eln (fun x => { x with sems := [(63, ⟨1, 7, 0⟩)] }) run, 100000, 63, ⟨1, 7, 0⟩, by decide +kernel⟩,
   ⟨run, 99999, 63, by decide +kernel⟩,
   ⟨eln (fun x => { x with sems := [(63, ⟨1, 7, 0⟩)] }) run, 9, 63, firm, by decide +kernel⟩,
   ⟨eln (fun x => { x with out := [os 4 false] }) run, 9, ⟨0x83, 4, 0, [1]⟩, os 4 false, by decide +kernel⟩,
   ⟨eln (fun x => { x with out := [os 4 true] }) run, 9, ⟨0x83, 4, 0, [1]⟩, os 4 true, by decide +kernel⟩,
   ⟨eln (fun x => { x with out := [os 4 false] }) run, 100000000, 4, os 4 false, by decide +kernel⟩,
   ⟨eln (fun x => { x with out := [os 4 true] }) run, 100000000, 4, os 4 true, by decide +kernel⟩,
   ⟨eln (fun x => { x with out := [os 4 true] }) run, 9, 4, 5, 6, 7, by decide +kernel⟩,
   ⟨bas (fun b => { b with frames := [fr 1 0, fr 2 0] }) (sad (fun x =>
     { x with retained := [(⟨1, 2, 3⟩, 1, 0), (⟨1, 2, 3⟩, 2, 1)] }) run), 10000, by decide +kernel⟩⟩

/-- Every clause of BootMeasuresAndSelects with conditions has a state and operands that meet them together. -/
theorem test_meets_BootMeasuresAndSelects :
    (∃ (s : State) (t : Nat) (a : BootHeader) (b : BootHeader) (images : List Bytes), s.awake = true ∧
      s.keys.bootBlocked = false ∧ s.keys.bootDone = false ∧ bootCode s.keys.revoked s.keys.rollback a = 0) ∧
    (∃ (s : State) (t : Nat) (a : BootHeader) (b : BootHeader) (images : List Bytes), s.awake = true ∧
      s.keys.bootBlocked = false ∧ s.keys.bootDone = false ∧ bootCode s.keys.revoked s.keys.rollback a ≠ 0 ∧ bootCode
      s.keys.revoked s.keys.rollback b = 0) ∧
    (∃ (s : State) (t : Nat) (a : BootHeader) (b : BootHeader) (images : List Bytes), s.awake = true ∧
      s.keys.bootBlocked = false ∧ s.keys.bootDone = false ∧ bootCode s.keys.revoked s.keys.rollback a ≠ 0 ∧ bootCode
      s.keys.revoked s.keys.rollback b ≠ 0) ∧
    (∃ (s : State) (t : Nat) (a : BootHeader) (b : BootHeader) (images : List Bytes), s.awake = true ∧ s.keys.bootDone
      = true) ∧
    (∃ (s : State) (t : Nat) (c : Caller), s.awake = true ∧ c.iface ≠ .partner ∧ (s.advance t).writeCheck c 0xB300 5
      [1] = 0 ∧ s.keys.rollback ≠ s.stat 0xB300 3) ∧
    (∃ (s : State) (t : Nat) (c : Caller), s.awake = true ∧ c.iface ≠ .partner ∧ (s.advance t).writeCheck c 0xB300 5
      [1] = 0 ∧ s.keys.rollback = s.stat 0xB300 3) ∧
    (∃ (s : State) (t : Nat) (v : Nat) (c : Caller), s.awake = true ∧ c.iface ≠ .partner ∧ 1 ≤ v ∧ v ≤ 2 ∧ (s.advance
      t).writeCheck c 0xB300 6 (toLE 1 v) = 0 ∧ s.keys.rootIndex ≠ v - 1 ∧ bitOf s.keys.revoked (2 - v) = false) ∧
    (∃ (s : State) (t : Nat) (v : Nat) (c : Caller), s.awake = true ∧ c.iface ≠ .partner ∧ 1 ≤ v ∧ v ≤ 2 ∧ (s.advance
      t).writeCheck c 0xB300 6 (toLE 1 v) = 0 ∧ s.keys.rootIndex = v - 1) ∧
    (∃ (s : State) (t : Nat) (c : Caller) (digest : Bytes), s.awake = true ∧ c.iface ≠ .partner ∧ digest.length = 48 ∧
      (s.advance t).writeCheck c 0xB300 0x18 digest = 0) ∧
    (∃ (s : State) (t : Nat) (c : Caller), s.awake = true ∧ c.iface ≠ .partner ∧ s.keys.sealed_ = false ∧ (s.advance
      t).writeCheck c 0xB200 4 [1] = 0) ∧
    (∃ (s : State) (t : Nat) (c : Caller), s.awake = true ∧ c.iface ≠ .partner ∧ s.keys.sealed_ = true ∧ (s.advance
      t).writeCheck c 0xB200 4 [1] = 0) ∧
    (∃ (s : State) (t : Nat) (c : Caller) (data : Bytes), s.awake = true ∧ c.iface ≠ .partner ∧ data.length = 3405 ∧
      s.keys.lifecycle = 1 ∧ s.openWrite c (dkey 0xB300 0x1B) = none ∧ ((s.advance t).afterKey c 3 0xB300 0x1B (toBE 1
      1 ++ toBE 4 0 ++ data)).segmentStatus c (s.advance t).keyEpoch 0xB300 0x1B data = 0) ∧
    (∃ (s : State) (t : Nat) (c : Caller) (data : Bytes), s.awake = true ∧ c.iface ≠ .partner ∧ data.length = 3405 ∧
      s.keys.lifecycle = 1 ∧ s.openWrite c (dkey 0xB300 0x1B) = none ∧ ((s.advance t).afterKey c 3 0xB300 0x1B (toBE 1
      1 ++ toBE 4 0 ++ data)).segmentStatus c (s.advance t).keyEpoch 0xB300 0x1B data = 0) :=
  ⟨⟨run, 9, bh true 1 3, bh false 0 2, [[1], [2]], by decide +kernel⟩,
   ⟨run, 9, bh false 1 3, bh true 0 2, [[1], [2]], by decide +kernel⟩,
   ⟨run, 9, bh false 1 3, bh false 0 2, [[1], [2]], by decide +kernel⟩,
   ⟨bt run, 9, bh true 1 3, bh false 0 2, [[1], [2]], by decide +kernel⟩,
   ⟨st 0xB300 3 5 run, 9, firm, by decide +kernel⟩,
   ⟨run, 9, firm, by decide +kernel⟩,
   ⟨run, 9, 2, firm, by decide +kernel⟩,
   ⟨run, 9, 1, firm, by decide +kernel⟩,
   ⟨run, 9, firm, List.replicate 48 7, by decide +kernel⟩,
   ⟨run, 9, firm, by decide +kernel⟩,
   ⟨ky (fun k => { k with sealed_ := true }) run, 9, firm, by decide +kernel⟩,
   ⟨ky (fun k => { k with lifecycle := 1 }) run, 9, firm, List.replicate 3405 7, by decide +kernel⟩,
   ⟨ky (fun k => { k with lifecycle := 1 }) run, 9, firm, List.replicate 3405 7, by decide +kernel⟩⟩

/-- Every clause of KeysAreUpdatedAndProtected with conditions has a state and operands that meet them together. -/
theorem test_meets_KeysAreUpdatedAndProtected :
    (∃ (s : State) (t : Nat) (busy : List Nat), s.awake = true ∧ s.stat 0xB000 5 < 2 ^ 32) ∧
    (∃ (s : State) (t : Nat) (key : Nat) (c : Caller) (m : Bytes) (signed : Bool) (unwraps : Bool), s.awake = true ∧
      c.iface ≠ .partner ∧ m.length ≤ 8192 ∧ s.openWrite c (dkey 0xB100 1) = none ∧ ((s.advance t).afterKey c 3 0xB100
      1 (toBE 1 1 ++ toBE 4 0 ++ m)).segmentStatus c (s.advance t).keyEpoch 0xB100 1 m = 0 ∧ s.updateStatus m signed
      unwraps ≠ 0) ∧
    (∃ (s : State) (t : Nat) (x : KeyShadow), s.awake = true ∧ s.keys.shadow = some x) ∧
    (∃ (s : State) (t : Nat), s.awake = true ∧ s.keys.shadow = none) ∧
    (∃ (s : State) (t : Nat) (n : Nat) (lasts : Bool), s.power.low = false ∧ s.power.phase ≠ .held ∧ n < 4 ∧
      s.keys.bootDone = true) ∧
    (∃ (s : State) (t : Nat) (n : Nat) (lasts : Bool), s.power.phase ≠ .held ∧ n < 4 ∧ s.keys.bootDone = false) ∧
    (∃ (s : State) (t : Nat) (n : Nat) (lasts : Bool), s.power.phase ≠ .held ∧ n < 4 ∧ s.keys.bootDone = true ∧
      s.power.low = true) ∧
    (∃ (s : State) (t : Nat) (c : Caller), s.awake = true ∧ c.iface ≠ .partner ∧ ((s.advance t).setStat 0xB400 1
      0).writeCheck c 0xB400 3 [1] = 0) ∧
    (∃ (s : State) (t : Nat) (raised : Nat) (c : Caller), s.awake = true ∧ c.iface ≠ .partner ∧ raised % 16 ≠ 0 ∧
      ((s.advance t).setStat 0xB400 1 (raised % 16)).writeCheck c 0xB400 3 [1] = 0) ∧
    (∃ (s : State) (t : Nat) (p : Nat) (slot : Nat) (sci : Nat) (an : Nat) (pn : Nat) (tx : Bool), s.awake = true ∧ p <
      20 ∧ s.ports.length = 32 ∧ an < 4 ∧ s.slotUsable slot 3 1 = true) ∧
    (∃ (s : State) (t : Nat) (p : Nat) (slot : Nat) (sci : Nat) (an : Nat) (pn : Nat) (tx : Bool) (unwraps : Bool),
      s.awake = true ∧ p < 20 ∧ (s.slotUsable slot 3 1 = false ∨ unwraps = false)) :=
  ⟨⟨ky (fun k => { k with slots := [(20, slt 77), (21, slt 78)] }) run, 9, [21], by decide +kernel⟩,
   ⟨run, 9, 77, firm, List.replicate 100 0, true, true, by decide +kernel⟩,
   ⟨prt 3 (fun p => { p with sas := [sa 20, sa 21] }) (ky (fun k =>
     { k with slots := [(21, slt 78)], shadow := some shd }) run), 9, shd, by decide +kernel⟩,
   ⟨run, 9, by decide +kernel⟩,
   ⟨prt 3 (fun p => { p with sas := [sa 20, sa 21] }) (ky (fun k =>
     { k with slots := [(21, slt 78)], shadow := some shd }) (bt run)), 9, 3, true, by decide +kernel⟩,
   ⟨run, 9, 3, true, by decide +kernel⟩,
   ⟨{ bt run with power := { run.power with phase := .quiet } }, 9, 3, true, by decide +kernel⟩,
   ⟨ky (fun k => { k with sealed_ := true }) run, 9, firm, by decide +kernel⟩,
   ⟨ky (fun k => { k with sealed_ := true }) run, 9, 4, firm, by decide +kernel⟩,
   ⟨ky (fun k => { k with slots := [(21, slt 78)] }) run, 9, 19, 21, 5, 3, 9, true, by decide +kernel⟩,
   ⟨run, 9, 19, 21, 5, 3, 9, true, true, by decide +kernel⟩⟩

/-- Every clause of LockstepPairsRecoverOrFail with conditions has a state and operands that meet them together. -/
theorem test_meets_LockstepPairsRecoverOrFail :
    (∃ (s : State) (t : Nat) (p : Nat) (instrs : Nat), s.awake = true ∧ p < 4 ∧ s.safety.pairs.length = 4 ∧ (s.advance
      t).reg (0xA010 + p) 2 ≤ instrs ∧ (s.pairMode p = 1 ∨ s.pairMode p = 2 ∨ s.pairMode p = 5) ∧ (s.pair p).splitReq =
      false ∧ s.stat (0xA010 + p) 9 < 2 ^ 32) ∧
    (∃ (s : State) (t : Nat) (p : Nat) (instrs : Nat) (eq : Bool) (lane : Bool), s.awake = true ∧ p < 4 ∧ instrs <
      (s.advance t).reg (0xA010 + p) 2 ∧ (s.advance t).time.raw < (s.pair p).checkRaw + 5000) ∧
    (∃ (s : State) (t : Nat) (p : Nat) (instrs : Nat), s.awake = true ∧ p < 4 ∧ s.safety.pairs.length = 4 ∧ (s.advance
      t).reg (0xA010 + p) 2 ≤ instrs ∧ s.pairMode p = 1 ∧ (s.pair p).splitReq = true) ∧
    (∃ (s : State) (t : Nat) (p : Nat) (pc : Nat), s.awake = true ∧ p < 4 ∧ s.safety.pairs.length = 4 ∧ s.pairMode p =
      1 ∧ (s.pair p).reexec = false ∧ (s.pair p).second ≠ (s.advance t).time.raw / 1000000000 ∧ 1 ≤ (s.advance t).reg
      (0xA010 + p) 3 ∧ s.stat (0xA010 + p) 6 < 2 ^ 32) ∧
    (∃ (s : State) (t : Nat) (p : Nat) (pc : Nat) (kind : Nat), s.awake = true ∧ p < 4 ∧ s.safety.pairs.length = 4 ∧
      s.pairMode p = 2 ∧ (s.pair p).reexec = true) ∧
    (∃ (s : State) (t : Nat) (p : Nat), s.awake = true ∧ p < 4 ∧ s.safety.pairs.length = 4 ∧ s.pairMode p = 2) ∧
    (∃ (s : State) (t : Nat) (p : Nat), s.awake = true ∧ p < 4 ∧ s.pairMode p = 2 ∧ (s.pair p).reexecRaw + 5000 ≤
      (s.advance t).time.raw) ∧
    (∃ (s : State) (t : Nat) (p : Nat), s.awake = true ∧ p < 4) ∧
    (∃ (s : State) (t : Nat) (p : Nat) (c : Caller), s.awake = true ∧ c.iface ≠ .partner ∧ p < 4 ∧
      s.safety.pairs.length = 4 ∧ (s.advance t).writeCheck c (0xA010 + p) 4 [1] = 0 ∧ s.pairMode p = 1) ∧
    (∃ (s : State) (t : Nat) (p : Nat) (c : Caller), s.awake = true ∧ c.iface ≠ .partner ∧ p < 4 ∧ (s.advance
      t).writeCheck c (0xA010 + p) 4 [1] = 0 ∧ s.pairMode p ≠ 1 ∧ s.pairMode p ≠ 2) ∧
    (∃ (s : State) (t : Nat) (p : Nat) (c : Caller), s.awake = true ∧ c.iface ≠ .partner ∧ p < 4 ∧
      s.safety.pairs.length = 4 ∧ (s.advance t).writeCheck c (0xA010 + p) 4 [2] = 0 ∧ s.pairMode p = 3) ∧
    (∃ (s : State) (t : Nat) (p : Nat) (c : Caller), s.awake = true ∧ c.iface ≠ .partner ∧ p < 4 ∧
      s.safety.pairs.length = 4 ∧ (s.advance t).writeCheck c (0xA010 + p) 4 [3] = 0 ∧ s.pairMode p = 6) ∧
    (∃ (s : State) (t : Nat) (p : Nat) (c : Caller), s.awake = true ∧ c.iface ≠ .partner ∧ p < 4 ∧ (s.advance
      t).writeCheck c (0xA010 + p) 4 [3] = 0 ∧ s.pairMode p = 6) ∧
    (∃ (s : State) (t : Nat) (p : Nat), s.awake = true ∧ p < 4 ∧ s.safety.pairs.length = 4 ∧ s.pairMode p ≠ 6) ∧
    (∃ (s : State) (t : Nat) (p : Nat), s.awake = true ∧ p < 4) ∧
    (∃ (s : State) (t : Nat) (p : Nat), s.awake = true ∧ p < 4 ∧ s.safety.pairs.length = 4 ∧ s.pairMode p = 4) :=
  ⟨⟨lp 3 2 (fun u => { u with undo := 4, reexec := true, group := 127 }) run, 9, 3, 1000000, by decide +kernel⟩,
   ⟨run, 9, 3, 0, true, true, by decide +kernel⟩,
   ⟨lp 3 1 (fun u => { u with splitReq := true }) run, 9, 3, 1000000, by decide +kernel⟩,
   ⟨lp 3 1 id run, 1000000000, 3, 77, by decide +kernel⟩,
   ⟨lp 3 2 (fun u => { u with reexec := true }) run, 9, 3, 77, 1, by decide +kernel⟩,
   ⟨lp 3 2 (fun u => { u with undo := 4 }) run, 9, 3, by decide +kernel⟩,
   ⟨lp 3 2 (fun u => { u with undo := 4 }) run, 5000, 3, by decide +kernel⟩,
   ⟨run, 9, 3, by decide +kernel⟩,
   ⟨lp 3 1 id run, 9, 3, firm, by decide +kernel⟩,
   ⟨lp 3 3 id run, 9, 3, firm, by decide +kernel⟩,
   ⟨lp 3 3 id run, 9, 3, firm, by decide +kernel⟩,
   ⟨lp 3 6 id (sf (fun f => { f with active := 128, latched := 128 }) run), 9, 3, firm, by decide +kernel⟩,
   ⟨lp 3 6 id (sf (fun f => { f with active := 128, latched := 128 }) run), 9, 3, firm, by decide +kernel⟩,
   ⟨lp 0 1 id run, 9, 0, by decide +kernel⟩,
   ⟨run, 9, 0, by decide +kernel⟩,
   ⟨lp 0 4 id (sf (fun f => { f with active := 2 ^ 20, latched := 2 ^ 20 }) run), 9, 0, by decide +kernel⟩⟩

/-- Every clause of FaultsAreCollected with conditions has a state and operands that meet them together. -/
theorem test_meets_FaultsAreCollected :
    (∃ (s : State) (t : Nat) (i : Nat) (stays : Bool), s.awake = true ∧ i < 103 ∧ (s.faultRec i).count < 0xFFFFFFFF) ∧
    (∃ (s : State) (t : Nat) (i : Nat) (stays : Bool), s.awake = true ∧ 103 ≤ i ∧ i < 256) ∧
    (∃ (s : State) (t : Nat) (i : Nat) (c : Caller), s.awake = true ∧ c.iface ≠ .partner ∧ i < 256 ∧ (s.advance
      t).writeCheck c 0xA100 3 (toLE 1 i) = 0 ∧ bitOf s.safety.active i = false) ∧
    (∃ (s : State) (t : Nat) (i : Nat) (c : Caller), s.awake = true ∧ c.iface ≠ .partner ∧ i < 256 ∧ (s.advance
      t).writeCheck c 0xA100 3 (toLE 1 i) = 0 ∧ bitOf s.safety.active i = true) ∧
    (∃ (s : State) (t : Nat) (c : Caller), s.awake = true ∧ c.iface ≠ .partner ∧ (s.advance t).readCheck c 0xA100 0x21
      = 0) ∧
    (∃ (s : State) (t : Nat) (n : Nat) (mv : Nat), s.awake = true ∧ n < 10 ∧ (s.advance t).inWindow n mv = false) ∧
    (∃ (s : State) (t : Nat) (n : Nat) (mv : Nat), s.awake = true ∧ n < 10 ∧ (s.advance t).inWindow n mv = true) ∧
    (∃ (s : State) (t : Nat) (n : Nat) (mv : Nat), s.awake = true ∧ n < 10 ∧ (s.advance t).inWindow n mv = true) ∧
    (∃ (s : State) (t : Nat) (n : Nat) (mv : Nat), s.awake = true ∧ n < 10 ∧ (s.advance t).inWindow n mv = false) ∧
    (∃ (s : State) (t : Nat) (n : Nat) (temp : Int), s.awake = true ∧ n < 8 ∧ bitOf s.safety.active (42 + n) = false ∧
      sgnOf 16 ((s.advance t).reg 0xA200 (0x10 + n)) < temp) ∧
    (∃ (s : State) (t : Nat) (n : Nat) (temp : Int), s.awake = true ∧ n < 8 ∧ temp ≤ sgnOf 16 ((s.advance t).reg 0xA200
      (0x10 + n)) - 2) ∧
    (∃ (s : State) (t : Nat) (n : Nat), s.awake = true ∧ n < 8) ∧
    (∃ (s : State) (t : Nat) (n : Nat), s.awake = true ∧ n < 8) :=
  ⟨⟨run, 9, 102, false, by decide +kernel⟩,
   ⟨run, 9, 103, true, by decide +kernel⟩,
   ⟨sf (fun f => { f with latched := 2 ^ 102 + 1 }) run, 9, 102, firm, by decide +kernel⟩,
   ⟨sf (fun f => { f with latched := 2 ^ 102 + 1, active := 2 ^ 102 }) run, 9, 102, host, by decide +kernel⟩,
   ⟨own firm 0xA100 0x20 5 (sf (fun f => { f with recs := [(5, ⟨3, OKey.zero, OKey.zero⟩)] }) run), 9, firm,
     by decide +kernel⟩,
   ⟨cfg 0xA200 10 (1100 * 65536 + 900) run, 9, 9, 899, by decide +kernel⟩,
   ⟨cfg 0xA200 10 (1100 * 65536 + 900) run, 9, 9, 900, by decide +kernel⟩,
   ⟨cfg 0xA200 10 (1100 * 65536 + 900) run, 9, 9, 1100, by decide +kernel⟩,
   ⟨cfg 0xA200 10 (1100 * 65536 + 900) run, 9, 9, 1101, by decide +kernel⟩,
   ⟨cfg 0xA200 0x17 125 run, 9, 7, 126, by decide +kernel⟩,
   ⟨cfg 0xA200 0x17 125 (sf (fun f => { f with active := 2 ^ 49 }) run), 9, 7, 123, by decide +kernel⟩,
   ⟨run, 9, 7, by decide +kernel⟩,
   ⟨sf (fun f => { f with active := 2 ^ 57, latched := 2 ^ 57 }) run, 9, 7, by decide +kernel⟩⟩

/-- Every clause of WatchdogsOutputsAndSafetySpi with conditions has a state and operands that meet them together. -/
theorem test_meets_WatchdogsOutputsAndSafetySpi :
    (∃ (s : State) (t : Nat) (w : Nat) (c : Caller), s.awake = true ∧ c.iface ≠ .partner ∧ w < 8 ∧
      s.safety.watchdogs.length = 8 ∧ (s.advance t).writeCheck c 0xA300 (0x13 + 8 * w) (toLE 2 (expectedKey (s.watchdog
      w))) = 0 ∧ (s.watchdog w).running = true ∧ (s.watchdog w).lastRaw + (s.advance t).reg 0xA300 (0x11 + 8 * w) *
      1000 ≤ (s.advance t).time.raw) ∧
    (∃ (s : State) (t : Nat) (w : Nat) (key : Nat) (c : Caller), s.awake = true ∧ c.iface ≠ .partner ∧ w < 8 ∧
      s.safety.watchdogs.length = 8 ∧ key < 65536 ∧ (s.advance t).writeCheck c 0xA300 (0x13 + 8 * w) (toLE 2 key) = 0 ∧
      (s.watchdog w).running = true ∧ key ≠ expectedKey (s.watchdog w) ∧ s.stat 0xA300 (0x15 + 8 * w) < 0xFFFFFFFE) ∧
    (∃ (s : State) (t : Nat) (w : Nat), s.awake = true ∧ w < 8 ∧ s.safety.watchdogs.length = 8 ∧ (s.watchdog w).running
      = true ∧ (s.watchdog w).lastRaw + (s.advance t).reg 0xA300 (0x12 + 8 * w) * 1000 ≤ (s.advance t).time.raw ∧
      s.stat 0xA300 (0x15 + 8 * w) < 0xFFFFFFFE) ∧
    (∃ (s : State) (t : Nat) (w : Nat), s.awake = true ∧ w < 8 ∧ (s.watchdog w).running = false) ∧
    (∃ (s : State) (t : Nat), s.awake = true ∧ (s.stat 0xA000 1 = 1 ∨ s.stat 0xA000 1 = 2) ∧ s.pairMode 0 ≠ 4) ∧
    (∃ (s : State) (t : Nat) (refreshed : Bool), s.awake = true ∧ (refreshed = false ∨ (s.stat 0xA000 1 ≠ 1 ∧ s.stat
      0xA000 1 ≠ 2))) ∧
    (∃ (s : State) (t : Nat), s.awake = true) ∧
    (∃ (s : State) (t : Nat) (f : Bytes), s.awake = true ∧ (s.advance t).reg 0xA000 4 ≠ 0 ∧ spiValid 0 f = true ∧
      s.stat 0xA000 5 < 2 ^ 32) ∧
    (∃ (s : State) (t : Nat) (f : Bytes), s.awake = true ∧ (s.advance t).reg 0xA000 4 ≠ 0 ∧ spiValid 0 f = false) ∧
    (∃ (s : State) (t : Nat) (f : Bytes), s.awake = true ∧ (s.advance t).reg 0xA000 4 = 0) ∧
    (∃ (s : State) (t : Nat) (f : Bytes), s.awake = true ∧ (s.advance t).reg 0xA000 4 ≠ 0 ∧ spiValid 1 f = true) ∧
    (∃ (s : State) (t : Nat) (f : Bytes), s.awake = true ∧ (s.advance t).reg 0xA000 4 ≠ 0 ∧ spiValid 2 f = true ∧
      s.safety.watchdogs.length = 8 ∧ (s.watchdog 7).running = true ∧ byteAt f 1 = 255 - s.safety.question ∧
      (s.watchdog 7).lastRaw + (s.advance t).reg 0xA300 0x49 * 1000 ≤ (s.advance t).time.raw) :=
  ⟨⟨wd 7 true run, 10000000, 7, firm, by decide +kernel⟩,
   ⟨wd 0 true run, 10000000, 0, 0x55AA, firm, by decide +kernel⟩,
   ⟨wd 7 true run, 100000000000, 7, by decide +kernel⟩,
   ⟨run, 100000000000, 7, by decide +kernel⟩,
   ⟨run, 500000, by decide +kernel⟩,
   ⟨run, 500000, false, by decide +kernel⟩,
   ⟨run, 500000, by decide +kernel⟩,
   ⟨cfg 0xA000 4 1 run, 9, spf 0 0, by decide +kernel⟩,
   ⟨cfg 0xA000 4 1 run, 9, spf 1 0, by decide +kernel⟩,
   ⟨cfg 0xA000 4 0 run, 9, spf 1 0, by decide +kernel⟩,
   ⟨cfg 0xA000 4 1 run, 9, spf 1 0, by decide +kernel⟩,
   ⟨wd 7 true (cfg 0xA000 4 1 run), 100000000, spf 2 255, by decide +kernel⟩⟩

/-- Every clause of ResetsAndTheSelfTest with conditions has a state and operands that meet them together. -/
theorem test_meets_ResetsAndTheSelfTest :
    (∃ (s : State) (t : Nat), s.power.phase ≠ .held) ∧
    (∃ (s : State) (t : Nat), s.power.phase = .held) ∧
    (∃ (s : State) (t : Nat) (strap : Bool), s.power.phase = .held) ∧
    (∃ (s : State) (t : Nat) (strap : Bool), s.power.phase ≠ .held ∧ s.power.resetDue = none) ∧
    (∃ (s : State) (t : Nat) (due : Nat) (cause : Nat) (strap : Bool), s.power.phase ≠ .held ∧ s.power.resetDue = some
      (due, cause) ∧ due ≤ t ∧ s.dict.awaiting = [] ∧ 1 ≤ cause ∧ cause ≤ 7) ∧
    (∃ (s : State) (t : Nat) (c : Caller), s.awake = true ∧ c.iface ≠ .partner ∧ (s.advance t).writeCheck c 0x1002 1
      [1] = 0) ∧
    (∃ (s : State) (t : Nat) (r : Nat), s.awake = true ∧ s.safety.fatalRaw = some r ∧ (s.advance t).reg 0xA100 5 = 1 ∧
      r + (s.advance t).reg 0xA100 6 * 1000000 ≤ (s.advance t).time.raw) ∧
    (∃ (s : State) (t : Nat) (r : Nat), s.awake = true ∧ s.safety.fatalRaw = some r ∧ ((s.advance t).reg 0xA100 5 ≠ 1 ∨
      (s.advance t).time.raw < r + (s.advance t).reg 0xA100 6 * 1000000)) ∧
    (∃ (s : State) (t : Nat), s.power.phase = .coldBoot ∧ s.stat 0xA000 1 = 0 ∧ s.safety.fatalRaw = none ∧
      s.safety.latched = 0 ∧ (∀ p, p < 4 → s.pairMode p ≠ 3 ∧ s.pairMode p ≠ 6)) ∧
    (∃ (s : State) (t : Nat) (a : Nat) (b : Nat) (c : Nat), s.awake = true ∧ s.stat 0xA000 1 ≠ 0) :=
  ⟨⟨st 0x1002 4 7 run, 9, by decide +kernel⟩,
   ⟨ph .held run, 9, by decide +kernel⟩,
   ⟨ph .held R, 9, true, by decide +kernel⟩,
   ⟨run, 9, true, by decide +kernel⟩,
   ⟨pw (fun x => { x with resetDue := some (9, 3) }) run, 9, 9, 3, true, by decide +kernel⟩,
   ⟨run, 9, firm, by decide +kernel⟩,
   ⟨sf (fun f => { f with fatalRaw := some 3 }) (cfg 0xA100 5 1 run), 100000000000, 3, by decide +kernel⟩,
   ⟨sf (fun f => { f with fatalRaw := some 3 }) (cfg 0xA100 5 0 run), 100000000000, 3, by decide +kernel⟩,
   ⟨R, 9, by decide +kernel⟩,
   ⟨run, 9, 1, 2, 3, by decide +kernel⟩⟩

/-- Every clause of PowerStatesChange with conditions has a state and operands that meet them together. -/
theorem test_meets_PowerStatesChange :
    (∃ (s : State) (t : Nat) (c : Caller), s.awake = true ∧ c.iface ≠ .partner ∧ (s.advance t).writeCheck c 0xC000 1
      [1] = 0 ∧ (s.advance t).mayIdle = true) ∧
    (∃ (s : State) (t : Nat) (c : Caller), s.awake = true ∧ c.iface ≠ .partner ∧ (s.advance t).writeCheck c 0xC000 1
      [1] = 0 ∧ (s.advance t).mayIdle = false) ∧
    (∃ (s : State) (t : Nat) (c : Caller), c.iface ≠ .partner ∧ s.power.phase = .idle ∧ (s.advance t).writeCheck c
      0xC000 1 [2] = 0) ∧
    (∃ (s : State) (t : Nat) (c : Caller), s.awake = true ∧ c.iface ≠ .partner ∧ (s.advance t).writeCheck c 0xC000 1
      [3] = 0 ∧ s.dict.staging.state = .empty ∧ s.dict.domWrites = [] ∧ s.keys.shadow = none) ∧
    (∃ (s : State) (t : Nat) (c : Caller), s.awake = true ∧ c.iface ≠ .partner ∧ (s.advance t).writeCheck c 0xC000 1
      [4] = 0 ∧ s.dict.staging.state = .empty ∧ s.dict.domWrites = [] ∧ s.keys.shadow = none) ∧
    (∃ (s : State) (t : Nat) (c : Caller), s.awake = true ∧ c.iface ≠ .partner ∧ (s.advance t).writeCheck c 0xC000 1
      [4] = 0 ∧ s.dict.domWrites ≠ []) ∧
    (∃ (s : State) (t : Nat) (n : Nat), s.power.phase = .idle ∧ n < 4 ∧ bitOf ((s.advance t).reg 0xC100 1) n = true) ∧
    (∃ (s : State) (t : Nat) (roleIn : Bool), s.power.phase = .entering ∧ s.power.toSleep = true ∧ s.power.first =
      none) ∧
    (∃ (s : State) (t : Nat) (f : BusFrame), s.power.phase = .quiet ∧ f.bus < 8 ∧ (∀ v ∈ quietRoutes s.power.routes,
      routeSource v ≠ f.bus ∨ fieldOf v 29 0 ≠ f.ident % 2 ^ 30)) ∧
    (∃ (s : State) (t : Nat) (v : Nat) (f : BusFrame), s.power.phase = .quiet ∧ f.bus < 8 ∧ f.fmt ≠ 3 ∧
      s.power.lowQueues.length = 8 ∧ bitOf s.power.lowBuses f.bus = true ∧ quietRoutes s.power.routes = [v] ∧
      routeSource v = f.bus ∧ fieldOf v 29 0 = f.ident % 2 ^ 30 ∧ bitOf v 49 = false ∧ s.power.routed < 0xFFFFFFFF ∧ (∀
      q ∈ s.power.lowQueues, q.length < 8)) ∧
    (∃ (s : State) (t : Nat) (n : Nat), s.power.phase = .sleep ∧ n < 32 ∧ bitOf ((s.advance t).reg 0xC100 1) n = true) ∧
    (∃ (s : State) (t : Nat) (n : Nat), s.power.phase ≠ .held ∧ n ≤ 33 ∧ bitOf ((s.advance t).reg 0xC100 1) n = false) ∧
    (∃ (s : State) (t : Nat) (macOk : Bool), s.power.phase = .wake ∧ (s.slot 5).kind = 0) ∧
    (∃ (s : State) (t : Nat), s.power.phase = .wake ∧ (s.slot 5).kind ≠ 0) ∧
    (∃ (s : State) (t : Nat), s.power.phase = .wake ∧ s.power.railsFrom + 20000000 ≤ (s.advance t).time.raw) :=
  ⟨⟨run, 9, firm, by decide +kernel⟩,
   ⟨cfg 0x7003 1 1 run, 9, firm, by decide +kernel⟩,
   ⟨ph .idle run, 9, firm, by decide +kernel⟩,
   ⟨link 27 3 (cfg 0x709B 1 7 run), 9, firm, by decide +kernel⟩,
   ⟨link 3 3 run, 9, firm, by decide +kernel⟩,
   ⟨dic (fun d => { d with domWrites := [⟨firm, dkey 0x7060 0x10, [], 0⟩] }) run, 9, firm, by decide +kernel⟩,
   ⟨cfg 0xC100 1 8 (ph .idle run), 9, 3, by decide +kernel⟩,
   ⟨pw (fun x => { x with toSleep := true }) (ph .entering run), 9, true, by decide +kernel⟩,
   ⟨qt, 9, { cf 6 with bus := 3 }, by decide +kernel⟩,
   ⟨qt, 9, 5 + 3 * 2 ^ 32 + 24 * 2 ^ 40 + 2 ^ 48, { cf 5 with bus := 3 }, by decide +kernel⟩,
   ⟨cfg 0xC100 1 (2 ^ 31) (ph .sleep run), 9, 31, by decide +kernel⟩,
   ⟨cfg 0xC100 1 0 (ph .sleep run), 9, 33, by decide +kernel⟩,
   ⟨pw (fun x => { x with reasons := 5, first := some 2 }) (ph .wake run), 9, true, by decide +kernel⟩,
   ⟨ky (fun k => { k with slots := [(5, slt 9)], mrs := [1, 2, 3, 4, 5, 6, 7, 8] }) (pw (fun x =>
     { x with reasons := 5, first := some 2 }) (ph .wake run)), 9, by decide +kernel⟩,
   ⟨pw (fun x => { x with toSleep := true }) (ph .wake run), 20000000, by decide +kernel⟩⟩

/-- Every clause of EventsAreOrderedAndCommitted with conditions has a state and operands that meet them together. -/
theorem test_meets_EventsAreOrderedAndCommitted :
    (∃ (s : State) (t : Nat) (ev : RaisedEvent), s.power.phase ≠ .held ∧ (listedCode ev.code = false ∨ 0x0C00 ≤ ev.code
      ∧ ev.code < 0x0D00 ∧ ev.args % 256 = 0)) ∧
    (∃ (s : State) (t : Nat) (ev : RaisedEvent), s.awake = true ∧ listedCode ev.code = true ∧ ev.code / 256 ≠ 0x0C ∧
      (s.advance t).time.orderNs < (ev.key.epoch + 512) * 32 ∧ (∀ k, s.journal.lastKey = some k → okeyLt ev.key k =
      false) ∧ s.journal.reorder.length < 1024) ∧
    (∃ (s : State) (t : Nat) (ev : RaisedEvent), s.awake = true ∧ ev.code / 256 = 0x0C ∧ ev.args % 256 ≠ 0 ∧ (s.advance
      t).time.orderNs < (ev.key.epoch + 512) * 32 ∧ (∀ k, s.journal.lastKey = some k → okeyLt ev.key k = false) ∧
      s.journal.reorder.length < 1024) ∧
    (∃ (s : State) (t : Nat) (ev : RaisedEvent), s.awake = true ∧ listedCode ev.code = true ∧ ev.code / 256 ≠ 0x0C ∧
      (ev.key.epoch + 512) * 32 ≤ (s.advance t).time.orderNs ∧ (∀ k, s.journal.lastKey = some k → okeyLt ev.key k =
      false) ∧ (s.advance t).reg 0x1200 6 ≤ eventSeverity ev.code ∧ (s.advance t).reg 0x4400 3 ≠ ev.code ∧ (∀ e ∈
      s.journal.held, e.acked = false → e.ev.key.src = ev.key.src → e.ev.code ≠ ev.code) ∧ s.journal.held.length < 3840
      ∧ s.journal.nextNo < 0xFFFFFFFF) ∧
    (∃ (s : State) (t : Nat) (ev : RaisedEvent) (k : OKey), s.awake = true ∧ listedCode ev.code = true ∧ ev.code / 256
      ≠ 0x0C ∧ s.journal.lastKey = some k ∧ okeyLt ev.key k = true ∧ (s.advance t).reg 0x1200 6 ≤ eventSeverity ev.code
      ∧ (s.advance t).reg 0x4400 3 ≠ ev.code ∧ (∀ e ∈ s.journal.held, e.acked = false → e.ev.key.src = ev.key.src →
      e.ev.code ≠ ev.code) ∧ s.journal.held.length < 3840 ∧ s.stat 0x1210 8 < 0xFFFFFFFE) ∧
    (∃ (s : State) (t : Nat) (ev : RaisedEvent) (e : JEntry), s.awake = true ∧ listedCode ev.code = true ∧ ev.code /
      256 ≠ 0x0C ∧ (ev.key.epoch + 512) * 32 ≤ (s.advance t).time.orderNs ∧ (∀ k, s.journal.lastKey = some k → okeyLt
      ev.key k = false) ∧ (s.advance t).reg 0x1200 6 ≤ eventSeverity ev.code ∧ (s.advance t).reg 0x4400 3 ≠ ev.code ∧
      s.journal.held = [e] ∧ e.acked = false ∧ e.ev.key.src = ev.key.src ∧ e.ev.code = ev.code ∧ e.count < 4095 ∧
      s.stat 0x1210 9 + 1 < 2 ^ 64) ∧
    (∃ (s : State) (t : Nat) (ev : RaisedEvent), s.awake = true ∧ listedCode ev.code = true ∧ ev.code / 256 ≠ 0x0C ∧
      (ev.key.epoch + 512) * 32 ≤ (s.advance t).time.orderNs ∧ (s.advance t).reg 0x1200 6 ≤ eventSeverity ev.code ∧ (∀
      k, s.journal.lastKey = some k → okeyLt ev.key k = false) ∧ s.journal.joinable ⟨ev.key, ev.ns, ev.code,
      eventSeverity ev.code, ev.args⟩ = none ∧ (4096 ≤ s.journal.unread 3 ∨ eventSeverity ev.code ≠ 3 ∧ 3840 ≤
      s.journal.unread 2) ∧ s.stat 0x1210 (1 + eventSeverity ev.code) < 0xFFFFFFFE) ∧
    (∃ (s : State) (t : Nat) (ev : RaisedEvent), s.awake = true ∧ listedCode ev.code = true ∧ ev.code / 256 ≠ 0x0C ∧
      (ev.key.epoch + 512) * 32 ≤ (s.advance t).time.orderNs ∧ eventSeverity ev.code < (s.advance t).reg 0x1200 6) ∧
    (∃ (s : State) (t : Nat) (ev : RaisedEvent) (old : Event) (rest : List Event), s.awake = true ∧ listedCode ev.code
      = true ∧ ev.code / 256 ≠ 0x0C ∧ (s.advance t).time.orderNs < (ev.key.epoch + 512) * 32 ∧ (∀ k, s.journal.lastKey
      = some k → okeyLt ev.key k = false) ∧ s.journal.reorder = old :: rest ∧ 1023 ≤ rest.length ∧ (s.advance t).reg
      0x1200 6 ≤ old.sev ∧ (∀ k, s.journal.lastKey = some k → okeyLt old.key k = false)) ∧
    (∃ (s : State) (t : Nat), s.power.phase ≠ .held ∧ (∀ e ∈ s.journal.reorder, (s.advance t).time.orderNs <
      (e.key.epoch + 512) * 32)) ∧
    (∃ (s : State) (t : Nat), s.awake = true) ∧
    (∃ (s : State) (t : Nat) (e : Event), s.awake = true ∧ s.journal.reorder = [e] ∧ (e.key.epoch + 512) * 32 ≤
      (s.advance t).time.orderNs ∧ (s.advance t).reg 0x1200 6 ≤ e.sev ∧ (∀ k, s.journal.lastKey = some k → okeyLt e.key
      k = false) ∧ s.journal.held = []) ∧
    (∃ (s : State) (t : Nat) (e : JEntry) (rest : List JEntry), s.awake = true ∧ s.journal.toPersist = e :: rest ∧ (∀ x
      ∈ s.journal.persistent, x.ev ≠ e.ev)) ∧
    (∃ (s : State) (t : Nat) (e : JEntry) (x : JEntry) (rest : List JEntry), s.awake = true ∧ s.journal.toPersist = e
      :: rest ∧ s.journal.persistent = [x] ∧ x.ev = e.ev) ∧
    (∃ (s : State) (t : Nat), s.power.phase ≠ .held ∧ s.journal.toPersist = []) ∧
    (∃ (s : State) (t : Nat) (n : Nat) (c : Caller), s.awake = true ∧ c.iface ≠ .partner ∧ n < 2 ^ 32 ∧ (s.advance
      t).writeCheck c 0x1200 3 (toLE 4 n) = 0 ∧ s.journal.held ≠ [] ∧ s.journal.age n ≤ s.journal.age s.journal.oldest) ∧
    (∃ (s : State) (t : Nat) (n : Nat) (c : Caller), s.awake = true ∧ c.iface ≠ .partner ∧ n < 2 ^ 32 ∧ (s.advance
      t).writeCheck c 0x1200 3 (toLE 4 n) = 0 ∧ (s.journal.held = [] ∨ s.journal.age s.journal.oldest < s.journal.age
      n)) :=
  ⟨⟨run, 9, rev 0x0199 1 5 0, by decide +kernel⟩,
   ⟨jn (fun j => { j with reorder := [jev 0x101 5 5], lastKey := some ⟨0, 0, 0⟩ }) run, 9, rev 0x0101 3 5 7,
     by decide +kernel⟩,
   ⟨run, 9, rev 0x0C05 3 5 1, by decide +kernel⟩,
   ⟨run, 20000, rev 0x0101 3 5 7, by decide +kernel⟩,
   ⟨jn (fun j => { j with held := [jen 1 0x101 9], lastKey := some ⟨4, 0, 0⟩, nextNo := 2 }) run, 9, rev 0x0201 3 5 7,
     ⟨4, 0, 0⟩, by decide +kernel⟩,
   ⟨jn (fun j => { j with held := [jen 1 0x101 5] }) run, 20000, rev 0x0101 3 5 7, jen 1 0x101 5, by decide +kernel⟩,
   ⟨jn (fun j => { j with held := List.replicate 3840 (jen 1 0x101 5) }) run, 20000, rev 0x0201 3 5 7,
     by decide +kernel⟩,
   ⟨cfg 0x1200 6 2 run, 20000, rev 0x0201 3 5 7, by decide +kernel⟩,
   ⟨jn (fun j => { j with reorder := jev 0x101 1 5 :: List.replicate 1023 (jev 0x102 2 5) }) run, 9, rev 0x0201 3 5 7,
     jev 0x101 1 5, List.replicate 1023 (jev 0x102 2 5), by decide +kernel⟩,
   ⟨jn (fun j => { j with reorder := [jev 0x101 5 5] }) run, 9, by decide +kernel⟩,
   ⟨jn (fun j => { j with reorder := [jev 0x101 5 5, jev 0x101 9999 5] }) run, 20000, by decide +kernel⟩,
   ⟨jn (fun j => { j with reorder := [jev 0x101 5 5] }) run, 20000, jev 0x101 5 5, by decide +kernel⟩,
   ⟨jn (fun j => { j with toPersist := [jen 1 0x101 5], persistent := [jen 1 0x102 5] }) run, 9, jen 1 0x101 5, [],
     by decide +kernel⟩,
   ⟨jn (fun j => { j with toPersist := [{ jen 7 0x101 5 with count := 4 }], persistent := [jen 1 0x101 5] }) run, 9,
     { jen 7 0x101 5 with count := 4 }, jen 1 0x101 5, [], by decide +kernel⟩,
   ⟨run, 9, by decide +kernel⟩,
   ⟨jn (fun j => { j with held := [jen 1 0x101 5, jen 2 0x101 5] }) run, 9, 1, firm, by decide +kernel⟩,
   ⟨jn (fun j => { j with held := [jen 4 0x101 5, jen 5 0x101 5] }) run, 9, 3, firm, by decide +kernel⟩⟩

/-- Every clause of SnapshotsImagesAndMeasurements with conditions has a state and operands that meet them together. -/
theorem test_meets_SnapshotsImagesAndMeasurements :
    (∃ (s : State) (t : Nat) (idx : Nat) (sub : Nat) (c : Caller), s.awake = true ∧ c.iface ≠ .partner ∧ (s.advance
      t).readCheck c idx sub = 0 ∧ (groupRange idx sub).isSome = true ∧ s.follows = false ∧ s.snapshot c (groupName idx
      sub) = none) ∧
    (∃ (s : State) (t : Nat) (idx : Nat) (sub : Nat) (v : Nat) (c : Caller) (rest : List (Nat × Nat)), s.awake = true ∧
      c.iface ≠ .partner ∧ (s.advance t).readCheck c idx sub = 0 ∧ (groupRange idx sub).isSome = true ∧ s.follows =
      false ∧ s.snapshot c (groupName idx sub) = some ⟨c, groupName idx sub, (dkey idx sub, v) :: rest⟩ ∧ (∀ x ∈ rest,
      x.1 ≠ dkey idx sub)) ∧
    (∃ (s : State) (t : Nat) (idx : Nat) (sub : Nat) (c : Caller), s.awake = true ∧ c.iface ≠ .partner ∧ (s.advance
      t).readCheck c idx sub = 0 ∧ groupRange idx sub = none) ∧
    (∃ (s : State) (t : Nat) (b : Nat) (c : Caller), s.awake = true ∧ c.iface ≠ .partner ∧ b < 2 ^ 64 ∧ (s.advance
      t).writeCheck c 0x1200 0x10 (toLE 8 b) = 0 ∧ s.journal.request = none ∧ (s.advance t).keyEpoch + 4 ≤ b) ∧
    (∃ (s : State) (t : Nat) (b : Nat) (c : Caller), s.awake = true ∧ c.iface ≠ .partner ∧ b < 2 ^ 64 ∧ (s.advance
      t).writeCheck c 0x1200 0x10 (toLE 8 b) = 0 ∧ s.journal.request = none ∧ b < (s.advance t).keyEpoch + 4) ∧
    (∃ (s : State) (t : Nat) (b : Nat) (x : Nat) (c : Caller), s.awake = true ∧ c.iface ≠ .partner ∧ b < 2 ^ 64 ∧
      (s.advance t).writeCheck c 0x1200 0x10 (toLE 8 b) = 0 ∧ s.journal.request = some x) ∧
    (∃ (s : State) (t : Nat) (b : Nat), s.awake = true ∧ s.journal.request = some b ∧ b * 32 ≤ (s.advance
      t).time.orderNs) ∧
    (∃ (s : State) (t : Nat), s.power.phase ≠ .held ∧ (∀ b, s.journal.request = some b → (s.advance t).time.orderNs < b
      * 32)) ∧
    (∃ (s : State) (t : Nat) (temps : List Int) (mvs : List Nat), s.awake = true) ∧
    (∃ (s : State) (t : Nat) (ppms : List Nat) (mean : Int), s.awake = true ∧ (∀ k, k < 8 → (s.advance t).reg 0xC300
      0x30 ≤ 1000 - 1000 * nth ppms k 0 / (Config.ageLimit k).toNat) ∧ s.stat 0xC300 0x28 < 0xFFFFFFFE ∧ s.stat 0xC300
      (0x29 + temperatureBand mean) < 0xFFFFFFFE) ∧
    (∃ (s : State) (t : Nat) (n : Nat) (busy : Nat), s.awake = true ∧ n < 24) ∧
    (∃ (s : State) (t : Nat) (n : Nat) (busy : Nat), 24 ≤ n) ∧
    (∃ (s : State) (t : Nat) (errs : List Nat) (bits : List Nat), s.awake = true) :=
  ⟨⟨st 0x3080 2 44 (st 0x3080 1 33 run), 9, 0x3080, 1, host, by decide +kernel⟩,
   ⟨st 0x3080 1 33 (jn (fun j =>
     { j with snapshots := [⟨host, dkey 0x3080 1, [(dkey 0x3080 1, 5), (dkey 0x3080 2, 6)]⟩] }) run), 9, 0x3080, 1, 5,
     host, [(dkey 0x3080 2, 6)], by decide +kernel⟩,
   ⟨run, 9, 0x6000, 1, host, by decide +kernel⟩,
   ⟨run, 9, 5, host, by decide +kernel⟩,
   ⟨run, 9, 4, host, by decide +kernel⟩,
   ⟨jn (fun j => { j with request := some 9 }) run, 9, 1000, 9, host, by decide +kernel⟩,
   ⟨st 0x3080 1 33 (st 0x3080 6 33 (jn (fun j => { j with request := some 9 }) run)), 288, 9, by decide +kernel⟩,
   ⟨jn (fun j => { j with request := some 9 }) run, 287, by decide +kernel⟩,
   ⟨st 0xC300 9 400 run, 9, [-5, 6, 7, 8, 500, 10, 11, 12], [1, 2, 3, 4, 5, 6, 7, 8, 9, 10], by decide +kernel⟩,
   ⟨cfg 0xC300 0x30 0 run, 9, [0, 0, 0, 0, 0, 0, 0, 0], -3, by decide +kernel⟩,
   ⟨run, 9, 23, 50000000, by decide +kernel⟩,
   ⟨run, 9, 24, 5, by decide +kernel⟩,
   ⟨st 0x9100 4 2 (st 0x3047 1 3 run), 9, [1, 2, 3, 4, 5, 6, 7, 8, 9, 10], [1, 2, 3, 4, 5, 6, 7, 8, 9, 10],
     by decide +kernel⟩⟩

/-- Every clause of HostRegistersAndDictionaryRings with conditions has a state and operands that meet them together. -/
theorem test_meets_HostRegistersAndDictionaryRings :
    (∃ (s : State) (t : Nat) (v : Nat), s.awake = true ∧ s.host.linkUp = true ∧ bitOf s.host.drCtrl 0 = false) ∧
    (∃ (s : State) (t : Nat) (v : Nat), s.awake = true ∧ s.host.linkUp = true ∧ bitOf s.host.drCtrl 0 = false) ∧
    (∃ (s : State) (t : Nat) (v : Nat) (x : Nat), s.awake = true ∧ s.host.linkUp = true ∧ bitOf s.host.drCtrl 0 = false
      ∧ s.host.half = some (0, 8, x)) ∧
    (∃ (s : State) (t : Nat) (v : Nat) (n : Nat), s.awake = true ∧ s.host.linkUp = true ∧ n < 16 ∧ s.host.tx.length =
      16 ∧ bitOf (s.ring false n).ctrl 0 = false) ∧
    (∃ (s : State) (t : Nat) (bar : Nat) (off : Nat) (width : Nat) (v : Nat), s.awake = true ∧ s.host.linkUp = true ∧
      s.badWrite bar off width v = true ∧ s.journal.reorder = [] ∧ s.journal.lastKey = none ∧ (s.advance
      t).time.orderNs < (((s.advance t).nextKey 0x0200).epoch + 512) * 32) ∧
    (∃ (s : State) (t : Nat) (bar : Nat) (off : Nat) (width : Nat) (v : Nat), s.power.phase ≠ .held ∧ s.host.linkUp =
      false) ∧
    (∃ (s : State) (t : Nat) (bar : Nat) (off : Nat) (width : Nat) (v : Nat), s.awake = true ∧ s.host.linkUp = true ∧
      s.badWrite bar off width v = true ∧ s.journal.reorder = [] ∧ s.journal.lastKey = none ∧ (s.advance
      t).time.orderNs < (((s.advance t).nextKey 0x0200).epoch + 512) * 32) ∧
    (∃ (s : State) (t : Nat) (bar : Nat) (off : Nat) (width : Nat) (v : Nat), s.power.phase ≠ .held ∧ s.badWrite bar
      off width v = false) ∧
    (∃ (s : State) (t : Nat), s.awake = true ∧ s.host.linkUp = true ∧ bitOf s.host.drCtrl 0 = false) ∧
    (∃ (s : State) (t : Nat), s.awake = true ∧ s.host.linkUp = true) ∧
    (∃ (s : State) (t : Nat) (v : Nat) (n : Nat), s.awake = true ∧ s.host.linkUp = true ∧ n < 16 ∧ s.host.tx.length =
      16 ∧ s.host.rx.length = 16 ∧ bitOf v 0 = true ∧ v % 256 / 2 = 0 ∧ v / 4096 = 0) ∧
    (∃ (s : State) (t : Nat) (v : Nat) (n : Nat), 16 ≤ n) ∧
    (∃ (s : State) (t : Nat) (v : Nat) (es : List RingEntry), s.awake = true ∧ s.host.linkUp = true ∧ v <
      s.host.drqSize ∧ s.host.drStatus ≠ 1) ∧
    (∃ (s : State) (t : Nat) (v : Nat) (es : List RingEntry), s.awake = true ∧ s.host.linkUp = true ∧ s.host.drqSize ≤
      v) ∧
    (∃ (s : State) (t : Nat) (tag : Nat), s.awake = true ∧ s.host.linkUp = true ∧ s.host.drStatus = 1 ∧ s.host.requests
      = [] ∧ s.dict.awaiting = [] ∧ tag < 256 ∧ s.host.drqTail + 1 < s.host.drqSize ∧ s.host.drqSize < 65536 ∧
      s.host.drsTail + 1 < s.host.drsSize ∧ s.host.drsHead = s.host.drsTail ∧ s.host.drMod = 0 ∧ s.host.masked = 0 ∧
      s.host.drqHead + 1 < s.host.drqSize) ∧
    (∃ (s : State) (t : Nat) (e : RingEntry), s.awake = true ∧ s.host.linkUp = true ∧ s.host.drStatus = 1 ∧
      s.host.drqTail + 1 < s.host.drqSize ∧ (s.host.drsHead + s.host.drsSize - 1 - s.host.drsTail) % s.host.drsSize ≤
      s.ringWaiting) ∧
    (∃ (s : State) (t : Nat), s.awake = true ∧ s.host.linkUp = true ∧ s.host.drStatus = 1 ∧ s.host.drqTail + 1 <
      s.host.drqSize ∧ s.host.requests = []) ∧
    (∃ (s : State) (t : Nat) (v : Nat), s.awake = true ∧ s.host.linkUp = true ∧ v < s.host.drsSize ∧ s.host.requests =
      []) ∧
    (∃ (s : State) (t : Nat) (tag : Nat), s.awake = true ∧ s.host.linkUp = true ∧ s.host.drStatus = 1 ∧ tag < 256 ∧
      s.host.requests = [⟨[8, BitVec.ofNat 8 tag] ++ List.replicate 30 0, none⟩] ∧ s.dict.awaiting = [] ∧
      s.host.drsTail + 1 < s.host.drsSize ∧ s.host.drMod = 0 ∧ s.host.masked = 0 ∧ s.host.drqHead + 1 < s.host.drqSize) :=
  ⟨⟨lk run, 9, 4096, by decide +kernel⟩,
   ⟨lk run, 9, 4096, by decide +kernel⟩,
   ⟨hst (fun h => { h with half := some (0, 8, 5) }) (lk run), 9, 7, 5, by decide +kernel⟩,
   ⟨lk run, 9, 16, 15, by decide +kernel⟩,
   ⟨lk run, 9, 0, 0x14, 4, 0, by decide +kernel⟩,
   ⟨run, 9, 0, 8, 8, 77, by decide +kernel⟩,
   ⟨lk run, 9, 2, 0x24, 8, 0, by decide +kernel⟩,
   ⟨lk run, 9, 0, 8, 8, 77, by decide +kernel⟩,
   ⟨hst (fun h => { h with drqTail := 3 }) (lk run), 9, by decide +kernel⟩,
   ⟨dic (fun d => { d with awaiting := [⟨host, 0, 0, .ring [] none⟩, ⟨firm, 0, 0, .reply⟩] }) (dr (fun h => h)), 9,
     by decide +kernel⟩,
   ⟨hst (fun h => { h with fetched := [⟨5, 0, 0, 0⟩, ⟨6, 0, 0, 0⟩], posted := [⟨5, 0, 0, 0⟩] }) (lk run), 9, 0x101, 5,
     by decide +kernel⟩,
   ⟨run, 9, 1, 16, by decide +kernel⟩,
   ⟨hst (fun h => { h with drqSize := 8 }) (lk run), 9, 7, [], by decide +kernel⟩,
   ⟨hst (fun h => { h with drqSize := 8 }) (lk run), 9, 8, [], by decide +kernel⟩,
   ⟨dr (fun h => h), 9, 9, by decide +kernel⟩,
   ⟨dr (fun h => { h with drsHead := 1 }), 9, nopEntry, by decide +kernel⟩,
   ⟨dr (fun h => h), 9, by decide +kernel⟩,
   ⟨dr (fun h => h), 9, 7, by decide +kernel⟩,
   ⟨dr (fun h => { h with drsHead := 1, requests := [nopEntry] }), 9, 9, by decide +kernel⟩⟩

/-- Every clause of HostFramesVectorsAndLink with conditions has a state and operands that meet them together. -/
theorem test_meets_HostFramesVectorsAndLink :
    (∃ (s : State) (t : Nat) (n : Nat) (v : Nat), s.awake = true ∧ n < 16 ∧ s.host.tx.length = 16 ∧ s.host.linkUp =
      true ∧ v < (s.ring false n).size) ∧
    (∃ (s : State) (t : Nat) (n : Nat) (v : Nat), s.awake = true ∧ n < 16 ∧ s.host.linkUp = true ∧ (s.ring false
      n).size ≤ v) ∧
    (∃ (s : State) (t : Nat) (n : Nat) (d : TxDescriptor) (x : Nat × List Nat), s.awake = true ∧ n < 16 ∧ (s.advance
      t).portUp 28 = true ∧ s.txPending n = true ∧ s.power.phase ≠ .idle ∧ (s.advance t).descriptorStatus d = 0 ∧
      (s.advance t).drrServe n d.length = some x) ∧
    (∃ (s : State) (t : Nat) (n : Nat) (st : Nat) (d : TxDescriptor) (x : Nat × List Nat), s.awake = true ∧ n < 16 ∧
      s.host.tx.length = 16 ∧ (s.advance t).portUp 28 = true ∧ s.txPending n = true ∧ s.power.phase ≠ .idle ∧
      (s.advance t).descriptorStatus d = st ∧ st ≠ 0 ∧ st ≠ 0x0E ∧ (s.advance t).drrServe n 0 = some x ∧ (s.ring false
      n).refused < 0xFFFFFFFF) ∧
    (∃ (s : State) (t : Nat) (n : Nat) (d : TxDescriptor) (x : Nat × List Nat), s.awake = true ∧ n < 16 ∧
      s.host.tx.length = 16 ∧ (s.advance t).portUp 28 = true ∧ s.txPending n = true ∧ s.power.phase ≠ .idle ∧
      (s.advance t).descriptorStatus d = 0x0E ∧ (s.advance t).drrServe n 0 = some x ∧ (s.ring false n).refused <
      0xFFFFFFFF) ∧
    (∃ (s : State) (t : Nat) (n : Nat) (d : TxDescriptor), s.power.phase ≠ .held ∧ n < 16 ∧ ((s.advance t).portUp 28 =
      false ∨ s.txPending n = false)) ∧
    (∃ (s : State) (t : Nat) (n : Nat) (d : TxDesc), s.awake = true ∧ n < 16 ∧ s.host.tx.length = 16 ∧ s.host.fetched =
      [d] ∧ d.ring = n ∧ bitOf d.flags 3 = false ∧ (s.ring false n).headWb ≠ 0 ∧ (s.ring false n).head + 1 < (s.ring
      false n).size) ∧
    (∃ (s : State) (t : Nat) (n : Nat), s.power.phase ≠ .held ∧ n < 16 ∧ (∀ d ∈ s.host.fetched, d.ring ≠ n)) ∧
    (∃ (s : State) (t : Nat) (n : Nat) (b : Nat × Nat) (c : Nat × Nat), s.awake = true ∧ n < 16 ∧ s.host.rx.length = 16
      ∧ s.host.linkUp = true ∧ (s.ring true n).status = 1 ∧ (s.ring true n).tail + 2 < (s.ring true n).size) ∧
    (∃ (s : State) (t : Nat) (n : Nat) (b : Nat × Nat), s.awake = true ∧ n < 16 ∧ s.host.rx.length = 16 ∧ s.host.linkUp
      = true ∧ (s.ring true n).status = 1 ∧ (s.ring true n).tail + 2 < (s.ring true n).size) ∧
    (∃ (s : State) (t : Nat) (q : Nat) (n : Nat) (c : Copy) (f : Frame) (b : RxBuffer), s.awake = true ∧ q < 8 ∧
      s.basin.tx.length = 32 ∧ s.host.rx.length = 16 ∧ (s.advance t).rxServes = true ∧ s.basin.copies = [c] ∧ c.port =
      28 ∧ c.queue = q ∧ c.kind = .plain ∧ c.cut = false ∧ s.frame c.frame = some f ∧ (s.advance t).headDrop c = none ∧
      (s.advance t).headState 28 q c f = .yes ∧ (s.ptx 28).cur = none ∧ (s.ptx 28).held = none ∧ s.readFault f none =
      none ∧ (s.advance t).secyOn 28 = false ∧ (s.advance t).rxRing q f = n ∧ (s.ring true n).status = 1 ∧
      s.host.posted = [b] ∧ b.ring = n ∧ ((s.advance t).hostOctets f c).length ≤ b.len ∧ (s.ring true n).headWb = 0 ∧
      (s.ring true n).head + 1 < (s.ring true n).size) ∧
    (∃ (s : State) (t : Nat) (q : Nat) (c : Copy) (f : Frame), s.awake = true ∧ q < 8 ∧ s.host.rx.length = 16 ∧
      (s.advance t).rxServes = true ∧ s.basin.copies = [c] ∧ c.port = 28 ∧ c.queue = q ∧ s.frame c.frame = some f ∧
      (s.advance t).headDrop c = none ∧ (s.advance t).headState 28 q c f = .yes ∧ (s.ptx 28).cur = none ∧ (s.ptx
      28).held = none ∧ s.host.posted = [] ∧ c.id ∉ s.host.starved ∧ (s.ring true ((s.advance t).rxRing q f)).refused <
      0xFFFFFFFF ∧ (s.advance t).rxRing q f < 16) ∧
    (∃ (s : State) (t : Nat) (q : Nat), s.awake = true ∧ q < 8 ∧ (s.advance t).portUp 28 = false ∧ (∀ c ∈
      s.basin.copies, c.port ≠ 28)) ∧
    (∃ (s : State) (t : Nat) (v : Nat), s.awake = true ∧ v < 64 ∧ bitOf s.host.masked v = false ∧ (kget (fun _ => (⟨0,
      0⟩ : VectorMod)) s.host.mods v).count ≠ 0 ∧ s.vectorMod v / 65536 ≠ 0 ∧ (kget (fun _ => (⟨0, 0⟩ : VectorMod))
      s.host.mods v).since + s.vectorMod v / 65536 * 1000 ≤ (s.advance t).time.raw) ∧
    (∃ (s : State) (t : Nat) (v : Nat), s.power.phase ≠ .held ∧ v < 64 ∧ ((kget (fun _ => (⟨0, 0⟩ : VectorMod))
      s.host.mods v).count = 0 ∨ (s.advance t).time.raw < (kget (fun _ => (⟨0, 0⟩ : VectorMod)) s.host.mods v).since +
      s.vectorMod v / 65536 * 1000)) ∧
    (∃ (s : State) (t : Nat), s.awake = true ∧ s.access.sessions.length = 8) ∧
    (∃ (s : State) (t : Nat) (lanes : Nat) (gen : Nat), s.awake = true ∧ s.host.linkUp = false ∧ (lanes = 1 ∨ lanes = 2
      ∨ lanes = 4) ∧ 1 ≤ gen ∧ gen ≤ 4) ∧
    (∃ (s : State) (t : Nat) (lanes : Nat) (gen : Nat), s.power.phase ≠ .held ∧ s.host.linkUp = true ∧ (lanes = 1 ∨
      lanes = 2 ∨ lanes = 4) ∧ 1 ≤ gen ∧ gen ≤ 4) ∧
    (∃ (s : State) (t : Nat) (lanes : Nat) (gen : Nat), (lanes ≠ 1 ∧ lanes ≠ 2 ∧ lanes ≠ 4 ∨ gen = 0 ∨ 4 < gen)) :=
  ⟨⟨hp (fun h => h), 9, 2, 7, by decide +kernel⟩,
   ⟨hp (fun h => h), 9, 2, 8, by decide +kernel⟩,
   ⟨hp (fun h => { h with drrTurn := 2, deficits := modNth h.deficits 2 (fun _ => 2048) }), 1000, 2, td, (2, modNth
     (List.replicate 16 0) 2 (fun _ => 1984)), by decide +kernel⟩,
   ⟨hp (fun h => { h with drrTurn := 2 }), 1000, 2, 4, { td with length := 13 }, (2, List.replicate 16 0),
     by decide +kernel⟩,
   ⟨hp (fun h => { h with drrTurn := 2 }), 1000, 2, { td with readOk := false }, (2, List.replicate 16 0),
     by decide +kernel⟩,
   ⟨hp (fun h => h), 9, 3, td, by decide +kernel⟩,
   ⟨hp (fun h => { h with tx := modNth h.tx 2 (fun r => { r with headWb := 64 }), fetched := [⟨2, 0, 4, 0⟩] }), 9, 2,
     ⟨2, 0, 4, 0⟩, by decide +kernel⟩,
   ⟨hp (fun h => { h with fetched := [⟨2, 0, 4, 0⟩] }), 9, 3, by decide +kernel⟩,
   ⟨hp (fun h => h), 9, 3, (4096, 256), (8192, 512), by decide +kernel⟩,
   ⟨hp (fun h => h), 9, 3, (4096, 256), by decide +kernel⟩,
   ⟨bas (fun x => { x with frames := [fr 1 7], copies := [cp 1 28 3] }) (hp (fun h =>
     { h with posted := [⟨3, 0, 4096, 256⟩] })), 1000, 3, 3, cp 1 28 3, fr 1 7, ⟨3, 0, 4096, 256⟩, by decide +kernel⟩,
   ⟨bas (fun x => { x with frames := [fr 1 7], copies := [cp 1 28 3] }) (hp (fun h => h)), 1000, 3, cp 1 28 3, fr 1 7,
     by decide +kernel⟩,
   ⟨run, 9, 3, by decide +kernel⟩,
   ⟨hp (fun h => { h with mods := [(10, ⟨2, 5⟩)], tx := modNth h.tx 2 (fun r => { r with mod := 65536 }) }), 1005, 10,
     by decide +kernel⟩,
   ⟨hp (fun h => { h with mods := [(10, ⟨2, 5⟩)], tx := modNth h.tx 2 (fun r => { r with mod := 65536 }) }), 1004, 10,
     by decide +kernel⟩,
   ⟨ses 1 (hostSes 2) (dic (fun d => { d with awaiting := [⟨host, 0, 0, .reply⟩, ⟨firm, 0, 0, .reply⟩] }) (stg host []
     (hp (fun h => { h with drCtrl := 1 })))), 9, by decide +kernel⟩,
   ⟨cfg 0x301C 1 1 run, 9, 4, 4, by decide +kernel⟩,
   ⟨lk run, 9, 2, 3, by decide +kernel⟩,
   ⟨run, 9, 3, 4, by decide +kernel⟩⟩

end Tests
end

section
/-! O40: a lost event of no severity of Table 17.1 counts in an entry of another object. -/

namespace Sys2Proof.Machine

open Sys2Proof

/-! ### A journal that loses an event of an unlisted severity

The count of a lost event stands in `1210h.(1 + severity)` (R413). The severity of a buffered event is a plain number of the
state, so that sub-index can run past the object, and the count then falls into the entry of another one. -/

/-- The severity whose lost events the model counts in the entry `idx.sub`, for an object past 1210h. -/
def lossSeverity (idx sub : Nat) : Nat := dkey idx sub - dkey 0x1210 1

/-- A buffered event of severity `sev`. -/
def bufferedEvent (sev : Nat) : Event := ⟨OKey.zero, 0, 0x0601, sev, 0⟩

/-- A journal with no room below severity 3, whose reorder buffer is full and holds an event of severity `sev` first: the next
event to arrive makes it commit that one (R410), which is lost (R413). -/
def crowdedJournal (sev : Nat) : Journal :=
  { Journal.reset with
    reorder := bufferedEvent sev :: List.replicate 1023 (bufferedEvent 1),
    held := List.replicate 3840 ⟨1, bufferedEvent 1, 4095, false, false⟩ }

/-- The device in RUN, else as after reset, with a journal whose next loss counts in the entry `idx.sub`. -/
def crowdedState (idx sub : Nat) : State :=
  { State.reset with
    power := { Power.reset with phase := .run },
    journal := crowdedJournal (lossSeverity idx sub) }

/-! ### PROCESSOR_FAILURE -/

/-- A processor in service fails on a device that is awake (R296). -/
theorem exec_processorFailure (s : State) (t n : Nat) (hawake : s.awake = true) (hn : n < 32)
    (hin : bitOf s.fordMask n = true) : exec (.processorFailure t n) s = .next ((s.advance t).failProcessor n) := by
  have hin' : bitOf (s.advance t).fordMask n = true := hin
  show execProcessorFailure t n s = _
  rw [execProcessorFailure, happen_awake t _ s _ (decide_eq_true hn) hawake, if_pos hin']

/-- Processor 31 fails, which leaves the 31 others in service (0x7FFFFFFF); the event of the failure makes the journal lose the
first buffered one, and its count is one more in `8300h.01`. -/
theorem fordMask_failProcessor_crowded :
    (((crowdedState 0x8300 1).advance 0).failProcessor 31).fordMask = clearBitAt (crowdedState 0x8300 1).fordMask 31 + 1 := by
  decide +kernel

/-- Refutes O40, in clause (8): the failure of an idle processor need not leave exactly the other processors in service. The clause
speaks of every state, and so also of one whose full reorder buffer holds an event of no severity of Table 17.1. -/
theorem not_fordWorksInKeyOrder : ¬ Obligations.FordWorksInKeyOrder := by
  unfold Obligations.FordWorksInKeyOrder
  rintro ⟨-, -, -, -, -, -, -, hfailure, -⟩
  have hawake : (crowdedState 0x8300 1).awake = true := by decide +kernel
  have hin : bitOf (crowdedState 0x8300 1).fordMask 31 = true := by decide +kernel
  obtain ⟨u, hu, hmask, -⟩ :=
    hfailure (crowdedState 0x8300 1) 0 31 hawake (by decide) hin rfl (by decide +kernel)
  rw [exec_processorFailure _ 0 31 hawake (by decide) hin] at hu
  obtain rfl := Host.Outcome.next.inj hu
  rw [fordMask_failProcessor_crowded] at hmask
  exact Nat.succ_ne_self _ hmask

end Sys2Proof.Machine
end

section
/-! O6: the state after reset. -/

namespace Sys2Proof.Machine

open Sys2Proof

/-- After reset no session lives. -/
theorem sessions_reset_closed : ∀ x ∈ State.reset.access.sessions, x.state = 0 :=
  fun _ hx => congrArg Session.state (List.eq_of_mem_replicate hx)

/-- Settles O6: each field of the state after reset is what the statement says, by evaluation. -/
theorem resetState : Obligations.ResetState :=
  ⟨rfl, rfl, rfl, rfl, rfl, rfl, rfl, rfl, rfl, rfl, sessions_reset_closed, rfl, rfl, rfl, rfl, rfl⟩

end Sys2Proof.Machine
end

section
/-! O8: what a command's answer does to the raw counter. -/

namespace Sys2Proof.Machine

open Sys2Proof

/-! ### The raw counter after a command (R81) -/

/-- The answer `o` to a command of tick `t` leaves the raw counter at the later of the tick and what it was, or as it was while
the device is held in reset, or at zero where the command may reset the device (`clears`). -/
def RawFollows (s : State) (t : Nat) (clears : Bool) (o : Out) : Prop :=
  ∀ u, o = .next u → u.time.raw = max s.time.raw t ∨ (s.power.phase = .held ∧ u.time.raw = s.time.raw) ∨
    (clears = true ∧ u.time.raw = 0)

/-- A state that stays as it is goes onward. -/
theorem onward_of_eq {s u : State} (h : u = s) : s.onward u := h ▸ onward_refl s

/-- What goes onward leaves the raw counter alone. -/
theorem onward_raw {s u : State} (h : s.onward u) : u.time.raw = s.time.raw :=
  have ⟨_, _, hraw, _⟩ := h
  hraw

/-- A reset leaves the raw counter at zero. -/
theorem resetShape_raw {s u : State} (h : u.shape = s.resetShape) : u.time.raw = 0 := congrArg (fun p => p.2.2.1) h

section Answers

variable {t : Nat} {clears unitExists : Bool} {c : Caller} {s : State} {f : State → State}

/-- Time passes before the effect of a command, which goes onward or resets the device. -/
theorem rawFollows_happenAny (h : ∀ x : State, x.onward (f x) ∨ (clears = true ∧ (f x).shape = x.resetShape)) :
    RawFollows s t clears (happenAny t unitExists s f) := by
  intro u hu
  cases unitExists with
  | false => cases hu
  | true =>
    by_cases hheld : s.power.phase = .held
    · simp only [happenAny, if_true, hheld, Host.Outcome.next.injEq] at hu
      exact .inr (.inl ⟨hheld, by rw [hu]⟩)
    · rw [happenAny_next t true s f rfl hheld] at hu
      obtain rfl := Host.Outcome.next.inj hu
      rcases h (s.advance t) with honward | ⟨hclears, hreset⟩
      · exact .inl ((onward_raw honward).trans (advance_raw s t))
      · exact .inr (.inr ⟨hclears, resetShape_raw hreset⟩)

/-- The same, for a command to a unit that needs the device awake. -/
theorem rawFollows_happen (h : ∀ x : State, x.onward (f x) ∨ (clears = true ∧ (f x).shape = x.resetShape)) :
    RawFollows s t clears (happen t unitExists s f) := by
  refine rawFollows_happenAny fun x => ?_
  split
  · exact h x
  · exact .inl (onward_refl x)

/-- The same, for a request, which an unpaired partner does not get served. -/
theorem rawFollows_happenBy (h : ∀ x : State, x.onward (f x) ∨ (clears = true ∧ (f x).shape = x.resetShape)) :
    RawFollows s t clears (happenBy c t unitExists s f) := by
  refine rawFollows_happen fun x => ?_
  split
  · exact .inl (onward_of_shape (by simp))
  · exact h x

end Answers

/-- POWER_ON_RESET clears the raw counter. -/
theorem rawFollows_powerOnReset (s : State) (t : Nat) : RawFollows s t true (execPowerOnReset t s) := by
  rintro u ⟨⟩
  exact .inr (.inr ⟨rfl, resetShape_raw (holdReset_shape _ 0)⟩)

/-- RESET_RELEASE samples the strap of a held device, carries out a reset that is due, or lets time pass. -/
theorem rawFollows_resetRelease (s : State) (t : Nat) (strap : Bool) :
    RawFollows s t true (execResetRelease t strap s) := by
  rintro u ⟨⟩
  unfold resetRelease
  split
  next hheld => exact .inr (.inl ⟨hheld, rfl⟩)
  split
  · split
    · exact .inr (.inr ⟨rfl, resetShape_raw (resetWith_shape _ _)⟩)
    · exact .inl (advance_raw s t)
  · exact .inl (advance_raw s t)

/-- Each command makes the raw counter follow its tick: most effects keep the shape, four may move order time onward, and only
the commands that reset the device can clear it. -/
theorem rawFollows_exec (s : State) (i : Instr) : RawFollows s i.tick (clearsTime i) (exec i s) := by
  cases i with dsimp only [exec, Instr.tick, clearsTime]
  | powerOnReset t => exact rawFollows_powerOnReset s t
  | resetRelease t strap => exact rawFollows_resetRelease s t strap
  | warmResetPin t => exact rawFollows_happenAny fun x => .inr ⟨rfl, holdReset_shape x 1⟩
  | railsGood t macOk => exact rawFollows_happenAny fun x => (railsGood_cases macOk x).imp onward_of_eq (⟨rfl, ·⟩)
  | fatalResetHoldEnd t => exact rawFollows_happen fun x => (fatalResetHoldEnd_cases x).imp onward_of_eq (⟨rfl, ·⟩)
  | timeCorrectionApply t n => exact rawFollows_happen fun x => .inl (onward_applyCorrections n x)
  | commitApply t => exact rawFollows_happen fun x => .inl (onward_commitApply x)
  | selfTestEnd t results procs banks =>
    exact rawFollows_happen fun x => .inl (onward_selfTestEnd results procs banks x)
  | syncingReload t => exact rawFollows_happen fun x => .inl (onward_syncingReload x)
  | canTransmitComplete | busOff | tamperAlarm | quietRoute | wakeSource | railsTimeout =>
    exact rawFollows_happenAny fun x => .inl (onward_of_shape (by simp))
  | processorRetest | read | write | readSeg | writeSeg | sessionClose | nop | lookup | insert | replace | delete | readRow |
    nextRow | clear | discardStaging | executeCommit | imageUpload | imageActivate | closeSession | rateWrite | stepWrite |
    loadWrite | fallbackIncrementWrite | txStampRead | captureRead | indirectRead | indirectWrite | tdrStart | tc10Sleep |
    tc10Wake | bankRetire | ledgerRestart | ledgerFreeze | recover | planSwapNow | detach | allowPairing | resynchronise |
    failNoticeCommand | releaseSemaphore | split | rejoin | restart | acknowledgeFault | inputRecordRead | watchdogService |
    advanceRollback | revokeRootKey | extendMr7 | debugResponse | generateStatement | updateMessage | tamperAcknowledge |
    enterIdle | returnToRun | enterQuiet | enterSleep | resetCommand | journalAcknowledge | counterGroupRead | snapshotRequest =>
    exact rawFollows_happenBy fun x => .inl (onward_of_shape (by simp))
  | _ => exact rawFollows_happen fun x => .inl (onward_of_shape (by simp))

/-- Settles O8: the raw counter follows the ticks of the commands alone. -/
theorem nothingAltersTheRawCounter : Obligations.NothingAltersTheRawCounter :=
  fun s u i h => rawFollows_exec s i u h

end Sys2Proof.Machine
end

section
/-! O16 and O17: writes of a rate, a step, a load and a fall-back increment. -/

namespace Sys2Proof.Machine

open Sys2Proof

/-! ### Accepted writes of the time base (R84, R85, R87, R88) -/

/-- A write that the checks accept is of an entry that exists. -/
theorem entryDef_of_writeCheck {s : State} {c : Caller} {idx sub : Nat} {data : Bytes}
    (h : s.writeCheck c idx sub data = 0) : ∃ e, entryDef idx sub = some e := by
  cases he : entryDef idx sub with
  | some e => exact ⟨e, rfl⟩
  | none =>
    unfold State.writeCheck State.writeStatus at h
    rw [he] at h
    dsimp only at h
    split at h <;> contradiction

/-- `u` is `s` with a correction of set `n` that waits under the key of `c`'s request, whose response waits as well. -/
def CorrectionWaits (s : State) (c : Caller) (n : Nat) (kind : CorrKind) (v : Int) (u : State) : Prop :=
  u.accepted c = true ∧
  (∃ x ∈ u.time.corrections, x.set = n ∧ x.kind = kind ∧ x.val = v ∧
    x.key.epoch = (s.nextKey (ifaceSource c.iface)).epoch) ∧
  u.time.sets = s.time.sets ∧ u.basin = s.basin ∧ u.ports = s.ports ∧ u.legacy = s.legacy ∧ u.keys = s.keys ∧
  u.power = s.power ∧ u.host = s.host

/-- An accepted write whose effect is to schedule a correction leaves that correction waiting, and no time set moved. -/
theorem dictWrite_schedule_waits (s : State) (c : Caller) (idx sub n : Nat) (data : Bytes) (extra : State → Nat → Nat)
    (kind : CorrKind) (val : Nat → Int) (h : s.writeCheck c idx sub data = 0)
    (hx : extra (s.afterKey c 2 idx sub data) (leNat data) = 0) :
    CorrectionWaits s c n kind (val (leNat data))
      (s.dictWrite c idx sub data extra (fun v s => s.schedule c n kind (val v))) := by
  obtain ⟨e, he⟩ := entryDef_of_writeCheck h
  rw [dictWrite_accepted s c idx sub data extra _ e he h hx]
  refine ⟨storeWrite_accepted _ c _ idx sub e _, ⟨_, mem_insertByKey.mpr (.inl rfl), rfl, rfl, rfl, ?_⟩, ?_⟩
  · dsimp only
    rw [lastKey_storeWrite, lastKey_afterKey]
  · simp [State.schedule]

/-- The request that schedules a correction, on a device that is awake. -/
theorem scheduleRequest_answers {s : State} {t idx sub n : Nat} {c : Caller} {data : Bytes} {extra : State → Nat → Nat}
    (kind : CorrKind) (val : Nat → Int) (hawake : s.awake = true) (hn : n < 4) (hp : c.iface ≠ .partner)
    (h : (s.advance t).writeCheck c idx sub data = 0)
    (hx : extra ((s.advance t).afterKey c 2 idx sub data) (leNat data) = 0) :
    ∃ u, happenBy c t (decide (n < 4)) s
        (fun s => s.dictWrite c idx sub data extra (fun v s => s.schedule c n kind (val v))) = .next u ∧
      CorrectionWaits (s.advance t) c n kind (val (leNat data)) u :=
  happenBy_answers (decide_eq_true hn) hawake hp (dictWrite_schedule_waits _ c idx sub n data extra kind val h hx)

/-- Keying a request moves no time, so a step is refused after it as before (R83). -/
theorem stepStatus_afterKey (s : State) (c : Caller) (op i j : Nat) (d : Bytes) (n v : Nat) :
    (s.afterKey c op i j d).stepStatus n v = s.stepStatus n v := by
  rw [State.stepStatus, State.stepsAhead, afterKey_reg, afterKey_time, afterKey_timeSet]
  rfl

/-- Settles O16: the four requests differ in the entry, the kind of the correction and how its value is read. -/
theorem timeWritesWaitForTheirTick : Obligations.TimeWritesWaitForTheirTick :=
  ⟨fun _ _ _ _ _ hawake hn hp h => scheduleRequest_answers .rate (sgnOf 32) hawake hn hp h rfl,
   fun _ _ n c data hawake hn hp h hstep => scheduleRequest_answers .step (sgnOf 64) hawake hn hp h
     (hstep ▸ stepStatus_afterKey _ c 2 0x2002 (n + 1) data n (leNat data)),
   fun _ _ _ _ _ hawake hn hp h => scheduleRequest_answers .load (fun v => (time80Ns v : Int)) hawake hn hp h rfl,
   fun _ _ _ _ _ hawake hn hp h => scheduleRequest_answers .fallback (fun v => (v : Int)) hawake hn hp h rfl⟩

/-! ### Steps that are refused (R83) -/

/-- With backward steps permitted, a negative step beyond the reading less the steps accepted before is refused. -/
theorem stepStatus_below_zero {s : State} {n v : Nat} (hback : s.reg 0x2000 2 = 1) (hneg : sgnOf 64 v < 0)
    (hbelow : (s.timeSet n).q32 s.time.raw / 65536 - s.stepsAhead n < -sgnOf 64 v) : s.stepStatus n v = 5 :=
  if_pos ⟨hneg, hback, hbelow⟩

/-- Settles O17: the step's own condition refuses the write, which then changes no time and leaves no response waiting. -/
theorem negativeTimeIsRefused : Obligations.NegativeTimeIsRefused := by
  intro s t n c data hawake hn hp hcheck hback hneg hbelow
  have hstatus : ((s.advance t).afterKey c 2 0x2002 (n + 1) data).stepStatus n (leNat data) = 5 :=
    (stepStatus_afterKey ..).trans (stepStatus_below_zero hback hneg hbelow)
  dsimp only [exec, execStepWrite]
  refine happenBy_answers (decide_eq_true hn) hawake hp ?_
  rw [State.reqStepWrite, dictWrite_extra _ c _ _ data _ _ hcheck (by rw [hstatus]; decide), hstatus]
  refine ⟨replyOf_reply .., ?_⟩
  split <;> simp [State.reply, State.withhold, State.count64, State.setStat]

end Sys2Proof.Machine
end

section
/-! O18: TIME_CORRECTION_APPLY and SLEW_END. -/

namespace Sys2Proof.Machine

open Sys2Proof

/-! ### One due correction that order time does not follow (R85) -/

/-- What a correction makes of a set at the present raw tick, under the slew limit and the permission of backward steps. -/
def State.corrected (s : State) (x : Correction) (ts : TimeSet) : TimeSet :=
  ts.correct s.time.raw (s.reg 0x2000 3) (decide (s.reg 0x2000 2 = 1)) x

/-- A correction of a set that is not the working clock, or of a rate, moves no reading that order time follows: it changes that
set alone. -/
theorem applyCorrection_quiet (s : State) (x : Correction) (h : x.set ≠ s.time.working ∨ x.kind = .rate) :
    (s.applyCorrection x).time = (s.modSet x.set (s.corrected x)).time ∧ (s.applyCorrection x).legacy = s.legacy ∧
      (s.applyCorrection x).keys = s.keys ∧ (s.applyCorrection x).ports = s.ports ∧
      (s.applyCorrection x).power = s.power := by
  have hquiet : s.applyCorrection x =
      if ((s.modSet x.set (s.corrected x)).timeSet x.set).slewRem = 0 then s.modSet x.set (s.corrected x)
      else (s.modSet x.set (s.corrected x)).orStat 0x2000 7 (2 <<< x.set) := by
    unfold State.applyCorrection
    rcases h with hset | hkind
    · exact if_neg hset
    · dsimp only
      rw [hkind]
      exact ite_self _
  rw [hquiet]
  split <;> exact ⟨rfl, rfl, rfl, rfl, rfl⟩

/-- The due corrections of a set are applied at a raw tick that is a multiple of 256, and are then no longer among those that
wait; here there is one. -/
theorem applyCorrections_single {s : State} {n : Nat} {x : Correction} (hraw : s.time.raw % 256 = 0)
    (hdue : s.time.corrections.filter (fun y => s.correctionDue n y) = [x]) :
    applyCorrections n s = ({ s with time := { s.time with
      corrections := s.time.corrections.filter (fun y => !s.correctionDue n y) } } : State).applyCorrection x := by
  unfold applyCorrections
  rw [if_pos hraw, hdue]
  rfl

/-- The number of time sets stays while time passes. -/
@[simp] theorem length_sets_advance (s : State) (t : Nat) : (s.advance t).time.sets.length = s.time.sets.length := by
  simp [State.advance]

/-- TIME_CORRECTION_APPLY with one due correction, of a set that is not the working clock or of the rate. -/
theorem timeCorrectionApply_answers {s : State} {t n : Nat} {x : Correction} (hawake : s.awake = true) (hn : n < 4)
    (hlen : s.time.sets.length = 4) (hraw : (s.advance t).time.raw % 256 = 0)
    (hdue : s.time.corrections.filter (fun y => (s.advance t).correctionDue n y) = [x]) (hset : x.set = n)
    (h : n ≠ s.time.working ∨ x.kind = .rate) :
    ∃ u, exec (.timeCorrectionApply t n) s = .next u ∧
      u.timeSet n = (s.advance t).corrected x ((s.advance t).timeSet n) ∧ u.time.raw = (s.advance t).time.raw ∧
      u.time.corrections = s.time.corrections.filter (fun y => !(s.advance t).correctionDue n y) ∧
      (∀ m, m ≠ n → u.timeSet m = (s.advance t).timeSet m) ∧
      u.legacy = s.legacy ∧ u.keys = s.keys ∧ u.ports = s.ports ∧ u.power = s.power := by
  subst hset
  dsimp only [exec, execTimeCorrectionApply]
  refine happen_answers (decide_eq_true hn) hawake ?_
  rw [applyCorrections_single hraw hdue]
  obtain ⟨htime, hframe⟩ := applyCorrection_quiet { s.advance t with time := { (s.advance t).time with
    corrections := (s.advance t).time.corrections.filter (fun y => !(s.advance t).correctionDue x.set y) } } x h
  refine ⟨?_, ?_, ?_, fun m hm => ?_, hframe⟩
  · rw [State.timeSet, htime]
    exact timeSet_modSet_same (s.advance t) x.set _ (by simpa [hlen] using hn)
  · rw [htime]; rfl
  · rw [htime]; rfl
  · rw [State.timeSet, htime]
    exact timeSet_modSet_ne (s.advance t) x.set m _ hm

/-- SLEW_END with nothing left of a slew: the set is rescaled without its slew term, and nothing else changes (R88). -/
theorem slewEnd_settled {s : State} {n : Nat} (hraw : s.time.raw % 256 = 0) (hrem : (s.timeSet n).slewRem = 0) :
    slewEnd n s = s.modSet n (TimeSet.rescale s.time.raw (fun u => { u with slewTerm := 0 })) :=
  if_pos ⟨hraw, hrem⟩

/-- Settles O18: each clause is what `TimeSet.correct` or `TimeSet.rescale` makes of the one set that changes. -/
theorem correctionsTakeTheirTick : Obligations.CorrectionsTakeTheirTick := by
  refine ⟨?rate, ?step, ?slew, ?slewEnd⟩
  case rate =>
    intro s t n v k hawake hn hlen hraw hdue
    obtain ⟨u, hu, hset, huraw, hcorr, hframe⟩ :=
      timeCorrectionApply_answers hawake hn hlen hraw hdue rfl (.inr rfl)
    obtain ⟨hrate, hq⟩ := correct_rate (s.advance t).time.raw ((s.advance t).reg 0x2000 3)
      (decide ((s.advance t).reg 0x2000 2 = 1)) n v k ((s.advance t).timeSet n)
    exact ⟨u, hu, by rw [hset]; exact hrate, by rw [hset, huraw]; exact hq, hcorr, hframe⟩
  case step =>
    intro s t n d k hawake hn hlen hraw hworking hrem hdue hd
    obtain ⟨u, hu, hset, huraw, -, hframe⟩ :=
      timeCorrectionApply_answers hawake hn hlen hraw hdue rfl (.inl hworking)
    refine ⟨u, hu, ?_, hframe⟩
    rw [hset, huraw]
    exact correct_step _ _ _ n d k _ hrem (hd.imp_right (decide_eq_true ·))
  case slew =>
    intro s t n d k hawake hn hlen hraw hworking hneg hback hdue
    obtain ⟨u, hu, hset, huraw, -, hframe⟩ :=
      timeCorrectionApply_answers hawake hn hlen hraw hdue rfl (.inl hworking)
    have hcorrect : u.timeSet n = ((s.advance t).timeSet n).correct (s.advance t).time.raw ((s.advance t).reg 0x2000 3)
        false ⟨n, .step, d, k⟩ := by
      rw [hset, State.corrected, hback]
      rfl
    obtain ⟨hq, hslew⟩ := correct_slew (s.advance t).time.raw ((s.advance t).reg 0x2000 3) n d k
      ((s.advance t).timeSet n) hneg
    exact ⟨u, hu, by rw [hcorrect, huraw]; exact hq, hcorrect ▸ hslew, hframe⟩
  case slewEnd =>
    intro s t n hawake hn hlen hraw hrem
    dsimp only [exec, execSlewEnd]
    refine happen_answers (decide_eq_true hn) hawake ?_
    have hset := timeSet_modSet_same (s.advance t) n
      (TimeSet.rescale (s.advance t).time.raw (fun u => { u with slewTerm := 0 })) (by simpa [hlen] using hn)
    rw [slewEnd_settled hraw hrem, hset]
    exact ⟨rfl, q32_rescale _ _ _, rfl⟩

end Sys2Proof.Machine
end

section
/-! O19: the time references, holdover, Follow_Ups and the end of a hold of order time. -/

namespace Sys2Proof.Machine

open Sys2Proof

/-! ### Time sets as time passes -/

/-- Time passing ticks each set. -/
theorem timeSet_advance (s : State) (t n : Nat) :
    (s.advance t).timeSet n = (s.timeSet n).tick (max s.time.raw t - s.time.raw) := by
  have hreset : TimeSet.reset.tick (max s.time.raw t - s.time.raw) = TimeSet.reset := by
    simp [TimeSet.tick, TimeSet.reset]
  show (s.time.sets.map (TimeSet.tick _)).getD n TimeSet.reset = (s.time.sets.getD n TimeSet.reset).tick _
  rw [List.getD_eq_getElem?_getD, List.getD_eq_getElem?_getD, List.getElem?_map]
  cases s.time.sets[n]? with
  | none => exact hreset.symm
  | some ts => rfl

@[simp] theorem timeSet_advance_status (s : State) (t n : Nat) :
    ((s.advance t).timeSet n).status = (s.timeSet n).status := by rw [timeSet_advance]; rfl
@[simp] theorem timeSet_advance_fallMode (s : State) (t n : Nat) :
    ((s.advance t).timeSet n).fallMode = (s.timeSet n).fallMode := by rw [timeSet_advance]; rfl
@[simp] theorem timeSet_advance_rate (s : State) (t n : Nat) :
    ((s.advance t).timeSet n).rate = (s.timeSet n).rate := by rw [timeSet_advance]; rfl

/-! ### Fault inputs -/

/-- A raised input is latched. -/
theorem raiseFault_latched (s : State) (i : Nat) (stays : Bool) : bitOf (s.raiseFault i stays).safety.latched i = true := by
  obtain ⟨-, hlatched, -⟩ := raiseFault_inputs s i stays
  rw [hlatched, bitOf_setBitAt]

/-- A raised input is active while its cause lasts. -/
theorem raiseFault_active (s : State) (i : Nat) : bitOf (s.raiseFault i true).safety.active i = true := by
  obtain ⟨hactive, -⟩ := raiseFault_inputs s i true
  rw [hactive, if_pos rfl, bitOf_setBitAt]

/-! ### Holdover (R91, R92) -/

/-- What GRANDMASTER_LOST makes of a synchronised set. -/
def State.heldOver (s : State) (ts : TimeSet) : TimeSet := { ts with status := 2, holdRaw := s.time.raw, holdNs := 0 }

/-- A synchronised set in rate mode enters holdover; only the time base changes. -/
theorem grandmasterLost_synchronised {s : State} {n : Nat} (hmode : (s.timeSet n).fallMode = false)
    (hsync : (s.timeSet n).status = 1) :
    (grandmasterLost n s).time.sets = (s.modSet n s.heldOver).time.sets ∧ (grandmasterLost n s).time.raw = s.time.raw ∧
      grandmasterLost n s = { s with time := (grandmasterLost n s).time } := by
  unfold grandmasterLost
  rw [if_neg (by simp [hmode, hsync])]
  dsimp only
  split <;> exact ⟨rfl, rfl, rfl⟩

/-- What HOLDOVER_END makes of a set. -/
def State.resynced (s : State) (ts : TimeSet) : TimeSet :=
  { ts with holdNs := if ts.status = 2 then s.time.raw - ts.holdRaw else ts.holdNs, status := 1 }

/-- A first correction within the step threshold queues no step, and moves nothing in the time base but the set's holdover. -/
theorem holdoverEnd_within {s : State} {n gm : Nat} {offset ratio : Int} (hmode : (s.timeSet n).fallMode = false)
    (hwithin : offset.natAbs ≤ s.reg (0x2100 + n) 0x0B * 65536) :
    (holdoverEnd n gm offset ratio s).time = (s.modSet n s.resynced).time ∧
      (holdoverEnd n gm offset ratio s).legacy = s.legacy ∧ (holdoverEnd n gm offset ratio s).keys = s.keys ∧
      (holdoverEnd n gm offset ratio s).ports = s.ports ∧ (holdoverEnd n gm offset ratio s).power = s.power := by
  unfold holdoverEnd
  rw [if_neg (by simp [hmode])]
  extract_lets s₁ s₂ s₃ mag s₄
  have hs₂ : s₂ = s₁.clearCause 58 ∨ s₂ = s₁ := by
    by_cases hworking : n = s₁.time.working
    · exact .inl (if_pos hworking)
    · exact .inr (if_neg hworking)
  clear_value s₂
  have hreg : s₄.reg (0x2100 + n) 0x0B = s.reg (0x2100 + n) 0x0B := by rcases hs₂ with rfl | rfl <;> rfl
  rw [hreg, if_neg (Nat.not_lt.mpr hwithin)]
  rcases hs₂ with rfl | rfl <;> exact ⟨rfl, rfl, rfl, rfl, rfl⟩

/-- Settles O19, clause by clause. -/
theorem referencesAndHoldover : Obligations.ReferencesAndHoldover := by
  refine ⟨?fault, ?restored, ?lost, ?limit, ?ended, ?stamp, ?resume⟩
  case fault =>
    intro s t hawake hon
    dsimp only [exec, execTimerefFault]
    refine happen_answers rfl hawake ?_
    rw [timerefFault, if_neg (by simpa [State.advance] using hon)]
    simp [raiseFault_latched, raiseFault_active]
  case restored =>
    intro s t hawake
    dsimp only [exec, execTimerefRestored]
    exact happen_answers rfl hawake ⟨rfl, bitOf_clearBitAt _ 51, rfl, rfl, rfl⟩
  case lost =>
    intro s t n hawake hn hlen hmode hsync
    dsimp only [exec, execGrandmasterLost]
    refine happen_answers (decide_eq_true hn) hawake ?_
    obtain ⟨hsets, hraw, hframe⟩ := grandmasterLost_synchronised (s := s.advance t) (n := n) (by simpa using hmode)
      (by simpa using hsync)
    have hset : (grandmasterLost n (s.advance t)).timeSet n = (s.advance t).heldOver ((s.advance t).timeSet n) := by
      rw [State.timeSet, hsets]
      exact timeSet_modSet_same _ n _ (by simpa [hlen] using hn)
    rw [hset, hraw]
    refine ⟨rfl, rfl, timeSet_advance_rate s t n, rfl, fun m hm => ?_, hframe⟩
    rw [State.timeSet, hsets]
    exact timeSet_modSet_ne _ n m _ hm
  case limit =>
    intro s t hawake hstatus hlimit hlong hsignalled
    dsimp only [exec, execHoldoverLimitExceeded]
    refine happen_answers rfl hawake ?_
    rw [holdoverLimitExceeded]
    dsimp only
    rw [if_pos ⟨hstatus, hlimit, hlong, by simpa [State.advance] using hsignalled⟩]
    simp [raiseFault_latched]
  case ended =>
    intro s t n gm offset ratio hawake hn hlen hmode hwithin
    dsimp only [exec, execHoldoverEnd]
    refine happen_answers (decide_eq_true hn) hawake ?_
    obtain ⟨htime, hframe⟩ := holdoverEnd_within (s := s.advance t) (gm := gm) (ratio := ratio) (by simpa using hmode) hwithin
    refine ⟨?_, by rw [htime]; rfl, hframe⟩
    rw [State.timeSet, htime]
    exact congrArg TimeSet.status (timeSet_modSet_same (s.advance t) n _ (by simpa [hlen] using hn))
  case stamp =>
    intro s t n port rx tx ratio c hawake hn hport
    dsimp only [exec, execSyncTxStamp]
    exact happen_answers (by simp [hn, hport]) hawake ⟨rfl, rfl, rfl⟩
  case resume =>
    intro s t hawake hheld hreached
    dsimp only [exec, execOrderTimeResume]
    refine happen_answers rfl hawake ?_
    rw [orderTimeResume, if_pos ⟨hheld, hreached⟩]
    exact ⟨rfl, rfl, rfl, rfl⟩

end Sys2Proof.Machine
end

section
/-! O20: stamp and capture queues, trigger edges, captures, and the measurements of the clocks. -/

namespace Sys2Proof.Machine

open Sys2Proof

/-! ### Reads of a queue (R97, R107) -/

/-- A read that every check accepts, on a device that is awake, replies with the value and then clears what it clears. -/
theorem readRequest_answers {s : State} {t idx sub len : Nat} {unitExists : Bool} {c : Caller} {val : State → Nat}
    {eff : State → State} (hexists : unitExists = true) (hawake : s.awake = true) (hp : c.iface ≠ .partner)
    (h : (s.advance t).readCheck c idx sub = 0) :
    happenBy c t unitExists s (fun s => s.dictRead c idx sub noReadExtra val len eff) =
      .next (eff (((s.advance t).afterKey c 1 idx sub []).reply c 0 (val ((s.advance t).afterKey c 1 idx sub [])) len)) := by
  rw [happenBy_awake c t unitExists s _ hexists hawake hp, dictRead_answered _ c idx sub _ val len eff h rfl]

/-! ### Trigger edges (R104) -/

/-- The changed trigger. -/
theorem trigger_modTrigger_same (s : State) (n : Nat) (f : Trigger → Trigger) (h : n < s.time.triggers.length) :
    (s.modTrigger n f).trigger n = f (s.trigger n) := nth_modNth_same _ _ _ _ h

/-- The other triggers. -/
theorem trigger_modTrigger_ne (s : State) (n m : Nat) (f : Trigger → Trigger) (h : m ≠ n) :
    (s.modTrigger n f).trigger m = s.trigger m := nth_modNth_ne _ _ _ _ _ h

@[simp] theorem State.pairEdge_time (s : State) (n pulse : Nat) : (s.pairEdge n pulse).time = s.time := by
  unfold State.pairEdge
  dsimp only
  split <;> simp
@[simp] theorem State.pairEdge_keys (s : State) (n pulse : Nat) : (s.pairEdge n pulse).keys = s.keys := by
  unfold State.pairEdge
  dsimp only
  split <;> simp
@[simp] theorem State.pairEdge_ports (s : State) (n pulse : Nat) : (s.pairEdge n pulse).ports = s.ports := by
  unfold State.pairEdge
  dsimp only
  split <;> simp
@[simp] theorem State.pairEdge_power (s : State) (n pulse : Nat) : (s.pairEdge n pulse).power = s.power := by
  unfold State.pairEdge
  dsimp only
  split <;> simp

/-- What a leading edge in time makes of trigger `n`. -/
def State.pulsed (s : State) (n : Nat) (x : Trigger) : Trigger :=
  { x with active := true, nextPulse := x.nextPulse + 1, done := decide (s.reg (0x2210 + n) 1 ≠ 2),
           running := decide (s.reg (0x2210 + n) 1 ≠ 1), late := false,
           edgeNs := (s.pulseEdge n (s.trigger n).nextPulse / 65536).toNat }

/-- A leading edge in time changes nothing of the time base but its trigger, and no key, port or power state. -/
theorem leadingEdge_inTime (s : State) (n : Nat) :
    (s.leadingEdge n false).time = (s.modTrigger n (s.pulsed n)).time ∧ (s.leadingEdge n false).keys = s.keys ∧
      (s.leadingEdge n false).ports = s.ports ∧ (s.leadingEdge n false).power = s.power := by
  refine ⟨?_, by simp [State.leadingEdge], by simp [State.leadingEdge], by simp [State.leadingEdge]⟩
  unfold State.leadingEdge
  dsimp only
  rw [if_neg Bool.false_ne_true, State.pairEdge_time]
  simp only [State.modTrigger, State.countSeq_time, State.issueKey_time]
  rfl

/-- With nothing to hand over, handing over what has ended changes nothing. -/
theorem settleHandovers_of_nil {s : State} (h : s.saddle.handovers = []) : s.settleHandovers = s := by
  rw [State.settleHandovers, h]
  rfl

/-- A pulse whose width has passed ends; only the trigger changes where nothing is handed over. -/
theorem triggerTrailing_passed {s : State} {n : Nat} (hactive : (s.trigger n).active = true)
    (hmode : s.reg (0x2210 + n) 1 ≠ 3) (hpassed : (s.trigger n).edgeNs + s.reg (0x2210 + n) 4 ≤ s.workingNs)
    (hnone : s.saddle.handovers = []) :
    triggerTrailing n s = s.modTrigger n (fun u => { u with active := false }) := by
  rw [triggerTrailing, if_pos ⟨hactive, hmode, hpassed⟩]
  exact settleHandovers_of_nil hnone

/-! ### Captures (R107) -/

/-- The changed capture input. -/
theorem capture_modCapture_same (s : State) (n : Nat) (f : CaptureIn → CaptureIn) (h : n < s.time.captures.length) :
    (s.modCapture n f).capture n = f (s.capture n) := nth_modNth_same _ _ _ _ h

/-- The other capture inputs. -/
theorem capture_modCapture_ne (s : State) (n m : Nat) (f : CaptureIn → CaptureIn) (h : m ≠ n) :
    (s.modCapture n f).capture m = s.capture m := nth_modNth_ne _ _ _ _ _ h

/-- A capture input depends on the time base alone. -/
theorem capture_congr {s u : State} (h : u.time = s.time) (n : Nat) : u.capture n = s.capture n := by
  rw [State.capture, h, State.capture]

/-- The capture that an edge at input `n` makes: the working clock less the filter time. -/
def State.captureOf (s : State) (n : Nat) (falling : Bool) : Capture :=
  ⟨s.workingNs - s.reg (0x2220 + n) 2, falling, decide ((s.timeSet s.time.working).status = 2),
    decide ((s.timeSet s.time.working).status = 0) || (s.timeSet s.time.working).fallMode⟩

/-- An edge that is selected, long enough, not merged with an earlier one, and finds room, is captured. -/
theorem captureEdge_taken {s : State} {n width : Nat} {falling : Bool} (hlen : n < s.time.captures.length)
    (hon : bitOf (s.reg 0x2200 2) n = true) (hedge : edgeSelected (s.reg (0x2220 + n) 1) falling = true)
    (hwidth : s.reg (0x2220 + n) 2 ≤ width) (hfollows : s.follows = false) (hlast : (s.capture n).lastEdge = none)
    (hroom : (s.capture n).queue.length < 8) :
    ((captureEdge n width falling s).capture n).queue = (s.capture n).queue ++ [s.captureOf n falling] ∧
      (∀ m, m ≠ n → (captureEdge n width falling s).capture m = s.capture m) ∧
      (captureEdge n width falling s).keys = s.keys ∧ (captureEdge n width falling s).ports = s.ports ∧
      (captureEdge n width falling s).power = s.power := by
  unfold captureEdge
  rw [if_neg (by simp [hon, hedge, hwidth]), if_neg (by simp [hfollows]), hlast, if_neg Bool.false_ne_true]
  extract_lets ts stamp s₁ s₂ s₃
  have hs₂ : s₂.time = s₁.time := State.journalInput_time ..
  have hs₁ : s₁.capture n = { s.capture n with lastEdge := some s.time.raw } := capture_modCapture_same _ n _ hlen
  have hs₃ : s₃ = s₂.modCapture n (fun u => { u with queue := u.queue ++ [stamp] }) :=
    if_pos (by rw [capture_congr hs₂, hs₁]; exact hroom)
  have hqueue : (s₃.capture n).queue = (s.capture n).queue ++ [stamp] := by
    rw [hs₃, capture_modCapture_same _ n _ (by rw [hs₂]; simpa [s₁, State.modCapture] using hlen), capture_congr hs₂,
      hs₁]
  have hothers : ∀ m, m ≠ n → s₃.capture m = s.capture m := fun m hm => by
    rw [hs₃, capture_modCapture_ne _ n m _ hm, capture_congr hs₂]
    exact capture_modCapture_ne _ n m _ hm
  have hframe : s₃.keys = s.keys ∧ s₃.ports = s.ports ∧ s₃.power = s.power := by
    rw [hs₃]
    simp [State.modCapture, s₂, s₁]
  split <;> exact ⟨hqueue, hothers, hframe⟩

/-! ### The clock measurements (R449 to R452) -/

/-- Flagging a counter writes two entries of `1210h`. -/
theorem stat_flagCounter {s : State} {idx sub bit a b : Nat} (h6 : a * 256 + b ≠ 0x1210 * 256 + 6)
    (h7 : a * 256 + b ≠ 0x1210 * 256 + 7) : (s.flagCounter idx sub bit).stat a b = s.stat a b := by
  show ((s.orStat 0x1210 6 (1 <<< bit)).setStat 0x1210 7 (idx * 256 + sub)).stat a b = _
  rw [stat_setStat, if_neg h7, stat_orStat, if_neg h6]

/-- A sequence counter writes its own entry and, where it wraps, two entries of `1210h`. -/
theorem stat_countSeq {s : State} {idx sub w a b : Nat} (h : a * 256 + b ≠ idx * 256 + sub)
    (h6 : a * 256 + b ≠ 0x1210 * 256 + 6) (h7 : a * 256 + b ≠ 0x1210 * 256 + 7) :
    (s.countSeq idx sub w).stat a b = s.stat a b := by
  unfold State.countSeq
  dsimp only
  split
  · rw [stat_flagCounter h6 h7, stat_setStat, if_neg h]
  · rw [stat_setStat, if_neg h]

/-- The four offsets of Table 20.4 that every measurement writes. -/
def State.putOffsets (s : State) (timeref sdref pcie rc : Nat) : State :=
  (((s.setStat 0xC200 0x10 (encSgn 32 (clockOffset timeref (25000 * s.reg 0xC200 5)))).setStat 0xC200 0x11
    (encSgn 32 (clockOffset sdref (156250 * s.reg 0xC200 5)))).setStat 0xC200 0x12
    (encSgn 32 (clockOffset pcie (100000 * s.reg 0xC200 5)))).setStat 0xC200 0x13
    (encSgn 32 (clockOffset rc (16000 * s.reg 0xC200 5)))

/-- What a measurement writes after the four offsets are other entries. -/
theorem clockGateEnd_stat {s : State} {timeref sdref pcie rc b : Nat} {crystal : Option Nat} (hlo : 0x10 ≤ b)
    (hhi : b ≤ 0x13) :
    (clockGateEnd timeref sdref pcie rc crystal s).stat 0xC200 b = (s.putOffsets timeref sdref pcie rc).stat 0xC200 b := by
  unfold clockGateEnd
  extract_lets w off1 off2 s₁ s₂ beyond s₃ s₄ ts tm s₅
  have hs₂ : s₂.stat 0xC200 b = s₁.stat 0xC200 b := by
    dsimp only [s₂]
    split
    · rw [stat_setStat, if_neg (by omega)]
    · rfl
  have hs₄ : s₄.stat 0xC200 b = s₃.stat 0xC200 b := by
    dsimp only [s₄]
    split
    · rw [stat_orStat, if_neg (by omega)]
    · rfl
  rw [stat_countSeq (by omega) (by omega) (by omega)]
  calc s₅.stat 0xC200 b
    _ = s₄.stat 0xC200 b := by rw [stat_setStat, if_neg (by omega)]
    _ = s₂.stat 0xC200 b := by rw [hs₄, stat_setStat, if_neg (by omega)]
    _ = s₁.stat 0xC200 b := hs₂

/-- A measurement of the clocks changes no time, key, port or power state. -/
theorem clockGateEnd_frame (s : State) (timeref sdref pcie rc : Nat) (crystal : Option Nat) :
    (clockGateEnd timeref sdref pcie rc crystal s).time = s.time ∧
      (clockGateEnd timeref sdref pcie rc crystal s).keys = s.keys ∧
      (clockGateEnd timeref sdref pcie rc crystal s).ports = s.ports ∧
      (clockGateEnd timeref sdref pcie rc crystal s).power = s.power := by
  cases crystal <;> simp [clockGateEnd]

/-- Settles O20, clause by clause. -/
theorem stampQueuesAndTriggers : Obligations.StampQueuesAndTriggers := by
  refine ⟨?stamp, ?captured, ?leading, ?trailing, ?capture, ?gate, ?crystal⟩
  case stamp =>
    intro s t p c hawake hport hp hlen hcheck
    have hkeyed : ((s.advance t).afterKey c 1 (0x3140 + p) 1 []).time.txStamps = s.time.txStamps := by
      rw [afterKey_time]
      rfl
    refine ⟨_, readRequest_answers (decide_eq_true hport) hawake hp hcheck, ?_, ?_, fun q hq => ?_, by simp [State.reply]⟩
    · rw [hkeyed]
      exact replyOf_reply _ c 0 _ 16
    · dsimp only [State.reply]
      rw [hkeyed]
      exact nth_modNth_same _ p _ [] (by omega)
    · dsimp only [State.reply]
      rw [hkeyed]
      exact nth_modNth_ne _ p q _ [] hq
  case captured =>
    intro s t n c hawake hn hp hlen hcheck
    have hlt : n < s.time.captures.length := by omega
    have hkeyed : ∀ v m, (((s.advance t).afterKey c 1 (0x2220 + n) 3 []).reply c 0 v 12).capture m = s.capture m :=
      fun v m => capture_congr (s := s.advance t) (afterKey_time ..) m
    refine ⟨_, readRequest_answers (decide_eq_true hn) hawake hp hcheck, ?_, ?_, fun m hm => ?_,
      by simp [State.modCapture, State.reply]⟩
    · rw [capture_congr (s := s.advance t) (afterKey_time ..)]
      exact replyOf_reply _ c 0 _ 12
    · rw [capture_modCapture_same _ n _ (by simpa [State.reply, State.advance] using hlt), hkeyed]
    · rw [capture_modCapture_ne _ n m _ hm, hkeyed]
  case leading =>
    intro s t n hawake hn hlen hon hdone hreached
    have hlt : n < s.time.triggers.length := by omega
    dsimp only [exec, execTriggerLeadingEdge]
    refine happen_answers (decide_eq_true hn) hawake ?_
    obtain ⟨htime, hframe⟩ := leadingEdge_inTime (s.advance t) n
    rw [triggerLeading, if_pos ⟨hon, hdone, hreached⟩]
    have hset : ((s.advance t).leadingEdge n false).trigger n = (s.advance t).pulsed n (s.trigger n) := by
      rw [State.trigger, htime]
      exact trigger_modTrigger_same (s.advance t) n _ hlt
    rw [hset]
    refine ⟨rfl, rfl, fun m hm => ?_, by rw [htime]; rfl, hframe⟩
    rw [State.trigger, htime]
    exact trigger_modTrigger_ne (s.advance t) n m _ hm
  case trailing =>
    intro s t n hawake hn hlen hactive hmode hpassed hnone
    have hlt : n < s.time.triggers.length := by omega
    dsimp only [exec, execTriggerTrailingEdge]
    refine happen_answers (decide_eq_true hn) hawake ?_
    rw [triggerTrailing_passed (s := s.advance t) hactive hmode hpassed hnone, trigger_modTrigger_same (s.advance t) n _ hlt]
    exact ⟨rfl, fun m hm => trigger_modTrigger_ne (s.advance t) n m _ hm, rfl, rfl⟩
  case capture =>
    intro s t n width falling hawake hn hlen hon hedge hwidth hfollows hlast hroom
    have hlt : n < s.time.captures.length := by omega
    dsimp only [exec, execCaptureEdge]
    exact happen_answers (decide_eq_true hn) hawake
      (captureEdge_taken hlt hon hedge hwidth hfollows hlast hroom)
  case gate =>
    intro s t a b c d x hawake
    dsimp only [exec, execClockGateEnd]
    refine happen_answers rfl hawake ⟨?_, ?_, ?_, ?_, clockGateEnd_frame (s.advance t) a b c d x⟩ <;>
      simp [clockGateEnd_stat, State.putOffsets, stat_setStat]
  case crystal =>
    intro s t hawake hcrystal hstopped
    dsimp only [exec, execCrystalStartTimeout]
    refine happen_answers rfl hawake ?_
    rw [crystalStartTimeout, if_pos ⟨hcrystal, by simp [hstopped]⟩]
    refine ⟨?_, rfl⟩
    rw [stat_orStat, if_neg (by decide), stat_setStat, if_pos rfl]
    rfl

end Sys2Proof.Machine
end

section
/-! Bringing a port's credits up to date leaves everything outside Basin as it was. -/

namespace Sys2Proof.Machine

open Sys2Proof

/-- Bringing a queue's credit up to date changes Basin alone. -/
theorem refreshCredit_eq (s : State) (p q : Nat) :
    s.refreshCredit p q = { s with basin := (s.refreshCredit p q).basin } := by
  unfold State.refreshCredit
  dsimp only
  split <;> rfl

/-- A fold whose steps change Basin alone changes Basin alone. -/
theorem foldl_basin_eq {α : Type} (g : State → α → State) (h : ∀ s x, g s x = { s with basin := (g s x).basin })
    (l : List α) (s : State) : l.foldl g s = { s with basin := (l.foldl g s).basin } := by
  induction l generalizing s with
  | nil => rfl
  | cons x xs ih =>
    rw [List.foldl, ih (g s x), h s x]

/-- Bringing a port's credits up to date changes Basin alone. -/
theorem refreshCredits_eq (s : State) (p : Nat) :
    s.refreshCredits p = { s with basin := (s.refreshCredits p).basin } :=
  foldl_basin_eq _ (fun s q => refreshCredit_eq s p q) _ s

@[simp] theorem State.refreshCredits_ports (s : State) (p : Nat) : (s.refreshCredits p).ports = s.ports := by
  rw [refreshCredits_eq]
@[simp] theorem State.refreshCredits_dict (s : State) (p : Nat) : (s.refreshCredits p).dict = s.dict := by
  rw [refreshCredits_eq]
@[simp] theorem port_refreshCredits (s : State) (p q : Nat) : (s.refreshCredits p).port q = s.port q :=
  port_congr (by simp) q
@[simp] theorem stat_refreshCredits (s : State) (p a b : Nat) : (s.refreshCredits p).stat a b = s.stat a b := by
  simp [State.stat]

/-- Only Basin is not known from the state before. -/
theorem exists_refreshCredits (s : State) (p : Nat) : ∃ b, s.refreshCredits p = { s with basin := b } :=
  ⟨_, refreshCredits_eq s p⟩

end Sys2Proof.Machine
end

section
/-! O24: PAUSE, PFC, the pause timers, a resent PAUSE and the verify exchange. -/

namespace Sys2Proof.Machine

open Sys2Proof

/-! ### Pause deadlines (R126) -/

/-- The deadline that a pause of `n` quanta gives a queue: none ends its pause. -/
def State.pauseDeadline (s : State) (p n : Nat) : Option Nat :=
  if n = 0 then none else some (s.time.raw + s.quantaNs p n)

/-- A BP port that honours PAUSE pauses all its queues alike. -/
theorem pauseReceived_honoured {s : State} {p : Nat} (n : Nat) (hp : p < 8) (hon : bitOf (s.reg (0x3000 + p) 7) 0 = true) :
    pauseReceived p n s = ((s.count64 (0x3080 + p) 0x0B 1).modPort p (fun (x : Port) => { x with
      pauseUntil := List.replicate 8 (s.pauseDeadline p n) })).refreshCredits p :=
  if_pos ⟨decide_eq_true hp, hon⟩

/-- A port that does not honour PAUSE counts the frame as ignored. -/
theorem pauseReceived_ignored {s : State} {p : Nat} (n : Nat) (hoff : bitOf (s.reg (0x3000 + p) 7) 0 = false) :
    pauseReceived p n s = (s.count64 (0x3080 + p) 0x0B 1).count64 (0x3080 + p) 0x0D 1 :=
  if_neg fun h => by simp [hoff] at h

/-- A BP port that honours priorities gives each queue the deadline that the frame calls for. -/
theorem pfcReceived_honoured {s : State} {p e : Nat} {quanta : List Nat} (hp : p < 8) (hon : s.reg (0x3000 + p) 8 ≠ 0) :
    pfcReceived p e quanta s = ((s.count64 (0x3080 + p) 0x0C 1).modPort p (fun (x : Port) => { x with
      pauseUntil := (List.range 8).map (s.pfcDeadline p e quanta) })).refreshCredits p :=
  if_pos ⟨decide_eq_true hp, hon⟩

/-- An element of a table of the first `n` numbers. -/
theorem nth_map_range {α : Type} (g : Nat → α) {n i : Nat} (d : α) (h : i < n) : nth ((List.range n).map g) i d = g i := by
  simp [nth, List.getD, h]

/-- An element that is not the default is one of the list. -/
theorem lt_length_of_nth_ne {α : Type} {l : List α} {i : Nat} {d : α} (h : nth l i d ≠ d) : i < l.length :=
  Nat.not_le.mp fun hle => h (by rw [nth, List.getD, List.getElem?_eq_none hle, Option.getD_none])

/-- A queue whose deadline is reached is no longer paused. -/
theorem pauseTimerExpired_reached {s : State} {p q d : Nat} (hd : nth (s.port p).pauseUntil q none = some d)
    (hreached : d ≤ s.time.raw) :
    pauseTimerExpired p q s = (s.modPort p (fun (x : Port) => { x with
      pauseUntil := modNth x.pauseUntil q (fun _ => none) })).refreshCredits p := by
  unfold pauseTimerExpired
  rw [hd]
  exact if_pos hreached

/-! ### A PAUSE sent again (R127) -/

/-- The frame that back-pressure sends with a time: PFC where the port generates it, else PAUSE. -/
def State.pauseFrame (s : State) (p time : Nat) : MacFrame :=
  if s.genPfc p then ⟨1, time, s.reg (0x3000 + p) 9⟩ else ⟨0, time, 0⟩

/-- With XOFF in force, the instant reached and the occupancy above XON, the frame is sent again. -/
theorem pauseResend_due {s : State} {p : Nat} (hxoff : (s.port p).xoff = true) (hdue : (s.port p).resendAt ≤ s.time.raw)
    (hxon : s.reg (0x3000 + p) 0x0C < s.ingressBytes p) :
    pauseResend p s = (s.modPort p (fun (x : Port) => { x with
      macOut := x.macOut ++ [s.pauseFrame p (s.reg (0x3000 + p) 0x0D)] })).modPort p (fun (x : Port) => { x with
        resendAt := s.time.raw + s.quantaNs p (s.reg (0x3000 + p) 0x0D) / 2 }) :=
  if_pos ⟨hxoff, hdue, hxon⟩

/-! ### The verify exchange (R128) -/

/-- Merging is enabled with verification on a port that is UP and whose exchange has not ended. -/
def State.verifies (s : State) (p : Nat) : Prop :=
  s.reg (0x3580 + p) 1 = 1 ∧ s.reg (0x3580 + p) 2 = 0 ∧ s.portUp p = true ∧ s.stat (0x3580 + p) 6 ≤ 2

/-- An attempt under three sends a verify frame. -/
theorem verifyAttempt_sends {s : State} {p : Nat} (h : s.verifies p) (htries : (s.port p).verifyTries < 3) :
    verifyAttempt p s = (s.setStat (0x3580 + p) 6 2).modPort p (fun (x : Port) => { x with
      verifyTries := x.verifyTries + 1, macOut := x.macOut ++ [⟨2, 0, 0⟩] }) :=
  (if_pos h).trans (if_pos htries)

/-- After three attempts the exchange has failed. -/
theorem verifyAttempt_fails {s : State} {p : Nat} (h : s.verifies p) (htries : 3 ≤ (s.port p).verifyTries) :
    verifyAttempt p s = s.setStat (0x3580 + p) 6 4 :=
  (if_pos h).trans (if_neg (Nat.not_lt.mpr htries))

/-- Settles O24, clause by clause. -/
theorem pauseAndVerify : Obligations.PauseAndVerify := by
  refine ⟨?pause, ?ignored, ?pfc, ?expired, ?resend, ?attempt, ?failed, ?response⟩
  case pause =>
    intro s t p q hawake hp hlen hon
    dsimp only [exec, execPauseReceived]
    refine happen_answers (decide_eq_true (by omega)) hawake ?_
    rw [pauseReceived_honoured (s := s.advance t) _ hp hon]
    refine ⟨?_, ?_, fun r hr => ?_, ?_⟩
    · rw [port_refreshCredits, port_modPort_same _ p _ (by simp [hlen]; omega)]
      rfl
    · rw [stat_refreshCredits, stat_modPort, stat_count64, if_pos rfl, advance_stat]
    · rw [port_refreshCredits, port_modPort_ne _ p r _ hr, port_count64, port_advance]
    · obtain ⟨b, hb⟩ := exists_refreshCredits (((s.advance t).count64 (0x3080 + p) 0x0B 1).modPort p _) p
      rw [hb]
      rfl
  case ignored =>
    intro s t p q hawake hp hoff
    exact (happen_awake t _ s _ (decide_eq_true hp) hawake).trans
      (congrArg _ (pauseReceived_ignored (s := s.advance t) _ hoff))
  case pfc =>
    intro s t p e quanta hawake hp hlen hon
    dsimp only [exec, execPfcReceived]
    refine happen_answers (decide_eq_true (by omega)) hawake ?_
    rw [pfcReceived_honoured (s := s.advance t) hp hon]
    refine ⟨fun q hq => ?_, ?_, fun r hr => ?_, ?_⟩
    · rw [port_refreshCredits, port_modPort_same _ p _ (by simp [hlen]; omega)]
      dsimp only
      rw [nth_map_range _ _ hq]
      simp [State.pfcDeadline]
    · rw [stat_refreshCredits, stat_modPort, stat_count64, if_pos rfl, advance_stat]
    · rw [port_refreshCredits, port_modPort_ne _ p r _ hr, port_count64, port_advance]
    · obtain ⟨b, hb⟩ := exists_refreshCredits (((s.advance t).count64 (0x3080 + p) 0x0C 1).modPort p _) p
      rw [hb]
      rfl
  case expired =>
    intro s t p q d hawake hp hq hlen hd hreached
    dsimp only [exec, execPauseTimerExpired]
    refine happen_answers (by simp [hp, hq]) hawake ?_
    rw [pauseTimerExpired_reached (s := s.advance t) hd hreached]
    have hport : (((s.advance t).modPort p (fun (x : Port) => { x with
        pauseUntil := modNth x.pauseUntil q (fun _ => none) })).refreshCredits p).port p =
        { s.port p with pauseUntil := modNth (s.port p).pauseUntil q (fun _ => none) } := by
      rw [port_refreshCredits, port_modPort_same _ p _ (by simp [hlen]; omega), port_advance]
    refine ⟨?_, fun r hr => ?_, fun r hr => ?_, ?_⟩
    · rw [hport]
      exact nth_modNth_same _ q _ none (lt_length_of_nth_ne (d := none) (by simp [hd]))
    · rw [hport]
      exact nth_modNth_ne _ q r _ none hr
    · rw [port_refreshCredits, port_modPort_ne _ p r _ hr, port_advance]
    · obtain ⟨b, hb⟩ := exists_refreshCredits ((s.advance t).modPort p _) p
      rw [hb]
      rfl
  case resend =>
    intro s t p hawake hp hlen hxoff hdue hxon
    have hlt : p < (s.advance t).ports.length := by simp [hlen]; omega
    dsimp only [exec, execPauseResend]
    refine happen_answers (decide_eq_true hp) hawake ?_
    rw [pauseResend_due (s := s.advance t) hxoff hdue hxon]
    refine ⟨?_, ?_, fun r hr => ?_, rfl⟩
    · rw [port_modPort_same _ p _ (by simpa using hlt), port_modPort_same _ p _ hlt]
      simp
    · rw [port_modPort_same _ p _ (by simpa using hlt)]
    · rw [port_modPort_ne _ p r _ hr, port_modPort_ne _ p r _ hr, port_advance]
  case attempt =>
    intro s t p hawake hp hlen hon hverify hup hstate htries
    dsimp only [exec, execVerifyAttempt]
    refine happen_answers (decide_eq_true hp) hawake ?_
    rw [verifyAttempt_sends (s := s.advance t) ⟨hon, hverify, hup, hstate⟩ htries,
      port_modPort_same _ p _ (by simp [hlen]; omega)]
    refine ⟨?_, rfl, rfl, fun r hr => ?_, rfl⟩
    · rw [stat_modPort, stat_setStat, if_pos rfl]
    · rw [port_modPort_ne _ p r _ hr, port_setStat, port_advance]
  case failed =>
    intro s t p hawake hp hon hverify hup hstate htries
    exact (happen_awake t _ s _ (decide_eq_true hp) hawake).trans
      (congrArg _ (verifyAttempt_fails (s := s.advance t) ⟨hon, hverify, hup, hstate⟩ htries))
  case response =>
    intro s t p hawake hp hon hstate
    exact (happen_awake t _ s _ (decide_eq_true hp) hawake).trans (congrArg _ (if_pos ⟨hon, hstate⟩))

end Sys2Proof.Machine
end

section
/-! What link-downs and transmissions leave alone: keys, power, bus controllers and sessions, and, but for a fault that is raised,
the safety unit and the host interface. -/

namespace Sys2Proof.Machine

open Sys2Proof

/-- The parts of the device around the ports and Basin: first those that nothing here touches, then those that only a fault input
or an event that reaches the journal can. -/
def State.around (s : State) : (KeyStore × Power × Legacy × Access) × Safety × HostIf :=
  ((s.keys, s.power, s.legacy, s.access), s.safety, s.host)

/-- The parts one by one. -/
theorem around_eq_iff {s u : State} : u.around = s.around ↔
    u.keys = s.keys ∧ u.power = s.power ∧ u.safety = s.safety ∧ u.legacy = s.legacy ∧ u.access = s.access ∧
      u.host = s.host := by
  simp only [State.around, Prod.mk.injEq]
  exact ⟨fun ⟨⟨hkeys, hpower, hlegacy, haccess⟩, hsafety, hhost⟩ => ⟨hkeys, hpower, hsafety, hlegacy, haccess, hhost⟩,
    fun ⟨hkeys, hpower, hsafety, hlegacy, haccess, hhost⟩ => ⟨⟨hkeys, hpower, hlegacy, haccess⟩, hsafety, hhost⟩⟩

/-- The parts that nothing here touches, one by one. -/
theorem around_fst_eq_iff {s u : State} : u.around.1 = s.around.1 ↔
    u.keys = s.keys ∧ u.power = s.power ∧ u.legacy = s.legacy ∧ u.access = s.access := by
  simp only [State.around, Prod.mk.injEq]

@[simp] theorem around_ite (p : Prop) [Decidable p] (a b : State) :
    (if p then a else b).around = if p then a.around else b.around := by split <;> rfl
@[simp] theorem around_foldl {α : Type} (g : State → α → State) (h : ∀ s x, (g s x).around = s.around) (l : List α)
    (s : State) : (l.foldl g s).around = s.around := by
  induction l generalizing s with
  | nil => rfl
  | cons x xs ih => rw [List.foldl, ih, h]
@[simp] theorem around_advance (s : State) (t : Nat) : (s.advance t).around = s.around := rfl

/-! ### Records that stand apart -/

@[simp] theorem around_basin (s : State) (b : Basin) : ({ s with basin := b } : State).around = s.around := rfl
@[simp] theorem around_time (s : State) (b : TimeBase) : ({ s with time := b } : State).around = s.around := rfl
@[simp] theorem around_modPort (s : State) (p : Nat) (f : Port → Port) : (s.modPort p f).around = s.around := rfl
@[simp] theorem around_modTx (s : State) (p : Nat) (f : PortTx → PortTx) : (s.modTx p f).around = s.around := rfl
@[simp] theorem around_modFrame (s : State) (id : Nat) (f : Frame → Frame) : (s.modFrame id f).around = s.around := rfl

/-! ### Status entries and counters -/

@[simp] theorem around_setStat (s : State) (i j v : Nat) : (s.setStat i j v).around = s.around := rfl
@[simp] theorem around_orStat (s : State) (i j v : Nat) : (s.orStat i j v).around = s.around := rfl
@[simp] theorem around_count64 (s : State) (i j n : Nat) : (s.count64 i j n).around = s.around := rfl
@[simp] theorem around_count32 (s : State) (i j : Nat) : (s.count32 i j).around = s.around := by simp [State.around]
@[simp] theorem around_count32Own (s : State) (i j a b c : Nat) : (s.count32Own i j a b c).around = s.around := by
  simp [State.around]
@[simp] theorem around_countSeq (s : State) (i j w : Nat) : (s.countSeq i j w).around = s.around := by simp [State.around]

/-! ### Copies and frames of Basin (R190, R202, R230) -/

@[simp] theorem around_removeFrame (s : State) (id : Nat) : (s.removeFrame id).around = s.around := rfl
@[simp] theorem around_writeCells (s : State) (id n : Nat) : (s.writeCells id n).around = s.around := by
  unfold State.writeCells
  split <;> rfl
@[simp] theorem around_writeWaiting (s : State) : s.writeWaiting.around = s.around := by simp [State.writeWaiting]
@[simp] theorem around_refreshCredit (s : State) (p q : Nat) : (s.refreshCredit p q).around = s.around := by
  rw [refreshCredit_eq, around_basin]
@[simp] theorem around_refreshCredits (s : State) (p : Nat) : (s.refreshCredits p).around = s.around := by
  rw [refreshCredits_eq, around_basin]
@[simp] theorem around_debit (s : State) (p q : Nat) (len : Int) : (s.debit p q len).around = s.around := by
  unfold State.debit
  split <;> rfl
@[simp] theorem around_pushStamp (s : State) (p : Nat) (x : TxStamp) : (s.pushStamp p x).around = s.around := by
  simp [State.pushStamp]
@[simp] theorem around_notSent (s : State) (p : Nat) (stamp : Option (Nat × Nat)) : (s.notSent p stamp).around = s.around := by
  cases stamp <;> simp [State.notSent]
@[simp] theorem around_queueDrop (s : State) (p q : Nat) : (s.queueDrop p q).around = s.around := around_count32 ..
@[simp] theorem around_endCopy (s : State) (c : Copy) : (s.endCopy c).around = s.around := by
  unfold State.endCopy
  dsimp only
  split <;> simp
@[simp] theorem around_dropCopy (s : State) (c : Copy) : (s.dropCopy c).around = s.around := by simp [State.dropCopy]
@[simp] theorem around_flushCopy (s : State) (c : Copy) : (s.flushCopy c).around = s.around := by simp [State.flushCopy]
@[simp] theorem around_failCopy (s : State) (c : Copy) : (s.failCopy c).around = s.around := by simp [State.failCopy]
@[simp] theorem around_failEnd (s : State) (id : Nat) : (s.failEnd id).around = s.around := by
  simp [State.failEnd, State.failFrame]
@[simp] theorem around_settleRetiring (s : State) : s.settleRetiring.around = s.around := rfl

/-! ### Link-down (R122) -/

@[simp] theorem around_flushPort (s : State) (p : Nat) : (s.flushPort p).around = s.around := by simp [State.flushPort]
@[simp] theorem around_abortTx (s : State) (p : Nat) (t : Option TxFrame) : (s.abortTx p t).around = s.around := by
  cases t <;> simp [State.abortTx]
@[simp] theorem around_abortRx (s : State) (p : Nat) (id : Option Nat) : (s.abortRx p id).around = s.around := by
  cases id <;> simp [State.abortRx]

/-- A link-down concerns the port and Basin. -/
@[simp] theorem around_linkDown (s : State) (p : Nat) (forced : Bool) : (s.linkDown p forced).around = s.around := by
  unfold State.linkDown
  extract_lets x s₁ s₂ r s₃ s₄ s₅ clock s₆ s₇
  have haborted : s₅.around = s.around := by simp [s₅, s₄, s₃, s₂, s₁]
  have hcounted : s₇.around = s₅.around := by simp [s₇, s₆]
  split <;> simp [hcounted, haborted]

/-! ### The scheduler (R121, R128, R133, R211, R240) -/

theorem around_headDrop {s u : State} {c : Copy} (h : s.headDrop c = some u) : u.around = s.around := by
  unfold State.headDrop at h
  split at h
  · obtain rfl := Option.some.inj h
    simp
  · dsimp only at h
    (repeat' split at h) <;> cases h <;> simp [State.ageOut]

@[simp] theorem around_dropHeads (l : List Copy) (s : State) : (dropHeads l s).around = s.around := by
  induction l generalizing s with
  | nil => rfl
  | cons c cs ih =>
    rw [dropHeads]
    split
    next h => rw [ih, around_headDrop h]
    next => rfl

@[simp] theorem around_cleanPort (s : State) (p : Nat) : (s.cleanPort p).around = s.around := by simp [State.cleanPort]

@[simp] theorem around_winner (p : Nat) (l : List Nat) (s : State) : (State.winner p l s).1.around = s.around := by
  fun_induction State.winner p l s <;> simp_all

@[simp] theorem around_preemptNow (s : State) (p : Nat) : (s.preemptNow p).1.around = s.around := by
  unfold State.preemptNow
  dsimp only
  (repeat' split) <;> rfl

@[simp] theorem around_yieldTx (s : State) (p : Nat) : (s.yieldTx p).around = s.around := by
  unfold State.yieldTx
  split <;> simp

@[simp] theorem around_resumeTx (s : State) (p : Nat) : (s.resumeTx p).around = s.around := by
  unfold State.resumeTx
  split <;> simp

@[simp] theorem around_protect (s : State) (p : Nat) (f : Frame) : (s.protect p f).1.around = s.around := by
  unfold State.protect
  dsimp only
  (repeat' split) <;> rfl

@[simp] theorem around_stampStart (s : State) (c : Copy) : (s.stampStart c).around = s.around := by
  unfold State.stampStart
  split <;> simp

@[simp] theorem around_beginTx (s : State) (p : Nat) (c : Copy) (f : Frame) : (s.beginTx p c f).around = s.around := by
  simp [State.beginTx]

@[simp] theorem around_protectStart (s : State) (p : Nat) (c : Copy) (f : Frame) :
    (s.protectStart p c f).around = s.around := by
  simp [State.protectStart]

@[simp] theorem around_useBurst (s : State) (p : Nat) : (s.useBurst p).around = s.around := by simp [State.useBurst]

theorem around_sendMac {s u : State} {p : Nat} (h : s.sendMac p = some u) : u.around = s.around := by
  unfold State.sendMac at h
  split at h
  · cases h
  · dsimp only at h
    (repeat' split at h) <;> cases h <;> rfl

/-- A collision concerns the port and Basin. -/
@[simp] theorem around_collide (s : State) (p : Nat) : (s.collide p).around = s.around := by
  unfold State.collide
  dsimp only
  split <;> simp

/-! ### A cell that fails to read (R203, R206 to R209): a fault input and an event -/

@[simp] theorem around_raiseFault (s : State) (i : Nat) (stays : Bool) : (s.raiseFault i stays).around.1 = s.around.1 := by
  simp [State.around]
@[simp] theorem around_raiseEvent (s : State) (src code args : Nat) : (s.raiseEvent src code args).around.1 = s.around.1 := by
  simp [State.around]
@[simp] theorem around_dropReceiving (s : State) (b : Nat) : (s.dropReceiving b).around = s.around := by
  simp [State.dropReceiving]
@[simp] theorem around_checkLane (s : State) (b : Nat) : (s.checkLane b).around.1 = s.around.1 := by
  unfold State.checkLane
  split <;> simp
@[simp] theorem around_loseRecords (s : State) (b : Nat) : (s.loseRecords b).around = s.around := rfl
@[simp] theorem around_retireBank (s : State) (b : Nat) : (s.retireBank b).around.1 = s.around.1 := by
  unfold State.retireBank
  dsimp only
  (repeat' split) <;> simp
@[simp] theorem around_confirmError (s : State) (b : Nat) : (s.confirmError b).around.1 = s.around.1 := by
  unfold State.confirmError
  extract_lets sec old n total basin s₁ s₂
  have hraised : s₂.around.1 = s.around.1 := by simp [s₂, s₁]
  split
  · rw [around_retireBank, hraised]
  · exact hraised

/-- The winning copy starts, or meets a cell that fails. -/
@[simp] theorem around_startCopy (s : State) (p : Nat) (c : Copy) (read : Option (Nat × Bool)) :
    (s.startCopy p c read).around.1 = s.around.1 := by
  unfold State.startCopy
  dsimp only
  (repeat' split) <;> simp

/-- An evaluation of a port's queues. -/
@[simp] theorem around_egressSchedule (p : Nat) (accepts : Bool) (read : Option (Nat × Bool)) (s : State) :
    (egressSchedule p accepts read s).around.1 = s.around.1 := by
  unfold egressSchedule
  dsimp only
  split
  · simp
  · split
    next h => simp [around_sendMac h]
    next => split <;> simp

end Sys2Proof.Machine
end

section
/-! Commands of a PHY that are written to its entries of `30C0h+p` (R115, R118, R119). -/

namespace Sys2Proof.Machine

open Sys2Proof

/-! ### Link states -/

/-- What a link state depends on. -/
theorem linkState_congr {s u : State} (hreg : u.reg = s.reg) (hstat : u.stat = s.stat)
    (hpair : u.saddle.enabled = s.saddle.enabled) (hpower : u.power = s.power) (hhost : u.host = s.host) (p : Nat) :
    u.linkState p = s.linkState p := by
  have henabled : u.portEnabled p = s.portEnabled p := by
    rw [State.portEnabled, State.homeHere, State.pairId, hreg, hstat, hpair, hpower]
    rfl
  rw [State.linkState, State.internalUp, henabled, hreg, hstat, hhost]
  rfl

/-! ### Keying a request (R306) -/

/-- Keying a request leaves the pair as it is. -/
theorem afterKey_enabled (s : State) (c : Caller) (op i j : Nat) (d : Bytes) :
    (s.afterKey c op i j d).saddle.enabled = s.saddle.enabled := by
  unfold State.afterKey
  rw [State.touchSession_saddle]
  unfold State.keyRequest State.journalInput
  dsimp only
  (repeat' split) <;> rfl

/-- Keying a request changes no port. -/
@[simp] theorem port_afterKey (s : State) (c : Caller) (op i j : Nat) (d : Bytes) (p : Nat) :
    (s.afterKey c op i j d).port p = s.port p := port_congr (by simp) p

/-- Keying a request changes no link. -/
@[simp] theorem linkState_afterKey (s : State) (c : Caller) (op i j : Nat) (d : Bytes) (p : Nat) :
    (s.afterKey c op i j d).linkState p = s.linkState p :=
  linkState_congr (by ext; simp) (by ext; simp) (afterKey_enabled s c op i j d) (by simp) (by simp) p

/-! ### An accepted command -/

@[simp] theorem accepted_setStat (s : State) (i j v : Nat) (c : Caller) : (s.setStat i j v).accepted c = s.accepted c := rfl
@[simp] theorem accepted_modPort (s : State) (p : Nat) (f : Port → Port) (c : Caller) :
    (s.modPort p f).accepted c = s.accepted c := rfl

/-- The state in which an accepted command has its effect: keyed, recorded, and its response waiting. -/
def State.commanded (s : State) (c : Caller) (idx sub : Nat) (data : Bytes) : State :=
  (s.afterKey c 2 idx sub data).acceptWrite c 0 idx sub 0 (leNat data) 0 (s.keyEpoch + 4)

section Commanded

variable (s : State) (c : Caller) (idx sub : Nat) (data : Bytes)

@[simp] theorem commanded_ports : (s.commanded c idx sub data).ports = s.ports := by simp [State.commanded]
@[simp] theorem commanded_time : (s.commanded c idx sub data).time = s.time := by simp [State.commanded]
@[simp] theorem commanded_keys : (s.commanded c idx sub data).keys = s.keys := by simp [State.commanded]
@[simp] theorem commanded_power : (s.commanded c idx sub data).power = s.power := by simp [State.commanded]
@[simp] theorem port_commanded (p : Nat) : (s.commanded c idx sub data).port p = s.port p := port_congr (by simp) p
@[simp] theorem stat_commanded (a b : Nat) : (s.commanded c idx sub data).stat a b = s.stat a b := afterKey_stat ..
@[simp] theorem reg_commanded (a b : Nat) : (s.commanded c idx sub data).reg a b = s.reg a b := by
  rw [← afterKey_reg s c 2 idx sub data]
  unfold State.reg State.keyEpoch State.commanded
  rw [State.acceptWrite_time]
  rfl
@[simp] theorem linkState_commanded (p : Nat) : (s.commanded c idx sub data).linkState p = s.linkState p := by
  refine linkState_congr (by ext; simp) (by ext; simp) ?_ (by simp) (by simp [State.commanded]) p
  rw [State.commanded, State.acceptWrite_saddle, afterKey_enabled]
@[simp] theorem portUp_commanded (p : Nat) : (s.commanded c idx sub data).portUp p = s.portUp p := by
  rw [State.portUp, linkState_commanded, State.portUp]

/-- The command's response waits. -/
@[simp] theorem accepted_commanded : (s.commanded c idx sub data).accepted c = true := acceptWrite_accepted ..

end Commanded

/-- A write-only entry, the same for every caller, stores nothing: its accepted write is a command. -/
theorem dictWrite_command {s : State} {c : Caller} {idx sub : Nat} {data : Bytes} {extra : State → Nat → Nat}
    {eff : Nat → State → State} {e : EntryDef} (he : entryDef idx sub = some e) (hwo : e.perIface = false ∧ e.acc = .wo)
    (h : s.writeCheck c idx sub data = 0) (hx : extra (s.afterKey c 2 idx sub data) (leNat data) = 0) :
    s.dictWrite c idx sub data extra eff = eff (leNat data) (s.commanded c idx sub data) := by
  obtain ⟨hiface, hacc⟩ := hwo
  rw [dictWrite_accepted s c idx sub data extra eff e he h hx, State.storeWrite, hiface, hacc]
  rfl

/-- The commands of a PHY: an indirect access, a cable diagnosis, a sleep or a wake. -/
theorem entryDef_phyCommand : ∀ p < 20, ∀ sub ∈ [0x0B, 0x14, 0x18], ∃ e, entryDef (0x30C0 + p) sub = some e ∧
    e.perIface = false ∧ e.acc = .wo := by
  have hfound : ∀ p < 20, ∀ sub ∈ [0x0B, 0x14, 0x18],
      (entryDef (0x30C0 + p) sub).map (fun e => (e.perIface, e.acc)) = some (false, .wo) := by decide +kernel
  intro p hp sub hsub
  obtain ⟨e, he, hkind⟩ := Option.map_eq_some_iff.mp (hfound p hp sub hsub)
  exact ⟨e, he, Prod.mk.inj hkind⟩

/-- A command of a PHY that the checks accept has its effect. -/
theorem phyCommand_accepted {s : State} {c : Caller} {p sub : Nat} {data : Bytes} {extra : State → Nat → Nat}
    {eff : Nat → State → State} (hp : p < 20) (hsub : sub ∈ [0x0B, 0x14, 0x18])
    (h : s.writeCheck c (0x30C0 + p) sub data = 0)
    (hx : extra (s.afterKey c 2 (0x30C0 + p) sub data) (leNat data) = 0) :
    s.dictWrite c (0x30C0 + p) sub data extra eff = eff (leNat data) (s.commanded c (0x30C0 + p) sub data) := by
  obtain ⟨e, he, hwo⟩ := entryDef_phyCommand p hp sub hsub
  exact dictWrite_command he hwo h hx

end Sys2Proof.Machine
end

section
/-! O23: TC10 sleep and wake-up of EP ports, PLCA beacons and transmit opportunities of SP ports. -/

namespace Sys2Proof.Machine

open Sys2Proof

/-- EP0 … EP11 are the ports 8 … 19. -/
theorem isEP_iff {p : Nat} : isEP p = true ↔ 8 ≤ p ∧ p < 20 := by simp [isEP]

/-- SP0 … SP7 are the ports 20 … 27. -/
theorem isSP_iff {p : Nat} : isSP p = true ↔ 20 ≤ p ∧ p < 28 := by simp [isSP]

/-- A port that is UP leaves it by a link-down to the next state. -/
theorem leaveUp_up {s : State} {p : Nat} (next : Nat) (forced : Bool) (hup : s.portUp p = true) :
    s.leaveUp p next forced = (s.setStat (0x3040 + p) 1 next).linkDown p forced := if_pos hup

/-! ### TC10 (R119) -/

/-- A port that sleeps trains. -/
theorem wakePort_sleeping {s : State} {p : Nat} (h : s.linkState p = 4) :
    s.wakePort p = (s.setStat (0x3040 + p) 1 2).setStat (0x30C0 + p) 0x1A 3 := if_pos h

/-- An accepted sleep command on a port that is UP starts the handshake. -/
theorem reqTc10Sleep_starts {s : State} {c : Caller} {p : Nat} (hp : p < 20)
    (h : s.writeCheck c (0x30C0 + p) 0x18 [1] = 0) (hup : s.portUp p = true) :
    s.reqTc10Sleep c p = (s.commanded c (0x30C0 + p) 0x18 [1]).setStat (0x30C0 + p) 0x1A 1 := by
  rw [State.reqTc10Sleep, phyCommand_accepted hp (by simp) h rfl, portUp_commanded, if_pos hup]

/-- An accepted wake command on a port that sleeps lets it train. -/
theorem reqTc10Wake_trains {s : State} {c : Caller} {p : Nat} (hp : p < 20)
    (h : s.writeCheck c (0x30C0 + p) 0x18 [2] = 0) (hsleeps : s.linkState p = 4) :
    s.reqTc10Wake c p =
      ((s.commanded c (0x30C0 + p) 0x18 [2]).setStat (0x3040 + p) 1 2).setStat (0x30C0 + p) 0x1A 3 := by
  rw [State.reqTc10Wake, phyCommand_accepted hp (by simp) h rfl, wakePort_sleeping (by simpa using hsleeps)]

/-- An EP port that is UP goes to sleep by a link-down under its policy. -/
def State.asleep (s : State) (p : Nat) : State :=
  (((s.setStat (0x3040 + p) 1 4).linkDown p false).orStat (0x3040 + p) 0x0B 32).setStat (0x30C0 + p) 0x1A 2

theorem enterPortSleep_up {s : State} {p : Nat} (hlo : 8 ≤ p) (hhi : p < 20) (hup : s.portUp p = true) :
    s.enterPortSleep p = s.asleep p := by
  rw [State.enterPortSleep, if_pos ⟨isEP_iff.mpr ⟨hlo, hhi⟩, hup⟩, leaveUp_up 4 false hup]
  rfl

theorem around_asleep (s : State) (p : Nat) : (s.asleep p).around = s.around := by simp [State.asleep]

/-- Zero has no bits. -/
theorem bitsSet_zero (k : Nat) : bitsSet 0 k = [] :=
  List.filter_eq_nil_iff.mpr fun i _ => by rw [Nat.zero_testBit]; exact Bool.false_ne_true

/-- A wake-up pulse at a port that forwards none lets it train. -/
theorem wakePulse_unforwarded {s : State} {p : Nat} (hlo : 8 ≤ p) (hhi : p < 20) (hsleeps : s.linkState p = 4)
    (hmask : s.reg (0x30C0 + p) 0x19 = 0) :
    wakePulse p s = ((s.setStat (0x3040 + p) 1 2).setStat (0x30C0 + p) 0x1A 3).orStat (0x3040 + p) 0x0B 64 := by
  rw [wakePulse, if_pos ⟨isEP_iff.mpr ⟨hlo, hhi⟩, hsleeps⟩, wakePort_sleeping hsleeps]
  dsimp only
  rw [reg_orStat, reg_setStat, reg_setStat, hmask, bitsSet_zero, List.foldl_nil]

/-! ### PLCA (R120, R121) -/

/-- A follower that is UP and misses its beacons leaves by a link-down to DOWN, and counts it. -/
def State.beaconLost (s : State) (p : Nat) : State :=
  ((((s.setStat (0x3040 + p) 1 1).linkDown p false).count32 (0x7080 + p - 20) 7).orStat (0x3040 + p) 0x0B 4).setStat
    (0x7080 + p - 20) 6 0

theorem beaconTimeout_follower {s : State} {p : Nat} (hlo : 20 ≤ p) (hhi : p < 28) (hup : s.portUp p = true)
    (hid : s.reg (0x7080 + p - 20) 1 ≠ 0) : beaconTimeout p s = s.beaconLost p := by
  rw [beaconTimeout, if_pos ⟨isSP_iff.mpr ⟨hlo, hhi⟩, hup, hid⟩, leaveUp_up 1 false hup]
  rfl

theorem around_beaconLost (s : State) (p : Nat) : (s.beaconLost p).around = s.around := by simp [State.beaconLost]

/-- A coordinator counts a foreign beacon and raises its event. -/
theorem foreignBeacon_coordinator {s : State} {p : Nat} (hlo : 20 ≤ p) (hhi : p < 28)
    (hid : s.reg (0x7080 + p - 20) 1 = 0) :
    foreignBeacon p s = (s.count32 (0x7080 + p - 20) 7).raiseEvent p 0x0303 0 := if_pos ⟨isSP_iff.mpr ⟨hlo, hhi⟩, hid⟩

/-- An SP port with a transmit opportunity: one frame and the burst, and what is eligible starts. -/
def State.opportune (s : State) (p : Nat) : State :=
  egressSchedule p true none (s.modPort p (fun (x : Port) => { x with burst := 1 + s.reg (0x7080 + p - 20) 4 }))

theorem transmitOpportunity_taken {s : State} {p : Nat} (hlo : 20 ≤ p) (hhi : p < 28) (hup : s.portUp p = true) :
    transmitOpportunity p false s = s.opportune p := by
  rw [transmitOpportunity, if_pos ⟨isSP_iff.mpr ⟨hlo, hhi⟩, hup⟩, if_neg Bool.false_ne_true, State.opportune]

theorem transmitOpportunity_collides {s : State} {p : Nat} (hlo : 20 ≤ p) (hhi : p < 28) (hup : s.portUp p = true) :
    transmitOpportunity p true s = (s.collide p).refreshCredits p := by
  rw [transmitOpportunity, if_pos ⟨isSP_iff.mpr ⟨hlo, hhi⟩, hup⟩, if_pos rfl]

theorem around_opportune (s : State) (p : Nat) : (s.opportune p).around.1 = s.around.1 := by simp [State.opportune]

/-- Settles O23, clause by clause. -/
theorem sleepWakeAndPlca : Obligations.SleepWakeAndPlca := by
  refine ⟨?sleep, ?wake, ?ack, ?partner, ?pulse, ?beacon, ?foreign, ?opportunity⟩
  case sleep =>
    intro s t p c hawake hp hiface hcheck hup
    dsimp only [exec, execTc10Sleep]
    refine happenBy_answers (decide_eq_true hp) hawake hiface ?_
    rw [reqTc10Sleep_starts (s := s.advance t) hp hcheck hup]
    refine ⟨by simp, ?_, ?_, by simp, by simp, by simp⟩
    · rw [stat_setStat, if_pos rfl]
    · rw [stat_setStat, if_neg (by omega), stat_commanded, advance_stat]
  case wake =>
    intro s t p c hawake hp hiface hcheck hsleeps
    dsimp only [exec, execTc10Wake]
    refine happenBy_answers (decide_eq_true hp) hawake hiface ?_
    rw [reqTc10Wake_trains (s := s.advance t) hp hcheck hsleeps]
    refine ⟨by simp, ?_, ?_, by simp, by simp, by simp⟩
    · rw [stat_setStat, if_neg (by omega), stat_setStat, if_pos rfl]
    · rw [stat_setStat, if_pos rfl]
  case ack =>
    intro s t p hawake hlo hhi hup hstarted
    dsimp only [exec, execTc10SleepAck]
    refine happen_answers (decide_eq_true hhi) hawake ?_
    rw [if_pos (show (s.advance t).stat (0x30C0 + p) 0x1A = 1 from hstarted), enterPortSleep_up hlo hhi hup]
    exact ⟨rfl, around_eq_iff.mp (around_asleep (s.advance t) p)⟩
  case partner =>
    intro s t p hawake hlo hhi hup haccepts
    dsimp only [exec, execPartnerSleepRequest]
    refine happen_answers (decide_eq_true hhi) hawake ?_
    rw [if_pos haccepts, enterPortSleep_up hlo hhi hup]
    exact ⟨rfl, around_eq_iff.mp (around_asleep (s.advance t) p)⟩
  case pulse =>
    intro s t p hawake hlo hhi hsleeps hmask
    dsimp only [exec, execWakePulseReceived]
    refine happen_answers (decide_eq_true hhi) hawake ?_
    rw [wakePulse_unforwarded hlo hhi hsleeps hmask]
    refine ⟨?_, ?_, ?_, rfl⟩
    · rw [stat_orStat, if_neg (by omega), stat_setStat, if_neg (by omega), stat_setStat, if_pos rfl]
    · rw [stat_orStat, if_neg (by omega), stat_setStat, if_pos rfl]
    · rw [stat_orStat, if_pos rfl, stat_setStat, if_neg (by omega), stat_setStat, if_neg (by omega), advance_stat]
  case beacon =>
    intro s t p hawake hlo hhi hup hid
    dsimp only [exec, execBeaconTimeout]
    refine happen_answers (decide_eq_true hhi) hawake ?_
    rw [beaconTimeout_follower hlo hhi hup hid]
    exact ⟨rfl, around_eq_iff.mp (around_beaconLost (s.advance t) p)⟩
  case foreign =>
    intro s t p hawake hlo hhi hid
    dsimp only [exec, execForeignBeacon]
    refine happen_answers (decide_eq_true hhi) hawake ?_
    rw [foreignBeacon_coordinator hlo hhi hid]
    simp
  case opportunity =>
    intro s t p hawake hlo hhi hup
    dsimp only [exec, execTransmitOpportunity]
    constructor
    · refine happen_answers (decide_eq_true hhi) hawake ?_
      rw [transmitOpportunity_taken hlo hhi hup]
      exact ⟨rfl, around_fst_eq_iff.mp (around_opportune (s.advance t) p)⟩
    · refine happen_answers (decide_eq_true hhi) hawake ?_
      rw [transmitOpportunity_collides hlo hhi hup]
      exact ⟨rfl, around_fst_eq_iff (s := s).mp (by simp)⟩

end Sys2Proof.Machine
end

section
/-! O22: MDIO polling, indirect accesses, signal quality and cable diagnosis. -/

namespace Sys2Proof.Machine

open Sys2Proof

/-! ### Polling (R113, R114) -/

/-- A first poll of a BP port without an event bit, whose value is as configured, meets the condition. -/
theorem mdioPoll_met {s : State} {p v : Nat} (hp : p < 8) (hpolls : s.reg (0x30C0 + p) 3 ≠ 0)
    (hfirst : (s.port p).polled = false) (hvalue : v &&& s.reg (0x30C0 + p) 5 = s.reg (0x30C0 + p) 6)
    (hevents : v &&& s.reg (0x30C0 + p) 7 = 0) :
    mdioPoll p (some v) s =
      ((s.modPort p (fun (x : Port) => { x with polled := true, lastPoll := s.time.raw })).setStat (0x3040 + p) 5 v).modPort p
        (fun (x : Port) => { x with pollMet := true }) := by
  have hnote : s.notePoll p = s.modPort p (fun (x : Port) => { x with polled := true, lastPoll := s.time.raw }) := by
    rw [State.notePoll, hfirst]
    exact if_neg Bool.false_ne_true
  rw [mdioPoll, if_neg (by simp [isBP, hp, hpolls]), hnote]
  simp [State.pollEvents, hvalue, hevents]

/-! ### Indirect accesses (R115) -/

/-- `u` is `s` with an accepted indirect access of port `p` in progress: a read for code 1, else a write. -/
def IndirectStarted (s : State) (c : Caller) (p code : Nat) (u : State) : Prop :=
  u.accepted c = true ∧ u.stat (0x30C0 + p) 0x0C = 9 ∧
  (u.port p).indirect = some (decide (code = 1), s.reg (0x30C0 + p) 9, s.reg (0x30C0 + p) 0x0A) ∧
  (∀ q, q ≠ p → u.port q = s.port q) ∧ u.time.sets = s.time.sets ∧ u.keys = s.keys ∧ u.power = s.power

/-- A command that finds no access pending puts its own in progress. -/
theorem indirect_starts {s : State} {c : Caller} {p code : Nat} (hp : p < 20) (hlen : s.ports.length = 32)
    (h : s.writeCheck c (0x30C0 + p) 0x0B [BitVec.ofNat 8 code] = 0) (hnone : (s.port p).indirect = none) :
    IndirectStarted s c p code (s.indirect c p code) := by
  rw [State.indirect, phyCommand_accepted hp (by simp) h (by simp [hnone])]
  refine ⟨by simp, ?_, ?_, fun q hq => ?_, by simp, by simp, by simp⟩
  · rw [stat_setStat, if_pos rfl]
  · rw [port_setStat, port_modPort_same _ p _ (by simp [hlen]; omega), reg_commanded, reg_commanded]
  · rw [port_setStat, port_modPort_ne _ p q _ hq, port_commanded]

/-- A command that finds an access pending is refused with 0x0009. -/
theorem indirect_refused {s : State} {c : Caller} {p code : Nat} {x : Bool × Nat × Nat}
    (h : s.writeCheck c (0x30C0 + p) 0x0B [BitVec.ofNat 8 code] = 0) (hpending : (s.port p).indirect = some x) :
    (s.indirect c p code).replyOf c.iface = some ⟨c, 9, 0, 0⟩ ∧ (s.indirect c p code).ports = s.ports := by
  have hstatus : (if ((s.afterKey c 2 (0x30C0 + p) 0x0B [BitVec.ofNat 8 code]).port p).indirect.isSome then 9 else 0) = 9 := by
    simp [hpending]
  rw [State.indirect, dictWrite_extra _ c _ _ _ _ _ h (by rw [hstatus]; decide), hstatus]
  exact ⟨replyOf_reply .., by simp [State.withhold]⟩

/-- A write ends with status 0. -/
theorem indirectAccessDone_write {s : State} {p v a d : Nat} (h : (s.port p).indirect = some (false, a, d)) :
    indirectAccessDone p v s =
      (s.modPort p (fun (x : Port) => { x with indirect := none })).setStat (0x30C0 + p) 0x0C 0 := by
  rw [indirectAccessDone, h]
  exact if_neg Bool.false_ne_true

/-! ### Signal quality (R117) -/

/-- The lowest quality since the first, with a new one. -/
def State.lowestSqi (s : State) (p q : Nat) : Nat :=
  if (s.port p).sqiSeen then min q (s.stat (0x30C0 + p) 0x12) else q

/-- A quality not under the threshold, on an EP port that is UP and not marked low, is stored. -/
theorem sqiUpdate_well {s : State} {p q : Nat} (hlo : 8 ≤ p) (hhi : p < 20) (hlen : s.ports.length = 32)
    (hup : s.portUp p = true) (hwell : (s.port p).sqiLow = false) (hq : s.reg (0x30C0 + p) 0x13 ≤ q) :
    sqiUpdate p q s = ((s.setStat (0x30C0 + p) 0x11 q).setStat (0x30C0 + p) 0x12 (s.lowestSqi p q)).modPort p
      (fun (x : Port) => { x with sqiSeen := true }) := by
  rw [sqiUpdate, if_pos ⟨isEP_iff.mpr ⟨hlo, hhi⟩, hup⟩, State.noteSqi]
  dsimp only
  rw [if_neg (by simpa using hq), port_modPort_same _ p _ (by simp [hlen]; omega), port_setStat, port_setStat, hwell]
  rfl

/-! ### Cable diagnosis (R118) -/

/-- An accepted diagnosis of a port that is DOWN or DISABLED remembers its state and moves it to TEST. -/
theorem reqTdrStart_starts {s : State} {c : Caller} {p : Nat} (hp : p < 20)
    (h : s.writeCheck c (0x30C0 + p) 0x14 [1] = 0) (hdown : s.linkState p ≤ 1) :
    s.reqTdrStart c p =
      (((s.commanded c (0x30C0 + p) 0x14 [1]).modPort p (fun (x : Port) => { x with
        prior := s.stat (0x3040 + p) 1 })).setStat (0x3040 + p) 1 5).setStat (0x30C0 + p) 0x15 1 := by
  rw [State.reqTdrStart, phyCommand_accepted hp (by simp) h (by simp [hdown]), stat_commanded]
  rfl

/-- Settles O22, clause by clause. -/
theorem phyManagement : Obligations.PhyManagement := by
  refine ⟨?poll, ?read, ?write, ?readRefused, ?writeRefused, ?done, ?sqi, ?tdr, ?tdrDone⟩
  case poll =>
    intro s t p v hawake hp hlen hpolls hfirst hvalue hevents
    have hlt : p < (s.advance t).ports.length := by simp [hlen]; omega
    dsimp only [exec, execMdioPoll, Option.map]
    refine happen_answers (decide_eq_true hp) hawake ?_
    rw [mdioPoll_met (s := s.advance t) hp hpolls hfirst hvalue hevents, port_modPort_same _ p _ (by simpa using hlt),
      port_setStat, port_modPort_same _ p _ hlt]
    refine ⟨?_, rfl, rfl, rfl, ?_, fun q hq => ?_, rfl⟩
    · rw [stat_modPort, stat_setStat, if_pos rfl]
    · rw [stat_modPort, stat_setStat, if_neg (by omega), stat_modPort, advance_stat]
    · rw [port_modPort_ne _ p q _ hq, port_setStat, port_modPort_ne _ p q _ hq, port_advance]
  case read =>
    intro s t p c hawake hp hlen hiface hcheck hnone
    dsimp only [exec, execIndirectRead]
    refine happenBy_answers (decide_eq_true hp) hawake hiface ?_
    exact indirect_starts (s := s.advance t) (code := 1) hp hlen hcheck hnone
  case write =>
    intro s t p c hawake hp hlen hiface hcheck hnone
    dsimp only [exec, execIndirectWrite]
    refine happenBy_answers (decide_eq_true hp) hawake hiface ?_
    exact indirect_starts (s := s.advance t) (code := 2) hp hlen hcheck hnone
  case readRefused =>
    intro s t p c x hawake hp hiface hpending hcheck
    dsimp only [exec, execIndirectRead]
    refine happenBy_answers (decide_eq_true hp) hawake hiface ?_
    exact indirect_refused (s := s.advance t) (code := 1) hcheck hpending
  case writeRefused =>
    intro s t p c x hawake hp hiface hpending hcheck
    dsimp only [exec, execIndirectWrite]
    refine happenBy_answers (decide_eq_true hp) hawake hiface ?_
    exact indirect_refused (s := s.advance t) (code := 2) hcheck hpending
  case done =>
    intro s t p v a d hawake hp hlen hpending
    dsimp only [exec, execIndirectAccessDone]
    refine happen_answers (decide_eq_true hp) hawake ?_
    rw [indirectAccessDone_write (s := s.advance t) hpending]
    refine ⟨?_, rfl, fun q hq => ?_⟩
    · rw [port_setStat, port_modPort_same _ p _ (by simp [hlen]; omega)]
    · rw [port_setStat, port_modPort_ne _ p q _ hq, port_advance]
  case sqi =>
    intro s t p q hawake hlo hhi hlen hup hwell hq
    dsimp only [exec, execSqiUpdate]
    refine happen_answers (decide_eq_true hhi) hawake ?_
    rw [sqiUpdate_well (s := s.advance t) hlo hhi hlen hup hwell hq]
    refine ⟨?_, ?_, ?_, fun q hq => ?_, rfl⟩
    · rw [stat_modPort, stat_setStat, if_neg (by omega), stat_setStat, if_pos rfl]
    · rw [stat_modPort, stat_setStat, if_pos rfl]
      rfl
    · rw [port_modPort_same _ p _ (by simp [hlen]; omega)]
    · rw [port_modPort_ne _ p q _ hq, port_setStat, port_setStat, port_advance]
  case tdr =>
    intro s t p c hawake hp hlen hiface hcheck hdown
    dsimp only [exec, execTdrStart]
    refine happenBy_answers (decide_eq_true hp) hawake hiface ?_
    rw [reqTdrStart_starts (s := s.advance t) hp hcheck hdown]
    refine ⟨by simp, ?_, ?_, ?_, fun q hq => ?_, by simp, by simp, by simp⟩
    · rw [stat_setStat, if_neg (by omega), stat_setStat, if_pos rfl]
    · rw [port_setStat, port_setStat, port_modPort_same _ p _ (by simp [hlen]; omega)]
      rfl
    · rw [stat_setStat, if_pos rfl]
    · rw [port_setStat, port_setStat, port_modPort_ne _ p q _ hq, port_commanded, port_advance]
  case tdrDone =>
    intro s t p r d hawake hp htest
    exact (happen_awake t _ s _ (decide_eq_true hp) hawake).trans (congrArg _ (if_pos htest))

end Sys2Proof.Machine
end

section
/-! O21: the end of a hold time enters the stamp queue of its port. -/

namespace Sys2Proof.Machine

open Sys2Proof

/-! ### A held copy whose stamp was requested

A flush removes what waits, and each stamp request of what it removes produces a not-sent entry (R97, R123). The stamp queues
stand in the time base, so the time base does not stay. -/

/-- A frame of 64 bytes that the host sent with a request of a transmit stamp: tag 7, in domain 0. -/
def stampedFrame : Frame :=
  { newFrame 1 ⟨0, 28, 0⟩ 28 ⟨List.replicate 60 0#8, 64, 0, .none, false, some ⟨true, 7, 0, 0, false, 0, 0, 0, 0⟩⟩ 0 0 true with
    copies := 1 }

/-- Its only copy, in queue 0 of port 0. -/
def stampedCopy : Copy := ⟨1, 1, 0, 0, .plain, 1, 0, false, 0, 0, some (7, 0), 0⟩

/-- The device in RUN, else as after reset, with that copy held at port 0, whose hold time ends at raw tick 0. -/
def heldState : State :=
  { State.reset with
    power := { Power.reset with phase := .run },
    basin := { Basin.reset with frames := [stampedFrame], nextId := 2, copies := [stampedCopy], nextCopy := 2 },
    ports := { Port.reset with holdEnd := some 0 } :: List.replicate 31 Port.reset }

/-- The end of the hold time flushes the copy and enters its stamp as not sent. -/
theorem txStamps_holdTimerExpired_held :
    nth (holdTimerExpired 0 (heldState.advance 0)).time.txStamps 0 [] = [⟨7, 0, 0, 1⟩] := by decide +kernel

/-- Refutes O21, in clause (5) (the last of its Lean text): HOLD_TIMER_EXPIRED need not leave the time base as it was, since a
flushed copy whose stamp was requested leaves an entry in its port's stamp queue. -/
theorem not_linksComeUpAndGoDown : ¬ Obligations.LinksComeUpAndGoDown := by
  unfold Obligations.LinksComeUpAndGoDown
  rintro ⟨-, -, -, -, -, hhold⟩
  obtain ⟨u, hu, -, -, -, htime, -⟩ :=
    hhold heldState 0 0 0 (by decide) (by decide) rfl rfl (Nat.zero_le _)
  have hexec : exec (.holdTimerExpired 0 0) heldState = .next (holdTimerExpired 0 (heldState.advance 0)) :=
    happen_awake 0 _ heldState _ rfl (by decide)
  obtain rfl := Host.Outcome.next.inj (hexec.symm.trans hu)
  have hentry := txStamps_holdTimerExpired_held
  rw [htime] at hentry
  exact List.cons_ne_nil _ _ hentry.symm

end Sys2Proof.Machine
end

section
/-! What ending a copy, bringing credits up to date and settling retired banks leave as it was in Basin. -/

namespace Sys2Proof.Machine

open Sys2Proof

/-! ### As time passes -/

@[simp] theorem tx_advance (s : State) (t : Nat) : (s.advance t).basin.tx = s.basin.tx := rfl
@[simp] theorem copies_advance (s : State) (t : Nat) : (s.advance t).basin.copies = s.basin.copies := rfl
@[simp] theorem ptx_advance (s : State) (t p : Nat) : (s.advance t).ptx p = s.ptx p := rfl
@[simp] theorem queueOf_advance (s : State) (t p q : Nat) : (s.advance t).queueOf p q = s.queueOf p q := rfl

/-! ### Transmitters -/

/-- A change of one transmitter is seen there and nowhere else. -/
theorem ptx_of_modNth {s u : State} {p : Nat} {g : PortTx → PortTx} (h : u.basin.tx = modNth s.basin.tx p g)
    (hp : p < s.basin.tx.length) : u.ptx p = g (s.ptx p) ∧ ∀ q, q ≠ p → u.ptx q = s.ptx q := by
  simp only [State.ptx, h]
  exact ⟨nth_modNth_same _ p g _ hp, fun q hq => nth_modNth_ne _ p q g _ hq⟩

/-- A copy has not begun on a port with nothing on the line and no preempted frame. -/
theorem begun_idle {s : State} {c : Copy} (hcur : (s.ptx c.port).cur = none) (hheld : (s.ptx c.port).held = none) :
    s.begun c = false := by
  simp [State.begun, PortTx.begun, hcur, hheld]

/-! ### Transmitters, copies and frames -/

/-- What Basin holds to be sent: the transmitters, the copies and the frames. -/
def Basin.stock (b : Basin) : List PortTx × List Copy × List Frame := (b.tx, b.copies, b.frames)

/-- The transmitters, copies and frames one by one. -/
theorem stock_eq_iff {b d : Basin} : b.stock = d.stock ↔ b.tx = d.tx ∧ b.copies = d.copies ∧ b.frames = d.frames := by
  simp only [Basin.stock, Prod.mk.injEq]

@[simp] theorem stock_refreshCredit (s : State) (p q : Nat) : (s.refreshCredit p q).basin.stock = s.basin.stock := by
  unfold State.refreshCredit
  dsimp only
  split <;> rfl

@[simp] theorem stock_refreshCredits (s : State) (p : Nat) : (s.refreshCredits p).basin.stock = s.basin.stock :=
  List.foldlRecOn (motive := fun u => u.basin.stock = s.basin.stock) _ _ rfl
    fun u hu q _ => (stock_refreshCredit u p q).trans hu

@[simp] theorem stock_debit (s : State) (p q : Nat) (len : Int) : (s.debit p q len).basin.stock = s.basin.stock := by
  unfold State.debit
  split <;> rfl

@[simp] theorem stock_settleRetiring (s : State) : s.settleRetiring.basin.stock = s.basin.stock := rfl
@[simp] theorem State.settleRetiring_dict (s : State) : s.settleRetiring.dict = s.dict := rfl

@[simp] theorem State.refreshCredit_dict (s : State) (p q : Nat) : (s.refreshCredit p q).dict = s.dict := by
  rw [refreshCredit_eq]

/-- A queue's credit and the settled banks: transmitters, copies, frames and the dictionary stay. -/
theorem kept_refreshCredit_settle (s : State) (p q : Nat) :
    (s.refreshCredit p q).settleRetiring.basin.stock = s.basin.stock ∧
      (s.refreshCredit p q).settleRetiring.dict = s.dict ∧ (s.refreshCredit p q).settleRetiring.around = s.around := by
  simp

/-! ### The end of a copy (R190) -/

/-- Writing cells changes frames alone. -/
theorem exists_writeCells (s : State) (id n : Nat) :
    ∃ fs, s.writeCells id n = { s with basin := { s.basin with frames := fs } } := by
  unfold State.writeCells
  split
  · exact ⟨_, rfl⟩
  · exact ⟨_, rfl⟩

/-- Writing the cells that wait changes frames alone. -/
theorem exists_writeWaiting (s : State) : ∃ fs, s.writeWaiting = { s with basin := { s.basin with frames := fs } } := by
  refine List.foldlRecOn (motive := fun u => ∃ fs : List Frame, u = { s with basin := { s.basin with frames := fs } }) _ _
    ⟨s.basin.frames, rfl⟩ ?_
  rintro _ ⟨fs, rfl⟩ f -
  split
  · exact ⟨fs, rfl⟩
  · obtain ⟨gs, hgs⟩ := exists_writeCells { s with basin := { s.basin with frames := fs } } f.id f.need
    exact ⟨gs, hgs⟩

/-- A copy that ends leaves the list of copies; else only frames and leaked cells change. -/
theorem exists_endCopy (s : State) (c : Copy) : ∃ fs lk, s.endCopy c = { s with basin := { s.basin with
    copies := s.basin.copies.filter (fun x => decide (x.id ≠ c.id)), frames := fs, leaked := lk } } := by
  unfold State.endCopy
  extract_lets b s₁ s₂
  split
  · split
    · next f _ _ =>
      obtain ⟨fs, hfs⟩ := exists_writeWaiting (s₂.removeFrame f.id)
      exact ⟨fs, (s₂.removeFrame f.id).basin.leaked, hfs⟩
    · exact ⟨_, _, rfl⟩
  · exact ⟨_, _, rfl⟩

@[simp] theorem State.endCopy_dict (s : State) (c : Copy) : (s.endCopy c).dict = s.dict := by
  obtain ⟨fs, lk, h⟩ := exists_endCopy s c
  rw [h]
@[simp] theorem stat_endCopy (s : State) (c : Copy) (a b : Nat) : (s.endCopy c).stat a b = s.stat a b := by
  simp [State.stat]
@[simp] theorem tx_endCopy (s : State) (c : Copy) : (s.endCopy c).basin.tx = s.basin.tx := by
  obtain ⟨fs, lk, h⟩ := exists_endCopy s c
  rw [h]
@[simp] theorem copies_endCopy (s : State) (c : Copy) :
    (s.endCopy c).basin.copies = s.basin.copies.filter (fun x => decide (x.id ≠ c.id)) := by
  obtain ⟨fs, lk, h⟩ := exists_endCopy s c
  rw [h]

/-- A copy that ends is no longer among the copies. -/
theorem id_ne_of_mem_endCopy {s : State} {c x : Copy} (h : x ∈ (s.endCopy c).basin.copies) : x.id ≠ c.id := by
  rw [copies_endCopy] at h
  exact of_decide_eq_true (List.mem_filter.mp h).2

/-- A stamp concerns the time base and the counters. -/
@[simp] theorem State.pushStamp_basin (s : State) (p : Nat) (x : TxStamp) : (s.pushStamp p x).basin = s.basin := by
  simp [State.pushStamp]
@[simp] theorem State.notSent_basin (s : State) (p : Nat) (stamp : Option (Nat × Nat)) :
    (s.notSent p stamp).basin = s.basin := by
  cases stamp <;> simp [State.notSent]
@[simp] theorem State.stampStart_basin (s : State) (c : Copy) : (s.stampStart c).basin = s.basin := by
  unfold State.stampStart
  split <;> simp

@[simp] theorem State.queueDrop_basin (s : State) (p q : Nat) : (s.queueDrop p q).basin = s.basin := by
  simp [State.queueDrop]

/-- A copy that is dropped leaves the list of copies. -/
@[simp] theorem copies_dropCopy (s : State) (c : Copy) :
    (s.dropCopy c).basin.copies = s.basin.copies.filter (fun x => decide (x.id ≠ c.id)) := by
  simp [State.dropCopy]

/-- A counter that does not reach its largest value counts one. -/
theorem stat_count32_lt {s : State} {i j : Nat} (h : s.stat i j < 0xFFFFFFFE) : (s.count32 i j).stat i j = s.stat i j + 1 := by
  unfold State.count32
  rw [if_neg (by omega), if_neg (by omega), stat_setStat, if_pos rfl]

/-- Checking the occupancy of a port changes ports alone (R127). -/
theorem exists_checkXoff (s : State) (p : Nat) : ∃ ps, s.checkXoff p = { s with ports := ps } := by
  unfold State.checkXoff State.sendPause
  dsimp only
  (repeat' split) <;> exact ⟨_, rfl⟩

end Sys2Proof.Machine
end

section
/-! O26: the scheduler, the end of a transmission, launch times, late heads and aged heads. -/

namespace Sys2Proof.Machine

open Sys2Proof

/-! ### One copy in all queues -/

/-- One copy that has not begun waits in its own queue, and no other queue holds anything. -/
theorem queueOf_single {s : State} {c : Copy} (hcopies : s.basin.copies = [c]) (hidle : s.begun c = false) (p q : Nat) :
    s.queueOf p q = if c.port = p ∧ c.queue = q then [c] else [] := by
  rw [State.queueOf, hcopies]
  by_cases hp : c.port = p <;> by_cases hq : c.queue = q <;> simp [hp, hq, hidle]

/-- A copy that waits in a queue is of that port and queue. -/
theorem port_queue_of_mem_queueOf {s : State} {p q : Nat} {c : Copy} (h : c ∈ s.queueOf p q) :
    c.port = p ∧ c.queue = q := by
  have hcond := (List.mem_filter.mp h).2
  simp only [Bool.and_eq_true, decide_eq_true_eq] at hcond
  exact hcond.1

/-! ### The scheduler (R240) -/

/-- Queues whose heads stay are left as they are. -/
theorem cleanPort_kept {s : State} {p : Nat} (h : ∀ q c cs, s.queueOf p q = c :: cs → s.headDrop c = none) :
    s.cleanPort p = s := by
  refine List.foldlRecOn (motive := fun u => u = s) _ _ rfl ?_
  rintro _ rfl q -
  cases hq : State.queueOf _ p q with
  | nil => rfl
  | cons c cs => rw [dropHeads, h q c cs hq]

/-- With nothing on the line nothing gives way. -/
theorem yieldTx_idle {s : State} {p : Nat} (h : (s.ptx p).cur = none) : s.yieldTx p = s := by
  rw [State.yieldTx, h]

/-- An eligible head wins when every other queue is empty. -/
theorem winner_eligible {s : State} {p q : Nat} {c : Copy} {f : Frame} {qs : List Nat} (hmem : q ∈ qs)
    (hothers : ∀ r, r ≠ q → s.queueOf p r = []) (hqueue : s.queueOf p q = [c]) (hframe : s.frame c.frame = some f)
    (hhead : s.headState p q c f = .yes) (hfree : s.macFree p q = true) : State.winner p qs s = (s, some c) := by
  induction qs with
  | nil => exact absurd hmem List.not_mem_nil
  | cons r rs ih =>
    rw [State.winner]
    by_cases hr : r = q
    · subst hr
      simp [hqueue, hframe, hhead, hfree]
    · simp only [hothers r hr]
      exact ih ((List.mem_cons.mp hmem).resolve_left (Ne.symm hr))

/-- A copy whose cells read well starts on an idle port without MACsec as it is. -/
theorem startCopy_idle {s : State} {p : Nat} {c : Copy} {f : Frame} {read : Option (Nat × Bool)}
    (hframe : s.frame c.frame = some f) (hcur : (s.ptx p).cur = none) (hread : s.readFault f read = none)
    (hsec : s.secyOn p = false) : s.startCopy p c read = s.beginTx p c f := by
  have hprotect : s.protect p f = (s, true) := if_pos (by simp [hsec])
  simp [State.startCopy, hframe, hcur, hread, State.protectStart, hprotect]

/-- The transmission of a copy that starts now. -/
def State.lineNow (s : State) (p : Nat) (c : Copy) : TxFrame := ⟨c, 0, s.time.raw, s.preemptable p c.queue, 0, false⟩

/-- A copy put on the line takes the transmitter; copies and frames stay. -/
theorem stock_beginTx (s : State) (p : Nat) (c : Copy) (f : Frame) : (s.beginTx p c f).basin.stock =
    (modNth s.basin.tx p (fun x => { x with cur := some (s.lineNow p c) }), s.basin.copies, s.basin.frames) := by
  unfold State.beginTx
  extract_lets pre len s₁
  have hraw : s₁.time.raw = s.time.raw := congrArg (fun x => x.2.2.1) (show s₁.shape = s.shape by simp [s₁])
  obtain ⟨htx, hcopies, hframes⟩ := stock_eq_iff.mp (show s₁.basin.stock = s.basin.stock by simp [s₁])
  show (modNth s₁.basin.tx p _, s₁.basin.copies, s₁.basin.frames) = _
  rw [htx, hcopies, hframes, hraw]
  rfl

/-- The state after a copy has started, with the port's credits up to date. -/
def State.started (s : State) (p : Nat) (c : Copy) (f : Frame) : State :=
  (s.beginTx p c f).settleRetiring.refreshCredits p

/-- What the start of a copy leaves: its transmission on the line, and copies and frames as they were. -/
theorem stock_started (s : State) (p : Nat) (c : Copy) (f : Frame) : (s.started p c f).basin.stock =
    (modNth s.basin.tx p (fun x => { x with cur := some (s.lineNow p c) }), s.basin.copies, s.basin.frames) := by
  rw [State.started, stock_refreshCredits, stock_settleRetiring, stock_beginTx]

theorem around_started (s : State) (p : Nat) (c : Copy) (f : Frame) : (s.started p c f).around = s.around := by
  simp [State.started]

/-- The winner of an idle port without MACsec and without a frame of the MAC's own starts; a port that is not an SP port has no
burst to use up. -/
theorem egressSchedule_started {s : State} {p : Nat} {c : Copy} {f : Frame} (hp : p < 20) (hclean : s.cleanPort p = s)
    (hcur : (s.ptx p).cur = none) (hstart : s.canStart p true = true) (hmac : (s.port p).macOut = [])
    (hwins : State.winner p [7, 6, 5, 4, 3, 2, 1, 0] s = (s, some c)) (hframe : s.frame c.frame = some f)
    (hread : s.readFault f none = none) (hsec : s.secyOn p = false) :
    egressSchedule p true none s = s.started p c f := by
  have hnone : s.sendMac p = none := by rw [State.sendMac, hmac]
  have hburst (u : State) : u.useBurst p = u := if_neg (by simp [isSP]; omega)
  rw [egressSchedule, hclean, yieldTx_idle hcur]
  dsimp only
  rw [if_neg (by simp [hstart]), hnone, hwins]
  dsimp only
  rw [startCopy_idle hframe hcur hread hsec, hburst, State.started]

/-- A frame of the MAC's own goes before the queues. -/
theorem egressSchedule_mac {s : State} {p : Nat} {m : MacFrame} {ms : List MacFrame} {read : Option (Nat × Bool)}
    (hclean : s.cleanPort p = s) (hcur : (s.ptx p).cur = none) (hstart : s.canStart p true = true)
    (hmac : (s.port p).macOut = m :: ms) (hkind : m.kind = 0) :
    egressSchedule p true read s =
      ((s.modPort p (fun (x : Port) => { x with macOut := ms })).count64 (0x3080 + p) 0x15 1).refreshCredits p := by
  have hsend : s.sendMac p =
      some ((s.modPort p (fun (x : Port) => { x with macOut := ms })).count64 (0x3080 + p) 0x15 1) := by
    simp [State.sendMac, hmac, hcur, hkind]
  rw [egressSchedule, hclean, yieldTx_idle hcur]
  dsimp only
  rw [if_neg (by simp [hstart]), hsend]

/-! ### The end of a transmission (R190) -/

/-- A store-and-forward copy that goes out whole is counted, and its fragments where it was preempted. -/
def State.countWhole (s : State) (p : Nat) (x : TxFrame) (f : Frame) : State :=
  let counted := s.countSent p (s.copyBytes f x.copy) (s.sentLen f x.copy.kind p f.length)
  if x.frags ≠ 0 then counted.count64 (0x3580 + p) 0x14 (x.frags + 1) else counted

@[simp] theorem State.countWhole_basin (s : State) (p : Nat) (x : TxFrame) (f : Frame) :
    (s.countWhole p x f).basin = s.basin := by
  simp [State.countWhole, State.countSent]

@[simp] theorem around_countWhole (s : State) (p : Nat) (x : TxFrame) (f : Frame) :
    (s.countWhole p x f).around = s.around := by
  simp [State.countWhole, State.countSent]

/-- A good frame sent counts one. -/
theorem stat_countSent (s : State) (p len : Nat) (b : Bytes) :
    (s.countSent p b len).stat (0x3080 + p) 0x10 = (s.stat (0x3080 + p) 0x10 + 1) % 2 ^ 64 := by
  unfold State.countSent
  extract_lets da kind
  have hkind : kind ≠ 0x10 := by
    dsimp only [kind]
    split
    · decide
    · split <;> decide
  rw [stat_count64, if_neg (by omega), stat_count64, if_neg (by omega), stat_count64, if_pos rfl]

theorem stat_countWhole (s : State) (p : Nat) (x : TxFrame) (f : Frame) :
    (s.countWhole p x f).stat (0x3080 + p) 0x10 = (s.stat (0x3080 + p) 0x10 + 1) % 2 ^ 64 := by
  unfold State.countWhole
  extract_lets counted
  have hcounted : counted.stat (0x3080 + p) 0x10 = (s.stat (0x3080 + p) 0x10 + 1) % 2 ^ 64 := stat_countSent ..
  split
  · rw [stat_count64, if_neg (by omega), hcounted]
  · exact hcounted

/-- What the transmitter of a port keeps of a copy that went out whole. -/
def State.lineAfter (s : State) (x : TxFrame) (f : Frame) (y : PortTx) : PortTx :=
  { y with cur := none, last := some (s.copyBytes f x.copy ++ fcsBytes (s.copyBytes f x.copy) false, false) }

/-- The state after a store-and-forward copy has been sent whole, before its ingress port is checked against XOFF. -/
def State.sentWhole (s : State) (p : Nat) (x : TxFrame) (f : Frame) : State :=
  (((((s.countWhole p x f).modTx p (s.lineAfter x f)).modPort p (fun (y : Port) => { y with attempts := 0 })).endCopy
    x.copy).settleRetiring).refreshCredits p

/-- A store-and-forward copy that is not stomped goes out whole. -/
theorem finishTx_whole {s : State} {p : Nat} {x : TxFrame} {f : Frame} (hcur : (s.ptx p).cur = some x)
    (hframe : s.frame x.copy.frame = some f) (hcut : x.copy.cut = false) (hstomp : x.stomp = false) :
    s.finishTx p = ((s.sentWhole p x f).checkXoff f.port, some (x.copy, f, s.copyBytes f x.copy)) := by
  unfold State.finishTx
  rw [hcur]
  dsimp only
  rw [hframe, hcut, hstomp]
  simp only [Bool.false_and, Bool.or_false, Bool.false_eq_true, if_false]
  rfl

/-- On ports 0…27 nothing receives it at once. -/
theorem frameTransmitEnd_whole {s : State} {p : Nat} {x : TxFrame} {f : Frame} (hp : p < 28)
    (hcur : (s.ptx p).cur = some x) (hframe : s.frame x.copy.frame = some f) (hcut : x.copy.cut = false)
    (hstomp : x.stomp = false) : frameTransmitEnd p s = (s.sentWhole p x f).checkXoff f.port := by
  rw [frameTransmitEnd, finishTx_whole hcur hframe hcut hstomp]
  dsimp only
  rw [State.deliver, if_neg (by omega), if_neg (by omega), if_neg (by omega)]

/-- What the end of such a transmission leaves: a free line, its latest frame, and the copies without the one sent. -/
theorem basin_sentWhole (s : State) (p : Nat) (x : TxFrame) (f : Frame) :
    (s.sentWhole p x f).basin.tx = modNth s.basin.tx p (s.lineAfter x f) ∧
    (s.sentWhole p x f).basin.copies = s.basin.copies.filter (fun y => decide (y.id ≠ x.copy.id)) := by
  obtain ⟨htx, hcopies, -⟩ := stock_eq_iff.mp ((stock_refreshCredits _ p).trans (stock_settleRetiring
    ((((s.countWhole p x f).modTx p (s.lineAfter x f)).modPort p (fun (y : Port) => { y with attempts := 0 })).endCopy
      x.copy)))
  rw [State.sentWhole, htx, hcopies]
  simp [State.modTx]

/-- It counts one frame sent. -/
theorem stat_sentWhole (s : State) (p : Nat) (x : TxFrame) (f : Frame) :
    (s.sentWhole p x f).stat (0x3080 + p) 0x10 = (s.stat (0x3080 + p) 0x10 + 1) % 2 ^ 64 := by
  rw [← stat_countWhole s p x f, State.sentWhole, stat_refreshCredits]
  simp [State.stat]

theorem around_sentWhole (s : State) (p : Nat) (x : TxFrame) (f : Frame) : (s.sentWhole p x f).around = s.around := by
  simp [State.sentWhole]

/-- With nothing on the line nothing ends. -/
theorem frameTransmitEnd_idle {s : State} {p : Nat} (h : (s.ptx p).cur = none) : frameTransmitEnd p s = s := by
  rw [frameTransmitEnd, State.finishTx, h]

/-! ### Heads (R99, R100, R212) -/

/-- A head whose launch time has come brings its queue's credit up to date. -/
theorem launchTimeReached_due {s : State} {p q : Nat} {c : Copy} {cs : List Copy} (hqueue : s.queueOf p q = c :: cs)
    (hlaunch : c.launch ≠ 0) (hreached : c.launch ≤ s.workingNs) :
    launchTimeReached p q s = s.refreshCredit p q := by
  rw [launchTimeReached, hqueue]
  exact if_pos ⟨hlaunch, hreached⟩

/-- The state after a late head has ended and is counted, before a stamp that was requested is entered as not sent. -/
def State.lateDropped (s : State) (c : Copy) : State :=
  (s.endCopy c).count32 (0x3400 + c.port) (c.queue * 16 + 0x0D)

/-- A head past its launch time plus the late limit of its queue is dropped and counted. -/
theorem headDrop_late {s : State} {c : Copy} {f : Frame} (hframe : s.frame c.frame = some f) (haged : s.aged c = false)
    (hlate : c.launch ≠ 0 ∧ s.qparam c.port c.queue 0x0C ≠ 0 ∧ c.launch + s.qparam c.port c.queue 0x0C < s.workingNs) :
    s.headDrop c = some ((s.lateDropped c).notSent c.port c.stamp) := by
  rw [State.headDrop, hframe]
  dsimp only
  rw [if_neg (by simp [haged]), if_pos hlate, State.lateDropped]

/-- A late head that is alone in its queue leaves it, and the queue's credit follows. -/
theorem lateLimitExpired_late {s : State} {p q : Nat} {c : Copy} (hqueue : s.queueOf p q = [c])
    (hdrop : s.headDrop c = some ((s.lateDropped c).notSent c.port c.stamp)) (hstamp : c.stamp = none) :
    lateLimitExpired p q s = ((s.lateDropped c).refreshCredit p q).settleRetiring := by
  rw [lateLimitExpired, hqueue, dropHeads, hdrop, hstamp]
  rfl

/-- The only copy that waits is past its residence limit: it leaves its queue. -/
theorem residenceSweep_single {s : State} {c : Copy} (hcopies : s.basin.copies = [c]) (hidle : s.begun c = false)
    (hqueue : c.queue < 8) (haged : s.aged c = true) :
    residenceSweep s = ((s.ageOut c).refreshCredit c.port c.queue).settleRetiring := by
  have hport : (c.port * 8 + c.queue) / 8 = c.port := by omega
  have hnumber : (c.port * 8 + c.queue) % 8 = c.queue := by omega
  simp [residenceSweep, hcopies, distinct, hport, hnumber, queueOf_single hcopies hidle, ageHeads, haged]

/-- Settles O26, clause by clause. -/
theorem framesGoOut : Obligations.FramesGoOut := by
  refine ⟨?starts, ?mac, ?ended, ?idle, ?launch, ?late, ?aged⟩
  case starts =>
    intro s t p c f hawake hp hlen hstart hmac hsec hcur hheld hcopies hport hqueue hframe hkept hhead hread
    subst hport
    have hqueues := queueOf_single hcopies (begun_idle hcur hheld)
    dsimp only [exec, execEgressSchedule]
    refine happen_answers (decide_eq_true (by omega)) hawake ?_
    have hclean : (s.advance t).cleanPort c.port = s.advance t := cleanPort_kept fun q d cs hd => by
      rw [queueOf_advance, hqueues] at hd
      split at hd
      · obtain ⟨rfl, -⟩ := List.cons.inj hd
        exact hkept
      · contradiction
    have hwins : State.winner c.port [7, 6, 5, 4, 3, 2, 1, 0] (s.advance t) = (s.advance t, some c) :=
      winner_eligible (q := c.queue) (by simp; omega) (fun r hr => by simp [hqueues, Ne.symm hr]) (by simp [hqueues])
        hframe hhead (by simp [State.macFree, hcur, hheld])
    rw [egressSchedule_started (s := s.advance t) hp hclean hcur hstart hmac hwins hframe hread hsec]
    have hstock := stock_started (s.advance t) c.port c f
    have haround := around_started (s.advance t) c.port c f
    generalize (s.advance t).started c.port c f = u at *
    simp only [Basin.stock, Prod.mk.injEq] at hstock
    obtain ⟨htx, hcopiesStay, hframesStay⟩ := hstock
    obtain ⟨hline, hothers⟩ := ptx_of_modNth htx (by simp; omega)
    exact ⟨congrArg PortTx.cur hline, hothers, hcopiesStay, hframesStay, around_fst_eq_iff.mp (congrArg Prod.fst haround)⟩
  case mac =>
    intro s t p m ms hawake hp hlen hstart hmac hkind hcur hcopies
    dsimp only [exec, execEgressSchedule]
    refine happen_answers (decide_eq_true (by omega)) hawake ?_
    have hclean : (s.advance t).cleanPort p = s.advance t := cleanPort_kept fun q d cs hd => by
      simp [State.queueOf, hcopies] at hd
    rw [egressSchedule_mac (s := s.advance t) hclean hcur hstart hmac hkind]
    refine ⟨?_, ?_, fun q hq => ?_, ?_⟩
    · rw [port_refreshCredits, port_count64, port_modPort_same _ p _ (by simp [hlen]; omega)]
    · rw [stat_refreshCredits, stat_count64, if_pos rfl, stat_modPort, advance_stat]
    · rw [port_refreshCredits, port_count64, port_modPort_ne _ p q _ hq, port_advance]
    · obtain ⟨b, hb⟩ := exists_refreshCredits (((s.advance t).modPort p _).count64 (0x3080 + p) 0x15 1) p
      rw [hb]
      rfl
  case ended =>
    intro s t p x f hawake hp hlen hcur hframe hcut hstomp
    dsimp only [exec, execFrameTransmitEnd]
    refine happen_answers (decide_eq_true (by omega)) hawake ?_
    rw [frameTransmitEnd_whole (s := s.advance t) hp hcur hframe hcut hstomp]
    obtain ⟨htx, hcopies⟩ := basin_sentWhole (s.advance t) p x f
    obtain ⟨hline, hothers⟩ := ptx_of_modNth htx (by simp; omega)
    have haround := around_sentWhole (s.advance t) p x f
    have hstat := stat_sentWhole (s.advance t) p x f
    generalize (s.advance t).sentWhole p x f = v at *
    obtain ⟨ps, hports⟩ := exists_checkXoff v f.port
    rw [hports]
    refine ⟨?_, ?_, fun c hc => ?_, hstat, hothers, around_fst_eq_iff.mp (congrArg Prod.fst haround)⟩
    · exact congrArg PortTx.cur hline
    · exact congrArg PortTx.last hline
    · rw [hcopies] at hc
      exact of_decide_eq_true (List.mem_filter.mp hc).2
  case idle =>
    intro s t p hawake hp hcur
    exact (happen_awake t _ s _ (decide_eq_true hp) hawake).trans
      (congrArg _ (frameTransmitEnd_idle (s := s.advance t) hcur))
  case launch =>
    intro s t p q c cs hawake hp hq hqueue hlaunch hreached
    dsimp only [exec, execLaunchTimeReached]
    refine happen_answers (by simp [hp, hq]) hawake ?_
    rw [launchTimeReached_due (s := s.advance t) hqueue hlaunch hreached]
    obtain ⟨-, hcopies, -⟩ := stock_eq_iff.mp (stock_refreshCredit (s.advance t) p q)
    exact ⟨rfl, hcopies, refreshCredit_eq (s.advance t) p q⟩
  case late =>
    intro s t p q c f hawake hp hq hqueue hframe haged hlaunch hlimit hlate hstamp hcount
    obtain ⟨rfl, rfl⟩ := port_queue_of_mem_queueOf (hqueue ▸ List.mem_singleton_self c)
    dsimp only [exec, execLateLimitExpired]
    refine happen_answers (by simp [hp, hq]) hawake ?_
    have hdrop := headDrop_late (s := s.advance t) hframe haged ⟨hlaunch, hlimit, hlate⟩
    rw [lateLimitExpired_late (s := s.advance t) hqueue hdrop hstamp]
    obtain ⟨hstock, hdict, haround⟩ := kept_refreshCredit_settle ((s.advance t).lateDropped c) c.port c.queue
    obtain ⟨-, hcopies, -⟩ := stock_eq_iff.mp hstock
    refine ⟨fun x hx => ?_, ?_, around_fst_eq_iff.mp ?_⟩
    · rw [hcopies, State.lateDropped, State.count32_basin] at hx
      exact id_ne_of_mem_endCopy hx
    · rw [State.stat, hdict]
      exact (stat_count32_lt (by simpa using hcount)).trans (by simp)
    · rw [haround]
      simp [State.lateDropped]
  case aged =>
    intro s t c hawake hcopies hidle hqueue haged
    dsimp only [exec, execResidenceSweep]
    refine happen_answers rfl hawake ?_
    rw [residenceSweep_single (s := s.advance t) hcopies hidle hqueue haged]
    obtain ⟨hstock, -, haround⟩ := kept_refreshCredit_settle ((s.advance t).ageOut c) c.port c.queue
    obtain ⟨-, hleft, -⟩ := stock_eq_iff.mp hstock
    refine ⟨?_, around_fst_eq_iff.mp ?_⟩
    · rw [hleft]
      simp [State.ageOut, hcopies]
    · rw [haround]
      simp [State.ageOut]

end Sys2Proof.Machine
end

section
/-! O29 and O30: the free-list audit and the slow path raise events, and a full journal then loses one of an unlisted severity,
whose count falls into an entry of another object (as for O40). -/

namespace Sys2Proof.Machine

open Sys2Proof

/-! ### FREELIST_AUDIT_PASS -/

/-- One cell with a strike, in a device whose journal counts its next loss in `4020h.03`, the cells reclaimed (R210). -/
def leakedCrowdedState : State :=
  { crowdedState 0x4020 3 with basin := { Basin.reset with leaked := [(5, 1)] } }

/-- The audit pass reclaims the one cell, and the event that it raises makes the journal lose one: the entry counts two. -/
theorem stat_freelistAuditPass_crowded :
    (freelistAuditPass [] [] (leakedCrowdedState.advance 0)).stat 0x4020 3 = leakedCrowdedState.stat 0x4020 3 + 2 := by
  decide +kernel

/-- Refutes O29, in clause (14): a reclaimed cell need not count once. The clause speaks of every state, and so also of one whose
full reorder buffer holds an event of no severity of Table 17.1. -/
theorem not_banksAuditsAndRewrites : ¬ Obligations.BanksAuditsAndRewrites := by
  unfold Obligations.BanksAuditsAndRewrites
  rintro ⟨-, -, -, -, -, -, -, -, -, -, -, -, -, hreclaim⟩
  have hawake : leakedCrowdedState.awake = true := by decide +kernel
  obtain ⟨u, hu, -, hcount, -⟩ :=
    hreclaim leakedCrowdedState 0 5 hawake rfl (fun _ hf => absurd hf List.not_mem_nil) (by decide +kernel)
  have hexec : exec (.freelistAuditPass 0 [] []) leakedCrowdedState =
      .next (freelistAuditPass [] [] (leakedCrowdedState.advance 0)) := happen_awake 0 _ leakedCrowdedState _ rfl hawake
  obtain rfl := Host.Outcome.next.inj (hexec.symm.trans hu)
  rw [stat_freelistAuditPass_crowded, Nat.mod_eq_of_lt (by decide +kernel)] at hcount
  omega

/-! ### SLOW_PATH_FRAME -/

/-- An exception frame of CP queue 1, in a device whose journal counts its next loss in `5400h.1A`, the frames discarded for want of
a handler (R154). -/
def exceptionCrowdedState : State :=
  { crowdedState 0x5400 0x1A with basin := { Basin.reset with cluster := [⟨1, OKey.zero, 0, 0, 1, []⟩] } }

/-- The frame goes to its handler, and the event that records it makes the journal lose one: the entry counts one. -/
theorem stat_slowPathFrame_crowded :
    (slowPathFrame true (exceptionCrowdedState.advance 0)).stat 0x5400 0x1A = exceptionCrowdedState.stat 0x5400 0x1A + 1 := by
  decide +kernel

/-- Refutes O30, in clause (9): with a handler registered the discards need not stay. The clause speaks of every state, and so also
of one whose full reorder buffer holds an event of no severity of Table 17.1. -/
theorem not_ledgerAndSlowPath : ¬ Obligations.LedgerAndSlowPath := by
  unfold Obligations.LedgerAndSlowPath
  rintro ⟨-, -, -, -, -, -, -, -, hslow⟩
  have hawake : exceptionCrowdedState.awake = true := by decide +kernel
  obtain ⟨u, hu, -, hcount, -⟩ := hslow exceptionCrowdedState 0 true _ _ hawake rfl Nat.one_ne_zero
  have hexec : exec (.slowPathFrame 0 true) exceptionCrowdedState =
      .next (slowPathFrame true (exceptionCrowdedState.advance 0)) := happen_awake 0 _ exceptionCrowdedState _ rfl hawake
  obtain rfl := Host.Outcome.next.inj (hexec.symm.trans hu)
  rw [stat_slowPathFrame_crowded, if_pos rfl] at hcount
  exact Nat.succ_ne_self _ hcount

end Sys2Proof.Machine
end

section
/-! O27: gate lists that become oper, holds that begin and end, and gate entries whose parity fails. -/

namespace Sys2Proof.Machine

open Sys2Proof

/-! ### Keyed lists -/

/-- A key that is inserted is found with its value, and every other key as before. -/
theorem kfind_kins {β : Type} (l : List (Nat × β)) (k j : Nat) (v : β) :
    kfind (kins l k v) j = if j = k then some v else kfind l j := by
  induction l with
  | nil => simp [kins, kfind, eq_comm]
  | cons x l ih =>
    obtain ⟨i, w⟩ := x
    rw [kins]
    split
    · simp [kfind, eq_comm]
    · split
      next h => simp +contextual [kfind, ← h, eq_comm]
      next h =>
        rw [kfind, kfind, ih]
        by_cases hi : i = j
        · rw [if_pos hi, if_pos hi, if_neg fun hj => h (hj.symm.trans hi.symm)]
        · rw [if_neg hi, if_neg hi]

/-! ### The gate engines of the ports -/

/-- A change of one port's gate engine is seen there and nowhere else. -/
theorem gate_of_modNth {s u : State} {p : Nat} {g : GateEngine → GateEngine} (h : u.basin.gates = modNth s.basin.gates p g)
    (hp : p < s.basin.gates.length) : u.gate p = g (s.gate p) ∧ ∀ q, q ≠ p → u.gate q = s.gate q := by
  simp only [State.gate, h]
  exact ⟨nth_modNth_same _ p g _ hp, fun q hq => nth_modNth_ne _ p q g _ hq⟩

/-- Only an engine that exists holds a pending list. -/
theorem lt_length_gates_of_pending {s : State} {p : Nat} {x : GateList × Nat} (h : (s.gate p).pending = some x) :
    p < s.basin.gates.length :=
  lt_length_of_nth_ne (d := GateEngine.reset) fun (hreset : s.gate p = _) => by simp [hreset, GateEngine.reset] at h

@[simp] theorem gates_advance (s : State) (t : Nat) : (s.advance t).basin.gates = s.basin.gates := rfl
@[simp] theorem gate_advance (s : State) (t p : Nat) : (s.advance t).gate p = s.gate p := rfl

@[simp] theorem gates_refreshCredit (s : State) (p q : Nat) : (s.refreshCredit p q).basin.gates = s.basin.gates := by
  unfold State.refreshCredit
  dsimp only
  split <;> rfl

@[simp] theorem gates_refreshCredits (s : State) (p : Nat) : (s.refreshCredits p).basin.gates = s.basin.gates :=
  List.foldlRecOn (motive := fun u => u.basin.gates = s.basin.gates) _ _ rfl
    fun u hu q _ => (gates_refreshCredit u p q).trans hu

@[simp] theorem State.refreshCredits_safety (s : State) (p : Nat) : (s.refreshCredits p).safety = s.safety := by
  rw [refreshCredits_eq]

/-- A change of one gate engine, and the credits brought up to date after it, concern Basin alone. -/
theorem refreshCredits_modGate_eq (s : State) (p q : Nat) (f : GateEngine → GateEngine) :
    (s.modGate p f).refreshCredits q = { s with basin := ((s.modGate p f).refreshCredits q).basin } := by
  obtain ⟨b, hb⟩ := exists_refreshCredits (s.modGate p f) q
  rw [hb]
  rfl

/-- The fatal reaction stomps what is in transmission, and leaves the gates alone. -/
@[simp] theorem gates_fatalActions (s : State) : s.fatalActions.basin.gates = s.basin.gates := by
  unfold State.fatalActions
  split <;> rfl

@[simp] theorem gates_react (s : State) (key : OKey) (i r : Nat) (first : Bool) :
    (s.react key i r first).basin.gates = s.basin.gates := by
  unfold State.react
  extract_lets s₁ safety s₂
  have hevent : s₁.basin = s.basin := by
    simp only [s₁]
    split <;> simp
  have hhandler : s₂.basin = s₁.basin := by
    simp only [s₂]
    split <;> rfl
  split <;> simp [hhandler, hevent]

@[simp] theorem gates_raiseFault (s : State) (i : Nat) (stays : Bool) :
    (s.raiseFault i stays).basin.gates = s.basin.gates := by
  simp [State.raiseFault]

/-! ### GATE_LIST_SWITCH (R220, R234, R236) -/

/-- An engine whose pending list `l` has become oper. -/
def GateEngine.switched (g : GateEngine) (l : GateList) : GateEngine :=
  { g with oper := some l, pending := none, bad := none, switches := (g.switches + 1) % 2 ^ 32 }

/-- From X on the pending list becomes oper. -/
theorem switch_due {g : GateEngine} {l : GateList} {x t : Nat} (hpending : g.pending = some (l, x)) (hdue : x ≤ t) :
    g.switch t = g.switched l := by
  rw [GateEngine.switch, hpending]
  exact if_pos hdue

/-- Before X the engine stays. -/
theorem switch_early {g : GateEngine} {l : GateList} {x t : Nat} (hpending : g.pending = some (l, x)) (hearly : t < x) :
    g.switch t = g := by
  rw [GateEngine.switch, hpending]
  exact if_neg (Nat.not_le.mpr hearly)

/-- On a port the engine takes its switch, and the port's credits are brought up to date. -/
theorem gateListSwitch_port (p : Nat) (s : State) :
    gateListSwitch false p s = (s.modGate p (fun g => g.switch s.workingNs)).refreshCredits p := if_neg Bool.false_ne_true

/-- A port's engine takes the switch that is due, and the other ports' engines stay. -/
theorem gate_gateListSwitch {s : State} {p : Nat} (hp : p < s.basin.gates.length) :
    (gateListSwitch false p s).gate p = (s.gate p).switch s.workingNs ∧
      ∀ q, q ≠ p → (gateListSwitch false p s).gate q = s.gate q := by
  rw [gateListSwitch_port]
  exact gate_of_modNth (g := fun g => g.switch s.workingNs) (gates_refreshCredits _ p) hp

/-- The switch of a port's list changes Basin alone. -/
theorem gateListSwitch_port_eq (p : Nat) (s : State) :
    gateListSwitch false p s = { s with basin := (gateListSwitch false p s).basin } := by
  rw [gateListSwitch_port]
  exact refreshCredits_modGate_eq ..

/-- The switch of a loaded stream gate's list. -/
theorem gateListSwitch_stream {s : State} {n : Nat} {g : StreamGate} (hgate : kfind s.basin.streamGates n = some g) :
    gateListSwitch true n s = s.setStreamGate n { g with engine := g.engine.switch s.workingNs } := by
  rw [gateListSwitch, if_pos rfl, hgate]

/-! ### Holds (R237) -/

/-- A hold ends that the list no longer calls for. -/
def State.endHold (s : State) (p : Nat) : State :=
  if (s.gate p).holdIn s.workingNs then s else s.modTx p (fun x => { x with hold := false })

/-- Only the port's hold changes: it lasts as long as the list calls for it. -/
theorem ptx_endHold {s : State} {p : Nat} (hp : p < s.basin.tx.length) :
    (s.endHold p).ptx p = { s.ptx p with hold := (s.gate p).holdIn s.workingNs && (s.ptx p).hold } ∧
      ∀ q, q ≠ p → (s.endHold p).ptx q = s.ptx q := by
  unfold State.endHold
  cases (s.gate p).holdIn s.workingNs with
  | true => exact ⟨rfl, fun _ _ => rfl⟩
  | false => exact ptx_of_modNth (u := s.modTx p fun x => { x with hold := false }) rfl hp

/-- A hold that ends concerns the transmitters of Basin alone. -/
theorem endHold_eq (s : State) (p : Nat) :
    s.endHold p = { s with basin := { s.basin with tx := (s.endHold p).basin.tx } } := by
  unfold State.endHold
  split <;> rfl

/-- On an idle line an entry change ends the hold and brings the credits up to date. -/
theorem gateEntryChange_idle {s : State} {p : Nat} (hp : p < s.basin.tx.length) (hcur : (s.ptx p).cur = none) :
    gateEntryChange p s = (s.endHold p).refreshCredits p := by
  have hidle : ((s.endHold p).ptx p).cur = none := by
    rw [(ptx_endHold hp).1]
    exact hcur
  exact congrArg (fun u : State => u.refreshCredits p) (yieldTx_idle hidle)

/-- With preemption active and the hold advance reached, the hold is requested; on an idle line nothing gives way. -/
theorem holdRequest_idle {s : State} {p d : Nat} (hp : p < s.basin.tx.length) (hcur : (s.ptx p).cur = none)
    (huntil : (s.gate p).untilHold s.workingNs = some d) (hactive : s.stat (0x3580 + p) 7 = 1)
    (hreached : d ≤ s.reg (0x3500 + p) 0x16) : holdRequest p s = s.modTx p (fun x => { x with hold := true }) := by
  have hidle : ((s.modTx p (fun x => { x with hold := true })).ptx p).cur = none := by
    rw [(ptx_of_modNth rfl hp).1]
    exact hcur
  rw [holdRequest, huntil]
  exact (if_pos ⟨hactive, hreached⟩).trans (yieldTx_idle hidle)

/-! ### GATE_MEMORY_REWRITE (R238) -/

/-- An entry that fails parity is marked in its engine, and one that is rewritten loses the mark. -/
theorem gates_gateMemoryRewrite (p n : Nat) (done : Bool) (s : State) :
    (gateMemoryRewrite p n done s).basin.gates =
      modNth s.basin.gates p (fun g => { g with bad := if done then none else some n }) := by
  cases done <;> simp [gateMemoryRewrite, State.modGate]

/-- The rewrite of an entry changes Basin alone. -/
theorem gateMemoryRewrite_done_eq (p n : Nat) (s : State) :
    gateMemoryRewrite p n true s = { s with basin := (gateMemoryRewrite p n true s).basin } := by
  rw [gateMemoryRewrite, if_pos rfl]
  exact refreshCredits_modGate_eq ..

/-- An entry that fails parity latches fault input 61. -/
theorem gateMemoryRewrite_latched (p n : Nat) (s : State) :
    bitOf (gateMemoryRewrite p n false s).safety.latched 61 = true := by
  rw [gateMemoryRewrite, if_neg Bool.false_ne_true]
  dsimp only
  rw [State.refreshCredits_safety]
  exact raiseFault_latched ..

@[simp] theorem around_modGate (s : State) (p : Nat) (f : GateEngine → GateEngine) : (s.modGate p f).around = s.around := rfl

/-- Keys, power, bus controllers and sessions have no part in a gate's memory. -/
theorem around_gateMemoryRewrite (p n : Nat) (done : Bool) (s : State) :
    (gateMemoryRewrite p n done s).around.1 = s.around.1 := by
  cases done <;> simp [gateMemoryRewrite]

/-- Settles O27, clause by clause. -/
theorem gatesFollowTheirLists : Obligations.GatesFollowTheirLists := by
  refine ⟨?port, ?stream, ?early, ?entry, ?hold, ?failed, ?rewritten⟩
  case port =>
    intro s t p x l hawake hp hlen hpending hdue
    dsimp only [exec, execGateListSwitch]
    refine happen_answers (decide_eq_true hp) hawake ?_
    obtain ⟨hgate, hothers⟩ := gate_gateListSwitch (s := s.advance t) (p := p) (by simp [hlen, hp])
    rw [gate_advance, switch_due hpending hdue] at hgate
    rw [hgate]
    exact ⟨rfl, rfl, rfl, rfl, hothers, gateListSwitch_port_eq p (s.advance t)⟩
  case stream =>
    intro s t n x l g hawake hn hgate hpending hdue
    dsimp only [exec, execGateListSwitch]
    refine happen_answers (decide_eq_true hn) hawake ?_
    rw [gateListSwitch_stream (s := s.advance t) hgate, switch_due hpending hdue]
    exact ⟨(kfind_kins ..).trans (if_pos rfl), fun m hm => (kfind_kins ..).trans (if_neg hm), rfl⟩
  case early =>
    intro s t p x l hawake hp hpending hearly
    dsimp only [exec, execGateListSwitch]
    refine happen_answers (decide_eq_true hp) hawake ?_
    obtain ⟨hgate, hothers⟩ := gate_gateListSwitch (s := s.advance t) (lt_length_gates_of_pending hpending)
    rw [gate_advance, switch_early hpending hearly] at hgate
    refine ⟨fun q => ?_, gateListSwitch_port_eq p (s.advance t)⟩
    by_cases hq : q = p
    · rw [hq, hgate]
    · exact hothers q hq
  case entry =>
    intro s t p hawake hp hlen hcur
    have hlt : p < (s.advance t).basin.tx.length := by simp [hlen, hp]
    dsimp only [exec, execGateEntryChange]
    refine happen_answers (decide_eq_true hp) hawake ?_
    rw [gateEntryChange_idle (s := s.advance t) hlt hcur]
    obtain ⟨htx, hcopies, -⟩ := stock_eq_iff.mp (stock_refreshCredits ((s.advance t).endHold p) p)
    have hptx (q : Nat) : (((s.advance t).endHold p).refreshCredits p).ptx q = ((s.advance t).endHold p).ptx q := by
      rw [State.ptx, htx, State.ptx]
    obtain ⟨hline, hothers⟩ := ptx_endHold hlt
    refine ⟨?_, fun q hq => ?_, ?_, ?_⟩
    · rw [hptx, hline]
      rfl
    · rw [hptx, hothers q hq, ptx_advance]
    · rw [hcopies, endHold_eq]
      rfl
    · rw [refreshCredits_eq, endHold_eq]
  case hold =>
    intro s t p d hawake hp hlen hcur huntil hactive hreached
    have hlt : p < (s.advance t).basin.tx.length := by simp [hlen, hp]
    dsimp only [exec, execHoldRequest]
    refine happen_answers (decide_eq_true hp) hawake ?_
    rw [holdRequest_idle (s := s.advance t) hlt hcur huntil hactive hreached]
    obtain ⟨hline, hothers⟩ := ptx_of_modNth (u := (s.advance t).modTx p fun x => { x with hold := true }) rfl hlt
    exact ⟨congrArg PortTx.hold hline, hothers, rfl⟩
  case failed =>
    intro s t p n hawake hp hlen
    dsimp only [exec, execGateMemoryRewrite]
    refine happen_answers (decide_eq_true hp) hawake ?_
    obtain ⟨hgate, hothers⟩ := gate_of_modNth (gates_gateMemoryRewrite p n false (s.advance t)) (by simp [hlen, hp])
    rw [hgate]
    exact ⟨rfl, gateMemoryRewrite_latched p n _, rfl, hothers,
      around_fst_eq_iff.mp (around_gateMemoryRewrite p n false (s.advance t))⟩
  case rewritten =>
    intro s t p n hawake hp hlen
    dsimp only [exec, execGateMemoryRewrite]
    refine happen_answers (decide_eq_true hp) hawake ?_
    obtain ⟨hgate, hothers⟩ := gate_of_modNth (gates_gateMemoryRewrite p n true (s.advance t)) (by simp [hlen, hp])
    rw [hgate]
    exact ⟨rfl, rfl, hothers, gateMemoryRewrite_done_eq p n (s.advance t)⟩

end Sys2Proof.Machine
end

section
/-! O38 and O39: a bus-off and an error pin raise events, and a full journal then loses one of an unlisted severity, whose count
falls into a status entry of the controller (as for O40). -/

namespace Sys2Proof.Machine

open Sys2Proof

/-- CAN controller 3 enabled, in a device whose journal counts its next loss in `7003h.sub`. -/
def canCrowdedState (sub : Nat) : State :=
  let s := crowdedState 0x7003 sub
  { s with dict := { s.dict with settings := [⟨0, 0, 0, dkey 0x7003 1, 1⟩] } }

/-! ### BUS_OFF -/

/-- The event of the bus-off makes the journal lose one, whose count falls into the state of the controller: 5, not 4 (R251). -/
theorem stat_busOff_crowded : (busOff 3 ((canCrowdedState 0x20).advance 0)).stat 0x7003 0x20 = 5 := by decide +kernel

/-- Refutes O38, in clause (8): BUS_OFF need not set state 4. The clause speaks of every state, and so also of one whose full
reorder buffer holds an event of no severity of Table 17.1. -/
theorem not_canControllersSendAndReceive : ¬ Obligations.CanControllersSendAndReceive := by
  unfold Obligations.CanControllersSendAndReceive
  rintro ⟨-, -, -, -, -, -, -, hbusOff, -⟩
  have hawake : (canCrowdedState 0x20).awake = true := by decide +kernel
  have hruns : ((canCrowdedState 0x20).advance 0).canRuns 3 = true := by decide +kernel
  have hdrives : ((canCrowdedState 0x20).advance 0).drives (outCan 3) = true := by decide +kernel
  have hkeeps : bitOf (((canCrowdedState 0x20).advance 0).reg 0x7003 9) 7 = false := by decide +kernel
  obtain ⟨u, hu, hstate, -⟩ := hbusOff (canCrowdedState 0x20) 0 3 hawake (by decide) rfl hruns hdrives hkeeps
  have hexec : exec (.busOff 0 3) (canCrowdedState 0x20) = .next (busOff 3 ((canCrowdedState 0x20).advance 0)) :=
    happenAny_next 0 _ _ _ rfl (awake_not_held _ hawake)
  obtain rfl := Host.Outcome.next.inj (hexec.symm.trans hu)
  exact absurd (stat_busOff_crowded.symm.trans hstate) (by decide)

/-! ### ERRN_POLL -/

/-- That device with pin 3 sampled low once, and its journal's next loss counted in `7003h.26`, the pin's events (R262). -/
def errnCrowdedState : State :=
  let s := canCrowdedState 0x26
  { s with legacy := { s.legacy with errn := modNth s.legacy.errn 3 (fun _ => ⟨true, false, none⟩) } }

/-- The second low counts once, and its event makes the journal lose one: the entry counts two. -/
theorem stat_errnPoll_crowded :
    (errnPoll 3 true (errnCrowdedState.advance 0)).stat 0x7003 0x26 = errnCrowdedState.stat 0x7003 0x26 + 2 := by
  decide +kernel

/-- Refutes O39, in clause (12): the second low in succession need not count once. The clause speaks of every state, and so also of
one whose full reorder buffer holds an event of no severity of Table 17.1. -/
theorem not_linFlexRayAndErrorPins : ¬ Obligations.LinFlexRayAndErrorPins := by
  unfold Obligations.LinFlexRayAndErrorPins
  rintro ⟨-, -, -, -, -, -, -, -, -, -, -, hsecondLow, -⟩
  have hawake : errnCrowdedState.awake = true := by decide +kernel
  have hpolled : (errnCrowdedState.advance 0).errnInterval 3 ≠ 0 := by decide +kernel
  have hon : (errnCrowdedState.advance 0).canOn (errnCrowdedState.advance 0).keyEpoch 3 = true := by decide +kernel
  have hcount : errnCrowdedState.stat 0x7003 0x26 < 0xFFFFFFFE := by decide +kernel
  obtain ⟨u, hu, -, -, hcounted, -⟩ :=
    hsecondLow errnCrowdedState 0 3 hawake (by decide) rfl rfl hpolled hon rfl hcount
  have hexec : exec (.errnPoll 0 3 true) errnCrowdedState = .next (errnPoll 3 true (errnCrowdedState.advance 0)) :=
    happen_awake 0 _ _ _ rfl hawake
  obtain rfl := Host.Outcome.next.inj (hexec.symm.trans hu)
  have htwo : errnCrowdedState.stat 0x7003 0x26 + 2 = errnCrowdedState.stat 0x7003 0x26 + 1 :=
    stat_errnPoll_crowded.symm.trans hcounted
  omega

end Sys2Proof.Machine
end

section
/-! O13: a packed signal reads back, and the other bits of the PDU stay (R274). -/

namespace Sys2Proof.Machine

open Sys2Proof

/-! ### One bit of a PDU -/

theorem bitOf_putBitAt_ne (n i j : Nat) (v : Bool) (h : j ≠ i) : bitOf (putBitAt n i v) j = bitOf n j := by
  cases v with
  | false => exact bitOf_clearBitAt_ne n i j h
  | true => exact bitOf_setBitAt_ne n i j h

/-- Past the end of a list there is nothing to change. -/
theorem modNth_of_length_le {α : Type} (l : List α) (i : Nat) (f : α → α) (h : l.length ≤ i) : modNth l i f = l := by
  induction l generalizing i with
  | nil => rfl
  | cons x xs ih =>
    cases i with
    | zero => simp at h
    | succ i => exact congrArg (x :: ·) (ih i (by simpa using h))

@[simp] theorem length_putBit (p : Bytes) (b : Nat) (v : Bool) : (putBit p b v).length = p.length := modNth_length _ _ _

/-- In the byte that holds bit `b`, `putBit` acts as `putBitAt` does on a number. -/
theorem testBit_byteAt_putBit {p : Bytes} {b i : Nat} (v : Bool) (hb : b / 8 < p.length) (hi : i < 8) :
    (byteAt (putBit p b v) (b / 8)).testBit i = bitOf (putBitAt (byteAt p (b / 8)) (b % 8) v) i := by
  have hbyte : byteAt (putBit p b v) (b / 8) = putBitAt (byteAt p (b / 8)) (b % 8) v % 2 ^ 8 :=
    (congrArg BitVec.toNat (nth_modNth_same p (b / 8) _ 0 hb)).trans (BitVec.toNat_ofNat _ _)
  rw [hbyte, Nat.testBit_mod_two_pow, decide_eq_true hi, Bool.true_and, bitOf]

theorem pduBit_putBit_same {p : Bytes} {b : Nat} (v : Bool) (h : b < 8 * p.length) : pduBit (putBit p b v) b = v := by
  rw [pduBit, testBit_byteAt_putBit v (by omega) (by omega), bitOf_putBitAt]

theorem pduBit_putBit_ne (p : Bytes) {b c : Nat} (v : Bool) (h : c ≠ b) : pduBit (putBit p b v) c = pduBit p c := by
  by_cases hbyte : c / 8 = b / 8
  · by_cases hlen : b / 8 < p.length
    · rw [pduBit, hbyte, testBit_byteAt_putBit v hlen (by omega), bitOf_putBitAt_ne _ _ _ _ (by omega), bitOf, pduBit, hbyte]
    · rw [putBit, modNth_of_length_le p (b / 8) _ (by omega)]
  · exact congrArg (fun x : Byte => x.toNat.testBit (c % 8)) (nth_modNth_ne p (b / 8) (c / 8) _ 0 hbyte)

/-! ### The bits of a PDU at a list of places -/

/-- The number whose bits, least significant first, stand at the given places of a PDU. -/
def bitsAt (p : Bytes) : List Nat → Nat
  | [] => 0
  | b :: bs => natOfBool (pduBit p b) + 2 * bitsAt p bs

/-- A signal's raw value is the number at the places it visits. -/
theorem getSignal_eq_bitsAt (p : Bytes) (start n : Nat) (big : Bool) :
    getSignal p start n big = bitsAt p (signalBits start n big) := by
  rw [getSignal, List.foldl_reverse]
  induction signalBits start n big with
  | nil => rfl
  | cons b bs ih => rw [List.foldr_cons, ih, bitsAt, Nat.add_comm]

@[simp] theorem length_putBits (bs : List Nat) (v : Nat) (p : Bytes) : (putBits bs v p).length = p.length := by
  induction bs generalizing v p with
  | nil => rfl
  | cons b bs ih => rw [putBits, ih, length_putBit]

/-- Packing leaves every bit alone that it does not visit. -/
theorem pduBit_putBits_of_notMem {bs : List Nat} {c : Nat} (v : Nat) (p : Bytes) (h : c ∉ bs) :
    pduBit (putBits bs v p) c = pduBit p c := by
  induction bs generalizing v p with
  | nil => rfl
  | cons b bs ih =>
    obtain ⟨hne, hnotin⟩ := not_or.mp (mt List.mem_cons.mpr h)
    rw [putBits, ih _ _ hnotin, pduBit_putBit_ne p _ hne]

/-- What is packed at distinct places inside the PDU reads back: no later bit overwrites an earlier one. -/
theorem bitsAt_putBits {bs : List Nat} (v : Nat) {p : Bytes} (hdistinct : bs.Nodup) (hin : ∀ b ∈ bs, b < 8 * p.length) :
    bitsAt (putBits bs v p) bs = v % 2 ^ bs.length := by
  induction bs generalizing v p with
  | nil => exact (Nat.mod_one v).symm
  | cons b bs ih =>
    obtain ⟨hnotin, hrest⟩ := List.nodup_cons.mp hdistinct
    obtain ⟨hb, hbs⟩ := List.forall_mem_cons.mp hin
    have hlow : pduBit (putBits (b :: bs) v p) b = decide (v % 2 = 1) := by
      rw [putBits, pduBit_putBits_of_notMem _ _ hnotin, pduBit_putBit_same _ hb]
    have hhigh : bitsAt (putBits (b :: bs) v p) bs = v / 2 % 2 ^ bs.length := ih (v / 2) hrest (by simpa using hbs)
    have hbit : natOfBool (decide (v % 2 = 1)) = v % 2 := by
      rcases Nat.mod_two_eq_zero_or_one v with h | h <;> simp [natOfBool, h]
    rw [bitsAt, hlow, hhigh, hbit, List.length_cons, Nat.pow_succ', Nat.mod_mul]

/-! ### The walks visit distinct bits -/

/-- The place of a bit when a PDU is read byte by byte, each from its most significant bit: the order of a big-endian walk. -/
def beRank (b : Nat) : Nat := 8 * (b / 8) + (7 - b % 8)

/-- Each step of a big-endian walk goes to the next bit in that order. -/
theorem beRank_next (b : Nat) : beRank (if b % 8 = 0 then b + 15 else b - 1) = beRank b + 1 := by
  unfold beRank
  split <;> omega

theorem map_beRank_walkBe (b n : Nat) : (walkBe b n).map beRank = List.range' (beRank b) n := by
  induction n generalizing b with
  | zero => rfl
  | succ n ih => rw [walkBe, List.map_cons, ih, beRank_next, List.range'_succ]

theorem nodup_signalBits (start n : Nat) (big : Bool) : (signalBits start n big).Nodup := by
  cases big with
  | false => exact List.Pairwise.map _ (fun _ _ hne => mt Nat.add_left_cancel hne) List.nodup_range
  | true =>
    have hranks : ((walkBe start n).map beRank).Pairwise (· < ·) := by
      rw [map_beRank_walkBe]
      exact List.pairwise_lt_range' 1
    exact List.pairwise_reverse.mpr (hranks.of_map beRank fun _ _ hlt heq => Nat.ne_of_gt hlt (congrArg beRank heq))

@[simp] theorem length_signalBits (start n : Nat) (big : Bool) : (signalBits start n big).length = n := by
  cases big with
  | false => simp [signalBits, walkLe]
  | true => simpa [signalBits] using congrArg List.length (map_beRank_walkBe start n)

/-- The last bit of a big-endian walk is the least significant one, and the first, at `start`, the most significant. -/
theorem signalBits_big_succ (start n : Nat) :
    signalBits start (n + 1) true = signalBits (if start % 8 = 0 then start + 15 else start - 1) n true ++ [start] :=
  List.reverse_cons

/-! ### Packing and reading a signal -/

/-- Settles O13: a signal visits each of its bits once, so what is packed there reads back, and the other bits stay. -/
theorem signalsReadBack : Obligations.SignalsReadBack := by
  refine ⟨fun _ _ => rfl, fun _ _ => rfl, fun start n => ⟨rfl, signalBits_big_succ start n⟩, ?_⟩
  intro p start n v big hin
  refine ⟨?_, fun b hb => pduBit_putBits_of_notMem v p hb, length_putBits _ v p⟩
  calc getSignal (putSignal p start n big v) start n big
      = bitsAt (putBits (signalBits start n big) v p) (signalBits start n big) := getSignal_eq_bitsAt _ _ _ _
    _ = v % 2 ^ (signalBits start n big).length := bitsAt_putBits v (nodup_signalBits start n big) hin
    _ = v % 2 ^ n := by rw [length_signalBits]

end Sys2Proof.Machine
end

section
/-! A sequence counter that wraps is flagged by an event (R416). The token generation `9000h.16` advances with every change of the
tokens held (R314), so no frame that keeps the journal holds of such a change at its last generation. -/

namespace Sys2Proof.Machine

open Sys2Proof

/-! ### Sequence counters (R416, Table 17.4) -/

@[simp] theorem length_insertByKey {α : Type} (key : α → OKey) (x : α) (l : List α) :
    (insertByKey key x l).length = l.length + 1 := by
  induction l with
  | nil => rfl
  | cons y ys ih =>
    rw [insertByKey]
    split
    · rfl
    · rw [List.length_cons, ih, List.length_cons]

/-- Flagging a counter puts one event into the reorder buffer. -/
theorem length_reorder_flagCounter (s : State) (idx sub bit : Nat) :
    (s.flagCounter idx sub bit).journal.reorder.length = s.journal.reorder.length + 1 := by
  simp [State.flagCounter, State.putEvent]

/-- A sequence counter that wraps changes the journal. -/
theorem journal_countSeq_wrap {s : State} {idx sub w : Nat} (h : s.stat idx sub + 1 = 2 ^ w) :
    (s.countSeq idx sub w).journal ≠ s.journal := by
  intro heq
  have hwrap : s.countSeq idx sub w = (s.setStat idx sub 0).flagCounter idx sub 1 := if_pos h
  have hlen := length_reorder_flagCounter (s.setStat idx sub 0) idx sub 1
  rw [← hwrap, heq] at hlen
  exact Nat.succ_ne_self _ hlen.symm

/-! ### The last token generation (R314) -/

/-- A change of the tokens at the last generation changes the journal. -/
theorem journal_setTokens_wrap {s : State} {v : Nat} (hchange : v ≠ s.stat 0x9000 0x15)
    (hlast : s.stat 0x9000 0x16 = 0xFFFFFFFF) : (s.setTokens v).journal ≠ s.journal := by
  have hcount : s.setTokens v = (s.setStat 0x9000 0x15 v).countSeq 0x9000 0x16 32 := if_neg hchange
  have hgen : (s.setStat 0x9000 0x15 v).stat 0x9000 0x16 = 0xFFFFFFFF :=
    (stat_setStat_ne _ _ _ _ _ _ (by decide)).trans hlast
  rw [hcount]
  exact journal_countSeq_wrap (congrArg Nat.succ hgen)

/-- A token that is gained at the last generation changes the journal. -/
theorem journal_gainToken_wrap {s : State} {n : Nat} (hfree : s.holds n = false)
    (hlast : s.stat 0x9000 0x16 = 0xFFFFFFFF) : (s.gainToken n).journal ≠ s.journal := by
  refine journal_setTokens_wrap (fun heq => ?_) hlast
  have hset := bitOf_setBitAt (s.stat 0x9000 0x15) n
  rw [heq] at hset
  exact Bool.false_ne_true (hfree.symm.trans hset)

/-- A member of a pair in RUN, else as after reset, in a role and with tokens, whose sequence counter `9000h.sub` is at its last
value. -/
def lastCountState (sub : Nat) (role : Role) (tokens : Nat) : State :=
  (({ State.reset with
    power := { Power.reset with phase := .run },
    saddle := { Saddle.reset with enabled := true, role := role } } : State).setStat 0x9000 0x15 tokens).setStat 0x9000 sub
    0xFFFFFFFF

end Sys2Proof.Machine
end

section
/-! O41: a member that claims every token at the last generation. -/

namespace Sys2Proof.Machine

open Sys2Proof

/-- Becoming SOLO with other tokens than before, at the last generation, changes the journal. -/
theorem journal_becomeSolo_wrap {s : State} (hchange : s.allTokens ≠ s.stat 0x9000 0x15)
    (hlast : s.stat 0x9000 0x16 = 0xFFFFFFFF) : s.becomeSolo.journal ≠ s.journal :=
  journal_setTokens_wrap (s := { s with saddle := { s.saddle with
      role := .solo, authority := true, journaling := false, outbox := [], resync := none, handshake := none,
      digests := [], handovers := [], swap := none, declared := none, confirmed := false } }) hchange hlast

/-- The time for which a member in START listens before it claims (R302). -/
def State.claimTime (s : State) : Nat := s.reg 0x9000 6 * 1000 * (if s.pairId = 1 then 5 else 1)

/-- A member in START that has heard no partner for its claim time becomes SOLO (R302). -/
theorem claim_alone {s : State} (hrole : s.saddle.role = .start) (hheard : s.elnarHeard s.claimTime = false)
    (hdue : s.saddle.claimFrom + s.claimTime ≤ s.time.raw) (hdebug : s.debugRefuses = false) :
    claim ⟨false, false⟩ s = (s.seePins ⟨false, false⟩).becomeSolo := by
  have hgoes : ¬ (s.saddle.role ≠ .start ∨ false = true ∨ false = true ∨ s.elnarHeard s.claimTime = true ∨
      s.time.raw < s.saddle.claimFrom + s.claimTime) := by
    simp [hrole, hheard, hdue]
  have hallowed : ¬ (s.seePins ⟨false, false⟩).debugRefuses = true := fun h => Bool.false_ne_true (hdebug.symm.trans h)
  exact (if_neg hgoes).trans (if_neg hallowed)

/-- Refutes O41, in clause (1): a claim changes the journal too where the token generation wraps, which an event
flags. -/
theorem not_pairsForm : ¬ Obligations.PairsForm := by
  unfold Obligations.PairsForm
  rintro ⟨hclaim, -⟩
  have hawake : (lastCountState 0x16 .start 0).awake = true := by decide +kernel
  have hdebug : ((lastCountState 0x16 .start 0).advance 1000000000).debugRefuses = false := by decide +kernel
  have hdue : (lastCountState 0x16 .start 0).saddle.claimFrom +
      ((lastCountState 0x16 .start 0).advance 1000000000).claimTime ≤
      ((lastCountState 0x16 .start 0).advance 1000000000).time.raw := by decide +kernel
  obtain ⟨u, hu, -, -, -, hframe⟩ := hclaim (lastCountState 0x16 .start 0) 1000000000 hawake rfl hdebug rfl hdue
  have hexec : exec (.claim 1000000000 ⟨false, false⟩) (lastCountState 0x16 .start 0) =
      .next (claim ⟨false, false⟩ ((lastCountState 0x16 .start 0).advance 1000000000)) := happen_awake _ _ _ _ rfl hawake
  rw [claim_alone rfl rfl hdue hdebug] at hexec
  obtain rfl := Host.Outcome.next.inj (hexec.symm.trans hu)
  exact absurd (congrArg State.journal hframe) (journal_becomeSolo_wrap (by decide +kernel) (by decide +kernel))

end Sys2Proof.Machine
end

section
/-! O42 and O45: a token that the partner hands over at the last generation. -/

namespace Sys2Proof.Machine

open Sys2Proof

/-- Taking a message changes only what the link holds. -/
theorem consume_eq (s : State) (cls kind : Nat) (body : Bytes) :
    s.consume cls kind body = { s with elnar := (s.consume cls kind body).elnar } := by
  unfold State.consume
  split <;> rfl

/-- Taking a message and gaining a token at the last generation changes the journal. -/
theorem journal_gainToken_consume {s : State} {cls kind n : Nat} {body : Bytes} (hfree : s.holds n = false)
    (hlast : s.stat 0x9000 0x16 = 0xFFFFFFFF) : ((s.consume cls kind body).gainToken n).journal ≠ s.journal := by
  rw [consume_eq]
  exact journal_gainToken_wrap (s := { s with elnar := (s.consume cls kind body).elnar }) hfree hlast

/-- A record of kind 0x0E gives its output's token (R329). -/
theorem journalRecord_token {s : State} {m : Bytes} (hkind : (recOfBytes (s.consume 1 1 m).keyEpoch m).kind = 0x0E) :
    journalRecord m s = (s.consume 1 1 m).gainToken (recOfBytes (s.consume 1 1 m).keyEpoch m).arg := if_pos hkind

/-- TOKEN_HANDOVER of an output that exists gives its token (R329). -/
theorem tokenHandover_token {s : State} {m : Bytes} (hkind : byteAt m 8 = 0x0E) (hout : beAt m 10 2 < 49) :
    tokenHandover m s = (s.consume 1 1 m).gainToken (beAt m 10 2) := if_pos ⟨hkind, hout⟩

/-- The record that hands over the token of output 0. -/
def tokenRecord : Bytes := recBytes (plainRec 0x0E 0 0)

/-- Refutes O42, in clause (2): a record of kind 0x0E changes the journal too where the token generation wraps, which an
event flags. -/
theorem not_standbyReplaysTheJournal : ¬ Obligations.StandbyReplaysTheJournal := by
  unfold Obligations.StandbyReplaysTheJournal
  rintro ⟨-, htoken, -⟩
  have hawake : (lastCountState 0x16 .standby 0).awake = true := by decide +kernel
  obtain ⟨u, hu, -, hframe⟩ := htoken (lastCountState 0x16 .standby 0) 0 tokenRecord hawake rfl rfl
  have hexec : exec (.journalRecord 0 tokenRecord) (lastCountState 0x16 .standby 0) =
      .next (journalRecord tokenRecord ((lastCountState 0x16 .standby 0).advance 0)) := happen_awake _ _ _ _ rfl hawake
  rw [journalRecord_token rfl] at hexec
  obtain rfl := Host.Outcome.next.inj (hexec.symm.trans hu)
  exact absurd (congrArg State.journal hframe) (journal_gainToken_consume (by decide +kernel) (by decide +kernel))

/-- Refutes O45, in clause (5): TOKEN_HANDOVER changes the journal too where the token generation wraps, which
an event flags. -/
theorem not_swapsAndRoleCommands : ¬ Obligations.SwapsAndRoleCommands := by
  unfold Obligations.SwapsAndRoleCommands
  rintro ⟨-, -, -, -, htoken, -⟩
  have hawake : (lastCountState 0x16 .standby 0).awake = true := by decide +kernel
  have hout : beAt tokenRecord 10 2 < 49 := by decide
  obtain ⟨u, hu, -, hframe⟩ := htoken (lastCountState 0x16 .standby 0) 0 tokenRecord hawake rfl hout
  have hexec : exec (.tokenHandover 0 tokenRecord) (lastCountState 0x16 .standby 0) =
      .next (tokenHandover tokenRecord ((lastCountState 0x16 .standby 0).advance 0)) := happen_awake _ _ _ _ rfl hawake
  rw [tokenHandover_token rfl hout] at hexec
  obtain rfl := Host.Outcome.next.inj (hexec.symm.trans hu)
  exact absurd (congrArg State.journal hframe) (journal_gainToken_consume (by decide +kernel) (by decide +kernel))

end Sys2Proof.Machine
end

section
/-! O43: a member that is fenced at the last generation. -/

namespace Sys2Proof.Machine

open Sys2Proof

/-- Entering FENCED with a token, at the last generation, changes the journal. -/
theorem journal_enterFenced_wrap {s : State} (hholds : s.stat 0x9000 0x15 ≠ 0)
    (hlast : s.stat 0x9000 0x16 = 0xFFFFFFFF) : s.enterFenced.journal ≠ s.journal :=
  journal_setTokens_wrap hholds.symm hlast

/-- A standby that is due to be fenced is FENCED (R322). -/
theorem fence_standby {s : State} {pins : Pins} (hrole : s.saddle.role = .standby)
    (hdue : (s.seePins pins).fenceDue = true) : fence pins s = (s.seePins pins).enterFenced := by
  have hstays : ¬ (!(s.seePins pins).fenceDue) = true := by simp [hdue]
  exact (if_neg hstays).trans (if_pos (.inl hrole))

/-- Refutes O43, in clause (5): FENCE of a standby that holds a token changes the journal too where the token generation wraps,
which an event flags. -/
theorem not_partnersFailAndAreTakenOver : ¬ Obligations.PartnersFailAndAreTakenOver := by
  unfold Obligations.PartnersFailAndAreTakenOver
  rintro ⟨-, -, -, -, hfence, -⟩
  have hawake : (lastCountState 0x16 .standby 1).awake = true := by decide +kernel
  obtain ⟨u, hu, -, -, -, -, -, hframe⟩ := hfence (lastCountState 0x16 .standby 1) 0 hawake rfl rfl rfl
  have hexec : exec (.fence 0 ⟨true, false⟩) (lastCountState 0x16 .standby 1) =
      .next (fence ⟨true, false⟩ ((lastCountState 0x16 .standby 1).advance 0)) := happen_awake _ _ _ _ rfl hawake
  rw [fence_standby rfl rfl] at hexec
  obtain rfl := Host.Outcome.next.inj (hexec.symm.trans hu)
  exact absurd (congrArg State.journal hframe) (journal_enterFenced_wrap (by decide +kernel) (by decide +kernel))

end Sys2Proof.Machine
end

section
/-! O44: a comparison of digests that makes their count wrap. -/

namespace Sys2Proof.Machine

open Sys2Proof

/-- Equal values differ in no domain. -/
theorem digestMask_self (a : List Nat) : digestMask a a = 0 := by
  have hnone : (List.range 8).filter (fun i => decide (nth a i 0 ≠ nth a i 0)) = [] :=
    List.filter_eq_nil_iff.mpr fun _ _ hdiffers => of_decide_eq_true hdiffers rfl
  exact congrArg maskOfPorts hnone

/-- The eight values that a message carries for its checkpoint (R317). -/
def theirDigests (m : Bytes) : List Nat := (List.range 8).map (fun i => beAt m (8 + 8 * i) 8)

/-- DIGEST_COMPARE of values equal to the only ones held: they are forgotten, and the comparison counts (R317). -/
theorem digestCompare_equal {s : State} {m : Bytes} (hreceived : s.elnar.received = [])
    (hheld : s.saddle.digests = [(beAt m 0 8, theirDigests m)]) :
    digestCompare m s =
      ({ s with saddle := { s.saddle with digests := [] } } : State).countSeq 0x9000 0x1C 32 := by
  have htake : s.consume 2 0x10 m = s := by rw [State.consume, hreceived]; rfl
  have hequal : digestMask (theirDigests m) ((List.range 8).map (fun i => beAt m (8 + 8 * i) 8)) = 0 := digestMask_self _
  unfold digestCompare
  simp [htake, hheld, hequal]

/-- A member that holds the digests of checkpoint 0, all zero, and has counted 2^32 - 1 comparisons. -/
def lastComparisonState : State :=
  let s := lastCountState 0x1C .standby 0
  { s with saddle := { s.saddle with digests := [(0, List.replicate 8 0)] } }

/-- Refutes O44, in clause (1): DIGEST_COMPARE changes the journal too where its count wraps, as the clause's own modulus provides
for: an event flags it. -/
theorem not_resynchronisationAndDigests : ¬ Obligations.ResynchronisationAndDigests := by
  unfold Obligations.ResynchronisationAndDigests
  rintro ⟨hcompare, -⟩
  have hawake : lastComparisonState.awake = true := by decide +kernel
  have hzero : List.replicate 8 0 = theirDigests [] := by decide
  obtain ⟨u, hu, -, -, -, -, hframe⟩ :=
    hcompare lastComparisonState 0 [] (0, List.replicate 8 0) hawake rfl rfl hzero (by decide +kernel)
  have hexec : exec (.digestCompare 0 []) lastComparisonState = .next (digestCompare [] (lastComparisonState.advance 0)) :=
    happen_awake _ _ _ _ rfl hawake
  rw [digestCompare_equal rfl rfl] at hexec
  obtain rfl := Host.Outcome.next.inj (hexec.symm.trans hu)
  exact absurd (congrArg State.journal hframe) (journal_countSeq_wrap (by decide +kernel))

end Sys2Proof.Machine
end

section
/-! O47: an orphan notice raises an event, and a full journal then loses one of an unlisted severity, whose count falls into the
count of orphans (as for O40). -/

namespace Sys2Proof.Machine

open Sys2Proof

/-- A posted write of a local core outside the window: it is not aligned (R348). -/
def misalignedWrite : BridgeReq := ⟨5, 0, 0, 1, 4, 0, [1, 2, 3, 4]⟩

/-- The write is one orphan, and the event that reports it makes the journal lose one: the entry counts two. -/
theorem stat_windowWritePosted_crowded :
    (windowWritePosted .own misalignedWrite ((crowdedState 0x9130 7).advance 0)).stat 0x9130 7 =
      (crowdedState 0x9130 7).stat 0x9130 7 + 2 := by
  decide +kernel

/-- Refutes O47, in clause (7): an orphan need not count once. The clause speaks of every state, and so also of one whose full
reorder buffer holds an event of no severity of Table 17.1. -/
theorem not_bridgeWindowAndPayloads : ¬ Obligations.BridgeWindowAndPayloads := by
  unfold Obligations.BridgeWindowAndPayloads
  rintro ⟨-, -, -, -, -, -, horphan, -⟩
  have hawake : (crowdedState 0x9130 7).awake = true := by decide +kernel
  obtain ⟨u, hu, -, hcount, -⟩ :=
    horphan (crowdedState 0x9130 7) 0 misalignedWrite hawake (by decide) (by decide +kernel)
  have hexec : exec (.windowWritePosted 0 .own misalignedWrite) (crowdedState 0x9130 7) =
      .next (windowWritePosted .own misalignedWrite ((crowdedState 0x9130 7).advance 0)) := happen_awake _ _ _ _ rfl hawake
  obtain rfl := Host.Outcome.next.inj (hexec.symm.trans hu)
  rw [stat_windowWritePosted_crowded] at hcount
  omega

end Sys2Proof.Machine
end

section
/-! O14: the scrambler undoes itself, and the cells of a message carry its octets. -/

namespace Sys2Proof.Machine

open Sys2Proof

/-! ### Scrambling (R334) -/

/-- The scrambler's sequence does not depend on the bytes, so that applying it again takes it off. -/
theorem scramble_scramble (seed : Nat) (b : Bytes) : scramble seed (scramble seed b) = b := by
  induction b generalizing seed with
  | nil => rfl
  | cons x xs ih => rw [scramble, scramble, ih, BitVec.xor_assoc, BitVec.xor_self, BitVec.xor_zero]

/-- What follows byte 5 stands behind six bytes, or is empty. -/
theorem length_take_six_or_drop_nil (f : Bytes) : (f.take 6).length = 6 ∨ f.drop 6 = [] := by
  rw [List.length_take, List.drop_eq_nil_iff]
  omega

theorem take_lineFrame (f : Bytes) : (lineFrame f).take 6 = f.take 6 := by
  rcases length_take_six_or_drop_nil f with h | h
  · exact List.take_left' h
  · rw [lineFrame, h, scramble, List.append_nil, List.take_take, Nat.min_self]

theorem drop_lineFrame (f : Bytes) : (lineFrame f).drop 6 = scramble 0x7FFFFF (f.drop 6) := by
  rcases length_take_six_or_drop_nil f with h | h
  · exact List.drop_left' h
  · rw [lineFrame, h, scramble, List.append_nil, List.drop_take, Nat.sub_self, List.take_zero]

theorem lineFrame_lineFrame (f : Bytes) : lineFrame (lineFrame f) = f := by
  rw [lineFrame, take_lineFrame, drop_lineFrame, scramble_scramble, List.take_append_drop]

/-! ### The cells of a message (R345) -/

/-- The octets that cells carry, in their order. -/
def cellOctets (cells : List (Bool × Bytes)) : Bytes := (cells.map Prod.snd).flatten

/-- Cells of 30 octets, of which the last alone is marked. -/
def MarkedLast (cells : List (Bool × Bytes)) : Prop :=
  ∃ front last, cells = front ++ [(true, last)] ∧ (∀ c ∈ front, c.1 = false ∧ c.2.length = 30) ∧ last.length = 30

/-- A last cell is one on its own. -/
theorem markedLast_single {d : Bytes} (h : d.length = 30) : MarkedLast [(true, d)] :=
  ⟨[], d, rfl, fun _ hc => absurd hc List.not_mem_nil, h⟩

/-- An unmarked cell goes before others. -/
theorem MarkedLast.cons {d : Bytes} {cells : List (Bool × Bytes)} (hd : d.length = 30) (h : MarkedLast cells) :
    MarkedLast ((false, d) :: cells) := by
  obtain ⟨front, last, rfl, hfront, hlast⟩ := h
  exact ⟨(false, d) :: front, last, rfl, List.forall_mem_cons.mpr ⟨⟨rfl, hd⟩, hfront⟩, hlast⟩

/-- What is left after a full cell of a message. -/
theorem length_drop_cell {k : Nat} {m : Bytes} (hk : m.length < k + 1) (hlong : ¬ m.length ≤ 30) :
    (m.drop 30).length < k := by
  rw [List.length_drop]
  omega

theorem markedLast_cellsOfMsg (k : Nat) (m : Bytes) (hk : m.length < k) : MarkedLast (cellsOfMsg k m) := by
  induction k generalizing m with
  | zero => omega
  | succ k ih =>
    rw [cellsOfMsg]
    split
    case isTrue hshort =>
      refine markedLast_single ?_
      rw [List.length_append, List.length_replicate]
      omega
    case isFalse hlong =>
      refine MarkedLast.cons ?_ (ih _ (length_drop_cell hk hlong))
      rw [List.length_take]
      omega

/-- The cells carry the message and then zeros, those of its last cell. -/
theorem cellOctets_cellsOfMsg (k : Nat) (m : Bytes) (hk : m.length < k) :
    ∃ n, cellOctets (cellsOfMsg k m) = m ++ List.replicate n 0#8 := by
  induction k generalizing m with
  | zero => omega
  | succ k ih =>
    rw [cellsOfMsg]
    split
    case isTrue hshort => exact ⟨30 - m.length, List.append_nil _⟩
    case isFalse hlong =>
      obtain ⟨n, hrest⟩ := ih _ (length_drop_cell hk hlong)
      refine ⟨n, ?_⟩
      calc cellOctets ((false, m.take 30) :: cellsOfMsg k (m.drop 30))
          = m.take 30 ++ cellOctets (cellsOfMsg k (m.drop 30)) := rfl
        _ = m ++ List.replicate n 0#8 := by rw [hrest, ← List.append_assoc, List.take_append_drop]

/-- Settles O14: scrambling twice is the identity, and the octets of the cells are the message and zeros. -/
theorem linkLinesAndCellsCarryWhole : Obligations.LinkLinesAndCellsCarryWhole := by
  refine ⟨fun f => ⟨lineFrame_lineFrame f, take_lineFrame f⟩, fun m _ => ?_⟩
  obtain ⟨front, last, hcells, hfront, hlast⟩ := markedLast_cellsOfMsg (m.length + 1) m (Nat.lt_succ_self _)
  obtain ⟨n, hoctets⟩ := cellOctets_cellsOfMsg (m.length + 1) m (Nat.lt_succ_self _)
  have hwhole : (front.map Prod.snd).flatten ++ last = m ++ List.replicate n 0#8 := by
    rw [← hoctets, hcells, cellOctets, List.map_append, List.flatten_append, List.map_singleton, List.flatten_singleton]
  refine ⟨front, last, hcells, hfront, hlast, ?_, ?_⟩
  · rw [hwhole, List.take_left]
  · rw [hwhole, List.drop_left]
    exact fun b hb => List.eq_of_mem_replicate hb

end Sys2Proof.Machine
end

section
/-! O46: a defect raises an event, and a full journal then loses one of an unlisted severity, whose count falls into the lane's
defects (as for O40). -/

namespace Sys2Proof.Machine

open Sys2Proof

/-- Lane 0 loses its signal, which is defect 0, and the event that reports it makes the journal lose one: the entry is one more
than with that bit set (R340). -/
theorem stat_losDeclared_crowded :
    (losDeclared 0 ((crowdedState 0x9110 3).advance 0)).stat 0x9110 3 = ((crowdedState 0x9110 3).stat 0x9110 3 ||| 1) + 1 := by
  decide +kernel

/-- Refutes O46, in clause (3): LOS_DECLARED need not add exactly defect 0. The clause speaks of every state, and so also of one
whose full reorder buffer holds an event of no severity of Table 17.1. -/
theorem not_lanesAlignAndCarry : ¬ Obligations.LanesAlignAndCarry := by
  unfold Obligations.LanesAlignAndCarry
  rintro ⟨-, -, hlos, -⟩
  have hawake : (crowdedState 0x9110 3).awake = true := by decide +kernel
  have hsignal : bitOf ((crowdedState 0x9110 3).stat 0x9110 3) 0 = false := by decide +kernel
  have hunsynced : (crowdedState 0x9110 3).stat 0x9110 2 ≠ 2 := by decide +kernel
  have hunused : (crowdedState 0x9110 3).laneInUse 0 = false := by decide +kernel
  obtain ⟨u, hu, -, hdefects, -⟩ :=
    hlos (crowdedState 0x9110 3) 0 0 hawake (by decide) rfl hsignal hunsynced hunused
  have hexec : exec (.losDeclared 0 0) (crowdedState 0x9110 3) =
      .next (losDeclared 0 ((crowdedState 0x9110 3).advance 0)) := happen_awake _ _ _ _ rfl hawake
  obtain rfl := Host.Outcome.next.inj (hexec.symm.trans hu)
  rw [stat_losDeclared_crowded] at hdefects
  exact Nat.succ_ne_self _ hdefects

end Sys2Proof.Machine
end

section
/-! O48: an orphan notice raises an event, and a full journal then loses one of an unlisted severity, whose count falls into the
count of orphans (as for O47). -/

namespace Sys2Proof.Machine

open Sys2Proof

/-- The notice reports one orphan, and the event that records it makes the journal lose one: the entry counts two (R353). -/
theorem stat_orphanNotice_crowded :
    (orphanNotice 0 0x0E 1 0 ((crowdedState 0x9130 7).advance 0)).stat 0x9130 7 = (crowdedState 0x9130 7).stat 0x9130 7 + 2 := by
  decide +kernel

/-- Refutes O48, in clause (14): an orphan notice need not count once. The clause speaks of every state, and so also of one whose
full reorder buffer holds an event of no severity of Table 17.1. -/
theorem not_semaphoresAndCompletions : ¬ Obligations.SemaphoresAndCompletions := by
  unfold Obligations.SemaphoresAndCompletions
  rintro ⟨-, -, -, -, -, -, -, -, -, -, -, -, -, horphan, -⟩
  have hawake : (crowdedState 0x9130 7).awake = true := by decide +kernel
  obtain ⟨u, hu, -, hcount, -⟩ :=
    horphan (crowdedState 0x9130 7) 0 0 0x0E 1 0 hawake (by decide) rfl (by decide +kernel)
  have hexec : exec (.orphanNotice 0 0 0x0E 1 0) (crowdedState 0x9130 7) =
      .next (orphanNotice 0 0x0E 1 0 ((crowdedState 0x9130 7).advance 0)) := happen_awake _ _ _ _ rfl hawake
  obtain rfl := Host.Outcome.next.inj (hexec.symm.trans hu)
  rw [stat_orphanNotice_crowded] at hcount
  omega

end Sys2Proof.Machine
end

section
/-! O1 to O5, O9 and O10: what a step is, and the form that every command has. -/

namespace Sys2Proof.Machine

open Sys2Proof

/-! ### One step -/

/-- A step runs the front command on the state with the queue's rest. -/
theorem step_of_cons {s : State} {c : Instr} {rest : List Instr} (h : s.pending = c :: rest) :
    step s = exec c { s with pending := rest } := by
  unfold step
  rw [h]

/-- A step of an empty queue leaves the state alone. -/
theorem step_of_nil {s : State} (h : s.pending = []) : step s = .next s := by
  unfold step
  rw [h]

/-- Settles O1: the step is defined by its front command. -/
theorem stepRunsTheFrontCommand : Obligations.StepRunsTheFrontCommand := fun _ _ _ h => step_of_cons h

/-- Settles O2: the step of an empty queue idles. -/
theorem anEmptyQueueIdles : Obligations.AnEmptyQueueIdles := fun _ h => step_of_nil h

/-! ### The form of a command -/

/-- The meaning `e` of a command of tick `t` lets time pass to the tick and then has the effect `f`, where the unit it names exists
(`unitExists`): so it is when its operands are in range (`ok`). Unless the command reaches Lowland the effect needs the device
awake; and it keeps the queue and the units, or resets the device. -/
structure Runs (t : Nat) (ok lowland : Bool) (e : State → Out) (unitExists : Bool) (f : State → State) : Prop where
  /-- Operands in range name a unit that exists. -/
  unit : ok = true → unitExists = true
  /-- Nothing but Lowland acts while the device is not awake. -/
  sleeps : lowland = false → ∀ s, s.awake = false → f s = s
  /-- The queue and the units stay, or are as after a reset. -/
  keeps : ∀ s, s.onward (f s) ∨ (f s).shape = s.resetShape
  /-- Time passes before the effect. -/
  runs : ∀ s, e s = happenAny t unitExists s f

section Forms

variable {t : Nat} {ok lowland unitExists : Bool} {c : Caller} {f : State → State}

/-- A command that reaches Lowland. -/
theorem runs_happenAny (hunit : ok = true → unitExists = true) (hkeeps : ∀ s, s.onward (f s) ∨ (f s).shape = s.resetShape) :
    ∃ b g, Runs t ok true (fun s => happenAny t unitExists s f) b g :=
  ⟨unitExists, f, hunit, nofun, hkeeps, fun _ => rfl⟩

/-- A command to a unit that needs the device awake. -/
theorem runs_happen (hunit : ok = true → unitExists = true) (hkeeps : ∀ s, s.onward (f s) ∨ (f s).shape = s.resetShape) :
    ∃ b g, Runs t ok lowland (fun s => happen t unitExists s f) b g := by
  refine ⟨unitExists, fun s => if s.awake then f s else s, hunit, fun _ s hs => by simp [hs], fun s => ?_, fun _ => rfl⟩
  split
  · exact hkeeps s
  · exact .inl (onward_refl s)

/-- A request, which an unpaired partner does not get served. -/
theorem runs_happenBy (hunit : ok = true → unitExists = true) (hkeeps : ∀ s, (f s).shape = s.shape) :
    ∃ b g, Runs t ok lowland (fun s => happenBy c t unitExists s f) b g := by
  refine runs_happen hunit fun s => .inl (onward_of_shape ?_)
  split
  · simp
  · exact hkeeps s

/-- A command to a unit that needs the device awake, whose effect keeps queue, units and time. -/
theorem runs_happen_of_shape (hunit : ok = true → unitExists = true) (hkeeps : ∀ s, (f s).shape = s.shape) :
    ∃ b g, Runs t ok lowland (fun s => happen t unitExists s f) b g :=
  runs_happen hunit fun s => .inl (onward_of_shape (hkeeps s))

/-- A command that reaches Lowland, whose effect keeps queue, units and time. -/
theorem runs_happenAny_of_shape (hunit : ok = true → unitExists = true) (hkeeps : ∀ s, (f s).shape = s.shape) :
    ∃ b g, Runs t ok true (fun s => happenAny t unitExists s f) b g :=
  runs_happenAny hunit fun s => .inl (onward_of_shape (hkeeps s))

end Forms

/-- Every command but a power-on reset and the release of a reset has that form. -/
theorem runs_exec (i : Instr) (hon : ∀ t, i ≠ .powerOnReset t) (hrelease : ∀ t b, i ≠ .resetRelease t b) :
    ∃ b f, Runs i.tick i.operandsOk (reachesLowland i) (fun s => exec i s) b f := by
  cases i with dsimp only [exec, Instr.tick, Instr.operandsOk, reachesLowland]
  | powerOnReset t => exact absurd rfl (hon t)
  | resetRelease t b => exact absurd rfl (hrelease t b)
  | warmResetPin => exact runs_happenAny (fun _ => rfl) fun s => .inr (holdReset_shape s 1)
  | railsGood t macOk => exact runs_happenAny (fun _ => rfl) fun s => (railsGood_cases macOk s).imp_left onward_of_eq
  | fatalResetHoldEnd => exact runs_happen (fun _ => rfl) fun s => (fatalResetHoldEnd_cases s).imp_left onward_of_eq
  | timeCorrectionApply t n => exact runs_happen id fun s => .inl (onward_applyCorrections n s)
  | commitApply => exact runs_happen (fun _ => rfl) fun s => .inl (onward_commitApply s)
  | selfTestEnd t results procs banks =>
    exact runs_happen (fun _ => rfl) fun s => .inl (onward_selfTestEnd results procs banks s)
  | syncingReload => exact runs_happen (fun _ => rfl) fun s => .inl (onward_syncingReload s)
  | canTransmitComplete | busOff | tamperAlarm | quietRoute | wakeSource => exact runs_happenAny_of_shape id fun s => by simp
  | railsTimeout => exact runs_happenAny_of_shape (fun _ => rfl) fun s => by simp
  | frameHeaderWindow t port rx =>
    exact runs_happen_of_shape (fun h => (Bool.and_eq_true_iff.mp h).1) fun s => by simp
  | beaconTimeout | bridgeTimeout | busLoadUpdate | busOffDelayExpired | busOffRecovered | canFrameReceived |
    canTransmitOffer | captureEdge | cellGapTimeout | clockMonitorCleared | clockMonitorFault | comparatorFault |
    debugHalt | debugResume | egressSchedule | errnPoll | faultInputRaised | flexrayFrameReceived | flexraySlot |
    fordItemComplete | foreignBeacon | frameBankWalkDone | frameEndReceived | frameTransmitEnd | gateEntryChange |
    gateListSwitch | gateMemoryRewrite | grandmasterLost | handoverTimeout | holdRequest | holdTimerExpired |
    holdoverEnd | indirectAccessDone | laneEntersUse | laneFrameReceived | laneFrameSent | lateLimitExpired |
    launchTimeReached | linFrameReceived | linHeaderDue | linHeaderReceived | linScheduleChange | linkUp |
    lockstepCheckpoint | lockstepMismatch | losCleared | losDeclared | mdioPoll | msixModerationExpired |
    openProofTimeout | orphanNotice | pairTimeStamps | partnerSleepRequest | pauseReceived | pauseResend |
    pauseTimerExpired | pcieLinkUp | pcsLockLost | pfcReceived | processorFailure | reexecutionTimeout | ringEnable |
    rollbackComplete | rxCopyWrite | rxTailWrite | sakInstall | sdoRequest | semaphoreExpiry | sessionIdleTimeout |
    signalDetected | signalLost | slewEnd | sqiUpdate | staticEntryRewrite | supplyInWindow | supplyOutOfWindow |
    syncTxStamp | tc10SleepAck | tdrDone | temperatureLimit | ternaryRewrite | transmitOpportunity | triggerLeadingEdge
    | triggerTrailingEdge | txDescriptorComplete | txDescriptorFetch | txTailWrite | verifyAttempt | verifyResponse |
    wakePulseReceived | watchdogTimeout =>
    exact runs_happen_of_shape id fun s => by simp
  | advanceRollback | allowPairing | bankRetire | closeSession | counterGroupRead | debugResponse | detach |
    discardStaging | enterIdle | enterQuiet | enterSleep | executeCommit | extendMr7 | failNoticeCommand |
    generateStatement | imageActivate | imageUpload | inputRecordRead | journalAcknowledge | ledgerFreeze |
    ledgerRestart | nop | planSwapNow | processorRetest | read | readSeg | releaseSemaphore | resetCommand |
    resynchronise | returnToRun | revokeRootKey | sessionClose | snapshotRequest | tamperAcknowledge | updateMessage |
    write | writeSeg =>
    exact runs_happenBy (fun _ => rfl) fun s => by simp
  | lookup | insert | replace | delete | readRow | nextRow | clear | rateWrite | stepWrite | loadWrite |
    fallbackIncrementWrite | txStampRead | captureRead | indirectRead | indirectWrite | tdrStart | tc10Sleep | tc10Wake |
    recover | split | rejoin | restart | acknowledgeFault | watchdogService =>
    exact runs_happenBy (fun h => (Bool.and_eq_true_iff.mp h).1) fun s => by simp
  | _ => exact runs_happen_of_shape (fun _ => rfl) fun s => by simp

/-! ### The queue and the units -/

/-- `u` has the queue of `s`, and its units or those of a device after reset. -/
def KeepsUnits (s u : State) : Prop := u.pending = s.pending ∧ (u.sizes = s.sizes ∨ u.sizes = State.reset.sizes)

/-- What goes onward, or resets the device, keeps the queue and the units. -/
theorem keepsUnits_of_onward_or_reset {s u : State} (h : s.onward u ∨ u.shape = s.resetShape) : KeepsUnits s u := by
  rcases h with ⟨hpending, hsizes, -⟩ | hreset
  · exact ⟨hpending, .inl hsizes⟩
  · exact ⟨congrArg Prod.fst hreset, .inr (congrArg (fun p => p.2.1) hreset)⟩

/-- Time passing before an effect changes neither the queue nor the number of units. -/
theorem keepsUnits_of_advance {s u : State} {t : Nat} (h : KeepsUnits (s.advance t) u) : KeepsUnits s u :=
  ⟨h.1, h.2.imp_left (·.trans (advance_sizes s t))⟩

/-- A command of the common form answers a next state with the queue and the units, unless its unit does not exist. -/
theorem Runs.keepsUnits {t : Nat} {ok lowland b : Bool} {e : State → Out} {f : State → State} (h : Runs t ok lowland e b f)
    {s u : State} (hu : e s = .next u) : KeepsUnits s u := by
  rw [h.runs, happenAny] at hu
  split at hu
  · obtain rfl := Host.Outcome.next.inj hu
    split
    · exact ⟨rfl, .inl rfl⟩
    · exact keepsUnits_of_advance (keepsUnits_of_onward_or_reset (h.keeps _))
  · cases hu

/-- POWER_ON_RESET keeps the queue, and the units are those after reset. -/
theorem keepsUnits_powerOnReset (s : State) (t : Nat) :
    KeepsUnits s ((if s.power.phase = .held then s else s.advance t).holdReset 0) :=
  ⟨(congrArg Prod.fst (holdReset_shape _ 0)).trans (by split <;> rfl), .inr rfl⟩

/-- RESET_RELEASE keeps the queue, and the units or resets them. -/
theorem keepsUnits_resetRelease (s : State) (t : Nat) (strap : Bool) : KeepsUnits s (resetRelease t strap s) := by
  have hadvance : KeepsUnits s (s.advance t) := ⟨rfl, .inl (advance_sizes s t)⟩
  unfold resetRelease
  split
  · exact ⟨rfl, .inl rfl⟩
  split
  · split
    · exact ⟨rfl, .inr rfl⟩
    · exact hadvance
  · exact hadvance

/-! ### What every command answers -/

/-- A command is a power-on reset or the release of a reset, which answer a next state always, or has the common form. -/
theorem exec_cases (i : Instr) :
    (∃ f : State → State, (∀ s, exec i s = .next (f s)) ∧ ∀ s, KeepsUnits s (f s)) ∨
    ∃ b f, Runs i.tick i.operandsOk (reachesLowland i) (fun s => exec i s) b f := by
  cases i
  case powerOnReset t => exact .inl ⟨_, fun _ => rfl, fun s => keepsUnits_powerOnReset s t⟩
  case resetRelease t strap => exact .inl ⟨_, fun _ => rfl, fun s => keepsUnits_resetRelease s t strap⟩
  all_goals exact .inr (runs_exec _ nofun nofun)

/-- A command whose operands are in range answers a next state. -/
theorem exec_answers (s : State) {i : Instr} (h : i.operandsOk = true) : ∃ u, exec i s = .next u := by
  rcases exec_cases i with ⟨f, hf, -⟩ | ⟨b, f, hruns⟩
  · exact ⟨_, hf s⟩
  · obtain rfl := hruns.unit h
    exact ⟨_, hruns.runs s⟩

/-- A command that answers no next state names a unit that does not exist, and faults so in every state. -/
theorem exec_fault (s v : State) (i : Instr) (h : ∀ u, exec i s ≠ .next u) : exec i v = .fault .noSuchUnit := by
  rcases exec_cases i with ⟨f, hf, -⟩ | ⟨b, f, hruns⟩
  · exact absurd (hf s) (h _)
  · cases b with
    | true => exact absurd (hruns.runs s) (h _)
    | false => exact hruns.runs v

/-- Every command keeps the queue and the units. -/
theorem exec_keepsUnits {s u : State} {i : Instr} (hu : exec i s = .next u) : KeepsUnits s u := by
  rcases exec_cases i with ⟨f, hf, hkeeps⟩ | ⟨b, f, hruns⟩
  · obtain rfl := Host.Outcome.next.inj ((hf s).symm.trans hu)
    exact hkeeps s
  · exact hruns.keepsUnits hu

/-- Settles O3: a command stops only where the unit that it names does not exist. -/
theorem everyUnitThatExistsAnswers : Obligations.EveryUnitThatExistsAnswers := by
  refine ⟨fun s i h => exec_answers s h, fun s i r hr => ?_, fun s v i f hf => ?_⟩
  · have hfault := exec_fault s s i (fun u hu => by rw [hr] at hu; cases hu)
    rw [hr] at hfault
    cases hfault
  · have hno : ∀ u, exec i s ≠ .next u := fun u hu => by rw [hf] at hu; cases hu
    have hs := exec_fault s s i hno
    rw [hf] at hs
    obtain rfl := Host.Outcome.fault.inj hs
    exact ⟨rfl, exec_fault s v i hno⟩

/-! ### Steps -/

/-- The units that the block is built with are those it has after reset. -/
theorem unitsOk_iff_sizes (s : State) : s.unitsOk = true ↔ s.sizes = State.reset.sizes := by
  have hreset : State.reset.sizes = [4, 28, 16, 16, 6, 8, 4, 8, 32, 32, 32, 24, 8, 26, 4, 4, 16, 16, 8] := rfl
  rw [hreset]
  simp [State.unitsOk, State.sizes, and_assoc]

/-- A step takes the front command and keeps the units, or resets them. -/
theorem step_takesOne {s u : State} (hu : step s = .next u) :
    u.pending = s.pending.tail ∧ (u.sizes = s.sizes ∨ u.sizes = State.reset.sizes) := by
  cases hqueue : s.pending with
  | nil =>
    rw [step_of_nil hqueue] at hu
    obtain rfl := Host.Outcome.next.inj hu
    exact ⟨hqueue, .inl rfl⟩
  | cons i rest =>
    rw [step_of_cons hqueue] at hu
    exact exec_keepsUnits hu

/-- Settles O5: each command keeps the units or resets them, and what waits is left alone by all. -/
theorem everyStepKeepsTheUnits : Obligations.EveryStepKeepsTheUnits := by
  intro s u hunits hu
  obtain ⟨hpending, hsizes⟩ := step_takesOne hu
  refine ⟨(unitsOk_iff_sizes u).mpr ?_, hpending⟩
  exact hsizes.elim (·.trans ((unitsOk_iff_sizes s).mp hunits)) id

/-- Settles O4: a well-formed front command answers, and the commands behind it wait as before. -/
theorem aQueueOfWellFormedCommandsRuns : Obligations.AQueueOfWellFormedCommandsRuns := by
  intro s hwf
  have hanswers : ∃ u, step s = .next u := by
    cases hqueue : s.pending with
    | nil => exact ⟨s, step_of_nil hqueue⟩
    | cons i rest =>
      have hi : i.wf = true := hwf i (hqueue ▸ List.mem_cons_self)
      rw [step_of_cons hqueue]
      exact exec_answers _ (Bool.and_eq_true_iff.mp hi).2
  obtain ⟨u, hu⟩ := hanswers
  have hpending := (step_takesOne hu).1
  exact ⟨u, hu, hpending, fun c hc => hwf c (List.mem_of_mem_tail (hpending ▸ hc))⟩

/-! ### Held in reset, and with the rails off -/

/-- Settles O9: a command of the common form leaves a held device alone. -/
theorem heldInResetNothingHappens : Obligations.HeldInResetNothingHappens := by
  intro s i hheld hok hon hrelease
  obtain ⟨b, f, hruns⟩ := runs_exec i hon hrelease
  obtain rfl := hruns.unit hok
  rw [hruns.runs, happenAny, if_pos rfl, if_pos hheld]

/-- Settles O10: in QUIET, in SLEEP and during a wake the device is not awake, and a command that does not reach Lowland then has
no effect after the time that passes. -/
theorem withRailsOffOnlyLowlandActs : Obligations.WithRailsOffOnlyLowlandActs := by
  intro s i hphase hok hlow
  obtain ⟨b, f, hruns⟩ := runs_exec i (by rintro t rfl; cases hlow) (by rintro t b rfl; cases hlow)
  obtain rfl := hruns.unit hok
  have hasleep : s.awake = false := by rcases hphase with h | h | h <;> simp [State.awake, Power.low, h]
  have hheld : s.power.phase ≠ .held := by rcases hphase with h | h | h <;> simp [h]
  rw [hruns.runs, happenAny_next _ _ _ _ rfl hheld, hruns.sleeps hlow (s.advance i.tick) hasleep]

end Sys2Proof.Machine
end

section
/-! O51, O52, O53 and O50: a fault input that occurs raises an event, and a full journal then loses one of an unlisted severity,
whose count falls into a status entry of the unit concerned (as for O40). -/

namespace Sys2Proof.Machine

open Sys2Proof

/-! ### DEBUG_HALT -/

/-- An authorised halt sets the mode of pair 0 to 4, and the event of its fault input makes the journal lose one: the mode then
reads 5 (R364). -/
theorem pairMode_debugHalt_crowded : (debugHalt 0 true ((crowdedState 0xA010 1).advance 0)).pairMode 0 = 5 := by
  decide +kernel

/-- Refutes O51, in clause (14): DEBUG_HALT need not leave mode 4. The clause speaks of every state, and so also of one whose full
reorder buffer holds an event of no severity of Table 17.1. -/
theorem not_lockstepPairsRecoverOrFail : ¬ Obligations.LockstepPairsRecoverOrFail := by
  unfold Obligations.LockstepPairsRecoverOrFail
  rintro ⟨-, -, -, -, -, -, -, -, -, -, -, -, -, hhalt, -⟩
  have hawake : (crowdedState 0xA010 1).awake = true := by decide +kernel
  obtain ⟨u, hu, hmode, -⟩ :=
    hhalt (crowdedState 0xA010 1) 0 0 hawake (by decide) (by decide +kernel) (by decide +kernel)
  have hexec : exec (.debugHalt 0 0 true) (crowdedState 0xA010 1) =
      .next (debugHalt 0 true ((crowdedState 0xA010 1).advance 0)) := happen_awake _ _ _ _ rfl hawake
  obtain rfl := Host.Outcome.next.inj (hexec.symm.trans hu)
  rw [pairMode_debugHalt_crowded] at hmode
  cases hmode

/-! ### CLOCK_MONITOR_FAULT -/

/-- The effect of a fault of clock monitor `n` (R372). -/
def clockFault (n : Nat) (s : State) : State := ((s.setPll n false).orStat 0xC200 3 (1 <<< n)).raiseFault (50 + n) true

/-- CLOCK_MONITOR_FAULT on a device that is awake. -/
theorem exec_clockMonitorFault (s : State) (t n : Nat) (hawake : s.awake = true) (hn : n < 8) :
    exec (.clockMonitorFault t n) s = .next (clockFault n (s.advance t)) :=
  happen_awake t _ s (clockFault n) (decide_eq_true hn) hawake

/-- Monitor 0 sets its sticky bit, and the event of input 50 makes the journal lose one: the entry is one more than with that bit
set. -/
theorem stat_clockFault_crowded :
    (clockFault 0 ((crowdedState 0xC200 3).advance 0)).stat 0xC200 3 = ((crowdedState 0xC200 3).stat 0xC200 3 ||| 1 <<< 0) + 1 := by
  decide +kernel

/-- Refutes O52, in clause (12): CLOCK_MONITOR_FAULT need not set exactly the monitor's sticky bit. The clause speaks of every
state, and so also of one whose full reorder buffer holds an event of no severity of Table 17.1. -/
theorem not_faultsAreCollected : ¬ Obligations.FaultsAreCollected := by
  unfold Obligations.FaultsAreCollected
  rintro ⟨-, -, -, -, -, -, -, -, -, -, -, hclock, -⟩
  have hawake : (crowdedState 0xC200 3).awake = true := by decide +kernel
  obtain ⟨u, hu, hsticky, -⟩ := hclock (crowdedState 0xC200 3) 0 0 hawake (by decide)
  rw [exec_clockMonitorFault _ 0 0 hawake (by decide)] at hu
  obtain rfl := Host.Outcome.next.inj hu
  rw [stat_clockFault_crowded] at hsticky
  exact Nat.succ_ne_self _ hsticky

/-! ### WATCHDOG_TIMEOUT -/

/-- Watchdog 0 is overdue and its violation counts once, and the event of input 24 makes the journal lose one: the entry counts
two (R371). -/
theorem stat_watchdogTimeout_crowded :
    (watchdogTimeout 0 ((crowdedState 0xA300 0x15).advance (2 ^ 40))).stat 0xA300 0x15 =
      (crowdedState 0xA300 0x15).stat 0xA300 0x15 + 2 := by
  decide +kernel

/-- Refutes O53, in clause (3): a violation need not count once. The clause speaks of every state, and so also of one whose full
reorder buffer holds an event of no severity of Table 17.1. -/
theorem not_watchdogsOutputsAndSafetySpi : ¬ Obligations.WatchdogsOutputsAndSafetySpi := by
  unfold Obligations.WatchdogsOutputsAndSafetySpi
  rintro ⟨-, -, htimeout, -⟩
  have hawake : (crowdedState 0xA300 0x15).awake = true := by decide +kernel
  obtain ⟨u, hu, -, hcount, -⟩ :=
    htimeout (crowdedState 0xA300 0x15) (2 ^ 40) 0 hawake (by decide) rfl rfl (by decide +kernel) (by decide +kernel)
  have hexec : exec (.watchdogTimeout (2 ^ 40) 0) (crowdedState 0xA300 0x15) =
      .next (watchdogTimeout 0 ((crowdedState 0xA300 0x15).advance (2 ^ 40))) := happen_awake _ _ _ _ rfl hawake
  obtain rfl := Host.Outcome.next.inj (hexec.symm.trans hu)
  rw [show 0x15 + 8 * 0 = 0x15 from rfl, stat_watchdogTimeout_crowded] at hcount
  omega

/-! ### TAMPER_ALARM -/

/-- The crowded device after its boot. -/
def crowdedBooted : State :=
  { crowdedState 0xB400 2 with keys := { (crowdedState 0xB400 2).keys with bootDone := true } }

/-- Sensor 0 records its alarm, and the event of input 99 makes the journal lose one: the entry is one more than with that sensor's
bit set (R391, R392). -/
theorem stat_tamperAlarm_crowded :
    (tamperAlarm 0 false (crowdedBooted.advance 0)).stat 0xB400 2 = (crowdedBooted.stat 0xB400 2 ||| 1 <<< 0) + 1 := by
  decide +kernel

/-- Refutes O50, in clause (6): TAMPER_ALARM need not record exactly its sensor. The clause speaks of every state, and so also of
one whose full reorder buffer holds an event of no severity of Table 17.1. -/
theorem not_keysAreUpdatedAndProtected : ¬ Obligations.KeysAreUpdatedAndProtected := by
  unfold Obligations.KeysAreUpdatedAndProtected
  rintro ⟨-, -, -, -, -, halarm, -⟩
  have hrun : crowdedBooted.power.phase ≠ .held := by decide +kernel
  obtain ⟨u, hu, -, -, -, -, -, -, hsensors, -⟩ := halarm crowdedBooted 0 0 false (by decide +kernel) hrun (by decide) rfl
  have hexec : exec (.tamperAlarm 0 0 false) crowdedBooted = .next (tamperAlarm 0 false (crowdedBooted.advance 0)) :=
    happenAny_next _ _ _ _ rfl hrun
  obtain rfl := Host.Outcome.next.inj (hexec.symm.trans hu)
  rw [stat_tamperAlarm_crowded] at hsensors
  exact Nat.succ_ne_self _ hsensors

end Sys2Proof.Machine
end

section
/-! O56 and O57: a 32-bit counter that reaches its largest value is flagged by an event (R416), which the clauses on the counts of
events out of order and of hours do not exclude. -/

namespace Sys2Proof.Machine

open Sys2Proof

/-! ### Counters that saturate (R416) -/

/-- Flagging a counter at its largest value puts event 0x0F01 into the reorder buffer. -/
theorem flagCounter_puts (s : State) (idx sub : Nat) : ∃ e ∈ (s.flagCounter idx sub 0).journal.reorder, e.code = 0x0F01 :=
  ⟨_, mem_insertByKey.mpr (.inl rfl), rfl⟩

/-- A counter that reaches its largest value is flagged. -/
theorem count32_last {s : State} {idx sub : Nat} (h : s.stat idx sub = 0xFFFFFFFE) :
    s.count32 idx sub = (s.setStat idx sub 0xFFFFFFFF).flagCounter idx sub 0 := by
  unfold State.count32
  rw [h]
  rfl

/-! ### Events that enter the reorder buffer (R410) -/

/-- A key is of the present key epoch at the earliest. -/
theorem keyEpoch_le_nextKey (s : State) (src : Nat) : s.keyEpoch ≤ (s.nextKey src).epoch := by
  unfold State.nextKey
  dsimp only
  refine Nat.le_trans (Nat.le_max_left s.keyEpoch (if s.time.held then 0 else (s.sourceKeys src).epoch)) ?_
  generalize max s.keyEpoch (if s.time.held then 0 else (s.sourceKeys src).epoch) = e
  split <;> omega

/-- While nothing later has been committed and the buffer has room, an event that is raised now waits in the buffer. -/
theorem raiseEvent_buffered {s : State} (src code args : Nat) (hlast : s.journal.lastKey = none)
    (hroom : s.journal.reorder.length < 1024) :
    s.raiseEvent src code args = (s.issueKey src).putEvent
      (mkEvent (s.nextKey src) s.time.orderNs code (eventSeverity code) args) := by
  have hepoch : s.time.orderNs < ((s.nextKey src).epoch + 512) * 32 := by
    have := keyEpoch_le_nextKey s src
    unfold State.keyEpoch at this
    omega
  have hlast' : (s.issueKey src).journal.lastKey = none := hlast
  have hearly : (s.issueKey src).eventDue (mkEvent (s.nextKey src) s.time.orderNs code (eventSeverity code) args) = false := by
    rw [State.eventDue, hlast', Bool.or_false]
    exact decide_eq_false (Nat.not_le.mpr hepoch)
  have hroom' : (s.issueKey src).journal.reorder.length < 1024 := hroom
  rw [State.raiseEvent, State.arriveEvent, hearly, if_neg Bool.false_ne_true, if_pos hroom']

/-! ### JOURNAL_COMMIT -/

/-- The event of key zero waits, a later key has been committed, and the next event out of order makes its count reach its largest
value. -/
def lateEventState : State :=
  { State.reset with
    power := { Power.reset with phase := .run },
    dict := { Dict.reset with stat := [(dkey 0x1210 8, 0xFFFFFFFE)] },
    journal := { Journal.reset with reorder := [⟨OKey.zero, 0, 0x0602, 3, 0⟩], lastKey := some ⟨1, 0, 0⟩ } }

/-- Once its hold has ended the event is committed, and the counter's event takes its place in the buffer. -/
theorem reorder_journalCommit_late : (journalCommit (lateEventState.advance 16384)).journal.reorder.length = 1 := by decide +kernel

/-- Refutes O56, in clause (11): JOURNAL_COMMIT need not leave the buffer without what is due, and nothing more, since the count of
events out of order may reach its largest value. -/
theorem not_eventsAreOrderedAndCommitted : ¬ Obligations.EventsAreOrderedAndCommitted := by
  unfold Obligations.EventsAreOrderedAndCommitted
  rintro ⟨-, -, -, -, -, -, -, -, -, -, hcommit, -⟩
  have hawake : lateEventState.awake = true := by decide +kernel
  obtain ⟨u, hu, hreorder, -⟩ := hcommit lateEventState 16384 hawake
  have hexec : exec (.journalCommit 16384) lateEventState = .next (journalCommit (lateEventState.advance 16384)) :=
    happen_awake _ _ _ _ rfl hawake
  obtain rfl := Host.Outcome.next.inj (hexec.symm.trans hu)
  have hlen := congrArg List.length hreorder
  rw [reorder_journalCommit_late] at hlen
  exact absurd hlen (by decide +kernel)

/-! ### AGEING_MEASUREMENT -/

/-- While nothing has been committed and the buffer has room, a monitor's measurement adds at most one event to the buffer, and
leaves the counts of hours alone. -/
theorem ageMonitor_keeps {s : State} {k b : Nat} (d : Nat) (hlast : s.journal.lastKey = none)
    (hroom : s.journal.reorder.length < 1024) (hb : b ≠ 0x20 + k) :
    (ageMonitor s k d).journal.lastKey = none ∧
    (ageMonitor s k d).journal.reorder.length ≤ s.journal.reorder.length + 1 ∧
    (ageMonitor s k d).stat 0xC300 b = s.stat 0xC300 b := by
  have hstat : ∀ v, (s.setStat 0xC300 (0x20 + k) v).stat 0xC300 b = s.stat 0xC300 b := fun v => by
    rw [stat_setStat, if_neg (by omega)]
  unfold ageMonitor
  dsimp only
  split
  · rw [raiseEvent_buffered]
    · exact ⟨hlast, by simp [State.putEvent], hstat _⟩
    · exact hlast
    · exact hroom
  · exact ⟨hlast, Nat.le_succ _, hstat _⟩

/-- Measurements of several monitors, while the buffer has room for an event of each, leave the counts of hours alone. -/
theorem stat_foldl_ageMonitor (g : Nat → Nat) {b : Nat} (hb : 0x28 ≤ b) (ks : List Nat) (s : State)
    (hks : ∀ k ∈ ks, k < 8) (hlast : s.journal.lastKey = none) (hroom : s.journal.reorder.length + ks.length ≤ 1024) :
    (ks.foldl (fun s k => ageMonitor s k (g k)) s).stat 0xC300 b = s.stat 0xC300 b := by
  induction ks generalizing s with
  | nil => rfl
  | cons k ks ih =>
    rw [List.length_cons] at hroom
    have hk : k < 8 := hks k List.mem_cons_self
    obtain ⟨hlast', hlen, hstat⟩ := ageMonitor_keeps (k := k) (b := b) (g k) hlast (by omega) (by omega)
    rw [List.foldl_cons, ih _ (fun j hj => hks j (List.mem_cons_of_mem k hj)) hlast' (by omega), hstat]

/-- Monitor 0 alone has not raised its event yet, every margin is below its threshold, and the coldest band of hours is one hour
short of its largest value. -/
def lastHourState : State :=
  { State.reset with
    power := { Power.reset with phase := .run },
    dict := { Dict.reset with
      settings := [⟨0, 0, 0, dkey 0xC300 0x30, 1001⟩], stat := [(dkey 0xC300 0x29, 0xFFFFFFFE)] },
    journal := { Journal.reset with aged := [1, 2, 3, 4, 5, 6, 7] } }

/-- A cold hour makes the band's count reach its largest value, and the counter's event waits in the buffer. -/
theorem ageingMeasurement_lastHour (ppms : List Nat) :
    ∃ e ∈ (ageingMeasurement ppms (-1) (lastHourState.advance 0)).journal.reorder, e.code = 0x0F01 := by
  have hfold : ∀ b, 0x28 ≤ b →
      ((List.range 8).foldl (fun s k => ageMonitor s k (nth ppms k 0)) (lastHourState.advance 0)).stat 0xC300 b =
        lastHourState.stat 0xC300 b := fun b hb =>
    stat_foldl_ageMonitor (fun k => nth ppms k 0) hb _ _ (fun k hk => List.mem_range.mp hk) rfl (by decide +kernel)
  unfold ageingMeasurement
  dsimp only
  generalize List.foldl _ _ _ = x at hfold
  have htotal : x.stat 0xC300 0x28 = 0 := (hfold 0x28 (by decide)).trans (by decide +kernel)
  have hband : x.stat 0xC300 0x29 = 0xFFFFFFFE := (hfold 0x29 (by decide)).trans (by decide +kernel)
  have hcount : (x.count32 0xC300 0x28).stat 0xC300 0x29 = 0xFFFFFFFE := by
    rw [State.count32, htotal, if_neg (by decide), if_neg (by decide), stat_setStat, if_neg (by decide), hband]
  rw [show 0x29 + temperatureBand (-1) = 0x29 from rfl, count32_last hcount]
  exact flagCounter_puts _ _ _

/-- Refutes O57, in clause (11): a margin under the threshold need not leave its event alone in the buffer, since the count of hours
may reach its largest value. -/
theorem not_snapshotsImagesAndMeasurements : ¬ Obligations.SnapshotsImagesAndMeasurements := by
  unfold Obligations.SnapshotsImagesAndMeasurements
  rintro ⟨-, -, -, -, -, -, -, -, -, -, hage, -⟩
  have hawake : lastHourState.awake = true := by decide +kernel
  have hthreshold : (lastHourState.advance 0).reg 0xC300 0x30 = 1001 := by decide +kernel
  obtain ⟨u, hu, -, hreorder, -⟩ := hage lastHourState 0 (-1) 0 hawake rfl
    (hthreshold ▸ Nat.lt_of_le_of_lt (Nat.sub_le _ _) (by decide)) rfl rfl (by decide +kernel)
  have hexec : exec (.ageingMeasurement 0 [0] (-1)) lastHourState =
      .next (ageingMeasurement [0] (-1) (lastHourState.advance 0)) := happen_awake _ _ _ _ rfl hawake
  obtain rfl := Host.Outcome.next.inj (hexec.symm.trans hu)
  obtain ⟨e, he, hcode⟩ := ageingMeasurement_lastHour [0]
  rw [hreorder, List.mem_singleton] at he
  rw [he] at hcode
  cases hcode

end Sys2Proof.Machine
end

section
/-! O59: the reset of the PCIe link restarts the rings that the host interface has, however many they are. -/

namespace Sys2Proof.Machine

open Sys2Proof

/-- The device in RUN, else as after reset, with a host interface that has no transmit ring. -/
def ringlessState : State :=
  { State.reset with
    power := { Power.reset with phase := .run },
    host := { HostIf.reset with tx := [] } }

/-- The reset of its link gives it none. -/
theorem tx_pcieLinkReset_ringless : (pcieLinkReset (ringlessState.advance 0)).host.tx = [] := by decide +kernel

/-- Refutes O59, in clause (16): PCIE_LINK_RESET need not leave the host interface as after reset. The clause speaks of every state
with eight sessions, and so also of one that has not the sixteen transmit rings of the device. -/
theorem not_hostFramesVectorsAndLink : ¬ Obligations.HostFramesVectorsAndLink := by
  unfold Obligations.HostFramesVectorsAndLink
  rintro ⟨-, -, -, -, -, -, -, -, -, -, -, -, -, -, -, hreset, -⟩
  have hawake : ringlessState.awake = true := by decide +kernel
  obtain ⟨u, hu, hhost, -⟩ := hreset ringlessState 0 hawake rfl
  have hexec : exec (.pcieLinkReset 0) ringlessState = .next (pcieLinkReset (ringlessState.advance 0)) :=
    happen_awake _ _ _ _ rfl hawake
  obtain rfl := Host.Outcome.next.inj (hexec.symm.trans hu)
  have htx := congrArg HostIf.tx hhost
  rw [tx_pcieLinkReset_ringless] at htx
  cases htx

end Sys2Proof.Machine
end

section
/-! O49: boot, the fuses, the measurements and the statement, and the response that unlocks debugging. -/

namespace Sys2Proof.Machine

open Sys2Proof

/-! ### Boot (R376 to R381) -/

/-- Deriving slots puts slots and changes nothing else. -/
theorem exists_deriveSlots (s : State) (lo hi : Nat) :
    ∃ slots, s.deriveSlots lo hi = { s with keys := { s.keys with slots := slots } } := by
  unfold State.deriveSlots
  induction List.range (hi - lo) generalizing s with
  | nil => exact ⟨s.keys.slots, rfl⟩
  | cons i is ih =>
    obtain ⟨slots, h⟩ := ih (s.setSlot (lo + i) (derivedSlot s.keys.mrs (lo + i)))
    exact ⟨slots, h⟩

/-- The status entries that a boot from location `loc` writes. -/
def State.bootRecord (s : State) (loc codes version : Nat) : State :=
  (((s.setStat 0xB300 2 loc).setStat 0xB300 3 version).setStat 0xB300 8 (s.stat 0xB300 7)).setStat 0xB300 7 codes

/-- A boot from an accepted location measures it, records it and fills slots, and changes nothing else. -/
theorem exists_bootFrom (s : State) (loc codes : Nat) (h : BootHeader) (images : List Bytes) :
    ∃ slots, s.bootFrom loc codes h images = { s.bootRecord loc codes h.version with
      keys := { s.keys with
        mrs := s.bootMeasurements h images, rootIndex := h.index, bootDone := true, ready := true, slots := slots } } := by
  unfold State.bootFrom
  dsimp only
  split
  · exact ⟨[], rfl⟩
  · obtain ⟨slots, hslots⟩ := exists_deriveSlots ({ s.bootRecord loc codes h.version with
      keys := { s.keys with
        mrs := s.bootMeasurements h images, rootIndex := h.index, bootDone := true, ready := true } }) 0 5
    exact ⟨_, (congrArg State.loadPersistent hslots).trans rfl⟩

/-- What the statement says of a boot from location `loc`, which answers `u`. -/
theorem boot_from_answers {s : State} {t loc codes : Nat} {a b h : BootHeader} {images : List Bytes} (hawake : s.awake = true)
    (hboot : boot a b images (s.advance t) = (s.advance t).bootFrom loc codes h images) :
    ∃ u, exec (.boot t a b images) s = .next u ∧ u.keys.bootDone = true ∧ u.keys.rootIndex = h.index ∧
      u.stat 0xB300 2 = loc ∧ u.stat 0xB300 3 = h.version ∧ u.stat 0xB300 7 = codes ∧ u.stat 0xB300 8 = s.stat 0xB300 7 ∧
      u.keys.mrs = s.bootMeasurements h images ∧ u = { s.advance t with keys := u.keys, dict := u.dict } := by
  obtain ⟨slots, hslots⟩ := exists_bootFrom (s.advance t) loc codes h images
  refine ⟨_, happen_awake t true s (boot a b images) rfl hawake, ?_⟩
  rw [hboot, hslots]
  have hstat : ∀ i, ((s.advance t).bootRecord loc codes h.version).stat 0xB300 i =
      if i = 7 then codes else if i = 8 then s.stat 0xB300 7 else if i = 3 then h.version else if i = 2 then loc
      else s.stat 0xB300 i := by
    intro i
    simp only [State.bootRecord, stat_setStat, Nat.add_left_cancel_iff, advance_stat]
  exact ⟨rfl, rfl, hstat 2, hstat 3, hstat 7, hstat 8, rfl, rfl⟩

/-- A boot that finds neither location accepted notes both codes and blocks. -/
theorem boot_refused {s : State} {a b : BootHeader} {images : List Bytes} (hopen : s.keys.bootBlocked = false)
    (hfirst : s.keys.bootDone = false) (ha : bootCode s.keys.revoked s.keys.rollback a ≠ 0)
    (hb : bootCode s.keys.revoked s.keys.rollback b ≠ 0) :
    boot a b images s = { s.setStat 0xB300 7 (bootCode s.keys.revoked s.keys.rollback a +
      16 * bootCode s.keys.revoked s.keys.rollback b) with keys := { s.keys with bootBlocked := true } } := by
  rw [boot, if_neg (by simp [hopen, hfirst])]
  dsimp only
  rw [if_neg ha, if_neg hb]
  rfl

/-! ### Key commands: the fuses, MR7 and the statement (R378, R380, R386) -/

/-- The commands ADVANCE_ROLLBACK, REVOKE_ROOT_KEY, EXTEND_MR7 and GENERATE_STATEMENT are write-only entries. -/
theorem entryDef_keyCommand : ∀ x ∈ [(0xB300, 5), (0xB300, 6), (0xB300, 0x18), (0xB200, 4)], ∃ e, entryDef x.1 x.2 = some e ∧
    e.perIface = false ∧ e.acc = .wo := by
  have hfound : ∀ x ∈ [(0xB300, 5), (0xB300, 6), (0xB300, 0x18), (0xB200, 4)],
      (entryDef x.1 x.2).map (fun e => (e.perIface, e.acc)) = some (false, .wo) := by decide +kernel
  intro x hx
  obtain ⟨e, he, hkind⟩ := Option.map_eq_some_iff.mp (hfound x hx)
  exact ⟨e, he, Prod.mk.inj hkind⟩

/-- A command stores no setting. -/
@[simp] theorem commanded_settings (s : State) (c : Caller) (idx sub : Nat) (data : Bytes) :
    (s.commanded c idx sub data).dict.settings = s.dict.settings := by
  rw [← afterKey_dict s c 2 idx sub data]
  rfl

/-- A command keeps every caller's own values. -/
@[simp] theorem commanded_ownVal (s : State) (c x : Caller) (idx sub i j : Nat) (data : Bytes) :
    (s.commanded c idx sub data).ownVal x i j = s.ownVal x i j := by
  unfold State.ownVal
  rw [← afterKey_dict s c 2 idx sub data]
  rfl

/-- `u` is a state in which an accepted command of `s` has made the keys `k` and changed nothing else of the device. -/
def KeysMade (s : State) (c : Caller) (k : KeyStore) (u : State) : Prop :=
  u.accepted c = true ∧ u.keys = k ∧ u.dict.settings = s.dict.settings ∧ u.ports = s.ports ∧ u.power = s.power

/-- A key command that the checks accept makes the keys that its effect gives. -/
theorem keyCommand_accepted {s : State} {c : Caller} {idx sub : Nat} {data : Bytes} {extra : State → Nat → Nat}
    (g : Nat → State → KeyStore) (hcmd : (idx, sub) ∈ [(0xB300, 5), (0xB300, 6), (0xB300, 0x18), (0xB200, 4)])
    (h : s.writeCheck c idx sub data = 0) (hx : extra (s.afterKey c 2 idx sub data) (leNat data) = 0) :
    KeysMade s c (g (leNat data) (s.commanded c idx sub data))
      (s.dictWrite c idx sub data extra (fun v x => { x with keys := g v x })) := by
  obtain ⟨e, he, hwo⟩ := entryDef_keyCommand (idx, sub) hcmd
  rw [dictWrite_command he hwo h hx]
  exact ⟨accepted_commanded .., rfl, commanded_settings .., commanded_ports .., commanded_power ..⟩

/-- A write that its entry's own condition refuses with 0x0B is answered so, and no key changes. -/
theorem dictWrite_refused_keys {s : State} {c : Caller} {idx sub : Nat} {data : Bytes} {extra : State → Nat → Nat}
    {eff : Nat → State → State} (h : s.writeCheck c idx sub data = 0)
    (hx : extra (s.afterKey c 2 idx sub data) (leNat data) = 0x0B) :
    (s.dictWrite c idx sub data extra eff).replyOf c.iface = some ⟨c, 0x0B, 0, 0⟩ ∧
      (s.dictWrite c idx sub data extra eff).keys = s.keys := by
  rw [dictWrite_extra s c idx sub data extra eff h (by rw [hx]; decide), hx]
  refine ⟨replyOf_reply .., ?_⟩
  rw [State.reply_keys]
  split <;> simp

/-- The operand of REVOKE_ROOT_KEY as the entry reads it. -/
theorem leNat_revoked {v : Nat} (hv : v ≤ 2) : leNat (toLE 1 v) = v := by
  rw [leNat_toLE, Nat.mod_eq_of_lt (by omega)]

/-- Keys, time and the caller's own values settle the statement. -/
theorem statementBytes_congr {s u : State} (hkeys : u.keys = s.keys) (htime : u.time = s.time) (nonce slot : Nat) :
    u.statementBytes nonce slot = s.statementBytes nonce slot := by
  cases s
  cases u
  cases hkeys
  cases htime
  rfl

/-! ### The response that unlocks debugging (R382) -/

/-- A domain write that comes as one segment and passes the checks is complete. -/
theorem writeSegment_whole {s : State} {c : Caller} {idx sub : Nat} {data : Bytes} {extra : State → Bytes → Nat}
    {eff : Bytes → State → State} {onRefuse : State → State} (hnone : s.openWrite c (dkey idx sub) = none)
    (h : (s.afterKey c 3 idx sub (toBE 1 1 ++ toBE 4 0 ++ data)).segmentStatus c s.keyEpoch idx sub data = 0) :
    s.writeSegment c idx sub 0 data true extra eff onRefuse =
      (s.afterKey c 3 idx sub (toBE 1 1 ++ toBE 4 0 ++ data)).completeDomain c s.keyEpoch idx sub data extra eff onRefuse := by
  have hopen : (s.afterKey c 3 idx sub (toBE 1 1 ++ toBE 4 0 ++ data)).openWrite c (dkey idx sub) = none := by
    simpa [State.openWrite] using hnone
  simp only [State.afterKey] at h hopen
  simp only [State.writeSegment, State.afterKey, natOfBool, if_true, hopen, h, List.nil_append, List.length_nil, ne_eq,
    not_true_eq_false, if_false]

/-- The state in which a domain's content is in force: the transfer ended, the record stored and the response waiting. -/
def State.domainStored (s : State) (c : Caller) (k idx sub : Nat) (content : Bytes) : State :=
  let x := s.dropWrite c (dkey idx sub)
  ({ x with dict := { x.dict with
    domains := kput (fun _ => []) x.dict.domains (dkey idx sub) content } } : State).acceptBytes c (domainKind idx) idx sub
      (s.domain idx sub) content 0 (k + 4)

/-- A content that the entry's own conditions accept is stored and has its effect. -/
theorem completeDomain_accepted {s : State} {c : Caller} {k idx sub : Nat} {content : Bytes} {extra : State → Bytes → Nat}
    {eff : Bytes → State → State} {onRefuse : State → State} (hx : extra (s.dropWrite c (dkey idx sub)) content = 0) :
    s.completeDomain c k idx sub content extra eff onRefuse = eff content (s.domainStored c k idx sub content) :=
  if_neg (not_not.mpr hx)

/-- A content that the entry's own conditions refuse is answered with their status. -/
theorem completeDomain_refused {s : State} {c : Caller} {k idx sub st : Nat} {content : Bytes} {extra : State → Bytes → Nat}
    {eff : Bytes → State → State} {onRefuse : State → State} (hx : extra (s.dropWrite c (dkey idx sub)) content = st)
    (hst : st ≠ 0) :
    s.completeDomain c k idx sub content extra eff onRefuse =
      (onRefuse (s.dropWrite c (dkey idx sub))).reply c st 0 0 := by
  subst hx
  exact if_pos hst

section Stored

variable (s : State) (c : Caller) (k idx sub : Nat) (content : Bytes)

@[simp] theorem domainStored_keys : (s.domainStored c k idx sub content).keys = s.keys := State.acceptBytes_keys ..
@[simp] theorem domainStored_fresh : (s.domainStored c k idx sub content).fresh = s.fresh := State.acceptBytes_fresh ..
@[simp] theorem domainStored_ports : (s.domainStored c k idx sub content).ports = s.ports := State.acceptBytes_ports ..
@[simp] theorem domainStored_power : (s.domainStored c k idx sub content).power = s.power := State.acceptBytes_power ..

end Stored

/-- A verified response unlocks, enters MR6 and the count, and changes nothing else but slots. -/
theorem exists_unlockDebug (s : State) : ∃ slots, s.unlockDebug = { s with keys := { s.keys with
    unlocks := s.keys.unlocks + 1, unlocked := true,
    mrs := measure s.keys.mrs 6 (toLE 1 s.keys.lifecycle ++ toLE 1 1 ++ toLE 4 (s.keys.unlocks + 1)), slots := slots } } :=
  exists_deriveSlots _ 2 4

/-- A response is verified on the keys as they stand when it is whole. -/
theorem dropWrite_afterKey_keys (s : State) (c x : Caller) (op i j key : Nat) (d : Bytes) :
    ((s.afterKey c op i j d).dropWrite x key).keys = s.keys := afterKey_keys s c op i j d

section Response

variable {s : State} {c : Caller} {data : Bytes} (hlen : data.length = 3405) (hlife : s.keys.lifecycle = 1)
  (hnone : s.openWrite c (dkey 0xB300 0x1B) = none)
  (hcheck : (s.afterKey c 3 0xB300 0x1B (toBE 1 1 ++ toBE 4 0 ++ data)).segmentStatus c s.keyEpoch 0xB300 0x1B data = 0)
include hlen hlife hnone hcheck

/-- A response that verifies unlocks and draws a new challenge. -/
theorem debugResponse_verified : s.reqDebugResponse c 0 data true =
    ((s.afterKey c 3 0xB300 0x1B (toBE 1 1 ++ toBE 4 0 ++ data)).domainStored c s.keyEpoch 0xB300 0x1B
      data).unlockDebug.newChallenge := by
  rw [State.reqDebugResponse, writeSegment_whole hnone hcheck, completeDomain_accepted]
  simp [hlen, hlife, dropWrite_afterKey_keys]

/-- A response that does not verify is refused with 0x0C, and a new challenge is drawn. -/
theorem debugResponse_unverified : s.reqDebugResponse c 0 data false =
    (((s.afterKey c 3 0xB300 0x1B (toBE 1 1 ++ toBE 4 0 ++ data)).dropWrite c (dkey 0xB300 0x1B)).newChallenge).reply
      c 0x0C 0 0 := by
  rw [State.reqDebugResponse, writeSegment_whole hnone hcheck, completeDomain_refused (st := 0x0C) _ (by decide)]
  simp [hlen, hlife, dropWrite_afterKey_keys]

end Response

/-- Settles O49, clause by clause. -/
theorem bootMeasuresAndSelects : Obligations.BootMeasuresAndSelects := by
  refine ⟨?locationA, ?locationB, ?blocked, ?again, ?advance, ?advanced, ?revoke, ?running, ?extend, ?statement, ?sealed,
    ?verified, ?unverified⟩
  case locationA =>
    intro s t a b images hawake hopen hfirst ha
    refine boot_from_answers hawake ?_
    simp [boot, hopen, hfirst, ha]
  case locationB =>
    intro s t a b images hawake hopen hfirst ha hb
    have hboot : boot a b images (s.advance t) =
        (s.advance t).bootFrom 1 (bootCode s.keys.revoked s.keys.rollback a) b images := by
      simp [boot, hopen, hfirst, ha, hb]
    obtain ⟨u, hu, hdone, hroot, hloc, hversion, hcodes, -, hmrs, hframe⟩ := boot_from_answers hawake hboot
    exact ⟨u, hu, hdone, hroot, hloc, hversion, hcodes, hmrs, hframe⟩
  case blocked =>
    intro s t a b images hawake hopen hfirst ha hb
    refine happen_answers rfl hawake ?_
    rw [boot_refused (s := s.advance t) hopen hfirst ha hb]
    exact ⟨rfl, (stat_setStat ..).trans (if_pos rfl), rfl⟩
  case again =>
    intro s t a b images hawake hdone
    refine (happen_awake t true s (boot a b images) rfl hawake).trans ?_
    simp [boot, hdone]
  case advance =>
    intro s t c hawake hiface hcheck hne
    dsimp only [exec, execAdvanceRollback]
    refine happenBy_answers rfl hawake hiface ?_
    have hmade := keyCommand_accepted (s := s.advance t) (extra := fun s _ => if s.keys.rollback = s.stat 0xB300 3 then 0x0B else 0)
      (fun _ s => { s.keys with rollback := s.stat 0xB300 3 }) (by simp) hcheck (by simp [hne])
    rw [commanded_keys, stat_commanded] at hmade
    exact hmade
  case advanced =>
    intro s t c hawake hiface hcheck heq
    dsimp only [exec, execAdvanceRollback]
    refine happenBy_answers rfl hawake hiface ?_
    refine dictWrite_refused_keys (s := s.advance t) hcheck ?_
    simp [heq]
  case revoke =>
    intro s t v c hawake hiface hlo hhi hcheck hother hlast
    dsimp only [exec, execRevokeRootKey]
    refine happenBy_answers rfl hawake hiface ?_
    have hmade := keyCommand_accepted (s := s.advance t) (extra := fun s v => if s.revokeRefused v then 0x0B else 0)
      (fun v s => { s.keys with revoked := setBitAt s.keys.revoked (v - 1) }) (by simp) hcheck
      (by simp [leNat_revoked hhi, State.revokeRefused, hother, hlast])
    rw [commanded_keys, leNat_revoked hhi] at hmade
    exact hmade
  case running =>
    intro s t v c hawake hiface hlo hhi hcheck hroot
    dsimp only [exec, execRevokeRootKey]
    refine happenBy_answers rfl hawake hiface ?_
    refine dictWrite_refused_keys (s := s.advance t) hcheck ?_
    simp [leNat_revoked hhi, State.revokeRefused, hroot]
  case extend =>
    intro s t c digest hawake hiface _ hcheck
    dsimp only [exec, execExtendMr7]
    refine happenBy_answers rfl hawake hiface ?_
    have hmade := keyCommand_accepted (s := s.advance t) (extra := noExtra)
      (fun _ s => { s.keys with mrs := extendMr s.keys.mrs 7 (beNat digest) }) (by simp) hcheck rfl
    rw [commanded_keys] at hmade
    obtain ⟨haccepted, hkeys, hrest⟩ := hmade
    refine ⟨haccepted, hkeys, fun i hi => ?_, hrest⟩
    exact (congrArg (fun k : KeyStore => nth k.mrs i 0) hkeys).trans (nth_modNth_ne _ 7 i _ 0 hi)
  case statement =>
    intro s t c hawake hiface hopen hcheck
    dsimp only [exec, execGenerateStatement]
    refine happenBy_answers rfl hawake hiface ?_
    have hmade := keyCommand_accepted (s := s.advance t) (extra := fun s _ => if s.keys.sealed_ then 0x0B else 0)
      (fun _ s => { s.keys with statement := s.statementBytes (s.ownVal c 0xB200 2) (s.ownVal c 0xB200 3) }) (by simp) hcheck
      (by simp [hopen])
    rw [commanded_keys, commanded_ownVal, commanded_ownVal,
      statementBytes_congr (commanded_keys ..) (commanded_time ..)] at hmade
    exact hmade
  case sealed =>
    intro s t c hawake hiface hsealed hcheck
    dsimp only [exec, execGenerateStatement]
    refine happenBy_answers rfl hawake hiface ?_
    refine dictWrite_refused_keys (s := s.advance t) hcheck ?_
    simp [hsealed]
  case verified =>
    intro s t c data hawake hiface hlen hlife hnone hcheck
    dsimp only [exec, execDebugResponse]
    refine happenBy_answers rfl hawake hiface ?_
    rw [debugResponse_verified (s := s.advance t) hlen hlife hnone hcheck]
    obtain ⟨slots, hslots⟩ := exists_unlockDebug (((s.advance t).afterKey c 3 0xB300 0x1B
      (toBE 1 1 ++ toBE 4 0 ++ data)).domainStored c (s.advance t).keyEpoch 0xB300 0x1B data)
    rw [hslots]
    simp [State.newChallenge, State.drawFree, State.random, hlife, toLE]
  case unverified =>
    intro s t c data hawake hiface hlen hlife hnone hcheck
    dsimp only [exec, execDebugResponse]
    refine happenBy_answers rfl hawake hiface ?_
    rw [debugResponse_unverified (s := s.advance t) hlen hlife hnone hcheck]
    refine ⟨replyOf_reply .., ?_⟩
    simp [State.newChallenge, State.drawFree, State.random, State.dropWrite]

end Sys2Proof.Machine
end

section
/-! O58, the registers of the host interface: writes, halves of 64-bit registers, invalid writes, and the enables of rings. -/

namespace Sys2Proof.Machine

open Sys2Proof

/-! ### Posted writes (R424) -/

/-- A posted write that reaches a register and has a valid value is carried out. -/
theorem postedWrite_valid {s : State} {bar off width v : Nat} {a : HostAccess} (hlink : s.host.linkUp = true)
    (ha : hostAccess bar off width = some a) (hvalid : s.badValue v a.reg = false) :
    s.postedWrite bar off width v = s.registerWrite bar off v a := by
  simp [State.postedWrite, hlink, ha, hvalid]

/-- SIZE of transmit ring `n` stands at offset 8 of its block in BAR2 (Table 18.2). -/
theorem hostAccess_txSize : ∀ n < 16, hostAccess 2 (0x40 * n + 8) 4 = some (.whole (.size (.tx n))) := by decide +kernel

/-- A changed ring reads as changed. -/
theorem ring_modRing_same (s : State) (rx : Bool) (n : Nat) (f : Ring → Ring)
    (hlen : n < (if rx then s.host.rx else s.host.tx).length) : (s.modRing rx n f).ring rx n = f (s.ring rx n) := by
  cases rx <;> exact nth_modNth_same _ n f _ hlen

/-- The other rings read as before. -/
theorem ring_modRing_ne (s : State) (rx : Bool) {n k : Nat} (f : Ring → Ring) (hk : k ≠ n) :
    (s.modRing rx n f).ring rx k = s.ring rx k := by
  cases rx <;> exact nth_modNth_ne _ n k f _ hk

/-- A command to a unit of the host interface that has no effect lets time pass, in every state but reset. -/
theorem happen_idle {s : State} {t : Nat} {f : State → State} (hheld : s.power.phase ≠ .held)
    (hidle : f (s.advance t) = s.advance t) : happen t true s f = .next (s.advance t) := by
  obtain ⟨h, -⟩ | ⟨-, h, -⟩ | ⟨-, -, -, h⟩ | ⟨-, -, h⟩ := happen_cases t true s f
  · exact absurd h (by decide)
  · exact absurd h hheld
  · exact h
  · rw [h, hidle]

/-! ### Invalid writes (R426) -/

/-- The count of invalid writes after one more, at its largest value the same. -/
def HostIf.refused (h : HostIf) : HostIf :=
  { h with invalidWr := if h.invalidWr = 0xFFFFFFFF then 0xFFFFFFFF else h.invalidWr + 1 }

/-- A refused write is counted and raises event 0x0103. -/
theorem refuseWrite_eq (s : State) (bar off : Nat) :
    s.refuseWrite bar off =
      ({ s with host := s.host.refused } : State).raiseEvent 0x0200 0x0103 (off % 2 ^ 48 + bar * 2 ^ 56) := by
  unfold State.refuseWrite HostIf.refused
  split <;> simp_all

/-- What the statement says of a write refused in `s`. -/
theorem refuseWrite_answers {s : State} {bar off : Nat} (hempty : s.journal.reorder = []) (hlast : s.journal.lastKey = none) :
    (s.refuseWrite bar off).host = s.host.refused ∧
      (s.refuseWrite bar off).journal.reorder =
        [⟨s.nextKey 0x0200, s.time.orderNs, 0x0103, 1, off % 2 ^ 48 + bar * 2 ^ 56⟩] ∧
      s.refuseWrite bar off = { s with
        host := (s.refuseWrite bar off).host, journal := (s.refuseWrite bar off).journal,
        ord := (s.refuseWrite bar off).ord } := by
  have hbuffered := raiseEvent_buffered (s := { s with host := s.host.refused }) 0x0200 0x0103
    (off % 2 ^ 48 + bar * 2 ^ 56) hlast (by rw [hempty]; decide)
  rw [refuseWrite_eq, hbuffered]
  refine ⟨rfl, ?_, rfl⟩
  unfold State.putEvent
  dsimp only
  rw [State.issueKey_journal, hempty]
  rfl

/-- A posted write that R426 calls invalid is refused. -/
theorem postedWrite_bad {s : State} {bar off width v : Nat} (hlink : s.host.linkUp = true)
    (hbad : s.badWrite bar off width v = true) : s.postedWrite bar off width v = s.refuseWrite bar off := by
  unfold State.badWrite at hbad
  unfold State.postedWrite
  rw [hlink, Bool.not_true, if_neg Bool.false_ne_true]
  split at hbad
  · rfl
  · exact if_pos hbad

/-- The host interface but for its vectors. -/
def HostIf.unsignalled (h : HostIf) : HostIf := { h with vectors := [], pba := 0 }

/-- A signalled vector changes vectors alone. -/
theorem signalVector_unsignalled (s : State) (v : Nat) : (s.signalVector v).host.unsignalled = s.host.unsignalled := by
  unfold State.signalVector
  split <;> rfl

/-- Whether a later-keyed event has been committed (R410). -/
def State.isLate (s : State) (ev : Event) : Bool := match s.journal.lastKey with
  | some k => okeyLt ev.key k
  | none => false

/-- The state in which an event has been counted when it is late, and its key and trigger are noted. -/
def State.noted (s : State) (ev : Event) : State :=
  let x := if s.isLate ev then s.count32 0x1210 8 else s
  { x with journal := { x.journal with
    lastKey := if s.isLate ev then x.journal.lastKey else some ev.key,
    trigger := if x.ledgerCode ev.code && x.journal.trigger.isNone then some (1, ev.key) else x.journal.trigger } }

/-- The state in which a noted event has joined an entry, has one of its own, or is lost. -/
def State.entered (s : State) (ev : Event) (late : Bool) : State := match s.journal.joinable ev with
  | some e =>
    let up : JEntry := { e with count := e.count + 1 }
    ({ s with journal := { s.journal with
      held := modWhere (fun x => decide (x.number = e.number)) (fun _ => up) s.journal.held,
      toPersist := if 2 ≤ ev.sev then s.journal.toPersist ++ [up] else s.journal.toPersist } } : State).count64 0x1210 9 1
  | none =>
    if s.journal.admits ev.sev then
      let s := { s with journal := s.journal.add ev late }
      if s.journal.unread 3 = s.reg 0x1200 5 then s.signalVector 1 else s
    else s.count32Own 0x1210 (1 + ev.sev) 0x1210 5 ev.sev

/-- Committing an event notes it and enters it, unless its severity is too low. -/
theorem commitEvent_eq (s : State) (ev : Event) :
    s.commitEvent ev = if ev.sev < s.reg 0x1200 6 then s else (s.noted ev).entered ev (s.isLate ev) := rfl

/-- Entering an event changes nothing of the host interface but vectors. -/
theorem entered_unsignalled (s : State) (ev : Event) (late : Bool) :
    (s.entered ev late).host.unsignalled = s.host.unsignalled := by
  unfold State.entered
  split
  · rfl
  split
  · dsimp only
    split
    · exact signalVector_unsignalled _ _
    · rfl
  · rw [State.count32Own_host]

/-- Committing an event changes nothing of the host interface but vectors. -/
theorem commitEvent_unsignalled (s : State) (ev : Event) : (s.commitEvent ev).host.unsignalled = s.host.unsignalled := by
  have hnoted : (s.noted ev).host = s.host := by
    unfold State.noted
    dsimp only
    split <;> simp
  rw [commitEvent_eq]
  split
  · rfl
  · rw [entered_unsignalled, hnoted]

/-- Raising an event changes nothing of the host interface but vectors. -/
theorem raiseEvent_unsignalled (s : State) (src code args : Nat) :
    (s.raiseEvent src code args).host.unsignalled = s.host.unsignalled := by
  unfold State.raiseEvent State.arriveEvent
  split
  · exact commitEvent_unsignalled _ _
  · split
    · rfl
    · split
      · rfl
      · exact commitEvent_unsignalled _ _

/-- Host interfaces that are the same but for vectors. -/
theorem eq_of_unsignalled {h g : HostIf} (heq : h.unsignalled = g.unsignalled) :
    h = { g with vectors := h.vectors, pba := h.pba } := by
  cases h
  cases g
  simp_all [HostIf.unsignalled]

/-- A refused write changes nothing of the host interface but its count and vectors. -/
theorem refuseWrite_host (s : State) (bar off : Nat) : (s.refuseWrite bar off).host =
    { s.host.refused with vectors := (s.refuseWrite bar off).host.vectors, pba := (s.refuseWrite bar off).host.pba } := by
  refine eq_of_unsignalled ?_
  rw [refuseWrite_eq]
  exact raiseEvent_unsignalled ..

/-! ### Enabling rings (R424) -/

/-- A transmit or receive ring that is enabled runs with its indices at 0. -/
def Ring.started (x : Ring) (v : Nat) : Ring := { x with ctrl := v, status := 1, tail := 0, head := 0 }

/-- What a transmit ring has fetched or a receive ring has posted is dropped. -/
def State.dropHeld (s : State) (rx : Bool) (n : Nat) : State :=
  if rx then { s with host := { s.host with posted := s.host.posted.filter (fun b => decide (b.ring ≠ n)) } }
  else { s with host := { s.host with fetched := s.host.fetched.filter (fun d => decide (d.ring ≠ n)) } }

/-- Dropping what a ring holds leaves the rings as they are. -/
theorem ring_dropHeld (s : State) (rx q : Bool) (n k : Nat) : (s.dropHeld rx n).ring q k = s.ring q k := by
  cases rx <;> rfl

/-- No descriptor of a transmit ring whose own were dropped is left. -/
theorem fetched_dropHeld {s : State} {n : Nat} {d : TxDesc} (hd : d ∈ (s.dropHeld false n).host.fetched) : d.ring ≠ n :=
  of_decide_eq_true (List.mem_filter.mp hd).2

/-- No buffer of a receive ring whose own were dropped is left. -/
theorem posted_dropHeld {s : State} {n : Nat} {b : RxBuffer} (hb : b ∈ (s.dropHeld true n).host.posted) : b.ring ≠ n :=
  of_decide_eq_true (List.mem_filter.mp hb).2

/-- Enabling a ring that is off starts it without anything held. -/
theorem enableRing_off {s : State} {rx : Bool} {n v : Nat} (hv : bitOf v 0 = true)
    (hoff : bitOf (s.ring rx n).ctrl 0 = false) :
    s.enableRing rx n v = (s.modRing rx n (fun x => x.started v)).dropHeld rx n := by
  simp only [State.enableRing, hv, hoff]
  cases rx <;> rfl

/-- Enabling a ring that runs stores the control word alone. -/
theorem enableRing_on {s : State} {rx : Bool} {n v : Nat} (hv : bitOf v 0 = true)
    (hon : bitOf (s.ring rx n).ctrl 0 = true) :
    s.enableRing rx n v = s.modRing rx n (fun x => { x with ctrl := v }) := by
  simp [State.enableRing, hv, hon]

/-- A control word without reserved bits is carried out for a transmit ring. -/
theorem ringEnable_tx {s : State} {v n : Nat} (hlink : s.host.linkUp = true) (hlow : v % 256 / 2 = 0) (hhigh : v / 4096 = 0) :
    ringEnable (.tx n) v s = s.enableRing false n v := by
  simp [ringEnable, hlink, State.badValue, HostReg.reserved, hlow, hhigh]

/-- A control word without reserved bits is carried out for a receive ring. -/
theorem ringEnable_rx {s : State} {v n : Nat} (hlink : s.host.linkUp = true) (hlow : v % 256 / 2 = 0) (hhigh : v / 4096 = 0) :
    ringEnable (.rx n) v s = s.enableRing true n v := by
  simp [ringEnable, hlink, State.badValue, HostReg.reserved, hlow, hhigh]

/-- Dropping the responses of the dictionary ring leaves none of them waiting. -/
theorem ringWaiting_dropResponses (s : State) : s.dropResponses.ringWaiting = 0 := by
  unfold State.ringWaiting State.dropResponses
  rw [List.length_eq_zero_iff, List.filter_filter, List.filter_eq_nil_iff]
  intro a _
  cases a.carry <;> simp

end Sys2Proof.Machine
end

section
/-! O58, the dictionary rings: a NOP request is served (R68, R69, R425). -/

namespace Sys2Proof.Machine

open Sys2Proof

/-! ### A NOP entry (Table 3.9) -/

/-- The octets of a NOP request with a tag, and of its response. -/
def nopBytes (tag : Nat) : Bytes := [8, BitVec.ofNat 8 tag] ++ List.replicate 30 0

/-- The request entry of a NOP. -/
def nopEntry (tag : Nat) : RingEntry := ⟨nopBytes tag, none⟩

/-- What a NOP without a session gives. -/
def nopDone : OpDone := ⟨⟨.host, 0⟩, 0, 0, 0, none⟩

/-- Octets of zero are the number 0. -/
theorem leNat_zeros (n : Nat) : leNat (List.replicate n 0) = 0 := by
  induction n with
  | zero => rfl
  | succ n ih => exact (congrArg (fun x => 0 + 256 * x) ih)

section NopFields

variable (tag : Nat)

@[simp] theorem nop_op : byteAt (nopBytes tag) 0 = 8 := rfl
@[simp] theorem nop_flags : byteAt (nopBytes tag) 5 = 0 := rfl
@[simp] theorem nop_session : leAt (nopBytes tag) 6 2 = 0 := leNat_zeros 2
@[simp] theorem nop_len : leAt (nopBytes tag) 8 4 = 0 := leNat_zeros 4
@[simp] theorem nop_reserved : leAt (nopBytes tag) 24 8 = 0 := leNat_zeros 8
@[simp] theorem nopEntry_bytes : (nopEntry tag).bytes = nopBytes tag := rfl

end NopFields

/-- The response to a NOP repeats its octets, with status 0, and writes no data. -/
theorem ringResponse_nop (tag : Nat) : ringResponse (nopEntry tag) nopDone = (nopBytes tag, none) := by
  simp only [ringResponse, nopEntry_bytes, nop_op, nop_flags, nop_len, nopDone, bitOf, Nat.zero_testBit]
  simp [OpDone.data, toLE, slice, nopBytes]

/-- A NOP without a session is keyed and answered with status 0. -/
theorem nop_host (s : State) : s.nop ⟨.host, 0⟩ = (s.issueKey 0x0200).reply ⟨.host, 0⟩ 0 0 0 := rfl

/-- The state after a NOP of the ring has run and its response has been taken. -/
def State.probed (s : State) : State := (((s.forgetReply .host).issueKey 0x0200).reply ⟨.host, 0⟩ 0 0 0).forgetReply .host

/-- Running a NOP gives status 0. -/
theorem runOp_nop (s : State) :
    s.runOp ⟨.host, 0⟩ (fun x => x.nop ⟨.host, 0⟩) = (s.probed, nopDone) := by
  have hfind := replyOf_reply ((s.forgetReply .host).issueKey 0x0200) ⟨.host, 0⟩ 0 0 0
  unfold State.replyOf at hfind
  have hdrop : ((s.forgetReply .host).nop ⟨.host, 0⟩).dict.awaiting.drop (s.forgetReply .host).dict.awaiting.length = [] := by
    rw [nop_host]
    exact List.drop_length ..
  unfold State.runOp
  dsimp only at hfind ⊢
  rw [hdrop, nop_host, hfind]
  rfl

/-- A NOP entry is executed as a NOP. -/
theorem ringExec_nop {s : State} (tag : Nat) (hnone : s.dict.awaiting = []) :
    s.ringExec (nopEntry tag) = (s.probed, nopDone) := by
  have hfree : s.tagBusy (byteAt (nopBytes tag) 1) = false := by
    unfold State.tagBusy
    rw [hnone]
    rfl
  rw [← runOp_nop s]
  unfold State.ringExec
  simp [hfree, bitOf]

/-- The response of a NOP is written at DRS_TAIL at once. -/
theorem respond_nop {s : State} (tag : Nat) (hnone : s.dict.awaiting = []) :
    s.probed.respond ⟨.host, 0⟩ none (.ring (nopBytes tag) none) = s.probed.ringOut (nopBytes tag) none := by
  have hfree : s.probed.waitsOn .host = false := by
    have : s.probed.dict.awaiting = [] := hnone
    rw [State.waitsOn, this]
    rfl
  unfold State.respond
  dsimp only
  rw [hfree]
  rfl

/-- A completion without moderation signals its vector. -/
theorem moderate_zero (s : State) (v : Nat) : ∃ mods, s.moderate v 0 =
    ({ s with host := { s.host with mods := mods } } : State).signalVector v :=
  ⟨kput (fun _ => ⟨0, 0⟩) s.host.mods v ⟨0, 0⟩, by simp [State.moderate]⟩

/-- The host interface after a response entry without data: the entry is written at DRS_TAIL, and the indices advance. -/
def HostIf.answered (h : HostIf) (entry : Bytes) : HostIf :=
  { h with writes := h.writes ++ [⟨h.drsBase + 32 * h.drsTail, entry⟩], drsTail := h.drsTail + 1, drqHead := h.drqHead + 1 }

/-- A response entry without data, where no index wraps and the vector is not moderated. -/
theorem ringOut_plain {s : State} (entry : Bytes) (hroom : s.host.drsTail + 1 < s.host.drsSize)
    (hhead : s.host.drqHead + 1 < s.host.drqSize) (hmod : s.host.drMod = 0) : ∃ mods, s.ringOut entry none =
      ({ s with host := { s.host.answered entry with mods := mods } } : State).signalVector 0 := by
  have hout : s.ringOut entry none = ({ s with host := s.host.answered entry } : State).moderate 0 0 := by
    unfold State.ringOut State.hostWrite HostIf.answered
    dsimp only
    rw [Nat.mod_eq_of_lt hroom, Nat.mod_eq_of_lt hhead, hmod]
  rw [hout]
  exact moderate_zero _ 0

/-- In `u` the NOP with a tag that waited in `s` is served. -/
structure NopServed (s : State) (tag : Nat) (u : State) : Prop where
  host : u.host = { ({ s.host with requests := [] } : HostIf).answered (nopBytes tag) with
    mods := u.host.mods, vectors := u.host.vectors, pba := u.host.pba }
  ord : u.ord = (s.issueKey 0x0200).ord
  settings : u.dict.settings = s.dict.settings
  keys : u.keys = s.keys
  ports : u.ports = s.ports

/-- A NOP that waits alone, where the response ring is empty, is served: its response is written, the indices advance, and
the vector is signalled. -/
theorem serveRings_nop {s : State} {tag : Nat} (hreq : s.host.requests = [nopEntry tag]) (hrun : s.host.drStatus = 1)
    (hnone : s.dict.awaiting = []) (hempty : s.host.drsHead = s.host.drsTail) (hroom : s.host.drsTail + 1 < s.host.drsSize)
    (hhead : s.host.drqHead + 1 < s.host.drqSize) (hmod : s.host.drMod = 0) : NopServed s tag s.serveRings := by
  have hfits : ¬ (s.host.drStatus ≠ 1 ∨ s.host.drsSize = 0 ∨ s.responseRoom ≤ s.ringWaiting) := by
    have hwaiting : s.ringWaiting = 0 := by rw [State.ringWaiting, hnone]; rfl
    have hfree : s.responseRoom = s.host.drsSize - 1 := by
      rw [State.responseRoom, hempty, show s.host.drsTail + s.host.drsSize - 1 - s.host.drsTail = s.host.drsSize - 1 by omega,
        Nat.mod_eq_of_lt (by omega)]
    rw [hwaiting, hfree]
    omega
  have hserved : s.serveRings =
      ({ s with host := { s.host with requests := [] } } : State).probed.ringOut (nopBytes tag) none := by
    have hexec := ringExec_nop (s := { s with host := { s.host with requests := [] } }) tag hnone
    rw [State.serveRings, hreq, List.length_singleton, serveRing, hreq]
    dsimp only
    rw [if_neg hfits, if_neg (by simp [ringUnread, bitOf]), hexec, ringResponse_nop, serveRing]
    exact respond_nop tag hnone
  obtain ⟨mods, hmods⟩ := ringOut_plain (s := ({ s with host := { s.host with requests := [] } } : State).probed)
    (nopBytes tag) hroom hhead hmod
  rw [hserved, hmods, State.signalVector]
  split <;> exact ⟨rfl, rfl, rfl, rfl, rfl⟩

end Sys2Proof.Machine
end

section
/-! O58, clause by clause: the registers of the host interface and the dictionary rings. -/

namespace Sys2Proof.Machine

open Sys2Proof

/-! ### DRQ_TAIL and DRS_HEAD (R425) -/

/-- An index below SIZE is valid. -/
theorem badValue_index {s : State} {v : Nat} {r : HostRing} (hv : v < s.ringSize r) : s.badValue v (.index r) = false :=
  decide_eq_false (Nat.not_le.mpr hv)

/-- A tail that moves by one covers one entry. -/
theorem covers_one {tail size : Nat} (h : tail + 1 < size) : (tail + 1 + size - tail) % size = 1 := by
  rw [show tail + 1 + size - tail = 1 + size by omega, Nat.add_mod_right, Nat.mod_eq_of_lt (by omega)]

/-- The state in which a tail has been set and its entries wait. -/
def State.tailSet (s : State) (v : Nat) (entries : List RingEntry) : State :=
  { s with host := { s.host with drqTail := v, requests := s.host.requests ++ entries } }

/-- A tail that moves by one on rings that run: its entry is served with what waits. -/
theorem drqTail_next {s : State} (e : RingEntry) (hlink : s.host.linkUp = true) (hrun : s.host.drStatus = 1)
    (hroom : s.host.drqTail + 1 < s.host.drqSize) :
    drqTail (s.host.drqTail + 1) [e] s = (s.tailSet (s.host.drqTail + 1) [e]).serveRings := by
  simp [drqTail, hlink, badValue_index (r := .drq) hroom, covers_one hroom, hrun, State.tailSet]

/-- Without a free response entry nothing is served. -/
theorem serveRings_full {s : State} (hfull : s.responseRoom ≤ s.ringWaiting) : s.serveRings = s := by
  unfold State.serveRings
  cases hreq : s.host.requests with
  | nil => rfl
  | cons r rest =>
    rw [List.length_cons, serveRing, hreq]
    exact if_pos (.inr (.inr hfull))

/-- Without a request nothing is served. -/
theorem serveRings_none {s : State} (hnone : s.host.requests = []) : s.serveRings = s := by
  rw [State.serveRings, hnone]
  rfl

/-- A head below SIZE is stored, and acceptance resumes. -/
theorem drsHead_valid {s : State} {v : Nat} (hlink : s.host.linkUp = true) (hv : v < s.host.drsSize) :
    drsHead v s = ({ s with host := { s.host with drsHead := v } } : State).serveRings := by
  simp [drsHead, hlink, badValue_index (r := .drs) hv]

/-- Settles O58, clause by clause. -/
theorem hostRegistersAndDictionaryRings : Obligations.HostRegistersAndDictionaryRings := by
  refine ⟨?base, ?low, ?high, ?size, ?bad, ?unlinked, ?badPosted, ?validPosted, ?enable, ?disable, ?start, ?absent, ?tail,
    ?tailBad, ?nop, ?full, ?short, ?head, ?headNop⟩
  case base =>
    intro s t v hawake hlink hoff
    refine (happen_awake t true s (fun s => s.postedWrite 0 8 8 v) rfl hawake).trans (congrArg _ ?_)
    exact postedWrite_valid (s := s.advance t) (a := .whole (.base .drq)) hlink rfl hoff
  case low =>
    intro s t v hawake hlink hoff
    refine (happen_awake t true s (fun s => s.postedWrite 0 8 4 v) rfl hawake).trans (congrArg _ ?_)
    exact postedWrite_valid (s := s.advance t) (a := .low (.base .drq)) hlink rfl hoff
  case high =>
    intro s t v x hawake hlink hoff hhalf
    refine (happen_awake t true s (fun s => s.postedWrite 0 12 4 v) rfl hawake).trans (congrArg _ ?_)
    refine (postedWrite_valid (s := s.advance t) (a := .high (.base .drq)) hlink rfl hoff).trans ?_
    simp [State.registerWrite, HostAccess.reg, HostReg.ownRow, hhalf, State.setReg]
  case size =>
    intro s t v n hawake hlink hn hlen hoff
    refine happen_answers (f := fun s => s.postedWrite 2 (0x40 * n + 8) 4 v) rfl hawake ?_
    rw [postedWrite_valid (s := s.advance t) (a := .whole (.size (.tx n))) hlink (hostAccess_txSize n hn) hoff]
    have hsame := ring_modRing_same ({ s.advance t with host := { s.host with half := none } } : State) false n
      (fun x => { x with size := v }) (by simp [hlen, hn])
    exact ⟨hsame, fun k hk => ring_modRing_ne ({ s.advance t with host := { s.host with half := none } } : State) false _ hk, rfl⟩
  case bad =>
    intro s t bar off width v hawake hlink hbad hempty hlast _
    refine happen_answers (f := fun s => s.postedWrite bar off width v) rfl hawake ?_
    rw [postedWrite_bad (s := s.advance t) hlink hbad]
    exact refuseWrite_answers (s := s.advance t) hempty hlast
  case unlinked =>
    intro s t bar off width v hheld hlink
    refine happen_idle (f := fun s => s.postedWrite bar off width v) hheld ?_
    simp [State.postedWrite, hlink]
  case badPosted =>
    intro s t bar off width v hawake hlink hbad hempty hlast _
    refine happen_answers rfl hawake ?_
    rw [show invalidPosted bar off width v (s.advance t) = (s.advance t).refuseWrite bar off from if_pos ⟨hlink, hbad⟩]
    exact refuseWrite_answers (s := s.advance t) hempty hlast
  case validPosted =>
    intro s t bar off width v hheld hvalid
    refine happen_idle hheld (if_neg ?_)
    rintro ⟨-, hbad⟩
    exact Bool.false_ne_true (hvalid.symm.trans hbad)
  case enable =>
    intro s t hawake hlink hoff
    refine (happen_awake t true s _ rfl hawake).trans (congrArg _ ?_)
    simp [ringEnable, hlink, State.badValue, HostReg.reserved, State.enableDict, hoff]
  case disable =>
    intro s t hawake hlink
    refine happen_answers rfl hawake ?_
    have hoff : ringEnable .dict 0 (s.advance t) =
        ({ s.advance t with host := { s.host with drCtrl := 0, drStatus := 0, requests := [] } } : State).dropResponses := by
      simp [ringEnable, hlink, State.badValue, HostReg.reserved, State.enableDict]
    rw [hoff]
    exact ⟨ringWaiting_dropResponses _, fun a ha => (List.mem_filter.mp ha).1, rfl⟩
  case start =>
    intro s t v n hawake hlink hn htx hrx hv hlow hhigh
    have htx' : n < (s.advance t).host.tx.length := by simpa [htx] using hn
    have hrx' : n < (s.advance t).host.rx.length := by simpa [hrx] using hn
    constructor
    · refine happen_answers (f := ringEnable (.tx n) v) (decide_eq_true hn) hawake ?_
      rw [ringEnable_tx (s := s.advance t) hlink hlow hhigh]
      cases hctrl : bitOf ((s.advance t).ring false n).ctrl 0 with
      | false =>
        rw [enableRing_off hv hctrl]
        refine ⟨fun _ => ⟨?_, fun d => fetched_dropHeld⟩, fun k hk => ?_, rfl⟩
        · exact (ring_dropHeld _ false false n n).trans (ring_modRing_same _ false n _ htx')
        · exact (ring_dropHeld _ false false n k).trans (ring_modRing_ne _ false _ hk)
      | true =>
        rw [enableRing_on hv hctrl]
        exact ⟨fun hoff => absurd (hoff.symm.trans hctrl) Bool.false_ne_true,
          fun k hk => ring_modRing_ne (s.advance t) false _ hk, rfl⟩
    · refine happen_answers (f := ringEnable (.rx n) v) (decide_eq_true hn) hawake ?_
      rw [ringEnable_rx (s := s.advance t) hlink hlow hhigh]
      cases hctrl : bitOf ((s.advance t).ring true n).ctrl 0 with
      | false =>
        rw [enableRing_off hv hctrl]
        refine ⟨fun _ => ⟨?_, fun b => posted_dropHeld⟩, fun k hk => ?_, rfl⟩
        · exact (ring_dropHeld _ true true n n).trans (ring_modRing_same _ true n _ hrx')
        · exact (ring_dropHeld _ true true n k).trans (ring_modRing_ne _ true _ hk)
      | true =>
        rw [enableRing_on hv hctrl]
        exact ⟨fun hoff => absurd (hoff.symm.trans hctrl) Bool.false_ne_true,
          fun k hk => ring_modRing_ne (s.advance t) true _ hk, rfl⟩
  case absent =>
    intro s t v n hn
    have hnone : decide (n < 16) = false := decide_eq_false (by omega)
    constructor
    · dsimp only [exec, execRingEnable, ringExists]
      rw [hnone]
      rfl
    · dsimp only [exec, execRingEnable, ringExists]
      rw [hnone]
      rfl
  case tail =>
    intro s t v es hawake hlink hv hstopped
    refine (happen_awake t true s _ rfl hawake).trans (congrArg _ ?_)
    simp [drqTail, hlink, badValue_index (s := s.advance t) (r := .drq) hv, hstopped]
  case tailBad =>
    intro s t v es hawake hlink hv
    refine happen_answers rfl hawake ?_
    have hbad : drqTail v es (s.advance t) = (s.advance t).refuseWrite 0 0x14 := by
      simp [drqTail, hlink, State.badValue, HostReg.reserved, State.ringSize, hv]
    rw [hbad]
    exact ⟨rfl, refuseWrite_host (s.advance t) 0 0x14⟩
  case nop =>
    intro s t tag hawake hlink hrun hreq hnone _ htail _ hroom hempty hmod _ hhead
    refine happen_answers rfl hawake ?_
    have hnext : drqTail (s.host.drqTail + 1) [⟨[8, BitVec.ofNat 8 tag] ++ List.replicate 30 0, none⟩] (s.advance t) =
        ((s.advance t).tailSet (s.host.drqTail + 1) [nopEntry tag]).serveRings :=
      drqTail_next (s := s.advance t) (nopEntry tag) hlink hrun htail
    rw [hnext]
    have hserved := serveRings_nop (s := (s.advance t).tailSet (s.host.drqTail + 1) [nopEntry tag]) (tag := tag)
      (congrArg (· ++ [nopEntry tag]) hreq) hrun hnone hempty hroom hhead hmod
    exact ⟨congrArg HostIf.writes hserved.host, congrArg HostIf.drsTail hserved.host, congrArg HostIf.drqHead hserved.host,
      congrArg HostIf.drqTail hserved.host, congrArg HostIf.requests hserved.host,
      (congrArg HostIf.drStatus hserved.host).trans hrun, hserved.ord, hserved.settings, hserved.keys, hserved.ports⟩
  case full =>
    intro s t e hawake hlink hrun htail hfull
    refine (happen_awake t true s _ rfl hawake).trans (congrArg _ ?_)
    refine (drqTail_next (s := s.advance t) e hlink hrun htail).trans ?_
    exact serveRings_full (s := (s.advance t).tailSet (s.host.drqTail + 1) [e]) hfull
  case short =>
    intro s t hawake hlink hrun htail hreq
    refine (happen_awake t true s _ rfl hawake).trans (congrArg _ ?_)
    simp [drqTail, hlink, badValue_index (s := s.advance t) (r := .drq) htail, covers_one htail, hrun, hreq,
      serveRings_none]
  case head =>
    intro s t v hawake hlink hv hreq
    refine (happen_awake t true s _ rfl hawake).trans (congrArg _ ?_)
    exact (drsHead_valid (s := s.advance t) hlink hv).trans (serveRings_none hreq)
  case headNop =>
    intro s t tag hawake hlink hrun _ hreq hnone hroom hmod _ hhead
    refine happen_answers rfl hawake ?_
    rw [drsHead_valid (s := s.advance t) (v := s.host.drsTail) hlink (Nat.lt_of_succ_lt hroom)]
    have hserved := serveRings_nop (s := { s.advance t with host := { s.host with drsHead := s.host.drsTail } }) (tag := tag)
      hreq hrun hnone rfl hroom hhead hmod
    exact ⟨congrArg HostIf.requests hserved.host, congrArg HostIf.drsHead hserved.host, congrArg HostIf.drsTail hserved.host,
      congrArg HostIf.drqHead hserved.host, congrArg HostIf.writes hserved.host, hserved.settings, hserved.keys, hserved.ports⟩

end Sys2Proof.Machine
end

section
/-! O7: what a command's answer does to order time. -/

namespace Sys2Proof.Machine

open Sys2Proof

/-! ### Order time after a command (R28, R405) -/

/-- The answer `o` leaves order time no earlier than in `s`, or at zero where the command may reset the device (`clears`). -/
def OrderFollows (s : State) (clears : Bool) (o : Out) : Prop :=
  ∀ u, o = .next u → s.time.orderNs ≤ u.time.orderNs ∨ (clears = true ∧ u.time.orderNs = 0)

/-- What goes onward does not set order time back. -/
theorem onward_orderNs {s u : State} (h : s.onward u) : s.time.orderNs ≤ u.time.orderNs :=
  have ⟨_, _, _, horder⟩ := h
  horder

/-- A reset leaves order time at zero. -/
theorem resetShape_orderNs {s u : State} (h : u.shape = s.resetShape) : u.time.orderNs = 0 := congrArg (fun p => p.2.2.2) h

section Answers

variable {t : Nat} {clears unitExists : Bool} {c : Caller} {s : State} {f : State → State}

/-- Time passes before the effect of a command, which goes onward or resets the device. -/
theorem orderFollows_happenAny (h : ∀ x : State, x.onward (f x) ∨ (clears = true ∧ (f x).shape = x.resetShape)) :
    OrderFollows s clears (happenAny t unitExists s f) := by
  intro u hu
  cases unitExists with
  | false => cases hu
  | true =>
    obtain rfl := Host.Outcome.next.inj hu
    split
    · exact .inl le_rfl
    · exact (h (s.advance t)).imp (fun honward => (advance_order s t).trans (onward_orderNs honward))
        (fun hreset => ⟨hreset.1, resetShape_orderNs hreset.2⟩)

/-- The same, for a command to a unit that needs the device awake. -/
theorem orderFollows_happen (h : ∀ x : State, x.onward (f x) ∨ (clears = true ∧ (f x).shape = x.resetShape)) :
    OrderFollows s clears (happen t unitExists s f) := by
  refine orderFollows_happenAny fun x => ?_
  split
  · exact h x
  · exact .inl (onward_refl x)

/-- The same, for a request, which an unpaired partner does not get served. -/
theorem orderFollows_happenBy (h : ∀ x : State, (f x).shape = x.shape) :
    OrderFollows s clears (happenBy c t unitExists s f) := by
  refine orderFollows_happen fun x => .inl (onward_of_shape ?_)
  split
  · simp
  · exact h x

end Answers

/-- RESET_RELEASE samples the strap of a held device, carries out a reset that is due, or lets time pass. -/
theorem orderFollows_resetRelease (s : State) (t : Nat) (strap : Bool) :
    OrderFollows s true (execResetRelease t strap s) := by
  rintro u ⟨⟩
  unfold resetRelease
  split
  · exact .inl le_rfl
  split
  · split
    · exact .inr ⟨rfl, resetShape_orderNs (resetWith_shape _ _)⟩
    · exact .inl (advance_order s t)
  · exact .inl (advance_order s t)

/-- Each command keeps order time from going back: most effects keep the shape, four may move it onward, and only the commands
that reset the device can clear it. -/
theorem orderFollows_exec (s : State) (i : Instr) : OrderFollows s (clearsTime i) (exec i s) := by
  cases i with dsimp only [exec, clearsTime]
  | powerOnReset t =>
    rintro u ⟨⟩
    exact .inr ⟨rfl, resetShape_orderNs (holdReset_shape _ 0)⟩
  | resetRelease t strap => exact orderFollows_resetRelease s t strap
  | warmResetPin t => exact orderFollows_happenAny fun x => .inr ⟨rfl, holdReset_shape x 1⟩
  | railsGood t macOk => exact orderFollows_happenAny fun x => (railsGood_cases macOk x).imp onward_of_eq (⟨rfl, ·⟩)
  | fatalResetHoldEnd t => exact orderFollows_happen fun x => (fatalResetHoldEnd_cases x).imp onward_of_eq (⟨rfl, ·⟩)
  | timeCorrectionApply t n => exact orderFollows_happen fun x => .inl (onward_applyCorrections n x)
  | commitApply t => exact orderFollows_happen fun x => .inl (onward_commitApply x)
  | selfTestEnd t results procs banks =>
    exact orderFollows_happen fun x => .inl (onward_selfTestEnd results procs banks x)
  | syncingReload t => exact orderFollows_happen fun x => .inl (onward_syncingReload x)
  | canTransmitComplete | busOff | tamperAlarm | quietRoute | wakeSource | railsTimeout =>
    exact orderFollows_happenAny fun x => .inl (onward_of_shape (by simp))
  | processorRetest | read | write | readSeg | writeSeg | sessionClose | nop | lookup | insert | replace | delete | readRow |
    nextRow | clear | discardStaging | executeCommit | imageUpload | imageActivate | closeSession | rateWrite | stepWrite |
    loadWrite | fallbackIncrementWrite | txStampRead | captureRead | indirectRead | indirectWrite | tdrStart | tc10Sleep |
    tc10Wake | bankRetire | ledgerRestart | ledgerFreeze | recover | planSwapNow | detach | allowPairing | resynchronise |
    failNoticeCommand | releaseSemaphore | split | rejoin | restart | acknowledgeFault | inputRecordRead | watchdogService |
    advanceRollback | revokeRootKey | extendMr7 | debugResponse | generateStatement | updateMessage | tamperAcknowledge |
    enterIdle | returnToRun | enterQuiet | enterSleep | resetCommand | journalAcknowledge | counterGroupRead | snapshotRequest =>
    exact orderFollows_happenBy fun x => by simp
  | _ => exact orderFollows_happen fun x => .inl (onward_of_shape (by simp))

/-- Settles O7: time passing takes order time up to the working clock, and each command's answer follows. -/
theorem orderTimeNeverDecreases : Obligations.OrderTimeNeverDecreases :=
  ⟨fun _ _ => rfl, fun s u i h => orderFollows_exec s i u h⟩

end Sys2Proof.Machine
end

section
/-! O11, O12 and O15: what order keys a source issues, and how keys precede. -/

namespace Sys2Proof.Machine

open Sys2Proof

/-! ### The key epoch (R31) -/

/-- A source that has issued no key in the present epoch or later issues its next one in that epoch. -/
theorem nextKey_epoch_of_lt {s : State} {src : Nat} (hheld : s.time.held = false)
    (h : (s.sourceKeys src).epoch < s.keyEpoch) : (s.nextKey src).epoch = s.keyEpoch := by
  have hmax : max s.keyEpoch (s.sourceKeys src).epoch = s.keyEpoch := Nat.max_eq_left h.le
  simp [State.nextKey, hheld, hmax, h.ne]

/-- Settles O15: the key epoch rounds order time up to a boundary. -/
theorem keyEpochIsTheNextBoundary : Obligations.KeyEpochIsTheNextBoundary := by
  refine ⟨fun s => (Nat.shiftRight_eq_div_pow _ 5).symm, fun s n h => ?_, fun s n hlo hhi => ?_,
    fun s src hheld h => nextKey_epoch_of_lt hheld h⟩
  · unfold State.keyEpoch
    omega
  · unfold State.keyEpoch
    omega

/-! ### The keys a source takes (R32) -/

/-- While no time passes, the source `src` has issued `j` keys since its counter stood at `q`, the first of them in the key epoch
`E`. -/
structure HasIssued (s : State) (src E q j : Nat) : Prop where
  running : s.time.held = false
  present : s.keyEpoch = E
  seq : (s.sourceKeys src).seq = (q + j) % 65536
  last : if j = 0 then (s.sourceKeys src).epoch < E
    else (s.sourceKeys src).epoch = E + (j - 1) / 32 ∧ (s.sourceKeys src).count = (j - 1) % 32 + 1

/-- The source's next key takes the next epoch when 32 keys bear the last one. -/
theorem HasIssued.nextKey {s : State} {src E q j : Nat} (h : HasIssued s src E q j) :
    s.nextKey src = ⟨E + j / 32, src, (q + j) % 65536⟩ := by
  obtain ⟨hheld, hE, hseq, hlast⟩ := h
  have hepoch : (s.nextKey src).epoch = E + j / 32 := by
    split at hlast
    next hj =>
      rw [nextKey_epoch_of_lt hheld (hE ▸ hlast), hE, hj]
      rfl
    next hj =>
      obtain ⟨hep, hcount⟩ := hlast
      have hmax : max E (E + (j - 1) / 32) = E + (j - 1) / 32 := Nat.max_eq_right (Nat.le_add_right _ _)
      simp only [State.nextKey, hheld, hE, hep, hcount, hmax, Bool.not_false, decide_true, Bool.true_and, decide_eq_true_eq,
        Bool.false_eq_true, if_false]
      split <;> omega
  calc s.nextKey src = ⟨(s.nextKey src).epoch, src, (s.sourceKeys src).seq⟩ := rfl
    _ = _ := by rw [hepoch, hseq]

/-- What a source's counters are after it issues a key. -/
theorem sourceKeys_issueKey (s : State) (src : Nat) :
    (s.issueKey src).sourceKeys src = ⟨((s.sourceKeys src).seq + 1) % 65536, (s.nextKey src).epoch,
      if (s.sourceKeys src).epoch = (s.nextKey src).epoch then (s.sourceKeys src).count + 1 else 1⟩ :=
  kget_kput_same _ _ _ _

/-- One key more. -/
theorem HasIssued.issueKey {s : State} {src E q j : Nat} (h : HasIssued s src E q j) :
    HasIssued (s.issueKey src) src E q (j + 1) := by
  have hepoch : (s.nextKey src).epoch = E + j / 32 := congrArg OKey.epoch h.nextKey
  obtain ⟨hheld, hE, hseq, hlast⟩ := h
  refine ⟨hheld, hE, ?_, ?_⟩
  · rw [sourceKeys_issueKey, hseq]
    dsimp only
    omega
  · rw [sourceKeys_issueKey, hepoch, if_neg (Nat.succ_ne_zero j)]
    refine ⟨rfl, ?_⟩
    dsimp only
    split at hlast <;> split <;> omega

/-- The keys that are taken one after another. -/
theorem HasIssued.keysTaken {s : State} {src E q j n i : Nat} (h : HasIssued s src E q j) (hi : i < n) :
    (s.keysTaken src n)[i]? = some ⟨E + (j + i) / 32, src, (q + (j + i)) % 65536⟩ := by
  induction n generalizing s j i with
  | zero => exact absurd hi (Nat.not_lt_zero i)
  | succ n ih =>
    cases i with
    | zero => exact congrArg some h.nextKey
    | succ i =>
      have hrest := ih h.issueKey (Nat.lt_of_succ_lt_succ hi)
      rwa [Nat.add_right_comm] at hrest

/-- Settles O12, by induction on the number of keys: `HasIssued` holds with no key issued and each key keeps it. -/
theorem sourcesIssueThirtyTwoKeysAnEpoch : Obligations.SourcesIssueThirtyTwoKeysAnEpoch := by
  intro s src n i hheld hlast hi hseq
  have hnone : HasIssued s src ((s.time.orderNs + 31) / 32) (s.sourceKeys src).seq 0 :=
    ⟨hheld, rfl, (Nat.mod_eq_of_lt hseq).symm, hlast⟩
  simpa using hnone.keysTaken hi

/-! ### How keys precede (R33) -/

/-- What is inserted by its key goes behind the elements that it does not precede, up to the first that it does. -/
theorem insertByKey_eq_takeWhile {α : Type} (key : α → OKey) (x : α) (l : List α) : insertByKey key x l =
    l.takeWhile (fun y => !okeyLt (key x) (key y)) ++ x :: l.dropWhile (fun y => !okeyLt (key x) (key y)) := by
  induction l with
  | nil => rfl
  | cons y ys ih =>
    rw [insertByKey, List.takeWhile_cons, List.dropWhile_cons]
    cases okeyLt (key x) (key y) with
    | true => rfl
    | false => exact congrArg (y :: ·) ih

/-- Settles O11: the test of precedence spells cases 1 to 3 of R33, and what arrives is inserted by it. -/
theorem orderKeysPrecedeAsR33Says : Obligations.OrderKeysPrecedeAsR33Says := by
  refine ⟨fun a b => ?_, fun x l => insertByKey_eq_takeWhile FordItem.key x l⟩
  have hdist : b.seq + 65536 - a.seq % 65536 = b.seq + (65536 - a.seq % 65536) :=
    Nat.add_sub_assoc (Nat.mod_lt _ (by decide)).le _
  simp only [okeyLt, hdist, Bool.or_eq_true, Bool.and_eq_true, decide_eq_true_eq]
  tauto

end Sys2Proof.Machine
end

section
/-! O28: sort buffers, late inputs, the horizon, holds, waits and checkpoints. -/

namespace Sys2Proof.Machine

open Sys2Proof

/-! ### What a fault leaves of the ordering units (R32, R366, R410) -/

/-- The ordering units apart from the keys that have been issued. -/
def Ordering.unkeyed (o : Ordering) : Ordering := { o with sources := [], waits := [] }

@[simp] theorem unkeyed_issueKey (s : State) (src : Nat) : (s.issueKey src).ord.unkeyed = s.ord.unkeyed := rfl

@[simp] theorem unkeyed_count32 (s : State) (idx sub : Nat) : (s.count32 idx sub).ord.unkeyed = s.ord.unkeyed := by
  unfold State.count32
  dsimp only
  (repeat' split) <;> rfl

/-- Committing an event issues at most a key, for a counter that saturates. -/
@[simp] theorem unkeyed_commitEvent (s : State) (ev : Event) : (s.commitEvent ev).ord.unkeyed = s.ord.unkeyed := by
  have hnoted : (s.noted ev).ord.unkeyed = s.ord.unkeyed := by
    unfold State.noted
    dsimp only
    split <;> simp
  have hentered (x : State) (late : Bool) : (x.entered ev late).ord = x.ord := by
    unfold State.entered
    split
    · rfl
    · split <;> simp
  rw [commitEvent_eq]
  split
  · rfl
  · rw [hentered, hnoted]

@[simp] theorem unkeyed_arriveEvent (s : State) (ev : Event) : (s.arriveEvent ev).ord.unkeyed = s.ord.unkeyed := by
  unfold State.arriveEvent
  split
  · exact unkeyed_commitEvent _ _
  split
  · rfl
  split
  · rfl
  · exact unkeyed_commitEvent _ _

@[simp] theorem unkeyed_react (s : State) (key : OKey) (i r : Nat) (first : Bool) :
    (s.react key i r first).ord.unkeyed = s.ord.unkeyed := by
  unfold State.react
  extract_lets s₁ safety s₂
  have hevent : s₁.ord.unkeyed = s.ord.unkeyed := by
    simp only [s₁]
    split <;> simp
  have hhandler : s₂.ord = s₁.ord := by
    simp only [s₂]
    split <;> rfl
  split <;> simp [hhandler, hevent]

/-- A fault input that occurs holds back no sender and reaches no sort buffer. -/
theorem unkeyed_raiseFault (s : State) (i : Nat) (stays : Bool) :
    (s.raiseFault i stays).ord.unkeyed = s.ord.unkeyed := by
  simp [State.raiseFault]

theorem units_raiseFault (s : State) (i : Nat) (stays : Bool) : (s.raiseFault i stays).ord.units = s.ord.units :=
  congrArg (fun o => o.units) (unkeyed_raiseFault s i stays)

theorem heldBack_raiseFault (s : State) (i : Nat) (stays : Bool) : (s.raiseFault i stays).ord.heldBack = s.ord.heldBack :=
  congrArg (fun o => o.heldBack) (unkeyed_raiseFault s i stays)

/-! ### Ordering units -/

/-- The number of a unit is one of six. -/
theorem unitNum_lt (w : OrderUnit) : unitNum w < 6 := by cases w <;> decide

/-- A change of one ordering unit is seen there. -/
theorem orderUnit_modUnit_same {s : State} {w : OrderUnit} (f : SortBuffer → SortBuffer) (h : s.ord.units.length = 6) :
    (s.modUnit w f).orderUnit w = f (s.orderUnit w) :=
  nth_modNth_same _ _ _ _ (h ▸ unitNum_lt w)

@[simp] theorem length_units_modUnit (s : State) (w : OrderUnit) (f : SortBuffer → SortBuffer) :
    (s.modUnit w f).ord.units.length = s.ord.units.length := modNth_length _ _ _

/-- A change that leaves an empty buffer empty does so whether or not the unit is among those listed. -/
theorem buf_modUnit_nil {s : State} {w : OrderUnit} {f : SortBuffer → SortBuffer}
    (hf : (f (s.orderUnit w)).buf = []) (h : (s.orderUnit w).buf = []) : ((s.modUnit w f).orderUnit w).buf = [] := by
  by_cases hlt : unitNum w < s.ord.units.length
  · rwa [State.orderUnit, State.modUnit, nth_modNth_same _ _ _ _ hlt]
  · rwa [State.orderUnit, State.modUnit, modNth_of_length_le _ _ _ (Nat.le_of_not_lt hlt)]

/-! ### Arrival (R36, R38, R45) -/

section Arrival

variable {s : State} {w : OrderUnit} {k : OKey} {x : InTransit} {rest : List InTransit}

/-- The state in which an input has left its way to a unit, and its sender is no longer held back. -/
def State.arrived (s : State) (w : OrderUnit) (k : OKey) (rest : List InTransit) : State :=
  ({ s with ord := { s.ord with transit := rest } } : State).letGo w k

/-- An input in time enters a buffer that has room. -/
theorem sortBufferArrival_enters (hleads : s.follows = false)
    (htransit : takeFirst (sameInput w k) s.ord.transit = some (x, rest)) (hintime : (s.orderUnit w).released ≤ k.epoch)
    (hroom : (s.orderUnit w).buf.length < 256) :
    sortBufferArrival w k s = (s.arrived w k rest).modUnit w
      (fun y => { y with buf := insertByKey Buffered.key { x.inp with at_ := s.time.raw } y.buf }) := by
  have hlate : ¬ (k.epoch < (s.orderUnit w).released ∧ ¬ s.time.held) := fun h => Nat.not_lt.mpr hintime h.1
  simp only [sortBufferArrival, State.arriveAt, hleads, htransit, Bool.false_eq_true, if_false,
    if_neg hlate, if_neg (Nat.not_le.mpr hroom)]
  rfl

/-- The sender of an input in time is held back while the buffer is full. -/
theorem sortBufferArrival_full (hleads : s.follows = false)
    (htransit : takeFirst (sameInput w k) s.ord.transit = some (x, rest)) (hintime : (s.orderUnit w).released ≤ k.epoch)
    (hfull : 256 ≤ (s.orderUnit w).buf.length) : sortBufferArrival w k s = s.holdBack w k := by
  have hlate : ¬ (k.epoch < (s.orderUnit w).released ∧ ¬ s.time.held) := fun h => Nat.not_lt.mpr hintime h.1
  simp only [sortBufferArrival, State.arriveAt, hleads, htransit, Bool.false_eq_true, if_false,
    if_neg hlate, if_pos hfull]

/-- A late input takes effect and is noted. -/
theorem sortBufferArrival_late (hleads : s.follows = false)
    (htransit : takeFirst (sameInput w k) s.ord.transit = some (x, rest)) (hlate : k.epoch < (s.orderUnit w).released)
    (hheld : s.time.held = false) :
    sortBufferArrival w k s = ((s.arrived w k rest).runLate k x.inp.work).noteLate k := by
  have hlate' : k.epoch < (s.orderUnit w).released ∧ ¬ s.time.held := ⟨hlate, by simp [hheld]⟩
  simp only [sortBufferArrival, State.arriveAt, hleads, htransit, Bool.false_eq_true, if_false,
    if_pos hlate']
  rfl

end Arrival

/-! ### Release (R30, R36, R46) -/

/-- With nothing buffered up to `e`, a unit that takes inputs without Ford notes that `e` has been released. -/
theorem releaseUnit_nothing_due {s : State} {w : OrderUnit} {e : Nat} (hford : w ≠ .ford)
    (hlater : ∀ b ∈ (s.orderUnit w).buf, e < b.key.epoch) :
    s.releaseUnit w e = (s.modUnit w (fun y => { y with buf := (s.orderUnit w).buf })).modUnit w
      (fun y => { y with released := max y.released (e + 1) }) := by
  have hdue : (s.orderUnit w).buf.filter (fun x => decide (x.key.epoch ≤ e)) = [] :=
    List.filter_eq_nil_iff.mpr fun b hb => by simpa using hlater b hb
  have hstays : (s.orderUnit w).buf.filter (fun x => !decide (x.key.epoch ≤ e)) = (s.orderUnit w).buf :=
    List.filter_eq_self.mpr fun b hb => by simpa using hlater b hb
  simp only [State.releaseUnit, hdue, hstays, releaseAll, if_neg hford]

/-- At the horizon of `e`, a unit that takes inputs without Ford or Saddle releases what it holds. -/
theorem orderingRelease_reached {s : State} {w : OrderUnit} {e : Nat} (hleads : s.follows = false) (hsaddle : w ≠ .saddle)
    (hreached : (e + 2) * 32 ≤ s.time.orderNs) (hreleased : (s.orderUnit w).released ≤ e)
    (hruns : (s.orderUnit w).suspend = none) : orderingRelease w e s = s.releaseUnit w e := by
  have hgo : ¬ (s.time.orderNs < (e + 2) * 32 ∨ e < (s.orderUnit w).released ∨ (s.orderUnit w).suspend.isSome ∨ s.follows) := by
    simp [hleads, hruns, hreached, hreleased]
  simp only [orderingRelease, if_neg hgo, if_neg hsaddle]

/-- While order is held, a unit with nothing buffered releases nothing. -/
theorem heldOrderRelease_empty {s : State} {w : OrderUnit} (hleads : s.follows = false) (hheld : s.orderHeld = true)
    (hempty : (s.orderUnit w).buf = []) :
    heldOrderRelease w s = (s.modUnit w (fun y => { y with buf := [] })).modUnit w (fun y => { y with buf := [] ++ y.buf }) := by
  simp [heldOrderRelease, hleads, hheld, hempty, releaseAll]

/-! ### Senders that wait (R18) -/

/-- Whether a sender that unit `w` holds back has waited for more than 10 microseconds, untold. -/
def State.waitsLong (s : State) (w : OrderUnit) (x : HeldSender) : Bool :=
  decide (x.queue = unitNum w) && !x.told && decide (x.since + 10000 < s.time.raw)

/-- The state in which the long waits of unit `w` are told. -/
def State.toldWaits (s : State) (w : OrderUnit) : State :=
  { s with ord := { s.ord with heldBack := modWhere (s.waitsLong w) (fun x => { x with told := true }) s.ord.heldBack } }

/-- One sender that waits for long raises fault input 60. -/
theorem dcqWaitTimeout_raises {s : State} {w : OrderUnit} {x : HeldSender} (hx : x ∈ s.ord.heldBack)
    (hlong : s.waitsLong w x = true) : dcqWaitTimeout w s = (s.toldWaits w).raiseFault 60 false :=
  if_pos (List.any_eq_true.mpr ⟨x, hx, hlong⟩)

/-- Of the senders of a unit that have waited for long, none is left untold. -/
theorem told_of_mem_toldWaits {s : State} {w : OrderUnit} {y : HeldSender} (hy : y ∈ (s.toldWaits w).ord.heldBack)
    (hqueue : y.queue = unitNum w) (hlong : y.since + 10000 < s.time.raw) : y.told = true := by
  obtain ⟨x, -, rfl⟩ := List.mem_map.mp hy
  by_cases h : s.waitsLong w x = true
  · rw [if_pos h]
  · rw [if_neg h] at hqueue hlong ⊢
    simpa [State.waitsLong, hqueue, hlong] using h

/-! ### Checkpoints (R42) -/

/-- A member that is not in step takes no digest at a checkpoint. -/
theorem checkpoint_passed {s : State} (hstep : s.inStep = false)
    (hpassed : s.passed ((s.ord.lastCheck / 65536 + 1) * 65536) = true) :
    checkpoint s = { s.takeImage ((s.ord.lastCheck / 65536 + 1) * 65536) with
      time := { s.time with forwardStep := false },
      ord := { s.ord with lastCheck := (s.ord.lastCheck / 65536 + 1) * 65536 } } := by
  simp only [checkpoint, hpassed, Bool.not_true, Bool.false_eq_true, if_false]
  exact if_pos (congrArg not hstep)

/-- Settles O28. -/
theorem inputsAreOrdered : Obligations.InputsAreOrdered := by
  refine ⟨?enters, ?full, ?late, ?early, ?release, ?held, ?suspended, ?resumed, ?waits, ?sender, ?timeout, ?checkpoint⟩
  case enters =>
    intro s t w k x rest hawake hleads hunits htransit hintime hroom
    dsimp only [exec, execSortBufferArrival]
    refine happen_answers rfl hawake ?_
    rw [sortBufferArrival_enters (s := s.advance t) hleads htransit hintime hroom]
    refine ⟨?_, rfl, fun v hv => nth_modNth_ne _ _ _ _ _ hv, rfl⟩
    rw [orderUnit_modUnit_same (s := (s.advance t).arrived w k rest) _ hunits]
    rfl
  case full =>
    intro s t w k x rest hawake hleads htransit hintime hfull hnew
    refine (happen_awake t true s _ rfl hawake).trans (congrArg _ ?_)
    rw [sortBufferArrival_full (s := s.advance t) hleads htransit hintime hfull]
    exact if_neg (by rw [advance_ord, hnew]; exact Bool.false_ne_true)
  case late =>
    intro s t w k x rest hawake hleads htransit hlate hheld
    refine (happen_awake t true s _ rfl hawake).trans (congrArg _ ?_)
    exact sortBufferArrival_late (s := s.advance t) hleads htransit hlate hheld
  case early =>
    intro s t e w hawake hearly
    refine (happen_awake t true s _ rfl hawake).trans (congrArg _ ?_)
    exact if_pos (.inl hearly)
  case release =>
    intro s t e w hawake hleads hunits hford hsaddle hreached hreleased hruns hlater
    dsimp only [exec, execOrderingRelease]
    refine happen_answers rfl hawake ?_
    rw [orderingRelease_reached (s := s.advance t) hleads hsaddle hreached hreleased hruns,
      releaseUnit_nothing_due (s := s.advance t) hford hlater, orderUnit_modUnit_same _ (by simpa using hunits),
      orderUnit_modUnit_same (s := s.advance t) _ hunits]
    exact ⟨Nat.max_eq_right (Nat.le_succ_of_le hreleased), rfl, rfl⟩
  case held =>
    intro s t w hawake hleads hheld hempty
    dsimp only [exec, execHeldOrderRelease]
    refine happen_answers rfl hawake ?_
    rw [heldOrderRelease_empty (s := s.advance t) hleads hheld hempty]
    have honce := buf_modUnit_nil (s := s.advance t) (w := w) (f := fun y => { y with buf := [] }) rfl hempty
    exact ⟨buf_modUnit_nil honce honce, rfl⟩
  case suspended =>
    intro s t r w hawake hsuspend hearly
    refine (happen_awake t true s _ rfl hawake).trans (congrArg _ ?_)
    have hsuspend' : ((s.advance t).orderUnit w).suspend = some r := hsuspend
    simp [stepSuspendEnd, hsuspend', hearly]
  case resumed =>
    intro s t r w hawake hsuspend hreached horder
    refine (happen_awake t true s _ rfl hawake).trans (congrArg _ ?_)
    have hsuspend' : ((s.advance t).orderUnit w).suspend = some r := hsuspend
    have htwo : ¬ (s.advance t).time.orderNs / 32 < 2 := by omega
    simp only [stepSuspendEnd, hsuspend', if_neg (Nat.not_lt.mpr hreached)]
    exact if_neg htwo
  case waits =>
    intro s t src hawake
    exact happen_awake t true s _ rfl hawake
  case sender =>
    intro s t w x hawake hwaits
    refine (happen_awake t true s _ rfl hawake).trans (congrArg _ ?_)
    rw [senderResume, advance_ord, hwaits]
    rfl
  case timeout =>
    intro s t w x hawake hx hqueue htold hlong
    dsimp only [exec, execDcqWaitTimeout]
    refine happen_answers rfl hawake ?_
    rw [dcqWaitTimeout_raises (s := s.advance t) (w := w) hx (by simp [State.waitsLong, hqueue, htold, hlong])]
    refine ⟨raiseFault_latched .., fun y hy hyq hylong => ?_, units_raiseFault .., ?_⟩
    · rw [heldBack_raiseFault] at hy
      exact told_of_mem_toldWaits hy hyq hylong
    · simp [State.toldWaits]
  case checkpoint =>
    intro s t hawake hstep hpassed
    dsimp only [exec, execCheckpoint]
    refine happen_answers rfl hawake ?_
    rw [checkpoint_passed (s := s.advance t) hstep hpassed]
    exact ⟨rfl, rfl, rfl, rfl, rfl, rfl, rfl, rfl, rfl⟩

end Sys2Proof.Machine
end

section
/-! O25, what a frame's way leaves alone: keys, power, bus controllers and sessions, from the header window to its copies. -/

namespace Sys2Proof.Machine

open Sys2Proof

/-- Keys, power, bus controllers and sessions: what no frame on its way through the device touches. -/
def State.beyond (s : State) : KeyStore × Power × Legacy × Access := s.around.1

/-- What leaves everything around the ports and Basin alone leaves these alone. -/
theorem beyond_of_around {s u : State} (h : u.around = s.around) : u.beyond = s.beyond := congrArg Prod.fst h

/-! ### Folds and choices -/

@[simp] theorem beyond_ite (p : Prop) [Decidable p] (a b : State) :
    (if p then a else b).beyond = if p then a.beyond else b.beyond := by split <;> rfl
@[simp] theorem beyond_ite_fst {α : Type} (p : Prop) [Decidable p] (a b : State × α) :
    (if p then a else b).1.beyond = if p then a.1.beyond else b.1.beyond := by split <;> rfl
@[simp] theorem beyond_foldl {α : Type} (g : State → α → State) (h : ∀ s x, (g s x).beyond = s.beyond) (l : List α)
    (s : State) : (l.foldl g s).beyond = s.beyond := by
  induction l generalizing s with
  | nil => rfl
  | cons x xs ih => rw [List.foldl, ih, h]
@[simp] theorem beyond_foldl_fst {α β : Type} (g : State × β → α → State × β) (h : ∀ s x, (g s x).1.beyond = s.1.beyond)
    (l : List α) (s : State × β) : (l.foldl g s).1.beyond = s.1.beyond := by
  induction l generalizing s with
  | nil => rfl
  | cons x xs ih => rw [List.foldl, ih, h]

/-! ### Records that a frame changes -/

@[simp] theorem beyond_basin (s : State) (b : Basin) : ({ s with basin := b } : State).beyond = s.beyond := (rfl)
@[simp] theorem beyond_ord (s : State) (o : Ordering) : ({ s with ord := o } : State).beyond = s.beyond := (rfl)
@[simp] theorem beyond_narrows (s : State) (n : Narrows) : ({ s with narrows := n } : State).beyond = s.beyond := (rfl)
@[simp] theorem beyond_saddle (s : State) (x : Saddle) : ({ s with saddle := x } : State).beyond = s.beyond := (rfl)
@[simp] theorem beyond_ford (s : State) (x : Ford) : ({ s with ford := x } : State).beyond = s.beyond := (rfl)
@[simp] theorem beyond_modPort (s : State) (p : Nat) (f : Port → Port) : (s.modPort p f).beyond = s.beyond := (rfl)
@[simp] theorem beyond_modFrame (s : State) (id : Nat) (f : Frame → Frame) : (s.modFrame id f).beyond = s.beyond := (rfl)
@[simp] theorem beyond_removeFrame (s : State) (id : Nat) : (s.removeFrame id).beyond = s.beyond := (rfl)
@[simp] theorem beyond_setStat (s : State) (i j v : Nat) : (s.setStat i j v).beyond = s.beyond := (rfl)
@[simp] theorem beyond_count64 (s : State) (i j n : Nat) : (s.count64 i j n).beyond = s.beyond := (rfl)
@[simp] theorem beyond_count32 (s : State) (i j : Nat) : (s.count32 i j).beyond = s.beyond :=
  beyond_of_around (around_count32 s i j)
@[simp] theorem beyond_setRowStat (s : State) (tbl pos sub v : Nat) : (s.setRowStat tbl pos sub v).beyond = s.beyond := (rfl)
@[simp] theorem beyond_bumpRow (s : State) (tbl pos sub : Nat) : (s.bumpRow tbl pos sub).beyond = s.beyond := (rfl)
@[simp] theorem beyond_issueKey (s : State) (src : Nat) : (s.issueKey src).beyond = s.beyond := (rfl)
@[simp] theorem beyond_raiseFault (s : State) (i : Nat) (stays : Bool) : (s.raiseFault i stays).beyond = s.beyond :=
  around_raiseFault s i stays
@[simp] theorem beyond_raiseKeyed (s : State) (key : OKey) (code args : Nat) :
    (s.raiseKeyed key code args).beyond = s.beyond := by simp [State.beyond, State.around]
@[simp] theorem beyond_withhold (s : State) : s.withhold.beyond = s.beyond := (rfl)
@[simp] theorem beyond_keepOwn (s : State) (key : OKey) (tag : Nat) (x : OwnInput) : (s.keepOwn key tag x).beyond = s.beyond := (rfl)
@[simp] theorem beyond_journalInput (s : State) (key : OKey) (kind arg tag : Nat) (relayed : Bool) (payload : Option Bytes) :
    (s.journalInput key kind arg tag relayed payload).beyond = s.beyond := by simp [State.beyond, State.around]
@[simp] theorem beyond_journalFrer (s : State) (key : OKey) (drop : Bool) (seq : Option Nat) :
    (s.journalFrer key drop seq).beyond = s.beyond := by simp [State.beyond, State.around]

/-! ### Watershed, VLANs and the FDB (R150, R192) -/

@[simp] theorem beyond_countClass (s : State) (c : Classified) : (s.countClass c).beyond = s.beyond := by
  simp [State.countClass]
@[simp] theorem beyond_floodOrKnown (s : State) (e : Nat) (p : Parsed) (v : List Nat) (vid : Nat) :
    (s.floodOrKnown e p v vid).1.beyond = s.beyond := by
  unfold State.floodOrKnown
  split
  · rfl
  · split <;> simp
@[simp] theorem beyond_learnEvent (s : State) (key : OKey) (mac vid p : Nat) :
    (s.learnEvent key mac vid p).beyond = s.beyond := (rfl)
@[simp] theorem beyond_decideDest (s : State) (key : OKey) (port : Nat) (p : Parsed) (a : Nat) (bypass : Bool) :
    (s.decideDest key port p a bypass).1.beyond = s.beyond := by simp [State.decideDest]

/-! ### Narrows (R162, R168, R176, R182) -/

@[simp] theorem beyond_takeToken (s : State) (n rate burst e : Nat) : (s.takeToken n rate burst e).1.beyond = s.beyond := by
  simp [State.takeToken]
@[simp] theorem beyond_logDeny (s : State) (key : OKey) (args : Nat) : (s.logDeny key args).beyond = s.beyond := by
  simp [State.logDeny]
@[simp] theorem beyond_setSession (s : State) (slot : Nat) (x : NSession) : (s.setSession slot x).beyond = s.beyond := (rfl)
@[simp] theorem beyond_dropSession (s : State) (slot : Nat) : (s.dropSession slot).beyond = s.beyond := (rfl)
@[simp] theorem beyond_clearSlot (s : State) (e slot : Nat) : (s.clearSlot e slot).beyond = s.beyond := by
  unfold State.clearSlot
  dsimp only
  split <;> rfl
@[simp] theorem beyond_tryCreate (s : State) (e z d : Nat) (p : Parsed) (dec : Decision) :
    (s.tryCreate e z d p dec).1.beyond = s.beyond := by
  unfold State.tryCreate
  dsimp only
  split
  · rfl
  split
  · simp
  split <;> simp
@[simp] theorem beyond_judgeNew (s : State) (e z d : Nat) (tr : Bool) (p : Parsed) :
    (s.judgeNew e z d tr p).1.beyond = s.beyond := by simp [State.judgeNew]
@[simp] theorem beyond_judge (s : State) (e z d : Nat) (tr : Bool) (p : Parsed) : (s.judge e z d tr p).1.beyond = s.beyond := by
  unfold State.judge
  dsimp only
  (repeat' split) <;> simp
@[simp] theorem beyond_countJudged (s : State) (key : OKey) (shared : Bool) (z d : Nat) (p : Parsed) (j : Judged) :
    (s.countJudged key shared z d p j).beyond = s.beyond := by simp [State.countJudged]
@[simp] theorem beyond_narrowsStage (s : State) (key : OKey) (shared : Bool) (z : Nat) (track : Bool) (p : Parsed) (dest : Nat) :
    (s.narrowsStage key shared z track p dest).1.beyond = s.beyond := by simp [State.narrowsStage]

/-! ### Stream filters, gates, meters and FRER (R217 to R228) -/

@[simp] theorem beyond_setStreamGate (s : State) (g : Nat) (x : StreamGate) : (s.setStreamGate g x).beyond = s.beyond := (rfl)
@[simp] theorem beyond_gateDecision (s : State) (e g m port : Nat) : (s.gateDecision e g m port).1.beyond = s.beyond := by
  simp [State.gateDecision]
@[simp] theorem beyond_applyMeter (s : State) (e n len col port : Nat) : (s.applyMeter e n len col port).1.beyond = s.beyond := by
  unfold State.applyMeter
  dsimp only
  rw [beyond_bumpRow, beyond_basin]
  simp
@[simp] theorem beyond_bumpFilter (s : State) (n sub : Nat) : (s.bumpFilter n sub).beyond = s.beyond := (rfl)
@[simp] theorem beyond_filterMeter (s : State) (e n f m col port : Nat) (ipv : Option Nat) :
    (s.filterMeter e n f m col port ipv).1.beyond = s.beyond := by simp [State.filterMeter]
@[simp] theorem beyond_filterGate (s : State) (e n f m col port : Nat) :
    (s.filterGate e n f m col port).1.beyond = s.beyond := by simp [State.filterGate]
@[simp] theorem beyond_filterChecks (s : State) (e n f m col port : Nat) :
    (s.filterChecks e n f m col port).1.beyond = s.beyond := by simp [State.filterChecks]
@[simp] theorem beyond_streamFilter (s : State) (e : Nat) (handle : Option Nat) (cls m col port : Nat) :
    (s.streamFilter e handle cls m col port).1.beyond = s.beyond := by
  unfold State.streamFilter
  split
  · rfl
  · split <;> simp
@[simp] theorem beyond_setFrer (s : State) (n : Nat) (x : FrerState) : (s.setFrer n x).beyond = s.beyond := (rfl)
@[simp] theorem beyond_frerRecover (s : State) (e n : Nat) (v : List Nat) (seq : Option Nat) :
    (s.frerRecover e n v seq).1.beyond = s.beyond := by
  cases seq <;> simp [State.frerRecover]
@[simp] theorem beyond_frerGenerate (s : State) (e handle port : Nat) (seq : Option Nat) (out : Nat) :
    (s.frerGenerate e handle port seq out).1.beyond = s.beyond := by
  unfold State.frerGenerate
  split
  · rfl
  · split <;> simp
@[simp] theorem beyond_frerStage (s : State) (e : Nat) (handle : Option Nat) (port : Nat) (seq : Option Nat) :
    (s.frerStage e handle port seq).1.beyond = s.beyond := by
  unfold State.frerStage
  dsimp only
  (repeat' split) <;> simp
@[simp] theorem beyond_frerDecide (s : State) (f : Frame) (rtag : Option Nat) : (s.frerDecide f rtag).1.beyond = s.beyond := by
  unfold State.frerDecide
  dsimp only
  split <;> simp

/-! ### Copies, mirrors, samples and the ledger (R199, R213 to R216) -/

@[simp] theorem beyond_refreshCredit (s : State) (p q : Nat) : (s.refreshCredit p q).beyond = s.beyond :=
  beyond_of_around (around_refreshCredit s p q)
@[simp] theorem beyond_refuseAs (s : State) (f : Frame) (o : Offer) : (s.refuseAs f o).beyond = s.beyond :=
  beyond_of_around (around_notSent ..)
@[simp] theorem beyond_queueDrop (s : State) (p q : Nat) : (s.queueDrop p q).beyond = s.beyond :=
  beyond_of_around (around_queueDrop s p q)
@[simp] theorem beyond_offerCopy (s : State) (f : Frame) (o : Offer) : (s.offerCopy f o).1.beyond = s.beyond := by
  simp [State.offerCopy]
@[simp] theorem beyond_ledgerWrite (s : State) (bytes : Bytes) : (s.ledgerWrite bytes).beyond = s.beyond := by
  simp [State.ledgerWrite]
@[simp] theorem beyond_mirrorCopy (f : Frame) (verdict : Nat) (judged : Bool) (dest : Nat) (s : State) (n : Nat) :
    (State.mirrorCopy f verdict judged dest s n).beyond = s.beyond := by simp [State.mirrorCopy]
@[simp] theorem beyond_sampleCopy (s : State) (f : Frame) : (s.sampleCopy f).beyond = s.beyond := by simp [State.sampleCopy]
@[simp] theorem beyond_verdictMeters (s : State) (f : Frame) (m col : Nat) (words : List Nat) :
    (s.verdictMeters f m col words).1.beyond = s.beyond := by simp [State.verdictMeters]
@[simp] theorem beyond_dropFrame (s : State) (f : Frame) (n : Narrowed) : (s.dropFrame f n).beyond = s.beyond := by
  simp [State.dropFrame]
@[simp] theorem beyond_writeCells (s : State) (id n : Nat) : (s.writeCells id n).beyond = s.beyond :=
  beyond_of_around (around_writeCells s id n)

/-- Back-pressure concerns the port alone. -/
@[simp] theorem around_checkXoff (s : State) (p : Nat) : (s.checkXoff p).around = s.around := by
  obtain ⟨ps, hps⟩ := exists_checkXoff s p
  rw [hps]
  rfl
@[simp] theorem beyond_checkXoff (s : State) (p : Nat) : (s.checkXoff p).beyond = s.beyond :=
  beyond_of_around (around_checkXoff s p)
@[simp] theorem beyond_makeCopies (s : State) (f : Frame) (plan : List Planned) (n : Narrowed) (named : List Nat)
    (hostExtra : Bool) : (s.makeCopies f plan n named hostExtra).beyond = s.beyond := by
  unfold State.makeCopies
  dsimp only
  (repeat' split) <;> simp

/-! ### The stages of a frame (R9 to R12, R47, R306) -/

@[simp] theorem beyond_countSdu (s : State) (f : Frame) : (s.countSdu f).beyond = s.beyond := by
  unfold State.countSdu
  split <;> rfl
@[simp] theorem beyond_streamStage (s : State) (f : Frame) (p : Parsed) (n : Narrowed) (shared : Bool) :
    (s.streamStage f p n shared).beyond = s.beyond := by simp [State.streamStage]
@[simp] theorem beyond_stageFrame (s : State) (f : Frame) (shared : Bool) : (s.stageFrame f shared).beyond = s.beyond := by
  simp [State.stageFrame]
@[simp] theorem beyond_routeFrame (s : State) (f : Frame) (cport : Nat) : (s.routeFrame f cport).beyond = s.beyond := by
  unfold State.routeFrame
  dsimp only
  split
  · simp
  split
  · simp
  split
  · simp
  · rw [beyond_ord]
    simp
@[simp] theorem around_sendMsg (s : State) (cls kind flags : Nat) (body : Bytes) :
    (s.sendMsg cls kind flags body).around = s.around := by
  unfold State.sendMsg
  split <;> rfl
@[simp] theorem around_relayFrame (s : State) (f : Frame) : (s.relayFrame f).around = s.around := by
  rw [State.relayFrame, around_count64, around_sendMsg]
@[simp] theorem beyond_followFrame (s : State) (f : Frame) : (s.followFrame f).beyond = s.beyond := by
  unfold State.followFrame
  dsimp only
  split
  · rfl
  · split
    · exact beyond_of_around (around_relayFrame ..)
    · rfl
@[simp] theorem beyond_journalFrame (s : State) (f : Frame) : (s.journalFrame f).beyond = s.beyond := beyond_journalInput ..

/-- A frame that is keyed and put on its path concerns the ports, Basin and what is counted and journaled. -/
theorem beyond_takeFrame (s : State) (p cport src : Nat) (rx : FrameRx) (stamp sec : Nat) (done : Bool) :
    (s.takeFrame p cport src rx stamp sec done).beyond = s.beyond := by
  unfold State.takeFrame State.countReceived
  dsimp only
  (repeat' split) <;> simp only [beyond_withhold, beyond_routeFrame, beyond_followFrame, beyond_journalFrame, beyond_count64,
    beyond_basin, beyond_issueKey]

/-! ### The end of a frame (R109, R129, R132) -/

@[simp] theorem around_countReceived (s : State) (p : Nat) (bytes : Bytes) (len : Nat) :
    (s.countReceived p bytes len).around = s.around := (rfl)
@[simp] theorem around_countSdu (s : State) (f : Frame) : (s.countSdu f).around = s.around := by
  unfold State.countSdu
  split <;> rfl
@[simp] theorem around_failGiven (s : State) (cur : Option Nat) : (s.failGiven cur).around = s.around := by
  cases cur <;> simp [State.failGiven]
@[simp] theorem around_secAtEnd (s : State) (p : Nat) (f : Frame) (icvOk : Bool) :
    (s.secAtEnd p f icvOk).1.around = s.around := by
  unfold State.secAtEnd
  dsimp only
  split
  · rfl
  split
  · unfold State.advancePn
    split <;> rfl
  · split
    · rfl
    · split <;> rfl
@[simp] theorem around_dropTooLong (s : State) (f : Frame) : (s.dropTooLong f).around = s.around := by
  simp [State.dropTooLong]
@[simp] theorem around_settle (s : State) (id n : Nat) : (s.settle id n).around = s.around := (rfl)
@[simp] theorem around_goodEnd (s : State) (p : Nat) (f : Frame) (fin : FrameEnd) : (s.goodEnd p f fin).around = s.around := by
  unfold State.goodEnd
  dsimp only
  (repeat' split) <;> simp

/-- The end of a frame concerns its port and Basin. -/
theorem around_joinedEnd (s : State) (p : Nat) (fin : FrameEnd) (cur : Option Nat) :
    (s.joinedEnd p fin cur).around = s.around := by
  unfold State.joinedEnd State.wholeEnd
  dsimp only
  (repeat' split) <;> simp

end Sys2Proof.Machine
end
section
/-! O25: header windows, frames presented at internal ports, and the ends of frames. -/

namespace Sys2Proof.Machine

open Sys2Proof

/-! ### The header window (R9, R10, R124, R132) -/

section HeaderWindow

variable {s : State} {p : Nat} {rx : FrameRx}

/-- Whether a port is UP, receives nothing, and meets the header window of a frame that goes on to MACsec. -/
structure State.Meets (s : State) (p : Nat) (rx : FrameRx) : Prop where
  up : s.portUp p = true
  whole : rx.frag = false
  idle : (s.port p).receiving = none
  long : 64 ≤ rx.length
  data : beAt rx.bytes 12 2 ≠ 0x8808

/-- Such a frame is counted by MACsec, then dropped, refused for want of room, or taken. -/
theorem headerWindow_meets (h : s.Meets p rx) : s.headerWindow p rx =
    let v := s.secAtHeader p rx
    let s := match v.count with | some n => s.count64 (0x3100 + p) n 1 | none => s
    if v.drop then s.issueKey p
    else if s.bufferSize p < s.ingressBytes p + 64 then (s.count64 (0x3080 + p) 0x0A 1).issueKey p
    else (s.takeFrame p p p rx ((rx.sof : Int) - s.phyLatency p 6).toNat v.sec
      (decide (rx.length ≤ 64))).noteReceiving p rx.frag := by
  obtain ⟨hup, hwhole, hidle, hlong, hdata⟩ := h
  refine if_neg ?_
  simp [hup, hwhole, hidle, hdata, hlong]

/-- Without MACsec the header window asks nothing of it. -/
theorem secAtHeader_off (hoff : s.secyOn p = false) : s.secAtHeader p rx = ⟨0, false, none⟩ := by
  simp [State.secAtHeader, hoff]

/-- A frame without MACsec that finds room is keyed and taken, and its port notes it. -/
theorem headerWindow_takes (h : s.Meets p rx) (hoff : s.secyOn p = false) (hroom : s.ingressBytes p + 64 ≤ s.bufferSize p) :
    s.headerWindow p rx = (s.takeFrame p p p rx ((rx.sof : Int) - s.phyLatency p 6).toNat 0
      (decide (rx.length ≤ 64))).noteReceiving p false := by
  rw [headerWindow_meets h, secAtHeader_off hoff, h.whole]
  exact if_neg (Nat.not_lt.mpr hroom)

/-- A frame that finds no room is counted, and its key is used up. -/
theorem headerWindow_full (h : s.Meets p rx) (hoff : s.secyOn p = false) (hfull : s.bufferSize p < s.ingressBytes p + 64) :
    s.headerWindow p rx = (s.count64 (0x3080 + p) 0x0A 1).issueKey p := by
  rw [headerWindow_meets h, secAtHeader_off hoff]
  exact if_pos hfull

/-- In strict mode a controlled frame without SecTAG is counted and dropped, and its key is used up. -/
theorem headerWindow_untagged (h : s.Meets p rx) (hon : s.secyOn p = true) (hstrict : s.reg (0x3100 + p) 3 = 2)
    (hcontrolled : uncontrolled rx.bytes = false) (hplain : rx.sec = .none) :
    s.headerWindow p rx = (s.count64 (0x3100 + p) 0x18 1).issueKey p := by
  have hverdict : s.secAtHeader p rx = ⟨0, true, some 0x18⟩ := by
    simp [State.secAtHeader, hon, hstrict, hcontrolled, hplain]
  rw [headerWindow_meets h, hverdict]
  rfl

/-- A port that is not UP takes nothing. -/
theorem headerWindow_down (h : s.portUp p = false) : s.headerWindow p rx = s := if_pos (.inl (by simp [h]))

/-- An internal port that is UP takes a frame whole. -/
theorem presentFrame_up (h : s.portUp p = true) :
    s.presentFrame p rx = s.takeFrame p p (frameSource p rx.origin) rx s.time.raw 0 true := if_neg (by simp [h])

end HeaderWindow

/-! ### Frames at internal ports (R9, R13) -/

/-- A frame presented at an internal port concerns neither keys nor power. -/
theorem beyond_presentFrame (s : State) (p : Nat) (rx : FrameRx) : (s.presentFrame p rx).beyond = s.beyond := by
  unfold State.presentFrame
  split
  · rfl
  · exact beyond_takeFrame ..

/-- At FP the oldest frame of Ford is presented. -/
theorem presentFord_oldest {s : State} {rx : FrameRx} {b : Bytes} {rest : List Bytes} (hup : s.portUp 30 = true)
    (hout : s.ford.out = b :: rest) :
    s.presentFord rx = ({ s with ford := { s.ford with out := rest } } : State).presentFrame 30
      { rx with bytes := b, length := b.length + 4, origin := none } := by
  unfold State.presentFord
  rw [hout]
  exact if_neg (by simp [hup])

/-! ### The end of a frame (R109) -/

/-- The end of a frame that came in one piece clears reception, and is judged. -/
theorem frameEnd_whole {s : State} {p : Nat} {fin : FrameEnd} (hfrags : fin.frags = 0) (hmerge : fin.merge = 0) :
    s.frameEnd p fin =
      (s.modPort p (fun (x : Port) => { x with receiving := none })).joinedEnd p fin (s.port p).receiving := by
  simp [State.frameEnd, hfrags, hmerge]

/-- A bad end with nothing in reception is counted. -/
theorem joinedEnd_bad {s : State} {p n : Nat} {fin : FrameEnd} (h : s.badEnd p fin = some n) :
    s.joinedEnd p fin none = s.count64 (0x3080 + p) n 1 := by
  unfold State.joinedEnd
  rw [h]
  rfl

/-- Settles O25. -/
theorem framesComeIn : Obligations.FramesComeIn := by
  refine ⟨?takes, ?full, ?untagged, ?down, ?internal, ?ford, ?short, ?fcs, ?whole, ?judged⟩
  case takes =>
    intro s t p rx hawake hp hup hfrag hidle hlong hdata hoff hroom
    refine (happen_awake t _ s _ (decide_eq_true (by omega)) hawake).trans (congrArg _ ?_)
    exact (if_pos hp).trans (headerWindow_takes (s := s.advance t) ⟨hup, hfrag, hidle, hlong, hdata⟩ hoff hroom)
  case full =>
    intro s t p rx hawake hp hup hfrag hidle hlong hdata hoff hfull
    refine (happen_awake t _ s _ (decide_eq_true (by omega)) hawake).trans (congrArg _ ?_)
    exact (if_pos hp).trans (headerWindow_full (s := s.advance t) ⟨hup, hfrag, hidle, hlong, hdata⟩ hoff hfull)
  case untagged =>
    intro s t p rx hawake hp hup hfrag hidle hlong hon hstrict hcontrolled hdata hplain
    refine (happen_awake t _ s _ (decide_eq_true (by omega)) hawake).trans (congrArg _ ?_)
    exact (if_pos hp).trans
      (headerWindow_untagged (s := s.advance t) ⟨hup, hfrag, hidle, hlong, hdata⟩ hon hstrict hcontrolled hplain)
  case down =>
    intro s t p rx hawake hp hdown
    refine (happen_awake t _ s _ (decide_eq_true (by omega)) hawake).trans (congrArg _ ?_)
    exact (if_pos hp).trans (headerWindow_down hdown)
  case internal =>
    intro s t p rx hawake hp hup
    refine (happen_awake t _ s _ (decide_eq_true (by omega)) hawake).trans (congrArg _ ?_)
    rw [frameHeaderWindow, if_neg (by omega), if_neg (by omega), if_neg (by omega), presentFrame_up hup]
  case ford =>
    intro s t rx b rest hawake hup hout
    dsimp only [exec, execFrameHeaderWindow]
    refine happen_answers (by decide) hawake ?_
    have hframe : frameHeaderWindow 30 rx (s.advance t) = ({ s.advance t with ford := { s.ford with out := rest } } :
        State).presentFrame 30 { rx with bytes := b, length := b.length + 4, origin := none } :=
      presentFord_oldest hup hout
    obtain ⟨hkeys, hpower, -⟩ := around_fst_eq_iff.mp (beyond_presentFrame
      ({ s.advance t with ford := { s.ford with out := rest } } : State) 30
      { rx with bytes := b, length := b.length + 4, origin := none })
    exact ⟨hframe, hframe ▸ hkeys, hframe ▸ hpower⟩
  case short =>
    intro s t p fin hawake hp hfrags hmerge hidle hshort
    refine (happen_awake t _ s _ (decide_eq_true (by omega)) hawake).trans (congrArg _ ?_)
    have hbad : ((s.advance t).modPort p (fun (x : Port) => { x with receiving := none })).badEnd p fin = some 8 :=
      if_pos (by omega)
    rw [frameEndReceived, if_pos hp, frameEnd_whole hfrags hmerge, port_advance, hidle, joinedEnd_bad hbad]
  case fcs =>
    intro s t p fin hawake hp hfrags hmerge hidle hlong hmax hrx hfcs
    refine (happen_awake t _ s _ (decide_eq_true (by omega)) hawake).trans (congrArg _ ?_)
    have hmax' : ¬ ((s.advance t).modPort p (fun (x : Port) => { x with receiving := none })).maxLen p
        < fin.bytes.length + 4 := Nat.not_lt.mpr hmax
    have hbad : ((s.advance t).modPort p (fun (x : Port) => { x with receiving := none })).badEnd p fin = some 6 := by
      simp only [State.badEnd, hrx, hfcs, if_neg hmax', if_neg (show ¬ fin.bytes.length + 4 < 64 by omega)]
      rfl
    rw [frameEndReceived, if_pos hp, frameEnd_whole hfrags hmerge, port_advance, hidle, joinedEnd_bad hbad]
  case whole =>
    intro s t p fin hawake hlo hhi
    refine (happen_awake t _ s _ (decide_eq_true hhi) hawake).trans (congrArg _ ?_)
    exact if_neg (by omega)
  case judged =>
    intro s t p fin hawake hp hfrags hmerge
    dsimp only [exec, execFrameEndReceived]
    refine happen_answers (decide_eq_true (by omega)) hawake ?_
    have hend : frameEndReceived p fin (s.advance t) = ((s.advance t).modPort p (fun (x : Port) => { x with
        receiving := none })).joinedEnd p fin (s.port p).receiving := (if_pos hp).trans (frameEnd_whole hfrags hmerge)
    rw [hend]
    obtain ⟨hkeys, hpower, hsafety, hlegacy, -, hhost⟩ := around_eq_iff.mp (around_joinedEnd
      ((s.advance t).modPort p (fun (x : Port) => { x with receiving := none })) p fin (s.port p).receiving)
    exact ⟨rfl, hkeys, hpower, hlegacy, hsafety, hhost⟩

end Sys2Proof.Machine
end

section
/-! O31: READ and WRITE of plain entries, staged and at once, and the response of a write. -/

namespace Sys2Proof.Machine

open Sys2Proof

/-! ### READ (R57) -/

section Read

variable {s : State} {c : Caller} {idx sub : Nat}

/-- A read that a check refuses is answered with the status of the first check that fails. -/
theorem dictRead_refused {extra val : State → Nat} {len : Nat} {eff : State → State} (h : s.readCheck c idx sub ≠ 0) :
    s.dictRead c idx sub extra val len eff = (s.afterKey c 1 idx sub []).reply c (s.readCheck c idx sub) 0 0 := by
  simp only [State.readCheck, State.afterKey] at h ⊢
  simp only [State.dictRead, h, if_false, ne_eq, not_false_eq_true, if_true]

/-- The entries of classification and of Narrows are read by no rule of their own, snapshot groups apart. -/
theorem readEntry_plain (hlo : 0x5000 ≤ idx) (hhi : idx < 0x7000) (hgroup : groupRange idx sub = none) :
    s.readEntry c idx sub = s.dictRead c idx sub (fun s => if isLong idx sub then 4 else s.recordStatus c idx sub)
      (fun s => s.entryValue c idx sub) (valueLen idx sub (s.entryValue c idx sub)) (fun s => s.clearRead idx sub) := by
  have hstamps : ¬ (0x3140 ≤ idx ∧ idx < 0x315C ∧ sub = 1) := by omega
  have hcaptures : ¬ (0x2220 ≤ idx ∧ idx < 0x2230 ∧ sub = 3) := by omega
  have hfaults : ¬ (idx = 0xA100 ∧ sub = 0x21) := by omega
  simp [State.readEntry, hstamps, hcaptures, hfaults, hgroup]

/-- They are no records that a caller selects. -/
theorem recordStatus_plain (hlo : 0x5000 ≤ idx) (hhi : idx < 0x7000) : s.recordStatus c idx sub = 0 := by
  unfold State.recordStatus
  dsimp only
  rw [if_neg (by omega), if_neg (by omega), if_neg (by omega), if_neg (by omega), if_neg (by omega)]

/-- What a read clears is a status entry. -/
theorem exists_clearRead (s : State) (idx sub : Nat) :
    ∃ l, s.clearRead idx sub = { s with dict := { s.dict with stat := l } } := by
  unfold State.clearRead
  split
  · exact ⟨s.dict.stat, rfl⟩
  split
  · exact ⟨s.dict.stat, rfl⟩
  split
  · exact ⟨_, rfl⟩
  · exact ⟨_, rfl⟩

/-- An accepted read of such an entry answers its value, and changes replies and status entries only. -/
theorem readEntry_answered (hlo : 0x5000 ≤ idx) (hhi : idx < 0x7000) (hshort : isLong idx sub = false)
    (hgroup : groupRange idx sub = none) (h : s.readCheck c idx sub = 0) :
    ∃ l, s.readEntry c idx sub =
      let u := (s.afterKey c 1 idx sub []).reply c 0 ((s.afterKey c 1 idx sub []).entryValue c idx sub)
        (valueLen idx sub (s.entryValue c idx sub))
      { u with dict := { u.dict with stat := l } } := by
  rw [readEntry_plain hlo hhi hgroup, dictRead_answered _ _ _ _ _ _ _ _ h (by simp [hshort, recordStatus_plain hlo hhi])]
  exact exists_clearRead _ idx sub

end Read

/-! ### Settings (R40, R55) -/

/-- A change of a later epoch than every other goes before them all. -/
theorem insertSetting_latest {x : Setting} {l : List Setting} (h : ∀ y ∈ l, y.epoch < x.epoch) : insertSetting x l = x :: l := by
  cases l with
  | nil => rfl
  | cons y ys =>
    have hy : y.epoch < x.epoch := h y List.mem_cons_self
    refine if_neg ?_
    simp [laterChange, hy.ne, hy.not_gt]

section AddSetting

variable {s : State} {e kep src key v : Nat}

/-- A change of a later epoch than every other governs its entry from that epoch on. -/
theorem regAt_addSetting_same {d : Nat} (h : ∀ x ∈ s.dict.settings, x.epoch < e) (hd : e ≤ d) :
    (s.addSetting e kep src key v).regAt d key = v := by
  simp [State.regAt, State.addSetting, insertSetting_latest (x := ⟨e, kep, src, key, v⟩) h, hd]

/-- It governs nothing before its epoch. -/
theorem regAt_addSetting_before {d k : Nat} (h : ∀ x ∈ s.dict.settings, x.epoch < e) (hd : d < e) :
    (s.addSetting e kep src key v).regAt d k = s.regAt d k := by
  simp [State.regAt, State.addSetting, insertSetting_latest (x := ⟨e, kep, src, key, v⟩) h, hd.not_ge]

/-- It governs no other entry. -/
theorem regAt_addSetting_ne {d k : Nat} (h : ∀ x ∈ s.dict.settings, x.epoch < e) (hk : k ≠ key) :
    (s.addSetting e kep src key v).regAt d k = s.regAt d k := by
  simp [State.regAt, State.addSetting, insertSetting_latest (x := ⟨e, kep, src, key, v⟩) h, hk.symm]

end AddSetting

/-! ### WRITE that takes effect at once (R40, R55) -/

/-- What configuration entries read as depends on the settings and the image. -/
theorem regAt_congr {s u : State} (hset : u.dict.settings = s.dict.settings) (himage : u.dict.image = s.dict.image) (d k : Nat) :
    u.regAt d k = s.regAt d k := by rw [State.regAt, State.regAt, hset, himage]

/-- The entries that a write changes at once without an effect of its own. -/
def plainAtOnce (idx sub : Nat) : Prop := idx = 0x2004 ∧ sub = 9 ∨ 0x30C0 ≤ idx ∧ idx < 0x30D4 ∧ (sub = 9 ∨ sub = 0x0A)

/-- They are read-write entries, the same for every caller, and no domains. -/
theorem entryDef_plainAtOnce {idx sub : Nat} (h : plainAtOnce idx sub) :
    ∃ e, entryDef idx sub = some e ∧ e.perIface = false ∧ e.acc = .rw ∧ e.ty ≠ .dom := by
  have hclock : (entryDef 0x2004 9).map (fun e => (e.perIface, e.acc, decide (e.ty = .dom))) = some (false, .rw, false) := by
    decide +kernel
  have hphy : ∀ p < 20, ∀ sub ∈ [9, 0x0A], (entryDef (0x30C0 + p) sub).map
      (fun e => (e.perIface, e.acc, decide (e.ty = .dom))) = some (false, .rw, false) := by decide +kernel
  have hfound : (entryDef idx sub).map (fun e => (e.perIface, e.acc, decide (e.ty = .dom))) = some (false, .rw, false) := by
    rcases h with ⟨rfl, rfl⟩ | ⟨hlo, hhi, hsub⟩
    · exact hclock
    · obtain ⟨p, rfl⟩ := Nat.exists_eq_add_of_le hlo
      exact hphy p (by omega) sub (by simpa using hsub)
  obtain ⟨e, he, hkind⟩ := Option.map_eq_some_iff.mp hfound
  simp only [Prod.mk.injEq, decide_eq_false_iff_not] at hkind
  exact ⟨e, he, hkind⟩

section Write

variable {s : State} {c : Caller} {idx sub : Nat} {data : Bytes} {e : EntryDef}

/-- A write of an entry that is no domain, and not the role command, is no segment. -/
theorem writeAny_entry (hrole : ¬ (idx = 0x9001 ∧ sub = 1)) (he : entryDef idx sub = some e) (hty : e.ty ≠ .dom) :
    s.writeAny c idx sub data = s.writeEntry c idx sub data := by
  simp only [State.writeAny, if_neg hrole, he, if_neg hty]

/-- Such an entry is written by no rule of its own. -/
theorem writeAny_plainAtOnce (h : plainAtOnce idx sub) : s.writeAny c idx sub data = s.writePlain c idx sub data := by
  obtain ⟨e, he, -, -, hty⟩ := entryDef_plainAtOnce h
  rcases h with ⟨rfl, rfl⟩ | ⟨hlo, hhi, hsub⟩
  · rw [writeAny_entry (by decide) he hty]
    rfl
  · obtain ⟨p, rfl⟩ := Nat.exists_eq_add_of_le hlo
    rw [writeAny_entry (by omega) he hty, State.writeEntry, if_neg (by rintro ⟨-, hone, -⟩; omega), if_neg (by omega),
      if_neg (by omega), if_pos ⟨hlo, hhi⟩, State.writePhy, if_neg (by omega), if_neg (by omega), if_neg (by omega),
      if_neg (by omega), Nat.add_sub_cancel_left]

/-- An accepted write of a read-write entry puts a setting of the epoch four after the present one, and is recorded. -/
theorem writePlain_rw (he : entryDef idx sub = some e) (hiface : e.perIface = false) (hacc : e.acc = .rw)
    (h : s.writeCheck c idx sub data = 0) : s.writePlain c idx sub data =
      ((s.afterKey c 2 idx sub data).addSetting (s.keyEpoch + 4) s.keyEpoch (ifaceSource c.iface) (dkey idx sub)
        (leNat data)).acceptWrite c 0 idx sub ((s.afterKey c 2 idx sub data).regAt s.keyEpoch (dkey idx sub)) (leNat data) 0
        (s.keyEpoch + 4) := by
  rw [State.writePlain, dictWrite_accepted s c idx sub data _ _ e he h rfl, State.storeWrite, hiface, hacc]
  rfl

/-! ### Staged writes (R61) -/

/-- The entries of classification and of Narrows, tables apart, are written by no rule of their own. -/
theorem writeAny_plain (hlo : 0x5000 ≤ idx) (hhi : idx < 0x7000) (htable : isTable idx = false)
    (he : entryDef idx sub = some e) (hty : e.ty ≠ .dom) : s.writeAny c idx sub data = s.writePlain c idx sub data := by
  rw [writeAny_entry (by omega) he hty, State.writeEntry, if_neg (by simp [htable]), if_neg (by omega), if_neg (by omega),
    if_neg (by omega), if_pos (by omega), State.writeMiddle, if_neg (by omega), if_neg (by omega), if_neg (by omega), if_neg (by omega),
    if_neg (by omega), if_neg (by omega)]

/-- A change that is staged stands among the records of its area. -/
theorem mem_recs_stage (s : State) (c : Caller) (w : StagedWork) :
    w ∈ (s.stage c w).dict.staging.recs := by
  unfold State.stage
  dsimp only
  split
  next h =>
    obtain ⟨r, hr, hslot⟩ := List.any_eq_true.mp h
    exact List.mem_map.mpr ⟨r, hr, if_pos hslot⟩
  next => exact List.mem_append_right _ List.mem_cons_self

/-- An accepted write of a staged entry is staged and recorded. -/
theorem writePlain_rws (he : entryDef idx sub = some e) (hiface : e.perIface = false) (hacc : e.acc = .rws)
    (h : s.writeCheck c idx sub data = 0) : s.writePlain c idx sub data =
      ((s.afterKey c 2 idx sub data).stage c (.value (dkey idx sub) (leNat data))).acceptWrite c 1 idx sub
        ((s.afterKey c 2 idx sub data).regAt s.keyEpoch (dkey idx sub)) (leNat data) 0 (s.keyEpoch + 4) := by
  rw [State.writePlain, dictWrite_accepted s c idx sub data _ _ e he h rfl, State.storeWrite, hiface, hacc]
  rfl

end Write

/-! ### The response (R56) -/

/-- The only response that waits is given when it is ready. -/
theorem writeResponse_single {s : State} {a : Awaiting} (h : s.dict.awaiting = [a]) (hready : s.responseReady a = true) :
    writeResponse s = ({ s with dict := { s.dict with awaiting := [] } } : State).emit a := by
  simp [writeResponse, h, State.takeReady, hready, sendFollowing]

/-- Settles O31. -/
theorem readsAndWrites : Obligations.ReadsAndWrites := by
  refine ⟨?read, ?unread, ?atOnce, ?unwritten, ?staged, ?response⟩
  case read =>
    intro s t idx sub c hawake hp hlo hhi hshort hgroup hcheck
    dsimp only [exec, execRead]
    refine happenBy_answers rfl hawake hp ?_
    obtain ⟨l, hread⟩ := readEntry_answered hlo hhi hshort hgroup hcheck
    rw [hread]
    refine ⟨replyOf_eq (s := (s.advance t).afterKey c 1 idx sub []) rfl, ?_⟩
    simp [State.reply]
  case unread =>
    intro s t idx sub c hawake hp hlo hhi hgroup hcheck
    dsimp only [exec, execRead]
    refine happenBy_answers rfl hawake hp ?_
    rw [readEntry_plain hlo hhi hgroup, dictRead_refused hcheck]
    refine ⟨replyOf_reply .., ?_⟩
    simp [State.reply]
  case atOnce =>
    intro s t idx sub c data e hawake hp hplain he hcheck hlatest
    dsimp only [exec, execWrite]
    refine happenBy_answers rfl hawake hp ?_
    obtain ⟨e, he, hiface, hacc, -⟩ := entryDef_plainAtOnce hplain
    rw [writeAny_plainAtOnce hplain, writePlain_rw he hiface hacc hcheck]
    have hlatest' : ∀ x ∈ ((s.advance t).afterKey c 2 idx sub data).dict.settings, x.epoch < (s.advance t).keyEpoch + 4 := by
      simpa using hlatest
    have hbefore (d k : Nat) : ((s.advance t).afterKey c 2 idx sub data).regAt d k = s.regAt d k :=
      regAt_congr (by simp) (by simp) d k
    refine ⟨acceptWrite_accepted .., fun d => ?_, fun d hd k => ?_, fun k hk d => ?_, ?_⟩
    · exact regAt_addSetting_same hlatest' (Nat.le_add_right _ _)
    · exact (regAt_addSetting_before hlatest' (Nat.lt_succ_of_le hd)).trans (hbefore d k)
    · exact (regAt_addSetting_ne hlatest' hk).trans (hbefore d k)
    · simp [State.acceptWrite, State.acceptBytes, State.journalChange, State.addSetting]
  case unwritten =>
    intro s t idx sub c data e hawake hp hlo hhi htable he hty hcheck
    dsimp only [exec, execWrite]
    refine happenBy_answers rfl hawake hp ?_
    rw [writeAny_plain hlo hhi htable he hty, State.writePlain, dictWrite_refused _ _ _ _ _ _ _ hcheck]
    refine ⟨replyOf_reply .., ?_⟩
    split <;> simp [State.reply, State.withhold, State.count64, State.setStat]
  case staged =>
    intro s t idx sub c data e hawake hp hlo hhi htable he hty hacc hiface hcheck
    dsimp only [exec, execWrite]
    refine happenBy_answers rfl hawake hp ?_
    rw [writeAny_plain hlo hhi htable he hty, writePlain_rws he hiface hacc hcheck]
    refine ⟨acceptWrite_accepted .., rfl, rfl, ?_, ?_⟩
    · exact mem_recs_stage _ c _
    · simp [State.acceptWrite, State.acceptBytes, State.journalChange, State.stage]
  case response =>
    intro s t a hawake hone hcarry hready
    dsimp only [exec, execWriteResponse]
    refine happen_answers rfl hawake ?_
    rw [writeResponse_single (s := s.advance t) hone hready, State.emit, hcarry]
    exact ⟨replyOf_reply .., rfl, rfl, rfl⟩

end Sys2Proof.Machine
end

section
/-! O32: an image that is refused raises an event, and a full journal then loses one of an unlisted severity, whose count falls into
the result entry (as for O40). -/

namespace Sys2Proof.Machine

open Sys2Proof

/-- Octets that are no image leave the result 0x0C, and the event that says so makes the journal lose one: the result then reads
0x0D (R80, R413). -/
theorem stat_uploadSegment_crowded :
    (((crowdedState 0x1300 0x11).advance 0).uploadSegment ⟨.firmware, 0⟩ 0 [1, 2, 3] true true).stat 0x1300 0x11 = 0x0D := by
  decide +kernel

/-- IMAGE_UPLOAD writes the last segment. -/
theorem exec_imageUpload (s : State) (t off : Nat) (c : Caller) (data : Bytes) (signed : Bool) (hawake : s.awake = true)
    (hp : c.iface ≠ .partner) : exec (.imageUpload t c off data signed) s =
      .next ((s.advance t).uploadSegment c off data true signed) :=
  by rw [exec, execImageUpload]; exact happenBy_awake _ _ _ _ _ rfl hawake hp

/-- Refutes O32, in clause (6): the result of octets that are no valid image need not read 0x0C. The clause speaks of every state,
and so also of one whose full reorder buffer holds an event of no severity of Table 17.1. -/
theorem not_segmentsAndDomains : ¬ Obligations.SegmentsAndDomains := by
  unfold Obligations.SegmentsAndDomains
  rintro ⟨-, -, -, -, -, hupload, -⟩
  have hawake : (crowdedState 0x1300 0x11).awake = true := by decide +kernel
  have hp : (⟨.firmware, 0⟩ : Caller).iface ≠ .partner := by decide
  have hidle : (crowdedState 0x1300 0x11).openWrite ⟨.firmware, 0⟩ (dkey 0x1300 0x10) = none := by decide +kernel
  obtain ⟨u, hu, -, hresult, -⟩ := hupload (crowdedState 0x1300 0x11) 0 ⟨.firmware, 0⟩ [1, 2, 3] true hawake hp hidle
    (by decide +kernel) (by decide +kernel)
  rw [exec_imageUpload _ _ _ _ _ _ hawake hp] at hu
  obtain rfl := Host.Outcome.next.inj hu
  rw [stat_uploadSegment_crowded] at hresult
  exact absurd hresult (by decide)

end Sys2Proof.Machine
end

section
/-! O33: discarding, arming and applying staged changes. -/

namespace Sys2Proof.Machine

open Sys2Proof

/-! ### What the units do at an apply epoch leaves the configuration alone (R64) -/

/-- Settings, rows, staging area, keys and power: what no unit changes when a commit takes effect. -/
def State.configured (s : State) : (List Setting × List RowOp × Staging) × KeyStore × Power :=
  ((s.dict.settings, s.dict.rowOps, s.dict.staging), s.keys, s.power)

/-- Equal parts, one by one. -/
theorem configured_eq_iff {s u : State} : u.configured = s.configured ↔
    u.dict.settings = s.dict.settings ∧ u.dict.rowOps = s.dict.rowOps ∧ u.dict.staging = s.dict.staging ∧ u.keys = s.keys ∧
      u.power = s.power := by
  simp only [State.configured, Prod.mk.injEq, and_assoc]

@[simp] theorem configured_ite (p : Prop) [Decidable p] (a b : State) :
    (if p then a else b).configured = if p then a.configured else b.configured := by split <;> rfl
@[simp] theorem configured_foldl {α : Type} (g : State → α → State) (h : ∀ s x, (g s x).configured = s.configured)
    (l : List α) (s : State) : (l.foldl g s).configured = s.configured := by
  induction l generalizing s with
  | nil => rfl
  | cons x xs ih => rw [List.foldl, ih, h]

/-! #### Records and status entries -/

@[simp] theorem configured_basin (s : State) (b : Basin) : ({ s with basin := b } : State).configured = s.configured := (rfl)
@[simp] theorem configured_time (s : State) (b : TimeBase) : ({ s with time := b } : State).configured = s.configured := (rfl)
@[simp] theorem configured_elnar (s : State) (e : Elnar) : ({ s with elnar := e } : State).configured = s.configured := (rfl)
@[simp] theorem configured_legacy (s : State) (l : Legacy) : ({ s with legacy := l } : State).configured = s.configured := (rfl)
@[simp] theorem configured_journal (s : State) (j : Journal) : ({ s with journal := j } : State).configured = s.configured := (rfl)
@[simp] theorem configured_setStat (s : State) (i j v : Nat) : (s.setStat i j v).configured = s.configured := (rfl)
@[simp] theorem configured_orStat (s : State) (i j v : Nat) : (s.orStat i j v).configured = s.configured := (rfl)
@[simp] theorem configured_count64 (s : State) (i j n : Nat) : (s.count64 i j n).configured = s.configured := (rfl)
@[simp] theorem configured_issueKey (s : State) (src : Nat) : (s.issueKey src).configured = s.configured := (rfl)
@[simp] theorem configured_putEvent (s : State) (ev : Event) : (s.putEvent ev).configured = s.configured := (rfl)
@[simp] theorem configured_flagCounter (s : State) (i j b : Nat) : (s.flagCounter i j b).configured = s.configured := (rfl)
@[simp] theorem configured_count32 (s : State) (i j : Nat) : (s.count32 i j).configured = s.configured := by
  simp [State.count32]
@[simp] theorem configured_count32Own (s : State) (i j a b c : Nat) : (s.count32Own i j a b c).configured = s.configured := by
  simp [State.count32Own]
@[simp] theorem configured_countSeq (s : State) (i j w : Nat) : (s.countSeq i j w).configured = s.configured := by
  simp [State.countSeq]
@[simp] theorem configured_setRowStat (s : State) (tbl pos sub v : Nat) :
    (s.setRowStat tbl pos sub v).configured = s.configured := (rfl)

/-! #### Events (R410) -/

@[simp] theorem configured_signalVector (s : State) (v : Nat) : (s.signalVector v).configured = s.configured := by
  unfold State.signalVector
  split <;> rfl
@[simp] theorem configured_commitEvent (s : State) (ev : Event) : (s.commitEvent ev).configured = s.configured := by
  have hnoted : (s.noted ev).configured = s.configured := by
    unfold State.noted
    dsimp only
    rw [configured_journal]
    simp
  have hentered (x : State) (late : Bool) : (x.entered ev late).configured = x.configured := by
    unfold State.entered
    split <;> simp
  rw [commitEvent_eq]
  split
  · rfl
  · rw [hentered, hnoted]
@[simp] theorem configured_arriveEvent (s : State) (ev : Event) : (s.arriveEvent ev).configured = s.configured := by
  unfold State.arriveEvent
  split
  · simp
  split
  · simp
  split <;> simp
@[simp] theorem configured_raiseEvent (s : State) (src code args : Nat) :
    (s.raiseEvent src code args).configured = s.configured := configured_arriveEvent ..
@[simp] theorem configured_raiseKeyed (s : State) (key : OKey) (code args : Nat) :
    (s.raiseKeyed key code args).configured = s.configured := configured_arriveEvent ..
@[simp] theorem configured_noteDeterminism (s : State) (bit : Nat) : (s.noteDeterminism bit).configured = s.configured := by
  simp [State.noteDeterminism]

/-! #### Triggers and the working clock (R30, R105) -/

@[simp] theorem configured_modTrigger (s : State) (n : Nat) (f : Trigger → Trigger) :
    (s.modTrigger n f).configured = s.configured := (rfl)
@[simp] theorem configured_keepOwn (s : State) (key : OKey) (tag : Nat) (x : OwnInput) :
    (s.keepOwn key tag x).configured = s.configured := (rfl)
@[simp] theorem configured_journalInput (s : State) (key : OKey) (kind arg tag : Nat) (relayed : Bool) (payload : Option Bytes) :
    (s.journalInput key kind arg tag relayed payload).configured = s.configured := by simp [State.configured]
@[simp] theorem configured_pairEdge (s : State) (n pulse : Nat) : (s.pairEdge n pulse).configured = s.configured := by
  simp [State.pairEdge]
@[simp] theorem configured_leadingEdge (s : State) (n : Nat) (late : Bool) :
    (s.leadingEdge n late).configured = s.configured := by simp [State.leadingEdge]
@[simp] theorem configured_armTrigger (s : State) (n : Nat) : (s.armTrigger n).configured = s.configured := by
  simp [State.armTrigger]
@[simp] theorem configured_stepTrigger (before : Int) (s : State) (n : Nat) :
    (s.stepTrigger before n).configured = s.configured := by simp [State.stepTrigger]
@[simp] theorem configured_workingChanged (s : State) (before : Int) :
    (s.workingChanged before).configured = s.configured := by
  have hforward : (s.forwardStep before).configured = s.configured := by
    unfold State.forwardStep
    dsimp only
    rw [configured_foldl _ (configured_stepTrigger before), configured_noteDeterminism]
    rfl
  simp [State.workingChanged, State.backwardStep, hforward]

/-! #### Ports (R122, R123) -/

@[simp] theorem configured_modPort (s : State) (p : Nat) (f : Port → Port) : (s.modPort p f).configured = s.configured := (rfl)
@[simp] theorem configured_modTx (s : State) (p : Nat) (f : PortTx → PortTx) : (s.modTx p f).configured = s.configured := (rfl)
@[simp] theorem configured_modFrame (s : State) (id : Nat) (f : Frame → Frame) :
    (s.modFrame id f).configured = s.configured := (rfl)
@[simp] theorem configured_modGate (s : State) (p : Nat) (f : GateEngine → GateEngine) :
    (s.modGate p f).configured = s.configured := (rfl)
@[simp] theorem configured_setLink (s : State) (p v : Nat) : (s.setLink p v).configured = s.configured := (rfl)
@[simp] theorem configured_removeFrame (s : State) (id : Nat) : (s.removeFrame id).configured = s.configured := (rfl)
@[simp] theorem configured_writeCells (s : State) (id n : Nat) : (s.writeCells id n).configured = s.configured := by
  unfold State.writeCells
  split <;> rfl
@[simp] theorem configured_writeWaiting (s : State) : s.writeWaiting.configured = s.configured := by simp [State.writeWaiting]
@[simp] theorem configured_refreshCredit (s : State) (p q : Nat) : (s.refreshCredit p q).configured = s.configured := by
  simp [State.refreshCredit]
@[simp] theorem configured_refreshCredits (s : State) (p : Nat) : (s.refreshCredits p).configured = s.configured := by
  simp [State.refreshCredits]
@[simp] theorem configured_pushStamp (s : State) (p : Nat) (x : TxStamp) : (s.pushStamp p x).configured = s.configured := by
  simp [State.pushStamp]
@[simp] theorem configured_notSent (s : State) (p : Nat) (stamp : Option (Nat × Nat)) :
    (s.notSent p stamp).configured = s.configured := by cases stamp <;> simp [State.notSent]
@[simp] theorem configured_queueDrop (s : State) (p q : Nat) : (s.queueDrop p q).configured = s.configured :=
  configured_count32 ..
@[simp] theorem configured_endCopy (s : State) (c : Copy) : (s.endCopy c).configured = s.configured := by
  unfold State.endCopy
  dsimp only
  split <;> simp
@[simp] theorem configured_dropCopy (s : State) (c : Copy) : (s.dropCopy c).configured = s.configured := by
  simp [State.dropCopy]
@[simp] theorem configured_flushCopy (s : State) (c : Copy) : (s.flushCopy c).configured = s.configured := by
  simp [State.flushCopy]
@[simp] theorem configured_failEnd (s : State) (id : Nat) : (s.failEnd id).configured = s.configured := by
  simp [State.failEnd, State.failFrame, State.failCopy]
@[simp] theorem configured_flushPort (s : State) (p : Nat) : (s.flushPort p).configured = s.configured := by
  simp [State.flushPort]
@[simp] theorem configured_abortTx (s : State) (p : Nat) (t : Option TxFrame) : (s.abortTx p t).configured = s.configured := by
  cases t <;> simp [State.abortTx]
@[simp] theorem configured_abortRx (s : State) (p : Nat) (id : Option Nat) : (s.abortRx p id).configured = s.configured := by
  cases id <;> simp [State.abortRx]
@[simp] theorem configured_linkDown (s : State) (p : Nat) (forced : Bool) : (s.linkDown p forced).configured = s.configured := by
  unfold State.linkDown
  extract_lets x s₁ s₂ r s₃ s₄ s₅ clock s₆ s₇
  have haborted : s₅.configured = s.configured := by simp [s₅, s₄, s₃, s₂, s₁]
  have hcounted : s₇.configured = s₅.configured := by simp [s₇, s₆]
  split <;> simp [hcounted, haborted]
@[simp] theorem configured_forceDown (s : State) (p : Nat) (was : Bool) : (s.forceDown p was).configured = s.configured := by
  simp [State.forceDown]
@[simp] theorem configured_refreshMerge (s : State) (p : Nat) : (s.refreshMerge p).configured = s.configured := by
  simp [State.refreshMerge]
@[simp] theorem configured_portApplied (s : State) (a : Applied) (before : State) (p : Nat) :
    (s.portApplied a before p).configured = s.configured := by simp [State.portApplied]
@[simp] theorem configured_gatesApplied (s : State) (a : Applied) (p : Nat) :
    (s.gatesApplied a p).configured = s.configured := by simp [State.gatesApplied]

/-! #### Rows, buses, watchdogs and what else a commit touches -/

@[simp] theorem configured_modCan (s : State) (n : Nat) (f : CanCtl → CanCtl) : (s.modCan n f).configured = s.configured := (rfl)
@[simp] theorem configured_modLin (s : State) (n : Nat) (f : LinCtl → LinCtl) : (s.modLin n f).configured = s.configured := (rfl)
@[simp] theorem configured_modRx (s : State) (r : Nat) (f : RxLane → RxLane) : (s.modRx r f).configured = s.configured := (rfl)
@[simp] theorem configured_modWatchdog (s : State) (w : Nat) (f : Watchdog → Watchdog) :
    (s.modWatchdog w f).configured = s.configured := (rfl)
@[simp] theorem configured_clearCause (s : State) (i : Nat) : (s.clearCause i).configured = s.configured := (rfl)
@[simp] theorem configured_refillBucket (s : State) (n : Nat) : (s.refillBucket n).configured = s.configured := (rfl)
@[simp] theorem configured_setStreamGate (s : State) (g : Nat) (x : StreamGate) :
    (s.setStreamGate g x).configured = s.configured := (rfl)
@[simp] theorem configured_setFrer (s : State) (n : Nat) (x : FrerState) : (s.setFrer n x).configured = s.configured := (rfl)
@[simp] theorem configured_loadStreamGate (s : State) (g tl : Nat) (v : List Nat) :
    (s.loadStreamGate g tl v).configured = s.configured := (rfl)
@[simp] theorem configured_clearRowStats (s : State) (tbl pos lo hi : Nat) :
    (s.clearRowStats tbl pos lo hi).configured = s.configured := by simp [State.clearRowStats]
@[simp] theorem configured_rowApplied (a : Applied) (s : State) (tbl pos : Nat) :
    (s.rowApplied a tbl pos).configured = s.configured := by
  unfold State.rowApplied
  split <;> simp
@[simp] theorem configured_canCommit (s : State) (n : Nat) (before after : List Nat) :
    (s.canCommit n before after).configured = s.configured := by simp [State.canCommit]
@[simp] theorem configured_linCommit (s : State) (n : Nat) (wasEmpty : Bool) :
    (s.linCommit n wasEmpty).configured = s.configured := by simp [State.linCommit]
@[simp] theorem configured_fxCommit (s : State) (before : Nat) : (s.fxCommit before).configured = s.configured := by
  simp [State.fxCommit]
@[simp] theorem configured_busesApplied (s : State) (a : Applied) (before : State) :
    (s.busesApplied a before).configured = s.configured := by simp [State.busesApplied]
@[simp] theorem configured_clockApplied (s : State) (a : Applied) : (s.clockApplied a).configured = s.configured := by
  simp [State.clockApplied]
@[simp] theorem configured_trigApplied (s : State) (a : Applied) (n : Nat) :
    (s.trigApplied a n).configured = s.configured := by simp [State.trigApplied]
@[simp] theorem configured_watchApplied (s : State) (a : Applied) (w : Nat) :
    (s.watchApplied a w).configured = s.configured := by simp [State.watchApplied]
@[simp] theorem configured_endOutstanding (s : State) : s.endOutstanding.configured = s.configured := by
  simp [State.endOutstanding, State.orphan, State.giveResult]
@[simp] theorem configured_holdSets (s : State) : s.holdSets.configured = s.configured := (rfl)
@[simp] theorem configured_linkLost (s : State) : s.linkLost.configured = s.configured := by
  simp [State.linkLost, State.noteOut]
@[simp] theorem configured_checkUse (s : State) (r : Nat) : (s.checkUse r).configured = s.configured := by
  simp [State.checkUse, State.laneOut]

/-- A session that ends discards its staging, but no commit that is armed (R62). -/
theorem configured_endSession {s : State} (n : Nat) (h : s.dict.staging.state ≠ .open_) :
    (s.endSession n).configured = s.configured := by
  unfold State.endSession State.discardOf
  split
  next ho _ => exact absurd ho h
  next => rfl

theorem configured_closeIdle {s : State} (n : Nat) (h : s.dict.staging.state ≠ .open_) :
    (s.closeIdle n).configured = s.configured := by
  unfold State.closeIdle
  split
  · exact configured_endSession n h
  · rfl

/-- Sessions that end while a commit is armed leave the configuration alone. -/
theorem configured_closeIdles {s : State} (l : List Nat) (h : s.dict.staging.state ≠ .open_) :
    (l.foldl (fun s i => s.closeIdle (i + 1)) s).configured = s.configured := by
  induction l generalizing s with
  | nil => rfl
  | cons x xs ih =>
    have hx := configured_closeIdle (x + 1) h
    have hstaging : (s.closeIdle (x + 1)).dict.staging = s.dict.staging := (configured_eq_iff.mp hx).2.2.1
    rw [List.foldl, ih (hstaging ▸ h), hx]

theorem configured_smallApplied {s : State} (a : Applied) (h : s.dict.staging.state ≠ .open_) :
    (s.smallApplied a).configured = s.configured := by
  unfold State.smallApplied
  extract_lets s₁ s₂ basin s₃ s₄ v s₅ s₆
  have htwo : s₂.configured = s.configured := by simp [s₂, s₁]
  have hthree : s₃.configured = s₂.configured := by
    simp only [s₃]
    split <;> rfl
  have hfive : s₅.configured = s.configured := by simp [s₅, s₄, hthree, htwo]
  have hstaging : s₅.dict.staging = s.dict.staging := (configured_eq_iff.mp hfive).2.2.1
  have hsix : s₆.configured = s.configured := by
    simp only [s₆, configured_ite, configured_closeIdles _ (hstaging ▸ h), hfive, ite_self]
  simp [hsix]

/-- What the units do when changes take effect leaves settings, rows, staging area, keys and power alone (R64). -/
theorem configured_applied {s : State} (a : Applied) (before : State) (h : s.dict.staging.state ≠ .open_) :
    (s.applied a before).configured = s.configured := by
  unfold State.applied
  extract_lets s₁ s₂ s₃ s₄ s₅ s₆
  have hsix : s₆.configured = s.configured := by simp [s₆, s₅, s₄, s₃, s₂, s₁]
  have hstaging : s₆.dict.staging = s.dict.staging := (configured_eq_iff.mp hsix).2.2.1
  rw [configured_smallApplied a (hstaging ▸ h), hsix]

/-! ### Discarding (R62) -/

/-- A refusal answers its status. -/
theorem replyOf_refuse (s : State) (c : Caller) (n : Nat) : (s.refuse c n).replyOf c.iface = some ⟨c, n, 0, 0⟩ :=
  replyOf_reply ..

/-- A refusal changes status entries and replies only. -/
theorem exists_refuse (s : State) (c : Caller) (n : Nat) :
    ∃ l r, s.refuse c n = { s with dict := { s.dict with stat := l, replies := r } } := by
  unfold State.refuse
  split <;> exact ⟨_, _, rfl⟩

section Discard

variable {s : State} {c : Caller} {data : Bytes}

/-- A discard by the owner of an open area empties it. -/
theorem discardStaging_owner (hopen : s.dict.staging.state = .open_) (howner : s.dict.staging.owner = some c)
    (h : s.writeCheck c 0x1300 1 data = 0) : s.discardStaging c data =
      (s.afterKey c 2 0x1300 1 data).emptyStaging.acceptWrite c 0 0x1300 1 0 1 0 0 := by
  simp only [State.writeCheck, State.afterKey] at h
  simp [State.discardStaging, State.afterKey, h, hopen, howner]

/-- A discard by another caller is refused. -/
theorem discardStaging_other (hopen : s.dict.staging.state = .open_) (howner : s.dict.staging.owner ≠ some c)
    (h : s.writeCheck c 0x1300 1 data = 0) : s.discardStaging c data = (s.afterKey c 2 0x1300 1 data).refuse c 9 := by
  simp only [State.writeCheck, State.afterKey] at h
  simp [State.discardStaging, State.afterKey, h, hopen, howner]

end Discard

/-! ### Arming (R63, R470) -/

/-- The arming checks look at the configuration, the staging area and the status entries. -/
theorem armingFault_congr {s u : State} (h : u.dict = s.dict) (e : Nat) : u.armingFault e = s.armingFault e := by
  have hreg : u.regStaged e = s.regStaged e := by
    funext k
    simp [State.regStaged, State.regAt, h]
  have hrows : u.stagedRows e = s.stagedRows e := by
    funext tbl
    simp [State.stagedRows, State.rowsAt, h]
  have hplan : u.plan e = s.plan e := by simp [State.plan, State.domain, hreg, hrows, h]
  have hbanks : u.frameBanks = s.frameBanks := by simp [State.frameBanks, State.stat, h]
  rw [State.armingFault, State.armingFault, hplan, hbanks, h]

/-- The idle time of a session restarts whatever the pair's state is. -/
theorem touchSession_setSaddle (s : State) (c : Caller) (x : Saddle) :
    ({ s with saddle := x } : State).touchSession c = { s.touchSession c with saddle := x } := by
  by_cases h : s.sessionLive c s.keyEpoch = true
  · have hx : ({ s with saddle := x } : State).sessionLive c ({ s with saddle := x } : State).keyEpoch = true := h
    rw [State.touchSession, if_pos hx, State.touchSession, if_pos h]
    rfl
  · have hx : ¬ ({ s with saddle := x } : State).sessionLive c ({ s with saddle := x } : State).keyEpoch = true := h
    rw [State.touchSession, if_neg hx, State.touchSession, if_neg h]

/-- What a request carries shows only in the record that goes to the partner (R306). -/
theorem exists_afterKey_outbox (s : State) (c : Caller) (op i j : Nat) (d d' : Bytes) :
    ∃ b, s.afterKey c op i j d' = { s.afterKey c op i j d with
      saddle := { (s.afterKey c op i j d).saddle with outbox := b } } := by
  have hkey : ∃ b, s.keyRequest c op i j d' = { s.keyRequest c op i j d with
      saddle := { (s.keyRequest c op i j d).saddle with outbox := b } } := by
    unfold State.keyRequest State.journalInput
    dsimp only
    split
    · split <;> exact ⟨_, rfl⟩
    · exact ⟨_, rfl⟩
  obtain ⟨b, hb⟩ := hkey
  exact ⟨b, by rw [State.afterKey, State.afterKey, hb, touchSession_setSaddle, State.touchSession_saddle]⟩

/-- The checks of a write do not look at the octets of its record. -/
theorem writeStatus_afterKey_octets (s : State) (c : Caller) (op i j : Nat) (d d' : Bytes) (k idx sub : Nat) (data : Bytes) :
    (s.afterKey c op i j d').writeStatus c k idx sub data = (s.afterKey c op i j d).writeStatus c k idx sub data := by
  obtain ⟨b, hb⟩ := exists_afterKey_outbox s c op i j d d'
  rw [hb]
  unfold State.writeStatus
  rfl

section Arm

variable {s : State} {c : Caller} {data : Bytes}

/-- A commit of mode 0 without an epoch gets the epoch four after its request. -/
theorem commitEpoch_immediate (hmode : s.ownVal c 0x1301 1 = 0) (hepoch : s.ownVal c 0x1301 2 = 0) (k : Nat) :
    s.commitEpoch c k = .ok (k + 4, none) := by
  simp [State.commitEpoch, hmode, hepoch]

/-- What such a commit by the owner of the area does once it has been keyed and its request checked: it is armed, or refused with
what the arming checks find. -/
def State.armedOrRefused (s : State) (c : Caller) (e : Nat) : State :=
  (s.armingFault e).elim (s.armCommit c e none) (fun x => (s.commitResult x.1 x.2).refuse c x.1)

/-- The request is keyed with the caller's mode, epoch and port. -/
def State.commitKeyed (s : State) (c : Caller) (data : Bytes) : State :=
  s.afterKey c 2 0x1301 4 (data ++ (toLE 1 (s.ownVal c 0x1301 1) ++ toLE 8 (s.ownVal c 0x1301 2) ++ toLE 1 (s.ownVal c 0x1301 3)))

/-- Without a boundary to meet, the arming checks are those of R470. -/
theorem commitFault_none (s : State) (c : Caller) (e : Nat) : s.commitFault c e none = s.armingFault e := by
  unfold State.commitFault
  split
  next h => exact h.symm
  next h => exact h.symm

theorem executeCommit_immediate (hopen : s.dict.staging.state = .open_) (howner : s.dict.staging.owner = some c)
    (h : s.writeCheck c 0x1301 4 data = 0) (hmode : s.ownVal c 0x1301 1 = 0) (hepoch : s.ownVal c 0x1301 2 = 0) :
    s.executeCommit c data = (s.commitKeyed c data).armedOrRefused c (s.keyEpoch + 4) := by
  have hstatus : (s.commitKeyed c data).writeStatus c s.keyEpoch 0x1301 4 data = 0 :=
    (writeStatus_afterKey_octets ..).trans h
  have hown (j : Nat) : (s.commitKeyed c data).ownVal c 0x1301 j = s.ownVal c 0x1301 j := by
    simp [State.commitKeyed, State.ownVal]
  have hbusy : (s.commitKeyed c data).stagingBusy c = false := by
    simp [State.commitKeyed, State.stagingBusy, hopen, howner]
  have hcommit := commitEpoch_immediate (s := s.commitKeyed c data) ((hown 1).trans hmode) ((hown 2).trans hepoch) s.keyEpoch
  have hfault := commitFault_none (s.commitKeyed c data) c (s.keyEpoch + 4)
  rw [State.armedOrRefused, ← hfault]
  simp only [State.commitKeyed, State.afterKey] at hstatus hbusy hcommit ⊢
  simp only [State.executeCommit, hstatus, hbusy, hcommit, ne_eq, not_true_eq_false, false_and, if_false, Bool.false_eq_true]
  split
  next h => rw [h, Option.elim]
  next h => rw [h, Option.elim]

/-- An attempt that the arming checks pass arms the area. -/
theorem executeCommit_arms (hopen : s.dict.staging.state = .open_) (howner : s.dict.staging.owner = some c)
    (h : s.writeCheck c 0x1301 4 data = 0) (hmode : s.ownVal c 0x1301 1 = 0) (hepoch : s.ownVal c 0x1301 2 = 0)
    (hfault : s.armingFault (s.keyEpoch + 4) = none) :
    s.executeCommit c data = (s.commitKeyed c data).armCommit c (s.keyEpoch + 4) none := by
  rw [executeCommit_immediate hopen howner h hmode hepoch, State.armedOrRefused,
    armingFault_congr (s := s) (u := s.commitKeyed c data) (afterKey_dict ..), hfault, Option.elim]

/-- An attempt that they do not pass is refused with what they find, which the result entries show. -/
theorem executeCommit_refused {n a : Nat} (hopen : s.dict.staging.state = .open_) (howner : s.dict.staging.owner = some c)
    (h : s.writeCheck c 0x1301 4 data = 0) (hmode : s.ownVal c 0x1301 1 = 0) (hepoch : s.ownVal c 0x1301 2 = 0)
    (hfault : s.armingFault (s.keyEpoch + 4) = some (n, a)) :
    s.executeCommit c data = ((s.commitKeyed c data).commitResult n a).refuse c n := by
  rw [executeCommit_immediate hopen howner h hmode hepoch, State.armedOrRefused,
    armingFault_congr (s := s) (u := s.commitKeyed c data) (afterKey_dict ..), hfault, Option.elim]

end Arm

/-! ### Applying (R64) -/

/-- Lay one difference of a table. -/
def State.layRow (c : Nat) (k : OKey) (s : State) (d : Nat × Nat × Option (List Nat)) : State :=
  s.addRowOp c k.epoch k.src d.1 d.2.1 d.2.2

/-- A fold whose steps change settings and rows only changes nothing else. -/
theorem exists_foldl_laid {α : Type} {g : State → α → State}
    (h : ∀ s x, ∃ l r, g s x = { s with dict := { s.dict with settings := l, rowOps := r } }) (xs : List α) (s : State) :
    ∃ l r, xs.foldl g s = { s with dict := { s.dict with settings := l, rowOps := r } } := by
  induction xs generalizing s with
  | nil => exact ⟨_, _, rfl⟩
  | cons x xs ih =>
    obtain ⟨l, r, hx⟩ := h s x
    obtain ⟨l', r', hxs⟩ := ih (g s x)
    exact ⟨l', r', by rw [List.foldl, hxs, hx]⟩

/-- Laying the staged records over the configuration changes settings and rows only. -/
theorem exists_layStaged (s : State) (c : Nat) (k : OKey) :
    ∃ l r, s.layStaged c k = { s with dict := { s.dict with settings := l, rowOps := r } } := by
  unfold State.layStaged
  extract_lets tables diffs s₁
  obtain ⟨l, r, hvalues⟩ := exists_foldl_laid (g := State.layValue c k)
    (fun s w => by cases w <;> exact ⟨_, _, rfl⟩) s.dict.staging.recs s
  obtain ⟨l', r', hrows⟩ := exists_foldl_laid (g := State.layRow c k) (fun s d => ⟨_, _, rfl⟩) diffs s₁
  exact ⟨l', r', hrows.trans (by rw [show s₁ = _ from hvalues])⟩

/-- The time base and Basin have no part in it. -/
theorem layStaged_beside (s : State) (b : TimeBase) (x : Basin) (c : Nat) (k : OKey) :
    ({ s with time := b, basin := x } : State).layStaged c k = { s.layStaged c k with time := b, basin := x } := by
  unfold State.layStaged
  extract_lets tables diffs s₁ tables' diffs' s₁'
  have hvalues : s₁ = { s₁' with time := b, basin := x } :=
    List.foldl_hom (fun s : State => { s with time := b, basin := x }) (fun s w => by cases w <;> rfl)
  rw [hvalues]
  exact List.foldl_hom (fun s : State => { s with time := b, basin := x }) (g₁ := State.layRow c k) (g₂ := State.layRow c k)
    (fun _ _ => rfl)

/-- What a change leaves in the configuration is the same when time has passed. -/
theorem layStaged_advance_dict (s : State) (t c : Nat) (k : OKey) :
    ((s.advance t).layStaged c k).dict = (s.layStaged c k).dict := by
  unfold State.advance
  dsimp only
  rw [layStaged_beside]

@[simp] theorem configured_overlayPut (s : State) (slot bytes : Nat) (old : Nat → Bool) :
    (s.overlayPut slot bytes old).configured = s.configured := (rfl)
@[simp] theorem configured_overlayRow (s : State) (tbl code pos : Nat) :
    (s.overlayRow tbl code pos).configured = s.configured := by simp [State.overlayRow]
@[simp] theorem configured_overlayRecord (ops : List (Nat × Nat × Nat)) (s : State) (w : StagedWork) :
    (s.overlayRecord ops w).configured = s.configured := by
  unfold State.overlayRecord
  split <;> simp

/-- The staging area after a commit: empty, and the commit counted. -/
def Staging.ended (g : Staging) : Staging :=
  { g with state := .empty, owner := none, recs := [], epoch := 0, gateB := none, applied := (g.applied + 1) % 2 ^ 32 }

/-- The end of a commit empties the staging area and counts the commit. -/
theorem configured_endCommit (s : State) (c : Nat) : (s.endCommit c).configured =
    ((s.dict.settings, s.dict.rowOps, s.dict.staging.ended), s.keys, s.power) := by
  unfold State.endCommit
  extract_lets owner n s₁ dict staging s₂ s₃
  have hthree : s₃.configured = s₂.configured := by simp [s₃]
  exact hthree

/-- A commit whose epoch has come lays the staged records over the configuration, and nothing that follows changes it. -/
theorem configured_commitApply {s laid : State} (harmed : s.dict.staging.state = .armed)
    (hdue : s.dict.staging.epoch ≤ s.keyEpoch) (hlaid : s.layStaged s.dict.staging.epoch s.dict.staging.armed = laid) :
    (commitApply s).configured = ((laid.dict.settings, laid.dict.rowOps, s.dict.staging.ended), s.keys, s.power) := by
  unfold commitApply
  extract_lets g c keys tables ops s₁ old a s₂
  have hone : s₁ = laid := hlaid
  have hkept : laid.dict.staging = s.dict.staging ∧ laid.keys = s.keys ∧ laid.power = s.power := by
    obtain ⟨l, r, h⟩ := exists_layStaged s s.dict.staging.epoch s.dict.staging.armed
    rw [← hlaid, h]
    exact ⟨rfl, rfl, rfl⟩
  obtain ⟨hstaging, hlaidKeys, hlaidPower⟩ := hkept
  have happlied : (s₁.applied a s).configured = laid.configured :=
    (configured_applied a s (by rw [hone, hstaging, harmed]; decide)).trans (congrArg _ hone)
  have htwo : s₂.configured = laid.configured := by simp only [s₂, configured_foldl _ (configured_overlayRecord ops), happlied]
  obtain ⟨hset, hrows, hstage, hkeys, hpower⟩ := configured_eq_iff.mp htwo
  rw [if_pos ⟨harmed, hdue⟩, configured_endCommit, hset, hrows, hstage, hkeys, hpower, hstaging, hlaidKeys, hlaidPower]

/-- Settles O33: of what a commit brings about only the staged records reach the configuration. -/
theorem commitsTakeEffectTogether : Obligations.CommitsTakeEffectTogether := by
  refine ⟨?discard, ?discardOther, ?arm, ?refuse, ?apply, ?early, ?overlay⟩
  case discard =>
    intro s t c hawake hp hopen howner hcheck
    dsimp only [exec, execDiscardStaging]
    refine happenBy_answers rfl hawake hp ?_
    rw [discardStaging_owner (s := s.advance t) hopen howner hcheck]
    refine ⟨acceptWrite_accepted .., ?_⟩
    simp [State.acceptWrite, State.acceptBytes, State.journalChange, State.emptyStaging]
  case discardOther =>
    intro s t c hawake hp hopen howner hcheck
    dsimp only [exec, execDiscardStaging]
    refine happenBy_answers rfl hawake hp ?_
    rw [discardStaging_other (s := s.advance t) hopen howner hcheck]
    refine ⟨replyOf_refuse .., ?_⟩
    obtain ⟨l, r, hrefuse⟩ := exists_refuse ((s.advance t).afterKey c 2 0x1300 1 [1]) c 9
    rw [hrefuse]
    simp
  case arm =>
    intro s t c hawake hp hopen howner hcheck hmode hepoch hfault
    dsimp only [exec, execExecuteCommit]
    refine happenBy_answers rfl hawake hp ?_
    rw [executeCommit_arms (s := s.advance t) hopen howner hcheck hmode hepoch hfault, State.armCommit]
    refine ⟨acceptWrite_accepted .., ?_⟩
    simp [State.acceptWrite, State.acceptBytes, State.journalChange, State.commitResult, State.commitKeyed]
  case refuse =>
    intro s t n a c hawake hp hopen howner hcheck hmode hepoch hfault
    dsimp only [exec, execExecuteCommit]
    refine happenBy_answers rfl hawake hp ?_
    rw [executeCommit_refused (s := s.advance t) hopen howner hcheck hmode hepoch hfault]
    refine ⟨replyOf_refuse .., ?_⟩
    obtain ⟨l, r, hrefuse⟩ := exists_refuse (((s.advance t).commitKeyed c [1]).commitResult n a) c n
    rw [hrefuse]
    simp [State.commitResult, State.commitKeyed]
  case apply =>
    intro s t hawake harmed hdue
    dsimp only [exec, execCommitApply]
    refine happen_answers rfl hawake ?_
    obtain ⟨⟨hset, hrows, hstaging⟩, hkeys, hpower⟩ := by
      simpa only [State.configured, Prod.mk.injEq] using configured_commitApply (s := s.advance t) harmed hdue rfl
    rw [hset, hrows, hstaging, hkeys, hpower]
    have hlaid := layStaged_advance_dict s t s.dict.staging.epoch s.dict.staging.armed
    exact ⟨rfl, rfl, rfl, congrArg _ hlaid, congrArg _ hlaid, rfl, rfl⟩
  case early =>
    intro s t hawake hnot
    dsimp only [exec, execCommitApply]
    refine (happen_awake t true s _ rfl hawake).trans (congrArg _ (if_neg ?_))
    rintro ⟨harmed, hdue⟩
    exact hnot.elim (absurd harmed) (absurd hdue ∘ Nat.not_le.mpr)
  case overlay =>
    intro s t hawake
    rw [exec, execOverlayWriteComplete, happen_awake t true s _ rfl hawake]
    rfl

end Sys2Proof.Machine
end

section
/-! O34: table operations through a caller's view. -/

namespace Sys2Proof.Machine

open Sys2Proof

/-! ### A caller's own values (R58) -/

section Own

variable (s : State) (c : Caller) (tbl : Nat)

theorem ownVal_congr {u : State} (h : u.dict.perIface = s.dict.perIface) (i j : Nat) : u.ownVal c i j = s.ownVal c i j := by
  rw [State.ownVal, State.ownVal, h]

theorem ownVal_setOwn_same (i j v : Nat) : (s.setOwn c i j v).ownVal c i j = v := kget_kput_same ..

theorem ownVal_setOwn_ne {j k : Nat} (v : Nat) (h : k ≠ j) : (s.setOwn c tbl j v).ownVal c tbl k = s.ownVal c tbl k :=
  kget_kput_ne _ _ _ _ _ (by simp only [callerKey, dkey]; omega)

/-- A caller's own value is all that changes. -/
theorem exists_setOwn (i j v : Nat) : ∃ l, s.setOwn c i j v = { s with dict := { s.dict with perIface := l } } := ⟨_, rfl⟩

/-- Filling a view changes its fields only. -/
theorem exists_fillView (vals : List Nat) : ∃ l, s.fillView c tbl vals = { s with dict := { s.dict with perIface := l } } := by
  unfold State.fillView
  induction List.range (lastField tbl - 5) generalizing s with
  | nil => exact ⟨_, rfl⟩
  | cons i is ih =>
    obtain ⟨l, h⟩ := ih (s.setOwn c tbl (6 + i) (nth vals i 0))
    exact ⟨l, by rw [List.foldl, h]; rfl⟩

/-- Showing a row changes the caller's view only. -/
theorem exists_showRow (k pos : Nat) (vals : List Nat) :
    ∃ l, s.showRow c k tbl pos vals = { s with dict := { s.dict with perIface := l } } := by
  unfold State.showRow
  dsimp only
  obtain ⟨l, h⟩ := exists_fillView s c tbl ((List.range (lastField tbl - 5)).map (fun i =>
    if fieldRo tbl (6 + i) then s.rowField k tbl pos (6 + i) (nth vals i 0) else nth vals i 0))
  exact ⟨_, by rw [h]; rfl⟩

/-- The row index of the view is that of the row shown. -/
theorem ownVal_showRow (k pos : Nat) (vals : List Nat) : (s.showRow c k tbl pos vals).ownVal c tbl 5 = pos :=
  ownVal_setOwn_same ..

end Own

/-! ### Taking an operation (R58, R59, R467) -/

section Operation

variable {s : State} {c : Caller} {tbl code : Nat}

@[simp] theorem opKeyed_dict : (s.opKeyed c tbl code).dict = s.dict := afterKey_dict ..

theorem opKeyed_basin : (s.opKeyed c tbl code).basin = s.basin := afterKey_basin ..
theorem opKeyed_narrows : (s.opKeyed c tbl code).narrows = s.narrows := afterKey_narrows ..
theorem opKeyed_keys : (s.opKeyed c tbl code).keys = s.keys := afterKey_keys ..
theorem opKeyed_power : (s.opKeyed c tbl code).power = s.power := afterKey_power ..

/-- The row that the view spells is the same after keying. -/
theorem opRow_opKeyed : rowOfView tbl ((s.opKeyed c tbl code).view c tbl) = s.opRow c tbl := by
  simp [State.opRow, State.view, State.ownVal]

/-- What an operation does once the checks have accepted it. -/
def State.performed (s : State) (c : Caller) (k tbl code : Nat) (vals : List Nat) : State :=
  if !mutates code then s.readOp c k tbl code vals
  else if tbl = 0x4200 then s.vlanOp c k code vals
  else if tbl = 0x4101 then s.fdbOp c k code vals
  else if tbl = 0x6200 then s.sessionOp c k code vals
  else if tbl = 0x8400 then s.freshOp c k vals
  else s.stageOp c k tbl code vals

theorem tableOp_accepted (h : s.opCheck c tbl code = 0) :
    s.tableOp c tbl code = (s.opKeyed c tbl code).performed c s.keyEpoch tbl code (s.opRow c tbl) := by
  have hrow := opRow_opKeyed (s := s) (c := c) (tbl := tbl) (code := code)
  simp only [State.opCheck, State.opKeyed, State.afterKey] at h hrow
  simp only [State.tableOp, State.performed, State.opKeyed, State.afterKey, hrow, h, ne_eq, not_true_eq_false, if_false]

/-- A reading operation. -/
theorem performed_reads {k : Nat} {vals : List Nat} (hread : mutates code = false) :
    s.performed c k tbl code vals = s.readOp c k tbl code vals := by simp [State.performed, hread]

/-- A static table has no operation of its own. -/
theorem performed_static {k : Nat} {vals : List Nat} (hmut : mutates code = true) (hstatic : isDynamic tbl = false) :
    s.performed c k tbl code vals = s.stageOp c k tbl code vals := by
  have hne : tbl ≠ 0x4101 ∧ tbl ≠ 0x4200 ∧ tbl ≠ 0x6200 ∧ tbl ≠ 0x8400 := by simpa [isDynamic] using hstatic
  obtain ⟨hfdb, hvlan, hsession, hfresh⟩ := hne
  simp [State.performed, hmut, hfdb, hvlan, hsession, hfresh]

end Operation

/-! ### Reading operations (R58) -/

section Reading

variable {s : State} {c : Caller} {tbl code k pos : Nat} {vals v : List Nat}

/-- The row that a reading operation finds. -/
def State.foundRow (s : State) (c : Caller) (k tbl code : Nat) (vals : List Nat) : Option (Nat × List Nat) :=
  if code = 1 then s.tableFind k tbl vals
  else if code = 5 then (s.tableAt k tbl (s.ownVal c tbl 5)).map (fun v => (s.ownVal c tbl 5, v))
  else s.tableNext k tbl (s.ownVal c tbl 5)

theorem readOp_found (h : s.foundRow c k tbl code vals = some (pos, v)) :
    s.readOp c k tbl code vals = (s.showRow c k tbl pos v).opAccept c 0 k tbl (some v) (some v) := by
  simp only [State.foundRow] at h
  simp only [State.readOp, h]

theorem readOp_none (h : s.foundRow c k tbl code vals = none) :
    s.readOp c k tbl code vals = s.opReply c tbl (if code = 6 then 0x12 else 0x0F) := by
  simp only [State.foundRow] at h
  simp only [State.readOp, h]

/-- An accepted change leaves a response that waits. -/
theorem acceptBytes_accepted (s : State) (c : Caller) (kind i j : Nat) (old new : Bytes) (value epoch : Nat) :
    (s.acceptBytes c kind i j old new value epoch).accepted c = true := by
  simp [State.acceptBytes, State.accepted]

/-- It changes no caller's own value. -/
theorem ownVal_acceptBytes (s : State) (c : Caller) (kind i j : Nat) (old new : Bytes) (value epoch a b : Nat) :
    (s.acceptBytes c kind i j old new value epoch).ownVal c a b = s.ownVal c a b := ownVal_congr s c rfl a b

/-- An accepted operation leaves a response that waits. -/
theorem opAccept_accepted (s : State) (c : Caller) (kind k tbl : Nat) (old new : Option (List Nat)) :
    (s.opAccept c kind k tbl old new).accepted c = true := by
  rw [State.opAccept]
  exact acceptBytes_accepted ..

/-- What an accepted operation leaves in the caller's view. -/
theorem ownVal_opAccept (s : State) (c : Caller) (kind k tbl : Nat) (old new : Option (List Nat)) (i j : Nat) :
    (s.opAccept c kind k tbl old new).ownVal c i j = (s.setOwn c tbl 2 0).ownVal c i j := by
  rw [State.opAccept]
  exact ownVal_acceptBytes ..

/-- It changes no table, staging area or setting. -/
theorem opAccept_kept (s : State) (c : Caller) (kind k tbl : Nat) (old new : Option (List Nat)) :
    let u := s.opAccept c kind k tbl old new
    u.dict.rowOps = s.dict.rowOps ∧ u.dict.staging = s.dict.staging ∧ u.dict.settings = s.dict.settings ∧
      u.basin = s.basin ∧ u.narrows = s.narrows ∧ u.keys = s.keys ∧ u.power = s.power := by
  obtain ⟨l, h⟩ := exists_setOwn s c tbl 2 0
  rw [State.opAccept, h]
  simp [State.acceptBytes, State.journalChange]

/-- An operation that finds its row is accepted, shows the row's index, and changes no table, staging area or setting. -/
theorem readOp_shows (h : s.foundRow c k tbl code vals = some (pos, v)) :
    let u := s.readOp c k tbl code vals
    u.accepted c = true ∧ u.ownVal c tbl 2 = 0 ∧ u.ownVal c tbl 5 = pos ∧
      u.dict.rowOps = s.dict.rowOps ∧ u.dict.staging = s.dict.staging ∧ u.dict.settings = s.dict.settings ∧
      u.basin = s.basin ∧ u.narrows = s.narrows ∧ u.keys = s.keys ∧ u.power = s.power := by
  rw [readOp_found h]
  refine ⟨opAccept_accepted ..,
    (ownVal_opAccept ..).trans (ownVal_setOwn_same ..), ?_, ?_⟩
  · rw [ownVal_opAccept, ownVal_setOwn_ne _ _ _ _ (by decide), ownVal_showRow]
  obtain ⟨l, hshow⟩ := exists_showRow s c tbl k pos v
  have hkept := opAccept_kept (s.showRow c k tbl pos v) c 0 k tbl (some v) (some v)
  rwa [hshow] at hkept ⊢

/-- An operation answers its status. -/
theorem replyOf_opReply (s : State) (c : Caller) (tbl st : Nat) :
    (s.opReply c tbl st).replyOf c.iface = some ⟨c, st, 0, 0⟩ := replyOf_reply ..

/-- It changes no table, staging area or setting. -/
theorem opReply_kept (s : State) (c : Caller) (tbl st : Nat) :
    let u := s.opReply c tbl st
    u.dict.rowOps = s.dict.rowOps ∧ u.dict.staging = s.dict.staging ∧ u.dict.settings = s.dict.settings := by
  obtain ⟨l, h⟩ := exists_setOwn s c tbl 2 st
  rw [State.opReply, h]
  simp [State.reply]

end Reading

/-- LOOKUP, READ_ROW and NEXT that find their row, with the row's index. -/
theorem readOp_answers {s : State} {c : Caller} {t tbl code pos : Nat} {v : List Nat} (hawake : s.awake = true)
    (htbl : isTable tbl = true) (hp : c.iface ≠ .partner) (hread : mutates code = false)
    (hcheck : (s.advance t).opCheck c tbl code = 0)
    (h : ((s.advance t).opKeyed c tbl code).foundRow c (s.advance t).keyEpoch tbl code (s.opRow c tbl) = some (pos, v)) :
    ∃ u, happenBy c t (isTable tbl) s (fun s => s.tableOp c tbl code) = .next u ∧ u.accepted c = true ∧ u.ownVal c tbl 2 = 0 ∧
      u.ownVal c tbl 5 = pos ∧ u.dict.rowOps = s.dict.rowOps ∧ u.dict.staging = s.dict.staging ∧
      u.dict.settings = s.dict.settings ∧ u.basin = (s.advance t).basin ∧ u.narrows = s.narrows ∧ u.keys = s.keys ∧
      u.power = s.power := by
  refine happenBy_answers htbl hawake hp ?_
  obtain ⟨haccepted, hstatus, hindex, hkept⟩ := readOp_shows h
  rw [tableOp_accepted hcheck, performed_reads hread]
  refine ⟨haccepted, hstatus, hindex, ?_⟩
  rw [opKeyed_dict, opKeyed_basin, opKeyed_narrows, opKeyed_keys, opKeyed_power] at hkept
  exact hkept

/-- Those that find none answer so. -/
theorem readOp_misses {s : State} {c : Caller} {t tbl code : Nat} (hawake : s.awake = true)
    (htbl : isTable tbl = true) (hp : c.iface ≠ .partner) (hread : mutates code = false)
    (hcheck : (s.advance t).opCheck c tbl code = 0)
    (h : ((s.advance t).opKeyed c tbl code).foundRow c (s.advance t).keyEpoch tbl code (s.opRow c tbl) = none) :
    ∃ u, happenBy c t (isTable tbl) s (fun s => s.tableOp c tbl code) = .next u ∧
      u.replyOf c.iface = some ⟨c, if code = 6 then 0x12 else 0x0F, 0, 0⟩ ∧
      u.dict.rowOps = s.dict.rowOps ∧ u.dict.staging = s.dict.staging ∧ u.dict.settings = s.dict.settings := by
  refine happenBy_answers htbl hawake hp ?_
  have hmissed : (s.advance t).tableOp c tbl code = ((s.advance t).opKeyed c tbl code).opReply c tbl (if code = 6 then 0x12 else 0x0F) := by
    rw [tableOp_accepted hcheck, performed_reads hread]
    exact readOp_none h
  rw [hmissed]
  have hkept := opReply_kept ((s.advance t).opKeyed c tbl code) c tbl (if code = 6 then 0x12 else 0x0F)
  rw [opKeyed_dict] at hkept
  exact ⟨replyOf_opReply .., hkept⟩

/-! ### Staged operations (R59) -/

section Staging

variable {s : State} {c : Caller} {tbl code k : Nat} {vals : List Nat}

/-- The key checks look at the rows and the status entries. -/
theorem keyStatus_congr {u : State} (h : u.dict = s.dict) (rows : List (Nat × List Nat)) :
    u.keyStatus tbl code rows vals = s.keyStatus tbl code rows vals := by
  have hstat (i j : Nat) : u.stat i j = s.stat i j := by rw [State.stat, State.stat, h]
  have hfull : u.tableFull tbl rows vals = s.tableFull tbl rows vals := by simp only [State.tableFull, hstat]
  simp only [State.keyStatus, hfull]

theorem stagedRows_congr {u : State} (h : u.dict = s.dict) (e tbl : Nat) : u.stagedRows e tbl = s.stagedRows e tbl := by
  simp [State.stagedRows, State.rowsAt, h]

theorem stagingFull_congr {u : State} (h : u.dict = s.dict) (w : StagedWork) : u.stagingFull w = s.stagingFull w := by
  rw [State.stagingFull, State.stagingFull, State.overlayFree, State.overlayFree, h]

/-- The record of an operation on a table, which for CLEAR holds no row. -/
def opWork (tbl code : Nat) (vals : List Nat) : StagedWork := .rowOp tbl code (if code = 7 then [] else vals)

/-- A record of an operation never replaces another. -/
theorem recs_stage_opWork : (s.stage c (opWork tbl code vals)).dict.staging.recs =
    s.dict.staging.recs ++ [opWork tbl code vals] := by
  have hnone : s.dict.staging.recs.any (fun r => sameSlot (opWork tbl code vals) r) = false := by
    simp [opWork, sameSlot]
  simp [State.stage, hnone]

/-- An operation that the key checks refuse is answered with their status. -/
theorem stageOp_refused (h : s.keyStatus tbl code (s.stagedRows k tbl) vals ≠ 0) :
    s.stageOp c k tbl code vals = s.opReply c tbl (s.keyStatus tbl code (s.stagedRows k tbl) vals) := by
  simp [State.stageOp, h]

/-- An operation with room is staged as the last record and accepted. -/
theorem stageOp_staged (h : s.keyStatus tbl code (s.stagedRows k tbl) vals = 0)
    (hroom : s.stagingFull (opWork tbl code vals) = false) :
    ∃ old new, s.stageOp c k tbl code vals = (s.stage c (opWork tbl code vals)).opAccept c 1 k tbl old new := by
  rw [opWork] at hroom ⊢
  exact ⟨_, _, by simp only [State.stageOp, h, hroom, ne_eq, not_true_eq_false, if_false, Bool.false_eq_true]; rfl⟩

end Staging

/-- INSERT, REPLACE, DELETE and CLEAR of a static table with room are staged as the last record. -/
theorem stageOp_answers {s : State} {c : Caller} {t tbl code : Nat} (hawake : s.awake = true)
    (htbl : isTable tbl = true) (hstatic : isDynamic tbl = false) (hp : c.iface ≠ .partner) (hmut : mutates code = true)
    (hcheck : (s.advance t).opCheck c tbl code = 0)
    (hkey : s.keyStatus tbl code (s.stagedRows (s.advance t).keyEpoch tbl) (s.opRow c tbl) = 0)
    (hroom : s.stagingFull (opWork tbl code (s.opRow c tbl)) = false) :
    ∃ u, happenBy c t (isTable tbl) s (fun s => s.tableOp c tbl code) = .next u ∧ u.accepted c = true ∧
      u.dict.staging.owner = some c ∧ u.dict.staging.recs = s.dict.staging.recs ++ [opWork tbl code (s.opRow c tbl)] ∧
      u.dict.rowOps = s.dict.rowOps ∧ u.dict.settings = s.dict.settings ∧ u.basin = (s.advance t).basin ∧ u.keys = s.keys ∧
      u.power = s.power := by
  refine happenBy_answers htbl hawake hp ?_
  have hdict : ((s.advance t).opKeyed c tbl code).dict = s.dict := opKeyed_dict
  obtain ⟨old, new, hstaged⟩ := stageOp_staged (s := (s.advance t).opKeyed c tbl code) (c := c) (k := (s.advance t).keyEpoch)
    ((keyStatus_congr hdict _).trans (by rw [stagedRows_congr hdict]; exact hkey)) ((stagingFull_congr hdict _).trans hroom)
  have hmade : (s.advance t).tableOp c tbl code = _ :=
    (tableOp_accepted hcheck).trans ((performed_static hmut hstatic).trans hstaged)
  obtain ⟨hrows, hstaging, hset, hbasin, -, hkeys, hpower⟩ := opAccept_kept
    (((s.advance t).opKeyed c tbl code).stage c (opWork tbl code (s.opRow c tbl))) c 1 (s.advance t).keyEpoch tbl old new
  rw [hmade, hrows, hstaging, hset, hbasin, hkeys, hpower, recs_stage_opWork, hdict]
  have hrowOps : ((s.advance t).opKeyed c tbl code).dict.rowOps = s.dict.rowOps := by rw [hdict]
  have hsettings : ((s.advance t).opKeyed c tbl code).dict.settings = s.dict.settings := by rw [hdict]
  exact ⟨opAccept_accepted .., rfl, rfl, hrowOps, hsettings, opKeyed_basin, opKeyed_keys, opKeyed_power⟩

/-- Those that the key checks refuse are answered with their status, and stage nothing. -/
theorem stageOp_refusal {s : State} {c : Caller} {t tbl code n : Nat} (hawake : s.awake = true)
    (htbl : isTable tbl = true) (hstatic : isDynamic tbl = false) (hp : c.iface ≠ .partner) (hmut : mutates code = true)
    (hcheck : (s.advance t).opCheck c tbl code = 0) (hn : n ≠ 0)
    (hkey : s.keyStatus tbl code (s.stagedRows (s.advance t).keyEpoch tbl) (s.opRow c tbl) = n) :
    ∃ u, happenBy c t (isTable tbl) s (fun s => s.tableOp c tbl code) = .next u ∧
      u.replyOf c.iface = some ⟨c, n, 0, 0⟩ ∧ u.dict.staging = s.dict.staging ∧ u.dict.rowOps = s.dict.rowOps := by
  refine happenBy_answers htbl hawake hp ?_
  have hdict : ((s.advance t).opKeyed c tbl code).dict = s.dict := opKeyed_dict
  have hstatus : ((s.advance t).opKeyed c tbl code).keyStatus tbl code
      (((s.advance t).opKeyed c tbl code).stagedRows (s.advance t).keyEpoch tbl) (s.opRow c tbl) = n := by
    rw [keyStatus_congr hdict, stagedRows_congr hdict, hkey]
  have hmade : (s.advance t).tableOp c tbl code = ((s.advance t).opKeyed c tbl code).opReply c tbl n := by
    rw [tableOp_accepted hcheck, performed_static hmut hstatic, ← hstatus]
    exact stageOp_refused (hstatus ▸ hn)
  obtain ⟨hrows, hstaging, -⟩ := opReply_kept ((s.advance t).opKeyed c tbl code) c tbl n
  rw [hmade, hrows, hstaging, hdict]
  exact ⟨replyOf_opReply .., rfl, rfl⟩

/-! ### The VLAN table and the session table (R179, R198) -/

section Dynamic

variable {s : State} {c : Caller} {k : Nat} {vals : List Nat}

/-- A row change that is put stands among the row changes. -/
theorem mem_insertRowOp (x : RowOp) (l : List RowOp) : x ∈ insertRowOp x l := by
  induction l with
  | nil => exact List.mem_cons_self
  | cons y ys ih =>
    unfold insertRowOp
    split
    · exact List.mem_cons_of_mem _ ih
    · exact List.mem_cons_self

/-- Taking an overlay record changes the overlay only. -/
theorem exists_overlayRow (s : State) (tbl code pos : Nat) :
    ∃ l, s.overlayRow tbl code pos = { s with dict := { s.dict with overlay := l } } := by
  unfold State.overlayRow
  split <;> exact ⟨_, rfl⟩

/-- The row change of a VLAN row that is replaced by a request of key epoch `k`. -/
def vlanChange (c : Caller) (k : Nat) (vals : List Nat) : RowOp :=
  ⟨k + 4, k, ifaceSource c.iface, 0x4200, rowSub vals 6, some vals⟩

/-- The state in which it has been put, with its overlay record. -/
def State.vlanReplaced (s : State) (c : Caller) (k : Nat) (vals : List Nat) : State :=
  (s.addRowOp (k + 4) k (ifaceSource c.iface) 0x4200 (rowSub vals 6) (some vals)).overlayRow 0x4200 3 (rowSub vals 6)

theorem vlanReplaced_spec (s : State) (c : Caller) (k : Nat) (vals : List Nat) :
    let u := s.vlanReplaced c k vals
    vlanChange c k vals ∈ u.dict.rowOps ∧ u.dict.staging = s.dict.staging ∧ u.dict.settings = s.dict.settings ∧
      u.basin = s.basin ∧ u.keys = s.keys ∧ u.power = s.power := by
  obtain ⟨l, h⟩ := exists_overlayRow
    (s.addRowOp (k + 4) k (ifaceSource c.iface) 0x4200 (rowSub vals 6) (some vals)) 0x4200 3 (rowSub vals 6)
  rw [State.vlanReplaced, h]
  exact ⟨mem_insertRowOp _ _, rfl, rfl, rfl, rfl, rfl⟩

/-- REPLACE of a VLAN row with room in the overlay puts a row change of epoch k + 4. -/
theorem vlanOp_replaces (hkey : s.keyStatus 0x4200 3 (s.rowsAt (k + 4) 0x4200) vals = 0)
    (hroom : overlayBytes (rowBytes 0x4200) ≤ s.overlayFree) :
    ∃ old new, s.vlanOp c k 3 vals = (s.vlanReplaced c k vals).opAccept c 0 k 0x4200 old new := by
  have hfree : ¬ s.overlayFree < overlayBytes (rowBytes 0x4200) := Nat.not_lt.mpr hroom
  have hreplace : ¬ (3 : Nat) = 7 ∧ ¬ (3 : Nat) = 4 := by decide
  obtain ⟨hclear, hdelete⟩ := hreplace
  exact ⟨_, _, by simp only [State.vlanOp, hkey, hfree, hclear, hdelete, ne_eq, not_true_eq_false, if_false]; rfl⟩

/-- Every session still visible is gone from an epoch on. -/
def State.hideSessions (s : State) (e : Nat) : State :=
  { s with narrows := { s.narrows with
    sessions := s.narrows.sessions.map (fun x => if x.2.gone.isNone then (x.1, { x.2 with gone := some e }) else x) } }

/-- CLEAR of the session table hides every session from epoch k + 4 on. -/
theorem sessionOp_clears : s.sessionOp c k 7 vals = (s.hideSessions (k + 4)).opAccept c 0 k 0x6200 none none := by
  simp [State.sessionOp, State.hideSessions]

end Dynamic

/-- Settles O34. -/
theorem tablesThroughTheirViews : Obligations.TablesThroughTheirViews := by
  refine ⟨?lookup, ?readRow, ?next, ?lookupNone, ?nextNone, ?insert, ?replace, ?delete, ?clear, ?insertTwin, ?deleteNone,
    ?vlan, ?sessions⟩
  case lookup =>
    intro s t tbl pos v c hawake htbl hp _ hcheck hfind
    exact readOp_answers hawake htbl hp rfl hcheck ((if_pos rfl).trans hfind)
  case readRow =>
    intro s t tbl v c hawake htbl hp _ hcheck hrow
    have hown : ((s.advance t).opKeyed c tbl 5).ownVal c tbl 5 = s.ownVal c tbl 5 := ownVal_congr s c (by simp) tbl 5
    refine readOp_answers (v := v) hawake htbl hp rfl hcheck ?_
    simp only [State.foundRow, hown, hrow, Option.map]
    rfl
  case next =>
    intro s t tbl pos v c hawake htbl hp _ hcheck hnext
    have hown : ((s.advance t).opKeyed c tbl 6).ownVal c tbl 5 = s.ownVal c tbl 5 := ownVal_congr s c (by simp) tbl 5
    refine readOp_answers (v := v) hawake htbl hp rfl hcheck ?_
    simp only [State.foundRow, hown, hnext]
    rfl
  case lookupNone =>
    intro s t tbl c hawake htbl hp hcheck hnone
    exact readOp_misses hawake htbl hp rfl hcheck ((if_pos rfl).trans hnone)
  case nextNone =>
    intro s t tbl c hawake htbl hp hcheck hnone
    have hown : ((s.advance t).opKeyed c tbl 6).ownVal c tbl 5 = s.ownVal c tbl 5 := ownVal_congr s c (by simp) tbl 5
    refine readOp_misses hawake htbl hp rfl hcheck ?_
    simp only [State.foundRow, hown, hnone]
    rfl
  case insert =>
    intro s t tbl c hawake htbl hstatic hp hcheck hnew hspace hroom
    exact stageOp_answers hawake htbl hstatic hp rfl hcheck (by simp [State.keyStatus, hnew, hspace]) hroom
  case replace =>
    intro s t tbl p c hawake htbl hstatic hp hcheck hhere hroom
    exact stageOp_answers hawake htbl hstatic hp rfl hcheck (by simp [State.keyStatus, hhere]) hroom
  case delete =>
    intro s t tbl p c hawake htbl hstatic hp hcheck hhere hroom
    exact stageOp_answers hawake htbl hstatic hp rfl hcheck (by simp [State.keyStatus, hhere]) hroom
  case clear =>
    intro s t tbl c hawake htbl hstatic hp hcheck hroom
    exact stageOp_answers hawake htbl hstatic hp rfl hcheck (by simp [State.keyStatus]) hroom
  case insertTwin =>
    intro s t tbl p c hawake htbl hstatic hp hcheck hhere
    exact stageOp_refusal hawake htbl hstatic hp rfl hcheck (by decide) (by simp [State.keyStatus, hhere])
  case deleteNone =>
    intro s t tbl c hawake htbl hstatic hp hcheck hgone
    exact stageOp_refusal hawake htbl hstatic hp rfl hcheck (by decide) (by simp [State.keyStatus, hgone])
  case vlan =>
    intro s t c hawake hp hcheck hroom hkey
    dsimp only [exec, execReplace]
    refine happenBy_answers rfl hawake hp ?_
    have hdict : ((s.advance t).opKeyed c 0x4200 3).dict = s.dict := opKeyed_dict
    obtain ⟨old, new, hreplaced⟩ := vlanOp_replaces (s := (s.advance t).opKeyed c 0x4200 3) (c := c) (k := (s.advance t).keyEpoch)
      (vals := s.opRow c 0x4200) ((keyStatus_congr hdict _).trans (by simpa [State.rowsAt] using hkey))
      (by simpa [State.overlayFree] using hroom)
    have hmade : (s.advance t).tableOp c 0x4200 3 = _ := (tableOp_accepted hcheck).trans hreplaced
    rw [hmade]
    obtain ⟨hrows, hstaging, hset, hbasin, -, hkeys, hpower⟩ := opAccept_kept
      (State.vlanReplaced ((s.advance t).opKeyed c 0x4200 3) c (s.advance t).keyEpoch (s.opRow c 0x4200)) c 0
      (s.advance t).keyEpoch 0x4200 old new
    obtain ⟨hmem, hstaging', hset', hbasin', hkeys', hpower'⟩ := vlanReplaced_spec ((s.advance t).opKeyed c 0x4200 3) c
      (s.advance t).keyEpoch (s.opRow c 0x4200)
    rw [hrows, hstaging, hset, hbasin, hkeys, hpower, hstaging', hset', hbasin', hkeys', hpower', hdict]
    exact ⟨opAccept_accepted .., hmem, rfl, rfl, opKeyed_basin, opKeyed_keys, opKeyed_power⟩
  case sessions =>
    intro s t c hawake hp hcheck
    dsimp only [exec, execClear]
    refine happenBy_answers rfl hawake hp ?_
    have hdict : ((s.advance t).opKeyed c 0x6200 7).dict = s.dict := opKeyed_dict
    have hnarrows : ((s.advance t).opKeyed c 0x6200 7).narrows = s.narrows := opKeyed_narrows
    have hmade : (s.advance t).tableOp c 0x6200 7 = _ :=
      (tableOp_accepted hcheck).trans (sessionOp_clears (vals := (s.advance t).opRow c 0x6200))
    obtain ⟨hrows, hstaging, -, hbasin, hhidden, hkeys, hpower⟩ := opAccept_kept
      (((s.advance t).opKeyed c 0x6200 7).hideSessions ((s.advance t).keyEpoch + 4)) c 0 (s.advance t).keyEpoch 0x6200 none none
    rw [hmade, hrows, hstaging, hbasin, hhidden, hkeys, hpower]
    simp only [State.hideSessions, hdict, hnarrows]
    exact ⟨opAccept_accepted .., trivial, trivial, trivial, trivial, opKeyed_basin, opKeyed_keys, opKeyed_power⟩

end Sys2Proof.Machine
end

section
/-! O35: management sessions open and close. -/

namespace Sys2Proof.Machine

open Sys2Proof

/-! ### Session slots (R72) -/

section Slots

variable {s : State} {n m : Nat} {f : Session → Session}

theorem session_congr {u : State} (h : u.access.sessions = s.access.sessions) (n : Nat) : u.session n = s.session n := by
  rw [State.session, State.session, h]

/-- A change of a session slot is seen there. -/
theorem session_modSession_same (hlo : 1 ≤ n) (hhi : n ≤ 8) (h : s.access.sessions.length = 8) :
    (s.modSession n f).session n = f (s.session n) := by
  have hn : n ≠ 0 := by omega
  simp only [State.session, State.modSession, if_neg hn]
  exact nth_modNth_same _ _ _ _ (by omega)

/-- It is seen in no other slot. -/
theorem session_modSession_ne (hm : 1 ≤ m) (h : m ≠ n) : (s.modSession n f).session m = s.session m := by
  unfold State.session State.modSession
  dsimp only
  split
  · rfl
  · exact nth_modNth_ne _ _ _ _ _ (by omega)

/-- The lowest free session is one of the eight. -/
theorem freeSession_range (h : s.freeSession = some n) : 1 ≤ n ∧ n ≤ 8 := by
  obtain ⟨i, hi, rfl⟩ := List.mem_map.mp (List.mem_of_find?_eq_some h)
  have := List.mem_range.mp hi
  omega

/-- A request by an open session touches no other session. -/
theorem session_touchSession_ne {c : Caller} (hm : 1 ≤ m) (h : m ≠ c.session) :
    (s.touchSession c).session m = s.session m := by
  unfold State.touchSession
  split
  · exact session_modSession_ne hm h
  · rfl

/-- It opens and closes none. -/
theorem state_touchSession {c : Caller} (hlo : 1 ≤ n) (hhi : n ≤ 8) (h : s.access.sessions.length = 8) :
    ((s.touchSession c).session n).state = (s.session n).state := by
  by_cases hn : n = c.session
  · subst hn
    unfold State.touchSession
    split
    · rw [session_modSession_same hlo hhi h]
    · rfl
  · rw [session_touchSession_ne hlo hn]

/-- A request without session touches none. -/
theorem touchSession_none {c : Caller} (h : c.session = 0) : s.touchSession c = s := by
  unfold State.touchSession
  rw [if_neg]
  simp [State.sessionLive, h]

theorem length_touchSession (c : Caller) : (s.touchSession c).access.sessions.length = s.access.sessions.length := by
  unfold State.touchSession State.modSession
  split
  · dsimp only
    split
    · rfl
    · exact modNth_length _ _ _
  · rfl

end Slots

/-! ### The end of a session (R62, R73) -/

section End

variable {s : State} {n m : Nat}

/-- A session that ends leaves the slots to the session table, and its domain writes and staging area are discarded. -/
theorem exists_endSession (s : State) (n : Nat) : ∃ g, s.endSession n =
    { s.modSession n (fun _ => Session.free) with dict := { s.dict with
      domWrites := s.dict.domWrites.filter (fun w => decide (w.caller.session ≠ n)), staging := g } } := by
  unfold State.endSession State.discardOf
  split
  · split
    · exact ⟨_, rfl⟩
    · exact ⟨_, rfl⟩
  · exact ⟨_, rfl⟩

theorem session_endSession (m : Nat) : (s.endSession n).session m = (s.modSession n (fun _ => Session.free)).session m := by
  obtain ⟨g, h⟩ := exists_endSession s n
  rw [h]
  rfl

theorem session_endSession_same (hlo : 1 ≤ n) (hhi : n ≤ 8) (h : s.access.sessions.length = 8) :
    (s.endSession n).session n = Session.free := (session_endSession n).trans (session_modSession_same hlo hhi h)

theorem session_endSession_ne (hm : 1 ≤ m) (h : m ≠ n) : (s.endSession n).session m = s.session m :=
  (session_endSession m).trans (session_modSession_ne hm h)

end End

/-! ### Opening over PCIe (R72, R471) -/

section Open

variable {s : State} {slot n : Nat} {nonce : Bytes}

/-- An open request with a usable slot and a free session is challenged. -/
theorem hostOpen_challenged (hnonce : nonce.length = 16) (hslot : s.slotUsable slot 0 0 = true) (hfree : s.freeSession = some n) :
    let u := s.keyHost.challenge n true slot 0 0 (beNat nonce) 0
    s.hostOpen slot nonce = u.reply ⟨.host, n⟩ 0 (leNat (toBE 16 (u.session n).nd)) 16 := by
  have hstatus : s.keyHost.openStatus slot = 0 := by
    have hfree' : s.keyHost.freeSession = some n := hfree
    have hslot' : s.keyHost.slotUsable slot 0 0 = true := hslot
    simp [State.openStatus, hfree', hslot']
  have hfree' : s.keyHost.freeSession = some n := hfree
  simp [State.hostOpen, hnonce, hstatus, hfree']

/-- With no session free it is refused. -/
theorem hostOpen_full (hnonce : nonce.length = 16) (hslot : s.slotUsable slot 0 0 = true) (hfree : s.freeSession = none) :
    s.hostOpen slot nonce = s.keyHost.reply ⟨.host, 0⟩ 9 0 0 := by
  have hfree' : s.keyHost.freeSession = none := hfree
  have hstatus : s.keyHost.openStatus slot = 9 := by
    have hslot' : s.keyHost.slotUsable slot 0 0 = true := hslot
    simp [State.openStatus, hfree', hslot']
  simp [State.hostOpen, hnonce, hstatus]

/-- A proof that is expected, in time, opens the session. -/
theorem hostProof_opens (hlo : 1 ≤ n) (hhi : n ≤ 8) (hstate : (s.session n).state = 1) (hhost : (s.session n).host = true)
    (hdue : s.time.orderNs ≤ (s.session n).dueNs) (hslot : s.slotUsable (s.session n).slot 0 0 = true) :
    s.hostProof n (s.expectedProof n) = (s.keyHost.openSession n).reply ⟨.host, n⟩ 0 (s.reg 0x1020 2) 4 := by
  have hok : s.proofOk n true (s.expectedProof n) = true := by simp [State.proofOk, hstate, hhost, hdue, hslot]
  have hkeyedOk : s.keyHost.proofOk n true (s.expectedProof n) = true := hok
  have hwaits : ¬ (n = 0 ∨ 8 < n ∨ (s.keyHost.session n).state ≠ 1 ∨ (!(s.keyHost.session n).host) = true) := by
    have hkeyed : s.keyHost.session n = s.session n := rfl
    rw [hkeyed, hstate, hhost]
    simp
    omega
  unfold State.hostProof
  exact (if_neg hwaits).trans (if_pos hkeyedOk)

/-- A proof for what is no session waiting for one is refused. -/
theorem hostProof_none {mac : Bytes} (h : n = 0 ∨ 8 < n ∨ (s.session n).state ≠ 1) :
    s.hostProof n mac = s.keyHost.reply ⟨.host, n⟩ 7 0 0 := by
  unfold State.hostProof
  exact if_pos (by tauto)

end Open

/-! ### Closing (R73, R440, R471) -/

section Close

variable {s : State} {c : Caller} {n : Nat}

/-- A session that is live is one of the eight. -/
theorem sessionLive_range {k : Nat} (h : s.sessionLive c k = true) : 1 ≤ c.session ∧ c.session ≤ 8 := by
  simp only [State.sessionLive, Bool.and_eq_true, decide_eq_true_eq] at h
  exact ⟨h.1.1.1.1, h.1.1.1.2⟩

/-- The caller's live session closes after its response. -/
theorem closeOwn_live (h : s.sessionLive c s.keyEpoch = true) :
    s.closeOwn c = (((s.issueKey (ifaceSource c.iface)).touchSession c).reply c 0 0 0).endSession c.session := by
  have hkeyed : (s.issueKey (ifaceSource c.iface)).sessionLive c s.keyEpoch = true := h
  simp only [State.closeOwn, hkeyed, if_true]

/-- The close command of a session is a write-only entry. -/
theorem entryDef_closeSession : ∃ e, entryDef 0x1020 6 = some e ∧ e.perIface = false ∧ e.acc = .wo := by
  have hfound : (entryDef 0x1020 6).map (fun e => (e.perIface, e.acc)) = some (false, .wo) := by decide +kernel
  obtain ⟨e, he, hkind⟩ := Option.map_eq_some_iff.mp hfound
  exact ⟨e, he, Prod.mk.inj hkind⟩

/-- A session number is written as an octet. -/
theorem leNat_octet (hn : n ≤ 8) : leNat (toLE 1 n) = n := by
  interval_cases n <;> rfl

/-- A named session in use closes. -/
theorem closeNamed_used (hlo : 1 ≤ n) (hhi : n ≤ 8) (hlen : s.access.sessions.length = 8)
    (h : s.writeCheck c 0x1020 6 (toLE 1 n) = 0) (hused : (s.session n).state ≠ 0) :
    s.closeNamed c n = (s.commanded c 0x1020 6 (toLE 1 n)).endSession n := by
  obtain ⟨e, he, hwo⟩ := entryDef_closeSession
  have hstate : ((s.afterKey c 2 0x1020 6 (toLE 1 n)).session n).state = (s.session n).state := by
    rw [State.afterKey, state_touchSession hlo hhi (by rw [State.keyRequest_access, hlen])]
    rw [session_congr (s := s) (by rw [State.keyRequest_access])]
  rw [State.closeNamed, dictWrite_command he hwo h, leNat_octet hhi]
  rw [leNat_octet hhi, hstate, if_neg hused]

/-- Ending a session leaves responses waiting. -/
theorem accepted_endSession (n : Nat) : (s.endSession n).accepted c = s.accepted c := by
  obtain ⟨g, h⟩ := exists_endSession s n
  rw [h]
  rfl

/-- A command touches no session but the caller's. -/
theorem session_commanded_ne {i j m : Nat} {data : Bytes} (hm : 1 ≤ m) (h : m ≠ c.session) :
    (s.commanded c i j data).session m = s.session m := by
  have hkeyed : (s.commanded c i j data).session m = (s.afterKey c 2 i j data).session m := rfl
  rw [hkeyed, State.afterKey, session_touchSession_ne hm h]
  exact session_congr (by rw [State.keyRequest_access]) m



/-- A probe without session is answered, and changes no session. -/
theorem nop_unnamed (h : c.session = 0) : s.nop c = (s.issueKey (ifaceSource c.iface)).reply c 0 0 0 := by
  simp [State.nop, h, touchSession_none h]

end Close

/-- Settles O35. -/
theorem sessionsOpenAndClose : Obligations.SessionsOpenAndClose := by
  refine ⟨?opened, ?full, ?proved, ?unproved, ?closed, ?probed, ?named, ?idle, ?overdue, ?lockout⟩
  case opened =>
    intro s t slot n nonce hawake hnonce hlen hslot hfree
    dsimp only [exec, execSessionOpen]
    refine happen_answers rfl hawake ?_
    obtain ⟨hlo, hhi⟩ := freeSession_range hfree
    rw [hostOpen_challenged (s := s.advance t) hnonce hslot hfree]
    have hopened : ((s.advance t).keyHost.challenge n true slot 0 0 (beNat nonce) 0).session n =
        ⟨1, true, slot, 0, 0, (s.advance t).time.orderNs, 0, beNat nonce, s.random % 2 ^ 128,
          (s.advance t).time.orderNs + 1000000000, 0, 1, 0⟩ := session_modSession_same hlo hhi hlen
    refine ⟨hopened, fun m hm hlo => session_modSession_ne hlo hm, rfl, ?_, rfl, rfl, rfl, rfl⟩
    rw [hopened]
    exact replyOf_reply ..
  case full =>
    intro s t slot nonce hawake hnonce hslot hfree
    dsimp only [exec, execSessionOpen]
    refine happen_answers rfl hawake ?_
    rw [hostOpen_full (s := s.advance t) hnonce hslot hfree]
    exact ⟨replyOf_reply .., rfl, rfl⟩
  case proved =>
    intro s t n hawake hlo hhi hlen hstate hhost hdue hslot
    dsimp only [exec, execSessionProof]
    refine happen_answers rfl hawake ?_
    have hopens : (s.advance t).hostProof n (s.expectedProof n) = _ := hostProof_opens hlo hhi hstate hhost hdue hslot
    rw [hopens]
    exact ⟨session_modSession_same hlo hhi hlen, fun m hm hlo => session_modSession_ne hlo hm, replyOf_reply .., rfl, rfl, rfl,
      rfl⟩
  case unproved =>
    intro s t n mac hawake hnone
    dsimp only [exec, execSessionProof]
    refine happen_answers rfl hawake ?_
    rw [hostProof_none (s := s.advance t) hnone]
    exact ⟨replyOf_reply .., rfl, rfl, rfl, rfl⟩
  case closed =>
    intro s t c hawake hp hlen hlive
    dsimp only [exec, execSessionClose]
    refine happenBy_answers rfl hawake hp ?_
    obtain ⟨hlo, hhi⟩ := sessionLive_range hlive
    rw [closeOwn_live hlive]
    obtain ⟨g, hends⟩ := exists_endSession ((((s.advance t).issueKey (ifaceSource c.iface)).touchSession c).reply c 0 0 0) c.session
    refine ⟨?_, session_endSession_same hlo hhi ?_, fun m hm hlo => ?_, ?_⟩
    · rw [hends]
      exact replyOf_reply ..
    · exact (length_touchSession c).trans hlen
    · rw [session_endSession_ne hlo hm]
      exact session_touchSession_ne hlo hm
    · rw [hends]
      simp [State.reply, State.issueKey]
  case probed =>
    intro s t c hawake hp hnone
    dsimp only [exec, execNop]
    refine happenBy_answers rfl hawake hp ?_
    rw [nop_unnamed hnone]
    exact ⟨replyOf_reply .., rfl, rfl, rfl, rfl, rfl, rfl⟩
  case named =>
    intro s t n c hawake hp hlo hhi hlen hcheck hused
    dsimp only [exec, execCloseSession]
    refine happenBy_answers rfl hawake hp ?_
    rw [closeNamed_used (s := s.advance t) hlo hhi hlen hcheck hused]
    obtain ⟨g, hends⟩ := exists_endSession ((s.advance t).commanded c 0x1020 6 (toLE 1 n)) n
    refine ⟨session_endSession_same hlo hhi ?_, ?_, fun m hm hother hlo => ?_, ?_⟩
    · exact (length_touchSession c).trans (by rw [State.keyRequest_access]; exact hlen)
    · rw [accepted_endSession, accepted_commanded]
    · rw [session_endSession_ne hlo hm, session_commanded_ne hlo hother]
      rfl
    · rw [hends]
      simp [State.commanded, State.acceptWrite, State.acceptBytes, State.journalChange]
  case idle =>
    intro s t n hawake hlo hhi hlen hopen hidle
    dsimp only [exec, execSessionIdleTimeout]
    refine happen_answers (by simp [hlo, hhi]) hawake ?_
    have hended : (s.advance t).closeIdle n = (s.advance t).endSession n := by
      have hstate : ((s.advance t).session n).state = 2 := hopen
      have hlate : ((s.advance t).session n).idleNs + (s.advance t).reg 0x1020 2 * 1000000 < (s.advance t).time.orderNs := hidle
      simp [State.closeIdle, State.sessionIdle, hstate, hlate]
    rw [hended]
    obtain ⟨g, hends⟩ := exists_endSession (s.advance t) n
    refine ⟨session_endSession_same hlo hhi hlen, fun m hm hlo => session_endSession_ne hlo hm, ?_⟩
    rw [hends]
    exact ⟨rfl, rfl, rfl⟩
  case overdue =>
    intro s t n hawake hlo hhi hlen hstate hdue
    dsimp only [exec, execOpenProofTimeout]
    refine happen_answers (by simp [hlo, hhi]) hawake ?_
    have hexpired : ((s.advance t).session n).state = 1 ∧ ((s.advance t).session n).dueNs < (s.advance t).time.orderNs :=
      ⟨hstate, hdue⟩
    rw [if_pos hexpired]
    exact ⟨session_modSession_same hlo hhi hlen, fun m hm hlo => session_modSession_ne hlo hm, rfl⟩
  case lockout =>
    intro s t e hawake hlockout hdue
    rw [exec, execDapLockoutEnd, happen_awake t true s _ rfl hawake]
    have hlocked : (s.advance t).access.lockout = some e := hlockout
    simp only [dapLockoutEnd, hlocked, if_pos hdue]
    rfl

end Sys2Proof.Machine
end

section
/-! O36: a session whose timeout is zero ends by the very request that it makes. -/

namespace Sys2Proof.Machine

open Sys2Proof

/-- The device in RUN, else as after reset, with a session timeout of 0 ms, and session 1 open for a peer until 64 ns. -/
def expiringState : State :=
  { State.reset with
    power := { Power.reset with phase := .run },
    dict := { State.reset.dict with settings := [⟨0, 0, 0, dkey 0x1020 2, 0⟩] },
    access := { State.reset.access with
      sessions := ⟨2, false, 5, 9, 99, 64, 0, 1, 2, 0, 0, 1, 3⟩ :: List.replicate 7 Session.free } }

/-- The peer's request of one NOP record. -/
def probeDatagram : DapDatagram := ⟨0x4F56, 1, 1, 1, 8, 100, 9, 99, true, recordBytes ⟨8, 7, 0, 0, 0, 0, [], 0⟩ 0 0 []⟩

/-- A datagram at the DAP port. -/
theorem exec_dapRequest (s : State) (t : Nat) (d : DapDatagram) (hawake : s.awake = true) :
    exec (.dapRequest t d) s = .next ((s.advance t).dapReceive d) := by
  rw [exec, execDapRequest]
  exact happen_awake _ _ _ _ rfl hawake

/-- The request restarts the session's idle time at 9 ns, and with no timeout the session has ended at the next epoch boundary,
32 ns, of which its record is: it is answered with status 7 (R441). -/
theorem dapOut_expiring : ((expiringState.advance 9).dapReceive probeDatagram).access.dapOut =
    [⟨2, 1, 3, recordBytes ⟨8, 7, 0, 0, 0, 0, [], 0⟩ 7 0 []⟩] := by
  decide +kernel

/-- Refutes O36, in clause (4): the record of a request in a live session need not be answered with status 0. The clause speaks of
every state, and so also of one without timeout whose session was last used later than now. -/
theorem not_managementOverEthernet : ¬ Obligations.ManagementOverEthernet := by
  unfold Obligations.ManagementOverEthernet
  rintro ⟨-, -, -, hrequest, -⟩
  have hawake : expiringState.awake = true := by decide +kernel
  obtain ⟨u, hu, hout, -⟩ := hrequest expiringState 9 1 7 probeDatagram hawake rfl rfl rfl (by decide) rfl (by decide +kernel)
    (by decide +kernel) rfl (by decide) (by decide +kernel) rfl (by decide +kernel)
  rw [exec_dapRequest _ _ _ hawake] at hu
  obtain rfl := Host.Outcome.next.inj hu
  rw [dapOut_expiring] at hout
  exact absurd hout (by decide +kernel)

end Sys2Proof.Machine
end

section
/-! O37: SDO frames over CAN, their timeout, and the partner's requests. -/

namespace Sys2Proof.Machine

open Sys2Proof

/-! ### Responses that wait for nothing (R56) -/

/-- A response goes out at once when it waits for no write and for no earlier response of its interface. -/
theorem respond_now {s : State} {c : Caller} {carry : Carry} (h : s.waitsOn c.iface = false) :
    s.respond c none carry = s.emit ⟨c, 0, 0, carry⟩ := by
  simp [State.respond, h]

/-- A member that follows no partner sends its SDO frames. -/
theorem sendSdo_now {s : State} {frame : Bytes} (hleads : s.follows = false) (h : s.waitsOn .can = false) :
    s.sendSdo none frame = { s with access := { s.access with sdoOut := s.access.sdoOut ++ [frame] } } := by
  rw [State.sendSdo, respond_now h, State.emit]
  simp [hleads]

/-- An abort ends the open transfer and is sent. -/
theorem abortSdo_now {s : State} {idx sub code : Nat} (hleads : s.follows = false) (h : s.waitsOn .can = false) :
    s.abortSdo idx sub code =
      { s with access := { s.access with sdo := none, sdoOut := s.access.sdoOut ++ [abortFrame idx sub code] } } :=
  sendSdo_now (s := s.setSdo none) hleads h

/-! ### Frames (R75) -/

section Frames

variable {s : State} {f : Bytes}

/-- A segment without an open transfer is aborted. -/
theorem sdoFrame_stray (hsegment : byteAt f 0 / 32 = 0) (hnone : s.access.sdo = none) :
    s.sdoFrame f = s.abortSdo (leAt f 1 2) (byteAt f 3) 0x05040001 := by
  simp [State.sdoFrame, hsegment, hnone]

/-- The first frame of a segmented download opens a transfer and is confirmed. -/
theorem sdoFrame_download (hfirst : byteAt f 0 = 0x21) : s.sdoFrame f =
    (s.setSdo (some ⟨true, leAt f 1 2, byteAt f 3, [], 0, false, s.time.orderNs⟩)).sendSdo none
      (toLE 1 0x60 ++ slice f 1 3 ++ List.replicate 4 0) := by
  have hsegmented : bitOf 0x21 1 = false := by decide
  simp [State.sdoFrame, State.sdoDownload, hfirst, hsegmented]
  rfl

end Frames

/-! ### Messages of the link (R345) -/

/-- Taking an element that is there leaves a list shorter by one. -/
theorem takeFirst_length {α : Type} {p : α → Bool} {l : List α} (h : ∃ x ∈ l, p x = true) :
    ∃ y rest, takeFirst p l = some (y, rest) ∧ rest.length + 1 = l.length := by
  induction l with
  | nil => simp at h
  | cons x xs ih =>
    by_cases hx : p x = true
    · exact ⟨x, xs, if_pos hx, rfl⟩
    · obtain ⟨y, hmem, hy⟩ := h
      have htail : ∃ y ∈ xs, p y = true := ⟨y, (List.mem_cons.mp hmem).resolve_left (fun e => hx (e ▸ hy)), hy⟩
      obtain ⟨z, rest, htake, hlen⟩ := ih htail
      exact ⟨z, x :: rest, by rw [takeFirst, if_neg hx, htake], by simp [hlen]⟩

/-- A message that was received is consumed. -/
theorem exists_consume {s : State} {m : LinkMsg} (h : m ∈ s.elnar.received) :
    ∃ rest, s.consume m.cls m.kind m.body = { s with elnar := { s.elnar with received := rest } } ∧
      rest.length + 1 = s.elnar.received.length := by
  obtain ⟨y, rest, htake, hlen⟩ := takeFirst_length (p := fun (x : LinkMsg) => decide (x.cls = m.cls) &&
    decide (x.kind = m.kind) && decide (x.body = m.body)) ⟨m, h, by simp⟩
  exact ⟨rest, by rw [State.consume, htake], hlen⟩

/-- What a message adds to the classes depends on the classes and on whether the link is in SYNC. -/
theorem classes_sendMsg_congr {s u : State} (hclasses : u.elnar.classes = s.elnar.classes) (hsync : u.linkSync = s.linkSync)
    (cls kind flags : Nat) (body : Bytes) :
    (u.sendMsg cls kind flags body).elnar.classes = (s.sendMsg cls kind flags body).elnar.classes := by
  unfold State.sendMsg
  rw [hsync]
  split
  · simp only [State.modClass, hclasses]
  · exact hclasses

/-- A message changes the classes only. -/
theorem exists_sendMsg (s : State) (cls kind flags : Nat) (body : Bytes) :
    ∃ l, s.sendMsg cls kind flags body = { s with elnar := { s.elnar with classes := l } } := by
  unfold State.sendMsg
  split <;> exact ⟨_, rfl⟩

/-! ### Operations of a caller without session (R68, R77) -/

/-- An operation that leaves a reply and no response waiting gives the reply. -/
theorem runOp_replies {s v : State} {c : Caller} {f : State → State} {st value len : Nat}
    (h : f (s.forgetReply c.iface) = v.reply c st value len) (hw : v.dict.awaiting = s.dict.awaiting) :
    s.runOp c f = ((v.reply c st value len).forgetReply c.iface, ⟨c, st, value, len, none⟩) := by
  have hfind := replyOf_reply v c st value len
  unfold State.replyOf at hfind
  have hdrop : (v.reply c st value len).dict.awaiting.drop (s.forgetReply c.iface).dict.awaiting.length = [] := by
    rw [show (v.reply c st value len).dict.awaiting = s.dict.awaiting from hw]
    exact List.drop_length ..
  unfold State.runOp
  dsimp only
  rw [h, hdrop, hfind]

/-- A probe by a caller without session gives status 0. -/
theorem runRecord_nop {s : State} {c : Caller} {r : OpRecord} (hc : c.session = 0) (hop : r.op = 8) (hflags : r.flags = 0) :
    s.runRecord c r = ((((s.forgetReply c.iface).issueKey (ifaceSource c.iface)).reply c 0 0 0).forgetReply c.iface,
      ⟨c, 0, 0, 0, none⟩) := by
  have hnop : (s.forgetReply c.iface).nop c = ((s.forgetReply c.iface).issueKey (ifaceSource c.iface)).reply c 0 0 0 := by
    simp [State.nop, hc, touchSession_none hc]
  have hclear : clearBitAt 0 1 = 0 := by decide
  rw [← runOp_replies (f := fun s => s.nop c) hnop rfl]
  simp [State.runRecord, hop, hflags, hclear]

/-! ### The partner's requests (R77) -/

section Partner

variable {s : State} {r : OpRecord} {m : LinkMsg}

/-- A request that has been taken and counted. -/
def State.requestTaken (s : State) (rest : List LinkMsg) : State :=
  ({ s with elnar := { s.elnar with received := rest } } : State).count64 0x9130 4 1

/-- Counting a request leaves the entries of the link alone. -/
theorem stat_requestTaken (rest : List LinkMsg) {j : Nat} (hj : j < 256) : (s.requestTaken rest).stat 0x9100 j = s.stat 0x9100 j := by
  rw [State.requestTaken, stat_count64, if_neg (by omega)]
  rfl

theorem linkSync_requestTaken (rest : List LinkMsg) : (s.requestTaken rest).linkSync = s.linkSync := by
  rw [State.linkSync, stat_requestTaken rest (by decide), State.linkSync]

theorem servesPartner_requestTaken (rest : List LinkMsg) : (s.requestTaken rest).servesPartner = s.servesPartner := by
  rw [State.servesPartner, stat_requestTaken rest (by decide), State.servesPartner]
  rfl

/-- The oldest request is taken: the received messages are fewer by one. -/
theorem exists_requestTaken (hfind : s.elnar.received.find? (fun m => decide (m.cls = 4)) = some m) (hkind : m.kind = 1) :
    ∃ rest, (s.consume 4 1 m.body).count64 0x9130 4 1 = s.requestTaken rest ∧
      rest.length + 1 = s.elnar.received.length := by
  have hcls : m.cls = 4 := by simpa using List.find?_some hfind
  obtain ⟨rest, hconsume, hlen⟩ := exists_consume (List.mem_of_find?_eq_some hfind)
  rw [hcls, hkind] at hconsume
  exact ⟨rest, by rw [hconsume, State.requestTaken], hlen⟩

/-- A request of the partner while the members are paired is executed and answered. -/
theorem partnerRequest_served {rest : List LinkMsg} (hfind : s.elnar.received.find? (fun m => decide (m.cls = 4)) = some m)
    (hkind : m.kind = 1) (hbody : m.body.drop 20 = requestBytes r)
    (htaken : (s.consume 4 1 m.body).count64 0x9130 4 1 = s.requestTaken rest) (hserves : s.servesPartner = true) :
    partnerRequest r s =
      let x := (s.requestTaken rest).runRecord ⟨.partner, 0⟩ r
      x.1.respond ⟨.partner, 0⟩ x.2.epoch (.bridge ⟨0x81, byteAt m.body 1, x.2.status, x.2.data⟩) := by
  have hpaired : (s.requestTaken rest).servesPartner = true := (servesPartner_requestTaken rest).trans hserves
  simp [partnerRequest, hfind, hkind, hbody, htaken, hpaired]

/-- The state after a probe of the partner has run and its reply has been taken. -/
def State.partnerProbed (s : State) : State :=
  (((s.forgetReply .partner).issueKey (ifaceSource .partner)).reply ⟨.partner, 0⟩ 0 0 0).forgetReply .partner

/-- A probe of the partner is answered with status 0. -/
theorem partnerRequest_probe {rest : List LinkMsg} (hfind : s.elnar.received.find? (fun m => decide (m.cls = 4)) = some m)
    (hkind : m.kind = 1) (hbody : m.body.drop 20 = requestBytes r)
    (htaken : (s.consume 4 1 m.body).count64 0x9130 4 1 = s.requestTaken rest) (hserves : s.servesPartner = true)
    (hop : r.op = 8) (hflags : r.flags = 0) : partnerRequest r s =
      (s.requestTaken rest).partnerProbed.respond ⟨.partner, 0⟩ none (.bridge ⟨0x81, byteAt m.body 1, 0, []⟩) := by
  rw [partnerRequest_served hfind hkind hbody htaken hserves, runRecord_nop rfl hop hflags]
  rfl

/-- While they are not, it is answered with 0x000D. -/
theorem partnerRequest_unserved {rest : List LinkMsg} (hfind : s.elnar.received.find? (fun m => decide (m.cls = 4)) = some m)
    (hkind : m.kind = 1) (hbody : m.body.drop 20 = requestBytes r)
    (htaken : (s.consume 4 1 m.body).count64 0x9130 4 1 = s.requestTaken rest) (hserves : s.servesPartner = false) :
    partnerRequest r s =
      (s.requestTaken rest).respond ⟨.partner, 0⟩ none (.bridge ⟨0x81, byteAt m.body 1, 0x0D, []⟩) := by
  have hunpaired : (s.requestTaken rest).servesPartner = false := (servesPartner_requestTaken rest).trans hserves
  simp [partnerRequest, hfind, hkind, hbody, htaken, hunpaired]

end Partner

/-- The answer to a request goes out at once, when none of the partner waits, and changes the classes of the link only. -/
theorem respond_partner {s u : State} {rest : List LinkMsg} (d : BridgeDone) (hfree : u.waitsOn .partner = false)
    (helnar : u.elnar = (s.requestTaken rest).elnar) (hstat : u.dict.stat = (s.requestTaken rest).dict.stat) :
    ∃ l, u.respond ⟨.partner, 0⟩ none (.bridge d) = { u with elnar := { u.elnar with classes := l } } ∧
      l = (s.sendMsg 5 d.kind 0 (doneBody d)).elnar.classes := by
  have hclasses : u.elnar.classes = s.elnar.classes := by rw [helnar]; rfl
  have hsync : u.linkSync = s.linkSync := by
    rw [← linkSync_requestTaken (s := s) rest, State.linkSync, State.linkSync, State.stat, State.stat, hstat]
  rw [respond_now hfree, State.emit]
  obtain ⟨l, hsent⟩ := exists_sendMsg u 5 d.kind 0 (doneBody d)
  refine ⟨l, hsent, ?_⟩
  rw [← classes_sendMsg_congr hclasses hsync, hsent]

/-- Settles O37. -/
theorem canAndPartnerRequests : Obligations.CanAndPartnerRequests := by
  refine ⟨?other, ?stray, ?download, ?timeout, ?early, ?served, ?unserved⟩
  case other =>
    intro s t bus ident data hawake hbus hother
    refine (happen_awake t _ s _ (decide_eq_true hbus) hawake).trans (congrArg _ (if_neg ?_))
    tauto
  case stray =>
    intro s t bus ident data hawake hbus hselected hident hlen hleads hnone hsegment hfree
    dsimp only [exec, execSdoRequest]
    refine happen_answers (decide_eq_true hbus) hawake ?_
    have hnotFollows : ¬ (s.advance t).follows = true := Bool.not_eq_true _ ▸ hleads
    rw [if_pos ⟨hselected, hident, hlen, hnotFollows⟩, sdoFrame_stray (s := s.advance t) hsegment hnone,
      abortSdo_now (s := s.advance t) hleads hfree]
    exact ⟨rfl, rfl⟩
  case download =>
    intro s t bus ident data hawake hbus hselected hident hlen hleads hfirst hfree
    dsimp only [exec, execSdoRequest]
    refine happen_answers (decide_eq_true hbus) hawake ?_
    have hnotFollows : ¬ (s.advance t).follows = true := Bool.not_eq_true _ ▸ hleads
    rw [if_pos ⟨hselected, hident, hlen, hnotFollows⟩, sdoFrame_download hfirst, sendSdo_now (s := (s.advance t).setSdo _) hleads hfree]
    exact ⟨rfl, rfl, rfl, rfl⟩
  case timeout =>
    intro s t x hawake hopen hleads hdue hfree
    dsimp only [exec, execSdoSegmentTimeout]
    refine happen_answers rfl hawake ?_
    have hopen' : (s.advance t).access.sdo = some x := hopen
    have htimeout : sdoTimeout (s.advance t) = (s.advance t).abortSdo x.idx x.sub 0x05040000 := by
      simp only [sdoTimeout, hopen', if_pos hdue]
    rw [htimeout, abortSdo_now (s := s.advance t) hleads hfree]
    exact ⟨rfl, rfl, rfl⟩
  case early =>
    intro s t x hawake hopen hearly
    rw [exec, execSdoSegmentTimeout, happen_awake t true s _ rfl hawake]
    have hopen' : (s.advance t).access.sdo = some x := hopen
    simp only [sdoTimeout, hopen', if_neg (Nat.not_le.mpr hearly)]
  case served =>
    intro s t r m hawake hfind hkind hbody hserves hfree hop hflags
    dsimp only [exec, execPartnerRequest]
    refine happen_answers rfl hawake ?_
    obtain ⟨rest, htaken, hlen⟩ := exists_requestTaken (s := s.advance t) hfind hkind
    rw [partnerRequest_probe (s := s.advance t) hfind hkind hbody htaken hserves hop hflags]
    obtain ⟨l, hanswer, hl⟩ := respond_partner (s := s.advance t) (u := ((s.advance t).requestTaken rest).partnerProbed)
      ⟨0x81, byteAt m.body 1, 0, []⟩ hfree rfl rfl
    rw [hanswer]
    exact ⟨hl.trans (classes_sendMsg_congr (s := s) (u := s.advance t) rfl rfl ..), hlen, rfl, rfl, rfl⟩
  case unserved =>
    intro s t r m hawake hfind hkind hbody hserves hfree
    dsimp only [exec, execPartnerRequest]
    refine happen_answers rfl hawake ?_
    obtain ⟨rest, htaken, hlen⟩ := exists_requestTaken (s := s.advance t) hfind hkind
    rw [partnerRequest_unserved (s := s.advance t) hfind hkind hbody htaken hserves]
    obtain ⟨l, hanswer, hl⟩ := respond_partner (s := s.advance t) (u := (s.advance t).requestTaken rest)
      ⟨0x81, byteAt m.body 1, 0x0D, []⟩ hfree rfl rfl
    rw [hanswer]
    exact ⟨hl.trans (classes_sendMsg_congr (s := s) (u := s.advance t) rfl rfl ..), hlen, rfl, rfl, rfl, rfl⟩

end Sys2Proof.Machine
end

section
/-! O54: the self-test of a paired device whose journal is full ends with an event that it loses. -/

namespace Sys2Proof.Machine

open Sys2Proof

/-- The device in a cold boot with pair enable, else as after reset, with a journal whose next loss counts in `A000h.02`. -/
def bootingCrowdedState : State :=
  { crowdedState 0xA000 2 with
    power := { Power.reset with phase := .coldBoot },
    saddle := { Saddle.reset with enabled := true } }

/-- The end of the self-test on a device that is awake. -/
theorem exec_selfTestEnd (s : State) (t results procs banks : Nat) (hawake : s.awake = true) :
    exec (.selfTestEnd t results procs banks) s = .next (selfTestEnd results procs banks (s.advance t)) := by
  rw [exec, execSelfTestEnd]
  exact happen_awake _ _ _ _ rfl hawake

/-- The link is out of frame when the device begins to run; the event that says so makes the journal lose one, and the parts that
passed then read 128 (R413, Table 2.7). -/
theorem stat_selfTestEnd_crowded : (selfTestEnd 0xFF 0 0 (bootingCrowdedState.advance 0)).stat 0xA000 2 = 128 := by
  decide +kernel

/-- Refutes O54, in clause (10): the parts that passed need not read 127. The clause speaks of every state in a cold boot, and so
also of one whose full reorder buffer holds an event of no severity of Table 17.1. -/
theorem not_resetsAndTheSelfTest : ¬ Obligations.ResetsAndTheSelfTest := by
  unfold Obligations.ResetsAndTheSelfTest
  rintro ⟨-, -, -, -, -, -, -, -, -, htest, -⟩
  have hawake : bootingCrowdedState.awake = true := by decide +kernel
  have hpairs : ∀ p, p < 4 → bootingCrowdedState.pairMode p ≠ 3 ∧ bootingCrowdedState.pairMode p ≠ 6 := by decide +kernel
  obtain ⟨u, hu, -, -, hpassed, -⟩ := htest bootingCrowdedState 0 rfl (by decide +kernel) rfl (by decide +kernel) hpairs
  rw [exec_selfTestEnd _ _ _ _ _ hawake] at hu
  obtain rfl := Host.Outcome.next.inj hu
  rw [stat_selfTestEnd_crowded] at hpassed
  exact absurd hpassed (by decide)

end Sys2Proof.Machine
end
